-- ==== Sys2Proof/Word.lean ====
section
/-! DEFINITION. The words of the machine and their plainest arithmetic: registers are 64 bits and little-endian (R10); memory is bytes. -/

namespace Sys2Proof

/-- A 64-bit register or scalar value (R10, R84). -/
abbrev Word := BitVec 64

/-- One byte of storage. -/
abbrev Byte := BitVec 8

/-- Bits hi to lo of a natural number, as a number. -/
def bitsOf (v hi lo : Nat) : Nat := (v >>> lo) % 2 ^ (hi + 1 - lo)

/-- One bit of a natural number. -/
def bitOf (v i : Nat) : Bool := v.testBit i

/-- The number `v` with bits hi to lo replaced by `x` (cut to their width). -/
def setBitsOf (v hi lo x : Nat) : Nat :=
  let w := hi + 1 - lo
  let keepHi := (v >>> (hi + 1)) <<< (hi + 1)
  let keepLo := v % 2 ^ lo
  keepHi + (x % 2 ^ w) <<< lo + keepLo

/-- A Bool as 0 or 1. -/
def b2n (b : Bool) : Nat := if b then 1 else 0

/-- The number that little-endian bytes spell (R10). -/
def leNat : List Byte → Nat
  | [] => 0
  | b :: bs => b.toNat + 256 * leNat bs

/-- The n low bytes of a number, little-endian (R10). -/
def leBytes : Nat → Nat → List Byte
  | 0, _ => []
  | n + 1, v => BitVec.ofNat 8 v :: leBytes n (v / 256)

/-- A 64-bit word from a number. -/
def wOf (n : Nat) : Word := BitVec.ofNat 64 n

/-- Smallest multiple of `m` that is at least `n`. -/
def roundUp (n m : Nat) : Nat := (n + m - 1) / m * m

/-- The ceiling of n / m. -/
def ceilDiv (n m : Nat) : Nat := (n + m - 1) / m

/-- Serial comparison of R18 on 32-bit sequence numbers: a is newer than b when (a - b) mod 2^32 lies from 1 to 2^31 - 1. -/
def newer32 (a b : Nat) : Bool :=
  let d := (a + 2 ^ 32 - b % 2 ^ 32) % 2 ^ 32
  1 ≤ d && d < 2 ^ 31

/-- a is older than b by R18: neither equal nor newer. -/
def older32 (a b : Nat) : Bool :=
  (a % 2 ^ 32 != b % 2 ^ 32) && !newer32 a b

end Sys2Proof
end

