-- ==== Sys2Proof/Syntax.lean ====
section
/-! DEFINITION. The commands of the block and their operands. A command is one step of the spec's table: an instruction that a cell's core issues, a register access by a master, a packet or flit that arrives, a physical event, or the end of an activity of the device. -/

namespace Sys2Proof

/-! ## Identifiers (R2) -/

/-- Physical cell id, 0 to 543 (Table 00-3). -/
abbrev Slot := Fin 544
/-- Context of a cell, 0 to 31. -/
abbrev Ctx := Fin 32
/-- Logical cell id, 0 to 511. -/
abbrev Lc := Fin 512
/-- Partition, 0 to 7. -/
abbrev Part := Fin 8
/-- Hub, 0 to 15. -/
abbrev HubId := Fin 16
/-- Engine instance of class 0x04, 0 to 255. -/
abbrev EngInst := Fin 256
/-- Thernolink port, 0 to 11. -/
abbrev Port := Fin 12

/-- The two masters of control space (R9, R457). -/
inductive Master where
  | os
  | slolis
  deriving DecidableEq, Repr

/-- Who makes an access (R5, R250, R276): a cell core, the OS complex, Slolis, the schedule unit, Squirrel, or another device. -/
inductive Agent where
  | cell (lc : Lc)
  | os
  | slolis
  | sched
  | squirrel
  | remote (dev : BitVec 10)
  deriving DecidableEq, Repr

/-- The clock and voltage islands of R46. -/
inductive Island where
  | cell (pc : Slot)
  | router (pc : Slot)
  | hub (h : HubId)
  | port (n : Port)
  | phy (g : Fin 8)
  | osComplex
  | pcie (g : Fin 2)
  | eth (n : Fin 2)
  | alwaysOn
  deriving DecidableEq, Repr

/-! ## Instruction words (R89, Table 03-1) -/

/-- The fields of a format S word below CLASS and OP. -/
structure FmtS where
  xd : BitVec 5
  xa : BitVec 5
  xb : BitVec 5
  fl : BitVec 5
  imm : BitVec 32
  deriving DecidableEq, Repr

/-- The fields of a format V word below CLASS and OP; `res` holds the reserved bits [28] and [19:16]. -/
structure FmtV where
  vd : BitVec 3
  va : BitVec 3
  vb : BitVec 3
  vc : BitVec 3
  fmt : BitVec 5
  xs : BitVec 5
  bx : Bool
  cond : BitVec 4
  iw : BitVec 4
  res : BitVec 5
  imm16 : BitVec 16
  deriving DecidableEq, Repr

/-! ## Physical observations that a command carries -/

/-- Bit errors met by a read: the index of a W80 word among the words read, with the 80-bit pattern of flipped bits (R24, R25: 0 to 63 data, 64 to 77 c, 78 P, 79 Q). An empty list is a clean read. -/
abbrev Upsets := List (Nat × BitVec 80)

/-- Faults met by a tile (R151): errors exclusive-ored into lane accumulators, by logical strip and lane (the checksum lanes included), and comparisons that the comparator gets wrong. -/
structure TileErr where
  lanes : List (Nat × Nat × BitVec 208)
  rows : BitVec 33
  cols : BitVec 33
  deriving DecidableEq, Repr

/-- What one step of a patrol test observes (Table 11-1). -/
inductive StepObs where
  /-- Step 1: the supply regulates, the PLL locks, and the headroom in mV. -/
  | settle (powerOk pllOk : Bool) (headroom : Nat)
  /-- Step 2: the logic self-test passes. -/
  | logic (ok : Bool)
  /-- Step 3: the faulty physical strips, and whether a feeder, sum unit or the comparator is faulty. -/
  | array (badStrips : List (Fin 34)) (common : Bool)
  /-- Step 4: failing lines, each as a store (0 scratchpad, 1 slab store, 2 combining store), a bank and a line; and whether an uncorrectable error showed. -/
  | march (badLines : List (Nat × Nat × Nat)) (uncorrectable : Bool)
  /-- Step 5: the margin probe passes. -/
  | margin (ok : Bool)
  /-- Step 6: the clear. -/
  | clear
  deriving DecidableEq, Repr

/-- One reading of the power monitor (R482, R489): highest temperature and its domain, the means of package power over 1 ms and 1 s, THROT_N low, and the single sensors by domain. -/
structure SensorSample where
  tjMax : Int
  tjSrc : BitVec 10
  pkgW : Nat
  pkgAvgW : Nat
  throtLow : Bool
  sensors : List (Nat × Int)
  deriving DecidableEq, Repr

/-! ## Packets, flits and codewords -/

/-- A packet (Table 09-2): header, extension, payload and CRC-32C trailer. -/
structure Packet where
  typ : BitVec 8
  ctl : BitVec 8
  len : BitVec 16
  dstDev : BitVec 16
  dstUnit : BitVec 16
  srcDev : BitVec 16
  srcUnit : BitVec 16
  route : BitVec 16
  loc : BitVec 16
  ext : List Byte
  payload : List Byte
  crc : BitVec 32
  deriving DecidableEq, Repr

/-- A C flit (Table 09-7): TYPE, HOPS, ORIGIN, SEQ, BEAT, the 44 body bytes from offset 0x10, and CRC. -/
structure CFlit where
  typ : BitVec 8
  hops : BitVec 8
  origin : BitVec 16
  seq : BitVec 32
  beat : Word
  body : List Byte
  crc : BitVec 32
  deriving DecidableEq, Repr

/-- A link control flit (Table 09-4). -/
structure LinkFlit where
  version : BitVec 8
  flags : BitVec 8
  sender : BitVec 16
  firstSeq : BitVec 32
  ack : BitVec 32
  nakSeq : BitVec 32
  credits : Word
  tTx : Word
  tEcho : Word
  tHold : BitVec 32
  master : BitVec 16
  shape : Word
  crc : BitVec 32
  deriving DecidableEq, Repr

/-- One 64-byte data slot of a codeword with its virtual channel (R281, R297): 0 S, 1 UA, 2 UE, 3 C; `idle` marks a slot without a flit. -/
structure LinkSlot where
  vc : Fin 4
  idle : Bool
  bytes : BitVec 512
  deriving DecidableEq, Repr

/-- A received codeword (R296, R298): whether it decodes, in which FEC mode, the symbols corrected, the sequence number of its first data slot, and its data slots. -/
structure Codeword where
  decodes : Bool
  robust : Bool
  corrected : Nat
  first : BitVec 32
  slots : List LinkSlot
  deriving DecidableEq, Repr

/-! ## References to activities -/

/-- A send endpoint: of a cell slot, of the OS complex, or Slolis's reply endpoint (R469). -/
inductive EpRef where
  | cell (pc : Slot) (sep : Fin 64)
  | os (sep : Fin 256)
  | slolis
  deriving DecidableEq, Repr

/-- An engine item: engine instance, work queue and SEQ (R248, R251). -/
structure ItemRef where
  eng : EngInst
  q : Fin 64
  seq : BitVec 32
  deriving DecidableEq, Repr

/-- An NVMe completion (R418, R426): which kind of command ended, its status field (0 is success), its opcode, and the data of a read. -/
structure NvmeDone where
  status : BitVec 16
  opcode : BitVec 8
  data : List Byte
  deriving DecidableEq, Repr

/-- An inbound request at a PCIe root port (R501): its kind (0 memory, other values I/O, configuration or peer-to-peer), write or read, PCI address, and data or length. -/
structure PcieReq where
  memory : Bool
  write : Bool
  addr : Word
  len : Nat
  data : List Byte
  deriving DecidableEq, Repr

/-! ## Management (chapter 15) -/

/-- Redfish roles of R457. -/
inductive Role where
  | readOnly
  | operator
  | fabricManager
  | administrator
  deriving DecidableEq, Repr

/-- The Schedule action of Table 15-2. -/
inductive SchedAction where
  | imageBase (v : Word)
  | resumePos (v : Word)
  | resumeBeat (v : Word)
  | cmd (v : Word)
  deriving DecidableEq, Repr

/-- The Snapshot action of Table 15-2. -/
inductive SnapAction where
  | mdom (v : Word)
  | restoreSel (v : Word)
  | cmd (v : Word)
  deriving DecidableEq, Repr

/-- The Domain action of Table 15-2. -/
inductive DomainAction where
  | domainId (v : Word)
  | domainShape (v : Word)
  | tlCfg (n : Port) (v : Word)
  deriving DecidableEq, Repr

/-- The reset actions of Table 15-1. -/
inductive ResetAction where
  | osComplex
  | partition (p : Part)
  | device
  deriving DecidableEq, Repr

/-- IEEE 1149.1 instructions (R468). -/
inductive JtagInstr where
  | bypass
  | samplePreload
  | extest
  | idcode
  | privateInstr (code : Nat)
  deriving DecidableEq, Repr

/-- One defect-map entry (Table 11-8). -/
structure DefectEntry where
  kind : BitVec 8
  unit : BitVec 16
  a : BitVec 32
  b : Word
  deriving DecidableEq, Repr

/-- A firmware or loader bank as the flash holds it (R461, R464): the image, the signature block, and the public keys that a firmware bank carries. -/
structure Bank where
  image : List Byte
  sig : List Byte
  keys : List (List Byte)
  deriving DecidableEq, Repr

/-- What the configuration flash gives at power-on (R458, Table 15-3). -/
structure FlashImage where
  /-- The configuration block of Table 15-4. -/
  config : List Byte
  /-- Owner key list: public key bytes and ROLES. -/
  ownerKeys : List (List Byte × BitVec 8)
  defectMap : List DefectEntry
  /-- The last entry of the half was torn (R459). -/
  torn : Bool
  /-- Directory: active and trial bank and trial count, firmware then loader (R458). -/
  fwActive : Bool
  fwTrial : Option Bool
  fwTrialCount : Nat
  ldrActive : Bool
  ldrTrial : Option Bool
  ldrTrialCount : Nat
  fw0 : Bank
  fw1 : Bank
  ldr0 : Bank
  ldr1 : Bank
  /-- PUF reconstruction succeeded, with the identity public key it yields; its estimated bit errors otherwise (R462). -/
  pufOk : Bool
  pufErrors : Nat
  identity : List Byte
  deriving DecidableEq, Repr

/-- The commands of the block: one constructor per row of the spec's table of operations and events. -/
inductive Instr where
  /-- REGISTER_WRITE (R12). A control-space write to a register that has no row of its own sets its fields according to their access codes. -/
  | registerWrite (m : Master) (addr : Word) (size : Nat) (v : Word)
  /-- WIDE_VALUE_READ (R15). A read of the lowest register of a wide value latches the whole value for the following reads of the higher registers. -/
  | wideValueRead (m : Master) (addr : Word) (size : Nat)
  /-- DIST_BASE_WRITE (R42). A write to DEV_DIST_BASE with EN set checks BASE and either sets ERR or starts a full distance-table update at the new base. -/
  | distBaseWrite (m : Master) (v : Word)
  /-- DIST_UPDATE_START (R40). After a mapping change becomes even, the device starts a distance-table update by writing GEN odd. -/
  | distUpdateStart
  /-- DIST_UPDATE_END (R41). A distance-table update ends by writing GEN even and starts a further update if changes arrived meanwhile. -/
  | distUpdateEnd
  /-- CLOCK_BAND_EXIT (R49). An island clock leaves its 1 % band, so the island withholds handshakes, a DEGRADED record is made and a cell becomes a suspect. -/
  | clockBandExit (i : Island) (kHz : Nat)
  /-- CLOCK_BAND_RETURN (R49). An island clock returns to its band and the island resumes its handshakes. -/
  | clockBandReturn (i : Island)
  /-- DOMAIN_SWITCH_ON (R51). Slolis switches a power domain on, within the inrush limit. -/
  | domainSwitchOn (d : Fin 585)
  /-- DOMAIN_SWITCH_OFF (R51). Slolis switches a power domain off, or refuses with an INFO record when the domain holds live state. -/
  | domainSwitchOff (d : Fin 585)
  /-- DOMAIN_REGULATOR_FAULT (R480). A domain regulator reports overcurrent or leaves regulation and turns its domain off by itself. -/
  | domainRegulatorFault (d : Fin 585) (outOfRegulation : Bool)
  /-- ADD (R91). XD := XA + XB. -/
  | add (pc : Slot) (c : Ctx) (f : FmtS)
  /-- SUB (R91). XD := XA - XB. -/
  | sub (pc : Slot) (c : Ctx) (f : FmtS)
  /-- AND (R91). XD := XA and XB. -/
  | andOp (pc : Slot) (c : Ctx) (f : FmtS)
  /-- OR (R91). XD := XA or XB. -/
  | orOp (pc : Slot) (c : Ctx) (f : FmtS)
  /-- XOR (R91). XD := XA xor XB. -/
  | xorOp (pc : Slot) (c : Ctx) (f : FmtS)
  /-- SLL (R91). XD := XA shifted left by XB[5:0]. -/
  | sll (pc : Slot) (c : Ctx) (f : FmtS)
  /-- SRL (R91). XD := XA shifted right logically by XB[5:0]. -/
  | srl (pc : Slot) (c : Ctx) (f : FmtS)
  /-- SRA (R91). XD := XA shifted right arithmetically by XB[5:0]. -/
  | sra (pc : Slot) (c : Ctx) (f : FmtS)
  /-- MUL (R91). XD := low 64 bits of XA times XB. -/
  | mul (pc : Slot) (c : Ctx) (f : FmtS)
  /-- MULH (R91). XD := signed high half of XA times XB. -/
  | mulh (pc : Slot) (c : Ctx) (f : FmtS)
  /-- DIV (R92). XD := signed XA / XB, with the fixed results for zero and overflow. -/
  | div (pc : Slot) (c : Ctx) (f : FmtS)
  /-- DIVU (R92). XD := unsigned XA / XB, all ones on division by zero. -/
  | divu (pc : Slot) (c : Ctx) (f : FmtS)
  /-- REM (R92). XD := signed remainder of XA / XB, the dividend on division by zero. -/
  | rem (pc : Slot) (c : Ctx) (f : FmtS)
  /-- REMU (R92). XD := unsigned remainder of XA / XB, the dividend on division by zero. -/
  | remu (pc : Slot) (c : Ctx) (f : FmtS)
  /-- SLT (R91). XD := 1 if XA < XB signed, else 0. -/
  | slt (pc : Slot) (c : Ctx) (f : FmtS)
  /-- SLTU (R91). XD := 1 if XA < XB unsigned, else 0. -/
  | sltu (pc : Slot) (c : Ctx) (f : FmtS)
  /-- ADDI (R91). XD := XA + sign-extended IMM. -/
  | addi (pc : Slot) (c : Ctx) (f : FmtS)
  /-- SUBI (R91). XD := XA - sign-extended IMM. -/
  | subi (pc : Slot) (c : Ctx) (f : FmtS)
  /-- ANDI (R91). XD := XA and sign-extended IMM. -/
  | andi (pc : Slot) (c : Ctx) (f : FmtS)
  /-- ORI (R91). XD := XA or sign-extended IMM. -/
  | ori (pc : Slot) (c : Ctx) (f : FmtS)
  /-- XORI (R91). XD := XA xor sign-extended IMM. -/
  | xori (pc : Slot) (c : Ctx) (f : FmtS)
  /-- SLLI (R91). XD := XA shifted left by IMM[5:0]. -/
  | slli (pc : Slot) (c : Ctx) (f : FmtS)
  /-- SRLI (R91). XD := XA shifted right logically by IMM[5:0]. -/
  | srli (pc : Slot) (c : Ctx) (f : FmtS)
  /-- SRAI (R91). XD := XA shifted right arithmetically by IMM[5:0]. -/
  | srai (pc : Slot) (c : Ctx) (f : FmtS)
  /-- MULI (R91). XD := low half of XA times sign-extended IMM. -/
  | muli (pc : Slot) (c : Ctx) (f : FmtS)
  /-- MULHI (R91). XD := signed high half of XA times sign-extended IMM. -/
  | mulhi (pc : Slot) (c : Ctx) (f : FmtS)
  /-- DIVI (R92). XD := signed XA / IMM. -/
  | divi (pc : Slot) (c : Ctx) (f : FmtS)
  /-- DIVUI (R92). XD := unsigned XA / IMM. -/
  | divui (pc : Slot) (c : Ctx) (f : FmtS)
  /-- REMI (R92). XD := signed remainder of XA / IMM. -/
  | remi (pc : Slot) (c : Ctx) (f : FmtS)
  /-- REMUI (R92). XD := unsigned remainder of XA / IMM. -/
  | remui (pc : Slot) (c : Ctx) (f : FmtS)
  /-- SLTI (R91). XD := 1 if XA < IMM signed. -/
  | slti (pc : Slot) (c : Ctx) (f : FmtS)
  /-- SLTUI (R91). XD := 1 if XA < IMM unsigned. -/
  | sltui (pc : Slot) (c : Ctx) (f : FmtS)
  /-- LI (R91). XD := sign-extended IMM. -/
  | li (pc : Slot) (c : Ctx) (f : FmtS)
  /-- LIH (R91). XD[63:32] := IMM, low half unchanged. -/
  | lih (pc : Slot) (c : Ctx) (f : FmtS)
  /-- LD (R100). Loads 1 to 8 bytes from a device address into XD, with alignment and address checks. -/
  | ld (pc : Slot) (c : Ctx) (f : FmtS) (u : Upsets)
  /-- ST (R100). Stores 1 to 8 bytes of XB to a device address. -/
  | st (pc : Slot) (c : Ctx) (f : FmtS) (u : Upsets)
  /-- LDM (R100). Loads 64 aligned bytes into eight consecutive scalar registers. -/
  | ldm (pc : Slot) (c : Ctx) (f : FmtS) (u : Upsets)
  /-- STM (R100). Stores eight consecutive scalar registers to 64 aligned bytes. -/
  | stm (pc : Slot) (c : Ctx) (f : FmtS) (u : Upsets)
  /-- FENCE (R102). Completes every earlier load and makes every earlier store visible before later accesses, and with FL[0] also orders fetch. -/
  | fence (pc : Slot) (c : Ctx) (f : FmtS)
  /-- BEQ (R106). Branches when XA equals XB. -/
  | beq (pc : Slot) (c : Ctx) (f : FmtS)
  /-- BNE (R106). Branches when XA differs from XB. -/
  | bne (pc : Slot) (c : Ctx) (f : FmtS)
  /-- BLT (R106). Branches when XA < XB signed. -/
  | blt (pc : Slot) (c : Ctx) (f : FmtS)
  /-- BGE (R106). Branches when XA >= XB signed. -/
  | bge (pc : Slot) (c : Ctx) (f : FmtS)
  /-- BLTU (R106). Branches when XA < XB unsigned. -/
  | bltu (pc : Slot) (c : Ctx) (f : FmtS)
  /-- BGEU (R106). Branches when XA >= XB unsigned. -/
  | bgeu (pc : Slot) (c : Ctx) (f : FmtS)
  /-- JAL (R85). Writes the link address to XD and jumps PC-relative. -/
  | jal (pc : Slot) (c : Ctx) (f : FmtS)
  /-- JALR (R85). Writes the link address to XD and jumps to XA + IMM. -/
  | jalr (pc : Slot) (c : Ctx) (f : FmtS)
  /-- VADD (R59). Slab floating-point addition in FP32 or BF16. -/
  | vadd (pc : Slot) (c : Ctx) (f : FmtV)
  /-- VSUB (R59). Slab floating-point subtraction. -/
  | vsub (pc : Slot) (c : Ctx) (f : FmtV)
  /-- VMUL (R59). Slab floating-point multiplication. -/
  | vmul (pc : Slot) (c : Ctx) (f : FmtV)
  /-- VFMA (R59). Slab fused multiply-add rounded once. -/
  | vfma (pc : Slot) (c : Ctx) (f : FmtV)
  /-- VMIN (R95). Slab element minimum with the NaN and zero rules. -/
  | vmin (pc : Slot) (c : Ctx) (f : FmtV)
  /-- VMAX (R95). Slab element maximum with the NaN and zero rules. -/
  | vmax (pc : Slot) (c : Ctx) (f : FmtV)
  /-- VCMP (R96). Floating-point slab compare under COND into a mask. -/
  | vcmp (pc : Slot) (c : Ctx) (f : FmtV)
  /-- VSUM (R97). Pairwise tree sum of a slab into element 0. -/
  | vsum (pc : Slot) (c : Ctx) (f : FmtV)
  /-- VIADD (R93). Integer slab addition at width IW. -/
  | viadd (pc : Slot) (c : Ctx) (f : FmtV)
  /-- VISUB (R93). Integer slab subtraction at width IW. -/
  | visub (pc : Slot) (c : Ctx) (f : FmtV)
  /-- VIMUL (R93). Integer slab multiplication keeping the low half. -/
  | vimul (pc : Slot) (c : Ctx) (f : FmtV)
  /-- VAND (R93). Slab bitwise and. -/
  | vand (pc : Slot) (c : Ctx) (f : FmtV)
  /-- VOR (R93). Slab bitwise or. -/
  | vor (pc : Slot) (c : Ctx) (f : FmtV)
  /-- VXOR (R93). Slab bitwise xor. -/
  | vxor (pc : Slot) (c : Ctx) (f : FmtV)
  /-- VSHL (R93). Slab shift left, amount modulo width. -/
  | vshl (pc : Slot) (c : Ctx) (f : FmtV)
  /-- VSHR (R93). Slab logical shift right, amount modulo width. -/
  | vshr (pc : Slot) (c : Ctx) (f : FmtV)
  /-- VSRA (R93). Slab arithmetic shift right, amount modulo width. -/
  | vsra (pc : Slot) (c : Ctx) (f : FmtV)
  /-- VICMP (R96). Integer slab compare under COND into a mask. -/
  | vicmp (pc : Slot) (c : Ctx) (f : FmtV)
  /-- VSEL (R93). Selects elements of VA or VB by the sign bit of VC. -/
  | vsel (pc : Slot) (c : Ctx) (f : FmtV)
  /-- VPERM (R93). Permutes VA elements by indices in VB. -/
  | vperm (pc : Slot) (c : Ctx) (f : FmtV)
  /-- VROT (R93). Rotates VA elements by IMM16. -/
  | vrot (pc : Slot) (c : Ctx) (f : FmtV)
  /-- VCVT (R98). Converts between FP32 and BF16 slab elements. -/
  | vcvt (pc : Slot) (c : Ctx) (f : FmtV)
  /-- VEXT (R93). Extracts one slab element into scalar register XS. -/
  | vext (pc : Slot) (c : Ctx) (f : FmtV)
  /-- VBCAST (R93). Broadcasts XS into every element of VD. -/
  | vbcast (pc : Slot) (c : Ctx) (f : FmtV)
  /-- VZERO (R93). Clears slab register VD. -/
  | vzero (pc : Slot) (c : Ctx) (f : FmtV)
  /-- VLD (R100). Loads 4 KiB from the own scratchpad into a slab register as 16 wide requests. -/
  | vld (pc : Slot) (c : Ctx) (f : FmtV) (u : Upsets)
  /-- VST (R100). Stores a slab register to 4 KiB of the own scratchpad. -/
  | vst (pc : Slot) (c : Ctx) (f : FmtV) (u : Upsets)
  /-- SLAB_OP_WRITEBACK (R93). A slab operation writes its destination 10 or 12 cycles after issue, releasing instructions that wait on it. -/
  | slabOpWriteback (pc : Slot) (residueBad : Bool)
  /-- SDECL (R104). Declares a stream descriptor from 32 bytes at XA after checking it. -/
  | sdecl (pc : Slot) (c : Ctx) (f : FmtS)
  /-- SREL (R104). Releases a stream descriptor. -/
  | srel (pc : Slot) (c : Ctx) (f : FmtS)
  /-- RUNAHEAD_READ (R105). The core reads ahead along a RUNAHEAD stream into the stream buffer, up to 4 KiB ahead. -/
  | runaheadRead (pc : Slot) (c : Ctx) (sd : Fin 8)
  /-- SADD (R190). Adds XA to a local sync counter, saturating, and returns the old value. -/
  | sadd (pc : Slot) (c : Ctx) (f : FmtS)
  /-- SADD_REMOTE (R191). Sends an addition to a shared counter of another hosted logical cell after a fence. -/
  | saddRemote (pc : Slot) (c : Ctx) (f : FmtS)
  /-- SSET (R193). Sets a counter at task start, or faults with COUNTER_ACCESS. -/
  | sset (pc : Slot) (c : Ctx) (f : FmtS)
  /-- SWAIT (R196). Continues if the counter reaches the threshold, else parks the context in its wait slot. -/
  | swait (pc : Slot) (c : Ctx) (f : FmtS)
  /-- SREAD (R194). Reads a counter without ordering. -/
  | sread (pc : Slot) (c : Ctx) (f : FmtS)
  /-- CSEND (R222). Sends a message on an endpoint, or returns a status or parks for credits or outbox room. -/
  | csend (pc : Slot) (c : Ctx) (f : FmtS)
  /-- CPEEK (R224). Returns the head message word of an inbound channel, or a status, or parks. -/
  | cpeek (pc : Slot) (c : Ctx) (f : FmtS)
  /-- CADV (R225). Frees the head message when XA names its payload offset. -/
  | cadv (pc : Slot) (c : Ctx) (f : FmtS)
  /-- CQADD_CONTRIBUTE (R237). Commits a contribution to a combining queue after checks and room in the outbox. -/
  | cqaddContribute (pc : Slot) (c : Ctx) (f : FmtS)
  /-- CQADD_OPEN (R235). Opens a combining queue from a descriptor in the own scratchpad. -/
  | cqaddOpen (pc : Slot) (c : Ctx) (f : FmtS)
  /-- CQADD_CLOSE (R236). Closes a combining queue after any post, discarding partial sums. -/
  | cqaddClose (pc : Slot) (c : Ctx) (f : FmtS)
  /-- ALOAD (R140). Requests a copy of an image into the shadow plane, parking until the load ends. -/
  | aload (pc : Slot) (c : Ctx) (f : FmtS)
  /-- ALOAD_START (R140). A waiting ALOAD starts copying its image once no other load runs and the shadow plane is free. -/
  | aloadStart (pc : Slot)
  /-- ALOAD_DONE (R132). An image load ends, making the plane VALID or INVALID with BAD_IMAGE. -/
  | aloadDone (pc : Slot)
  /-- ALAUNCH (R141). Checks a launch descriptor and queues a launch, or faults with BAD_LAUNCH. -/
  | alaunch (pc : Slot) (c : Ctx) (f : FmtS)
  /-- ADRAIN (R146). Aborts a launch of the own context, returning ABORTED, TOO_LATE or UNKNOWN. -/
  | adrain (pc : Slot) (c : Ctx) (f : FmtS)
  /-- ASTAT (R145). Returns the status word of a launch, optionally parking until it ends. -/
  | astat (pc : Slot) (c : Ctx) (f : FmtS)
  /-- CSRR (R91). Reads a core value into XD. -/
  | csrr (pc : Slot) (c : Ctx) (f : FmtS)
  /-- END (R113). Completes earlier instructions, posts DONE_CTR and puts the context in DONE. -/
  | endTask (pc : Slot) (c : Ctx) (f : FmtS)
  /-- YIELD (R114). Returns the running context to READY. -/
  | yieldCtx (pc : Slot) (c : Ctx) (f : FmtS)
  /-- BIND (R109). Binds a task descriptor to a context of the same cell and returns a result code. -/
  | bindTask (pc : Slot) (c : Ctx) (f : FmtS)
  /-- NOP (R91). Has no effect. -/
  | nop (pc : Slot) (c : Ctx) (f : FmtS)
  /-- TASK_SWITCH_DONE (R110). The 96-cycle task switch of an accepted bind ends and the context enters READY. -/
  | taskSwitchDone (pc : Slot) (c : Ctx)
  /-- KILL_CLEAR_DONE (R113). The 96-cycle clear that follows a KILL ends. -/
  | killClearDone (pc : Slot) (c : Ctx)
  /-- TIME_SLICE_EXPIRY (R114). A running context with an equal-priority READY context waiting returns to READY after 4,096 cycles. -/
  | timeSliceExpiry (pc : Slot) (c : Ctx)
  /-- CTX_BIND (R509). CELL_CTX_CTL BIND binds a task descriptor by slice offset. -/
  | ctxBind (m : Master) (pc : Slot) (c : Ctx) (desc : BitVec 24)
  /-- CTX_KILL (R112). CELL_CTX_CTL KILL empties a context, withdraws its wait and aborts its launch. -/
  | ctxKill (m : Master) (pc : Slot) (c : Ctx)
  /-- CTX_FREEZE (R504). CELL_CTX_CTL FREEZE sets the COMMAND freeze source. -/
  | ctxFreeze (m : Master) (pc : Slot) (c : Ctx)
  /-- CTX_THAW (R504). CELL_CTX_CTL THAW clears the COMMAND freeze source. -/
  | ctxThaw (m : Master) (pc : Slot) (c : Ctx)
  /-- CELL_FREEZE_DONE (R120). Issue has stopped on every context within 64 cycles and the cell reports frozen. -/
  | cellFreezeDone (pc : Slot)
  /-- LAUNCH_START (R143). The next queued launch starts when none runs, swapping planes if needed. -/
  | launchStart (pc : Slot)
  /-- TILE_CHECK (R151). When a tile's accumulation ends the comparator makes its 66 checks and writes the tile or repeats it. -/
  | tileCheck (pc : Slot) (e : TileErr)
  /-- TILE_REPEAT_DONE (R153). A repeated tile ends; it is written if it passes, else the launch fails and the context faults COMPUTE_INTEGRITY. -/
  | tileRepeatDone (pc : Slot) (e : TileErr)
  /-- LAUNCH_END (R144). A launch ends, making outputs visible, writing STATUS and posting DONE_CTR. -/
  | launchEnd (pc : Slot)
  /-- LANE_FIRE (R131). A DATAFLOW lane fires when every configured input holds a word of equal tag. -/
  | laneFire (pc : Slot) (strip : Fin 33) (lane : Fin 33) (linkCorrected : Nat)
  /-- STEER_INPUT_ARRIVAL (R134). A word arrives at a steering unit buffer or is refused when full, counting imbalance stalls. -/
  | steerInputArrival (pc : Slot) (unit : Fin 66) (token : Bool)
  /-- STEER_FIRE (R135). A steering unit pairs the data and token heads and routes or drops the data word. -/
  | steerFire (pc : Slot) (unit : Fin 66)
  /-- DATAFLOW_DEADLOCK (R158). 4,096 unfrozen cycles without movement end a DATAFLOW launch with DEADLOCK. -/
  | dataflowDeadlock (pc : Slot)
  /-- DRAIN_DONE (R156). A drain completes and the residual state is held for freeze or discarded. -/
  | drainDone (pc : Slot)
  /-- DRAIN_TIMEOUT (R436). A drain running 4,200 cycles forces a clear, fails the launch and faults the context PROGRESS. -/
  | drainTimeout (pc : Slot)
  /-- SPAD_SCRUB_READ (R168). The slice scrubber reads its next line every 512 cycles and corrects it. -/
  | spadScrubRead (pc : Slot) (u : Upsets)
  /-- ECC_WRITEBACK (R165). A corrected line is written back in the next cycle its bank is idle. -/
  | eccWriteback (pc : Slot)
  /-- NARROW_PROMOTE (R170). A narrow request that has waited 64 cycles is promoted. -/
  | narrowPromote (pc : Slot) (write : Bool)
  /-- NM_COMMAND_START (R176). The near-memory unit takes the next command from its channel and checks it. -/
  | nmCommandStart (pc : Slot)
  /-- FILL (R175). Near-memory FILL writes a 64-bit pattern over LEN bytes. -/
  | nmFill (pc : Slot)
  /-- NM_COPY (R175). Near-memory COPY copies LEN bytes within the slice. -/
  | nmCopy (pc : Slot)
  /-- STRIDED (R175). Near-memory STRIDED gathers COUNT elements. -/
  | nmStrided (pc : Slot)
  /-- NM_TRANSPOSE (R175). Near-memory TRANSPOSE transposes a matrix of elements. -/
  | nmTranspose (pc : Slot)
  /-- NM_COMMAND_END (R177). A near-memory command ends, making writes visible, writing its status and posting DONE_CTR. -/
  | nmCommandEnd (pc : Slot)
  /-- SPAD_NM_CTL_WRITE (R174). A write to SPAD_NM_CTL enables the unit on a channel, ignoring a CHAN change while enabled. -/
  | spadNmCtlWrite (m : Master) (pc : Slot) (v : Word)
  /-- OPSET_SWITCH (R179). A write to SPAD_OPSET.REQ starts a 32-cycle set change when the unit is between commands. -/
  | opsetSwitch (m : Master) (pc : Slot) (v : Word)
  /-- OPSET_SWITCH_END (R179). A set change ends, CUR changes and a further switch starts if REQ differs. -/
  | opsetSwitchEnd (pc : Slot)
  /-- WIN_OPEN (R183). DEV_WIN_CMD OPEN checks the staged entry and opens the window with a new GEN. -/
  | winOpen (m : Master) (win : Fin 1024)
  /-- WIN_CLOSE (R184). DEV_WIN_CMD CLOSE refuses new packets and waits for accepted ones. -/
  | winClose (m : Master) (win : Fin 1024)
  /-- WIN_CLOSE_DONE (R184). Window close completes, advancing GEN, clearing KEY and closing the window. -/
  | winCloseDone (m : Master) (win : Fin 1024)
  /-- WIN_READ (R182). DEV_WIN_CMD READ loads D0 to D2 from a window entry. -/
  | winRead (m : Master) (win : Fin 1024)
  /-- ALIGN_ENTRY_WRITE (R200). Writing an alignment entry with EN set sets its counter to BASE or leaves EN clear on conflict. -/
  | alignEntryWrite (m : Master) (pc : Slot) (n : Fin 16) (v : Word)
  /-- SYNC_VALUE_WRITE (R203). A debug write to CELL_SYNC_VALUE sets the selected counter or is refused. -/
  | syncValueWrite (m : Master) (pc : Slot) (v : Word)
  /-- CHAN_OPEN (R210). CELL_CHAN_CMD OPEN opens an inbound channel from CELL_CHAN_RING. -/
  | chanOpen (m : Master) (pc : Slot)
  /-- CHAN_CLOSE (R227). CELL_CHAN_CMD CLOSE discards the ring, advances GEN and notifies the source. -/
  | chanClose (m : Master) (pc : Slot)
  /-- SEP_BIND (R211). CELL_CHAN_CMD BIND sends a JOIN and puts the endpoint in BINDING. -/
  | sepBind (m : Master) (pc : Slot)
  /-- SEP_UNBIND (R212). CELL_CHAN_CMD UNBIND puts the endpoint in UNBOUND. -/
  | sepUnbind (m : Master) (pc : Slot)
  /-- QUEUE_OPEN (R235). CELL_CHAN_CMD OPEN queue opens a combining queue from a descriptor. -/
  | queueOpen (m : Master) (pc : Slot) (desc : BitVec 24)
  /-- QUEUE_CLOSE (R236). CELL_CHAN_CMD CLOSE queue closes a combining queue. -/
  | queueClose (m : Master) (pc : Slot)
  /-- JOIN_TIMEOUT (R211). A JOIN without reply for 1,024 beats puts the endpoint in FAILED with UNREACHABLE. -/
  | joinTimeout (ep : EpRef)
  /-- OUTBOX_RELEASE (R223). A record or contribution packet leaves the outbox when its link or window accepts it. -/
  | outboxRelease (pc : Slot) (i : Nat)
  /-- CONTRIB_SEND (R237). The sending cell reads a contribution's source and forms packets as outbox space frees, posting DONE_CTR. -/
  | contribSend (pc : Slot)
  /-- QUEUE_POST_DONE (R241). A post ends, setting status bits, posting POST_CTR and entering DONE or OPEN with REARM. -/
  | queuePostDone (pc : Slot) (q : Fin 8)
  /-- OSCH_OPEN (R244). DEV_OSCH_CMD OPEN opens an OS channel. -/
  | oschOpen (m : Master)
  /-- OSCH_CLOSE (R244). DEV_OSCH_CMD CLOSE closes an OS channel. -/
  | oschClose (m : Master)
  /-- OSEP_BIND (R244). DEV_OSCH_CMD BIND binds an OS endpoint. -/
  | osepBind (m : Master)
  /-- OSEP_UNBIND (R244). DEV_OSCH_CMD UNBIND unbinds an OS endpoint. -/
  | osepUnbind (m : Master)
  /-- OSCH_ADV (R244). DEV_OSCH_CMD ADV frees the head record of an OS channel or reports EMPTY. -/
  | oschAdv (m : Master)
  /-- OSCH_SEND (R244). A write to DEV_OSCH_SEND sends a message on an OS endpoint without parking. -/
  | oschSend (m : Master) (v : Word)
  /-- WQ_ENABLE (R249). ENG_WQ_CMD ENABLE checks and enables a work queue with NEXT 0. -/
  | wqEnable (m : Master) (e : EngInst)
  /-- WQ_DISABLE (R249). ENG_WQ_CMD DISABLE aborts queued items and refuses ring writes until running items end. -/
  | wqDisable (m : Master) (e : EngInst)
  /-- WQ_SUBMIT (R251). A 64-byte line write into a ring slot is accepted as a QUEUED item or refused. -/
  | wqSubmit (who : Agent) (addr : Word) (line : BitVec 512)
  /-- ABORT_WORD (R268). The abort word written to an item's STATUS aborts it according to its state. -/
  | abortWord (who : Agent) (addr : Word)
  /-- ITEM_ABORT_STOP (R268). A running item stops issuing within 2 µs of an abort and ends ABORTED. -/
  | itemAbortStop (it : ItemRef)
  /-- COPY (R257). DMA COPY moves bytes locally, or puts or gets through a remote window. -/
  | dmaCopy (it : ItemRef)
  /-- COPY3D (R259). Layout COPY3D copies a three-dimensional byte block. -/
  | copy3d (it : ItemRef)
  /-- TRANSPOSE (R259). Layout TRANSPOSE transposes a matrix of elements. -/
  | transpose (it : ItemRef)
  /-- GATHER (R260). Writes indexed table rows into DATA. -/
  | gather (it : ItemRef)
  /-- SCATTER (R260). Writes DATA rows to indexed table rows in ascending order. -/
  | scatter (it : ItemRef)
  /-- REDUCE (R261). Sums NVEC vectors in exact or ranked mode. -/
  | reduce (it : ItemRef)
  /-- TOPK (R262). Writes the K largest elements and their indices. -/
  | topk (it : ItemRef)
  /-- EXP (R263). Computes exponentials rounded once. -/
  | expOp (it : ItemRef)
  /-- LOG (R263). Computes logarithms rounded once. -/
  | logOp (it : ItemRef)
  /-- RSQRT (R263). Computes reciprocal square roots rounded once. -/
  | rsqrt (it : ItemRef)
  /-- ERF (R263). Computes the error function rounded once. -/
  | erfOp (it : ItemRef)
  /-- CONVERT (R264). Converts elements through an EA into an output format. -/
  | convert (it : ItemRef)
  /-- GENERATE (R265). Writes stream-generator elements from a key slot, step, sample and index. -/
  | generate (it : ItemRef)
  /-- COMPRESS (R266). Encodes 64 KiB chunks as Zstandard frames. -/
  | compress (it : ItemRef)
  /-- DECOMPRESS (R266). Decodes Zstandard frames into 64 KiB chunks. -/
  | decompress (it : ItemRef)
  /-- CRC64 (R267). Computes the NVMe CRC-64 of LEN bytes. -/
  | crc64 (it : ItemRef)
  /-- SHAKE256 (R267). Computes SHAKE256 output or saves the running state. -/
  | shake256 (it : ItemRef)
  /-- ITEM_POST (R254). After 256 ns without an indication an ended item's status is written and DONE_CTR posted. -/
  | itemPost (it : ItemRef)
  /-- REMOTE_TIMEOUT (R258). 4,096 beats without an acknowledgement end a remote item FAILED. -/
  | remoteTimeout (it : ItemRef)
  /-- SG_KEY_COMMIT (R265). A write to ENG_SG_KEYn_HI commits both halves of a stream key. -/
  | sgKeyCommit (m : Master) (e : EngInst) (n : Fin 16) (v : Word)
  /-- ENGINE_INDICATION (R385). A checker indication stops the engine's new items and starts replay of the suspects. -/
  | engineIndication (e : EngInst)
  /-- REPLAY_RUN_END (R385). A suspect's isolated re-run ends, noting whether the indication recurred. -/
  | replayRunEnd (e : EngInst) (recurred : Bool)
  /-- ENGINE_SELF_TEST_END (R386). The 1 ms engine self-test ends and the replay outcome is applied. -/
  | engineSelfTestEnd (e : EngInst) (passed : Bool)
  /-- ENG_STALL_TIMEOUT (R437). An item making no progress for ENG_BEATS is treated as an indication. -/
  | engStallTimeout (it : ItemRef)
  /-- FAR_SCRUB_READ (R278). A channel scrubs its granules over the DEV_FAR_SCRUB period. -/
  | farScrubRead (ch : Fin 32) (u : Upsets)
  /-- COMMONS_SCRUB (R278). A hub scrubs its commons once every 100 ms. -/
  | commonsScrub (h : HubId) (u : Upsets)
  /-- FAR_SPPR_REPAIR (R279). A marked row is repaired with sPPR in the next maintenance window. -/
  | farSpprRepair (ch : Fin 32) (row : Nat) (bank : Nat)
  /-- FAR_CHANNEL_FAIL (R441). A far-memory channel leaving READY in service starts a partition reset. -/
  | farChannelFail (ch : Fin 32)
  /-- FAR_SHARE_WRITE (R277). A write to DEV_FAR_SHARE sets class shares or is ignored with ERR. -/
  | farShareWrite (m : Master) (v : Word)
  /-- PACKET_HOP (R291). A packet at a router advances to its next output by class rules and Fox, waiting for room if needed. -/
  | packetHop (i : Nat) (rivals : List Nat) (u : Upsets)
  /-- WRITE (R284). A WRITE packet is delivered and stores its payload. -/
  | writePkt (p : Packet) (inPort : Option Port)
  /-- READ_REQ (R284). A READ_REQ packet is delivered and its data is read and returned. -/
  | readReqPkt (p : Packet) (inPort : Option Port)
  /-- READ_RESP (R284). Read data arrives at the requester. -/
  | readRespPkt (p : Packet) (inPort : Option Port)
  /-- WRITE_ACK (R257). A write acknowledgement arrives at the requester. -/
  | writeAckPkt (p : Packet) (inPort : Option Port)
  /-- REFUSE (R258). A refusal arrives and ends the requester's item or access with a fault. -/
  | refusePkt (p : Packet) (inPort : Option Port)
  /-- RECORD (R217). A channel record packet arrives and is made visible in SEQ order, or dropped as an orphan. -/
  | recordPkt (p : Packet) (inPort : Option Port)
  /-- CREDIT (R221). A credit return arrives and advances FREED or is ignored or discarded. -/
  | creditPkt (p : Packet) (inPort : Option Port)
  /-- JOIN (R211). A JOIN arrives at a channel, which records the source and replies. -/
  | joinPkt (p : Packet) (inPort : Option Port)
  /-- JOIN_REPLY (R211). A JOIN reply arrives and binds the endpoint. -/
  | joinReplyPkt (p : Packet) (inPort : Option Port)
  /-- CLOSE_NOTICE (R229). A close notice of matching GEN puts the endpoint in CLOSED. -/
  | closeNoticePkt (p : Packet) (inPort : Option Port)
  /-- CONTRIB (R238). A contribution arrives, is checked and is added or held. -/
  | contribPkt (p : Packet) (inPort : Option Port) (residueBad : Bool)
  /-- SADD_PACKET (R191). A remote counter addition arrives and is applied once. -/
  | saddPacket (p : Packet) (inPort : Option Port)
  /-- CODEWORD_RX (R298). A Thernolink codeword is decoded and its data slots accepted in sequence or discarded. -/
  | codewordRx (n : Port) (cw : Codeword)
  /-- LINK_CONTROL_FLIT (R303). A received control flit delivers credits, acknowledgements and NAK and is compared with the configuration. -/
  | linkControlFlit (n : Port) (f : LinkFlit) (arrival : Nat)
  /-- LINK_CONTROL_FLIT_TX (R297). Each super-frame the port sends a link control flit in slot 0. -/
  | linkControlFlitTx (n : Port) (now : Nat)
  /-- CONTROL_FLIT_TIMEOUT (R302). Eight super-frames without a good control flit lose the link. -/
  | controlFlitTimeout (n : Port)
  /-- LANE_LOCK_LOSS (R302). The port's lanes lose lock and the link is lost. -/
  | laneLockLoss (n : Port)
  /-- TL_ENABLE (R307). Setting TL_CFG.EN checks the configuration and starts training or sets CFG_ERR. -/
  | tlEnable (m : Master) (n : Port) (v : Word)
  /-- TL_DISABLE (R301). Clearing TL_CFG.EN disables the port. -/
  | tlDisable (m : Master) (n : Port) (v : Word)
  /-- TL_RETRAIN (R301). TL_CMD RETRAIN sends GOING_DOWN, takes the link down and retrains. -/
  | tlRetrain (m : Master) (n : Port)
  /-- TRAINING_DONE (R301). Lanes finish training and the port enters IDENT, possibly HALF. -/
  | trainingDone (n : Port) (lowHalf : Bool) (highHalf : Bool)
  /-- TRAINING_TIMEOUT (R301). No half trains within 50 ms and the port goes DOWN. -/
  | trainingTimeout (n : Port)
  /-- RETRAIN_TIMER (R301). After 10 ms in DOWN the port trains again. -/
  | retrainTimer (n : Port)
  /-- DOMAIN_IDENTITY_WRITE (R305). A write to DEV_DOMAIN_ID or DEV_DOMAIN_SHAPE is checked and sets VALID or ERR. -/
  | domainIdentityWrite (m : Master) (shape : Bool) (v : Word)
  /-- BEAT_BOUNDARY (R322). A beat boundary advances the beat counter and drives the beat-aligned actions. -/
  | beatBoundary
  /-- BEAT_MARKER (R316). A marker from the parent locks or corrects the beat phase and is forwarded. -/
  | beatMarker (n : Port) (f : CFlit) (corr : Int)
  /-- MARKER_TIMEOUT (R317). Four beats without a marker switch to the alternate neighbour. -/
  | markerTimeout
  /-- HOLD (R318). A HOLD flit is forwarded once per origin and sequence and puts the schedule unit on hold. -/
  | holdFlit (n : Port) (f : CFlit)
  /-- STRETCH_REQ (R324). A STRETCH_REQ notice is forwarded toward the master, which updates its target. -/
  | stretchReq (n : Port) (f : CFlit)
  /-- BARRIER_ARRIVE (R339). A BARRIER_ARRIVE from a child counts toward the subtree and is passed on or releases at the master. -/
  | barrierArrive (n : Port) (f : CFlit)
  /-- BARRIER_RELEASE (R339). A barrier release ends a load phase and carries the start beat. -/
  | barrierRelease (n : Port) (f : CFlit)
  /-- BARRIER_TIMEOUT (R339). A release not arriving in time ends the load with BARRIER_TIMEOUT. -/
  | barrierTimeout
  /-- STRETCH_REQUEST_WRITE (R323). A write to SCHED_STRETCH changes the stretch request and sends a notice. -/
  | stretchRequestWrite (m : Master) (v : Word)
  /-- SCHED_LOAD (R337). SCHED_CMD LOAD starts checking a schedule image. -/
  | schedLoad (m : Master) (epoch : BitVec 32)
  /-- LOAD_DIGEST_DONE (R337). The image digest completes and the load continues or fails DIGEST. -/
  | loadDigestDone
  /-- LOAD_SIGNATURE_DONE (R464). Slolis finishes the signature check and the load continues or fails. -/
  | loadSignatureDone
  /-- PHASE_B_JOINS_DONE (R338). Every endpoint bound in phase B is BOUND or FAILED and the device arrives at barrier B. -/
  | phaseBJoinsDone
  /-- SCHED_RESUME (R347). SCHED_CMD RESUME checks and arms a resume at a resume point and variant. -/
  | schedResume (m : Master) (epoch : BitVec 32)
  /-- HOLD_COMMAND (R344). SCHED_CMD HOLD raises a hold with cause COMMAND. -/
  | holdCommand (m : Master)
  /-- SCHED_UNLOAD (R350). SCHED_CMD UNLOAD ends the job at the next beat boundary. -/
  | schedUnload (m : Master)
  /-- WINDOW_RELEASE (R329). Traffic waiting for an open transfer window is cut into packets and released within its allowance. -/
  | windowRelease (entry : Nat)
  /-- MAINTENANCE_WINDOW (R354). A maintenance window begins and Badger starts patrol migrations. -/
  | maintenanceWindow
  /-- MAINTENANCE_PERIOD_END (R354). The window ends, the period counter advances and health scores and headroom are sampled. -/
  | maintenancePeriodEnd (headroom : List (Nat × Nat))
  /-- MIGRATION_COPY (R359). After the source freezes and drains, the mover copies the slice and state. -/
  | migrationCopy (lc : Lc) (u : Upsets)
  /-- MIGRATION_SWITCH (R359). After the copy, dirty lines and counters are copied and the mapping switches over in one update. -/
  | migrationSwitch (lc : Lc)
  /-- MIGRATION_ABORT (R361). A patrol migration not in SWITCH by window beat 124 is aborted. -/
  | migrationAbort (row : Fin 16)
  /-- TEST_STEP_DONE (R352). A patrol test step ends and the test continues or ends with a result. -/
  | testStepDone (pc : Slot) (o : StepObs)
  /-- BADGER_SUSPECT (R363). BADGER_CMD SUSPECT makes a logical cell a suspect. -/
  | badgerSuspect (m : Master) (lc : Lc)
  /-- BADGER_FENCE (R367). BADGER_CMD FENCE fences a slot with debug authorization. -/
  | badgerFence (m : Master) (pc : Slot)
  /-- HEADROOM_TREND (R370). Slolis computes each slot's daily headroom trend. -/
  | headroomTrend (headroom : List (Nat × Nat))
  /-- REPLACE_LEVEL_PUBLISH (R378). The replacement request level is re-evaluated and published after its holding times. -/
  | replaceLevelPublish
  /-- REPLACE_NOTICE_REPEAT (R379). While the level is above NONE the notification is repeated daily. -/
  | replaceNoticeRepeat
  /-- FIRST_LIGHT_DONE (R353). First light ends, the mapping is applied and FIRST_LIGHT is set. -/
  | firstLightDone (p : Part) (failed : List (Nat × Nat))
  /-- LOG_INTAKE (R401). The intake engine takes a record from a reporter buffer and writes or coalesces a log entry. -/
  | logIntake
  /-- COALESCE_SLOT_CLOSE (R401). A coalescing slot closes at its lifetime and its first entry is streamed again. -/
  | coalesceSlotClose (i : Fin 256)
  /-- LOG_DATAGRAM (R403). A datagram is sent when 16 entries wait or 1 ms after the oldest. -/
  | logDatagram
  /-- SNAP_ARM (R407). SNAP_CMD ARM checks the plan, engines and drives and arms Squirrel. -/
  | snapArm (m : Master)
  /-- SNAP_DISARM (R427). SNAP_CMD DISARM disarms Squirrel. -/
  | snapDisarm (m : Master)
  /-- SNAP_RESTORE (R428). SNAP_CMD RESTORE starts restoring a committed snapshot. -/
  | snapRestore (m : Master)
  /-- BUDDY_SERVE (R433). SNAP_CMD BUDDY_SERVE exposes a held shard in the buddy window. -/
  | buddyServe (m : Master)
  /-- BUDDY_RESTORE (R433). SNAP_CMD BUDDY_RESTORE fetches and decodes shards into a committed slot. -/
  | buddyRestore (m : Master)
  /-- SNAP_PROPOSE (R412). A SNAP_PROPOSE notice is forwarded to the master, which updates the domain interval. -/
  | snapPropose (n : Port) (f : CFlit)
  /-- SNAP_PROPOSE_TIMER (R412). An armed device resends its proposal every 65,536 beats. -/
  | snapProposeTimer
  /-- SNAP_STEP (R414). A SNAP_STEP announcement sets SNAP_NEXT and flips, or is skipped. -/
  | snapStep (n : Port) (f : CFlit)
  /-- SNAP_STEP_RESEND (R413). The master resends SNAP_STEP every 1,024 beats until its step exceeds T. -/
  | snapStepResend
  /-- SNAP_DONE (R413). A SNAP_DONE reaches the master, which announces the next T when all are in. -/
  | snapDone (n : Port) (f : CFlit)
  /-- SNAP_DONE_RESEND (R415). A device repeats SNAP_DONE every 65,536 beats until a later T arrives. -/
  | snapDoneResend
  /-- SNAP_ANNOUNCE_TIMEOUT (R413). 4×10^9 beats after an announcement the master announces the next T. -/
  | snapAnnounceTimeout
  /-- DRAIN_PIECE (R416). A 4 MiB piece is copied, digested and compressed through hub engines and assigned stripe units. -/
  | drainPiece (h : HubId)
  /-- NVME_COMPLETION (R418). An NVMe completion advances the drain or the commit sequence. -/
  | nvmeCompletion (drive : Fin 8) (cq : NvmeDone)
  /-- NVME_TIMEOUT (R426). No completion within 5 s fails the drive and the snapshot. -/
  | nvmeTimeout (drive : Fin 8)
  /-- RESTORE_SEGMENT_DONE (R429). A restored segment's digest is checked. -/
  | restoreSegmentDone (seg : Nat)
  /-- BUDDY_SHARD_STORE (R432). A received buddy shard is stored in the reserved slot. -/
  | buddyShardStore (sender : BitVec 10) (j : Fin 10) (step : Word) (data : List Byte)
  /-- PROGRESS_TIMEOUT (R435). A running context committing nothing for PROG_BEATS faults with PROGRESS. -/
  | progressTimeout (pc : Slot) (c : Ctx)
  /-- PARK_LONG_TIMEOUT (R434). A context parked beyond PARK_BEATS produces a PARK_LONG record. -/
  | parkLongTimeout (pc : Slot) (c : Ctx) (beats : Nat)
  /-- OS_HEARTBEAT_WRITE (R438). A write of WDOG_OS_HB.BEAT records a heartbeat. -/
  | osHeartbeatWrite (m : Master)
  /-- OS_HB_CHECK (R438). Every 100 ms Slolis checks the heartbeat and may reset the OS complex. -/
  | osHbCheck
  /-- SLOLIS_KICK (R439). A write of WDOG_SLOLIS.KICK restarts the Slolis timer. -/
  | slolisKick (m : Master)
  /-- SLOLIS_TIMER_EXPIRY (R439). 500 ms without a kick resets Slolis, or stops it on the fourth expiry. -/
  | slolisTimerExpiry
  /-- RST_SLOLIS (R441). WDOG_RST_CMD SLOLIS resets Slolis alone. -/
  | rstSlolis (m : Master)
  /-- RST_OS (R447). WDOG_RST_CMD OS resets the OS complex alone. -/
  | rstOs (m : Master)
  /-- RST_PARTITION (R444). WDOG_RST_CMD PARTITION starts a partition reset. -/
  | rstPartition (m : Master) (p : Part)
  /-- RST_DEVICE (R446). WDOG_RST_CMD DEVICE starts a device reset. -/
  | rstDevice (m : Master)
  /-- FAR_TRAINING_DONE (R445). A channel's training attempt ends; after three failures the channel is FAILED. -/
  | farTrainingDone (ch : Fin 32) (ok : Bool) (densityGiB : Nat) (sppr : Option Nat)
  /-- PARTITION_RESET_DONE (R444). A partition reset ends, generations set and PART_MAP_GEN made even. -/
  | partitionResetDone (p : Part)
  /-- DEVICE_RESET_DONE (R446). A device reset ends and the device is ready. -/
  | deviceResetDone
  /-- RESET_ESCALATE (R442). A partition reset not done in 5 s becomes a device reset. -/
  | resetEscalate
  /-- SLOLIS_RESTART_DONE (R442). Slolis is back and any interrupted reset restarts from step 3. -/
  | slolisRestartDone
  /-- ATTEST (R466). The Redfish Attest action queues a quote over a nonce. -/
  | attest (role : Role) (nonce : BitVec 256)
  /-- QUOTE_SIGNED (R466). Slolis finishes signing a quote and returns it. -/
  | quoteSigned
  /-- DEBUG_CHALLENGE (R467). The DebugChallenge action issues a 32-byte challenge. -/
  | debugChallenge (role : Role)
  /-- DEBUG_AUTHORIZE (R467). The DebugAuthorize action checks a token and grants debug authorization. -/
  | debugAuthorize (role : Role) (tok : List Byte)
  /-- DEBUG_REVOKE (R468). The DebugRevoke action ends the active grant. -/
  | debugRevoke (role : Role)
  /-- SEC_DEBUG_REVOKE (R468). A write of SEC_DEBUG.REVOKE ends the active grant. -/
  | secDebugRevoke (m : Master)
  /-- DEBUG_GRANT_EXPIRY (R468). A grant's duration expires and it ends. -/
  | debugGrantExpiry
  /-- CLEAR_FENCE (R367). The ClearFence action appends a CLEAR entry for a slot. -/
  | clearFence (role : Role) (pc : Slot)
  /-- REPLACEMENT_POLICY (R379). The ReplacementPolicy action writes HOLD, CAP_MIN and ADVISE_DAYS. -/
  | replacementPolicy (role : Role) (hold : Bool) (capMin : BitVec 16) (adviseDays : BitVec 16)
  /-- SCHEDULE_ACTION (R457). The Schedule action writes schedule registers and commands as Slolis. -/
  | scheduleAction (role : Role) (a : SchedAction)
  /-- SNAPSHOT_ACTION (R457). The Snapshot action writes snapshot registers and commands as Slolis. -/
  | snapshotAction (role : Role) (a : SnapAction)
  /-- DOMAIN_ACTION (R457). The Domain action writes the domain identity and port configuration. -/
  | domainAction (role : Role) (a : DomainAction)
  /-- SYSTEM_RESET_ACTION (R441). A Redfish reset action resets the OS complex, a partition or the device. -/
  | systemResetAction (role : Role) (a : ResetAction)
  /-- FIRMWARE_UPDATE (R461). An UpdateService push writes, verifies and names a trial bank. -/
  | firmwareUpdate (role : Role) (loader : Bool) (image : List Byte)
  /-- MBOX_ENABLE (R469). Setting MBOX_CFG.EN binds Slolis's reply endpoint and starts polling. -/
  | mboxEnable (m : Master) (v : Word)
  /-- MBOX_POLL (R469). Every 1 ms Slolis takes the next mailbox slot whose SEQ matches. -/
  | mboxPoll
  /-- EXTEND (R463). Mailbox EXTEND extends M4 with a digest. -/
  | extendMeas (tag : Word) (digest : BitVec 256)
  /-- MBOX_ATTEST (R466). Mailbox ATTEST writes a quote to a carve-out buffer. -/
  | mboxAttest (tag : Word) (nonce : BitVec 256) (buf : Word)
  /-- MBOX_DEBUG_CHALLENGE (R467). Mailbox DEBUG_CHALLENGE returns a challenge. -/
  | mboxDebugChallenge (tag : Word)
  /-- DEBUG_TOKEN (R467). Mailbox DEBUG_TOKEN presents a debug token for a grant. -/
  | debugToken (tag : Word) (addr : Word) (len : Nat)
  /-- POWER (R51). Mailbox POWER asks Slolis to switch a domain. -/
  | powerReq (tag : Word) (domain : BitVec 16) (on : Bool)
  /-- REPORT (R469). Mailbox REPORT forwards a report to the fabric manager. -/
  | reportReq (tag : Word) (addr : Word) (len : Nat) (kind : BitVec 8)
  /-- PTP_LOCK (R454). Slolis locks to a PTP grandmaster. -/
  | ptpLock (n : Fin 2) (timeNs : Nat) (offsetNs : BitVec 32)
  /-- PTP_LOSS (R454). PTP lock is lost and Slolis switches port or free-runs. -/
  | ptpLoss
  /-- MGMT_LINK_CHANGE (R475). A management port link goes up or down. -/
  | mgmtLinkChange (n : Fin 2) (up : Bool)
  /-- FIRMWARE_READY (R461). A trial firmware bank reports ready and stays active. -/
  | firmwareReady
  /-- POWER_ON (R483). AON_PWRGD rises and the ROM starts the power-on boot. -/
  | powerOn (flash : FlashImage)
  /-- MAIN_PWRGD_RISE (R483). MAIN_PWRGD rises and Slolis powers the switched domains in order. -/
  | mainPwrgdRise
  /-- MAIN_PWRGD_TIMEOUT (R485). MAIN_PWRGD not up 400 ms after MAIN_EN lowers MAIN_EN and retries once. -/
  | mainPwrgdTimeout
  /-- OFF_REQUEST (R486). OFF_REQ_N low starts an orderly main power-down with a grace period. -/
  | offRequest
  /-- OFF_ACK (R486). A write of DEV_PWR_CTL.OFF_ACK ends the grace. -/
  | offAck (m : Master)
  /-- OFF_GRACE_TIMEOUT (R486). OFF_GRACE_MS expires and the power-down proceeds. -/
  | offGraceTimeout
  /-- OFF_RELEASE (R487). OFF_REQ_N rises and Slolis starts a main power-up. -/
  | offRelease
  /-- MAIN_POWER_LOSS (R488). MAIN_PWRGD falls while MAIN_EN is high, losing every switched domain with a FATAL record. -/
  | mainPowerLoss
  /-- MAIN_POWER_RETRY (R488). 1 s after a main power loss Slolis starts a main power-up, at most three times in 10 minutes. -/
  | mainPowerRetry
  /-- POWER_MONITOR_SAMPLE (R489). Every 100 µs the monitor samples all sensors and writes SYS_REQ while Slolis is away. -/
  | powerMonitorSample (r : SensorSample)
  /-- STRETCH_CONTROL (R490). Every 1 ms Slolis computes req_p and req_t and writes SYS_REQ. -/
  | stretchControl
  /-- THERMAL_PROTECT (R492). A thermal or power excess held 100 ms raises a hold or enters thermal freeze. -/
  | thermalProtect
  /-- THERMAL_FREEZE_EXIT (R492). Temperature and power below their exit limits for 100 ms end thermal freeze. -/
  | thermalFreezeExit
  /-- THERMAL_TRIP (R493). A sensor at 110 °C for 100 µs switches everything off and drives THERMTRIP_N low. -/
  | thermalTrip (tempC : Int) (domain : Nat)
  /-- MSI_WRITE (R500). An inbound write to PCIE_MSI_ADDR sets a pending bit. -/
  | msiWrite (n : Fin 4) (data : BitVec 32)
  /-- PCIE_INBOUND_REQUEST (R501). An inbound drive request is forwarded by the map or completed Unsupported Request. -/
  | pcieInboundRequest (n : Fin 4) (req : PcieReq)
  /-- PCIE_OUTBOUND_REQUEST (R499). An access to a PCIe aperture is a config access or forwarded downstream. -/
  | pcieOutboundRequest (who : Agent) (n : Fin 4) (off : Nat) (write : Bool) (data : List Byte)
  /-- VIRTIO_NET_ACCESS (R502). An access to a front-end Ethernet VIRTIO MMIO register acts by the VIRTIO transport. -/
  | virtioNetAccess (m : Master) (n : Fin 2) (off : Nat) (write : Bool) (v : Word)
  /-- ALWAYS_ON_POWER_OFF (R483). The always-on rails are removed in a power cycle, ending the debug grant and losing every always-on state until the next power-on. -/
  | alwaysOnPowerOff
  /-- PCIE_LINK_CHANGE (R473). A PCIe root port's link to its drive trains up or goes down, updating PCIE_STATUS and counting PCIE_LINK_DOWNS. -/
  | pcieLinkChange (n : Fin 4) (second : Bool) (up : Bool) (rate : BitVec 4) (width : BitVec 4)
  /-- FRONT_END_LINK_CHANGE (R474). A front-end 400GBASE-R link comes up or goes down, updating ETH_STATUS and counting ETH_LINK_DOWNS. -/
  | frontEndLinkChange (n : Fin 2) (up : Bool)
  /-- FRONT_END_FRAME_RX (R502). A frame arrives on a front-end Ethernet port and is placed in a VIRTIO receive queue in the carve-out, raising the port's interrupt. -/
  | frontEndFrameRx (n : Fin 2) (frame : List Byte)
  /-- JTAG_INSTRUCTION (R468). An IEEE 1149.1 instruction shifted in on the boundary-scan pins acts, with private instructions acting as BYPASS without a JTAG grant and EXTEST accepted only while domain 584 is off. -/
  | jtagInstruction (ir : JtagInstr)
  deriving DecidableEq, Repr

end Sys2Proof
end

