-- ==== Sys2Proof/WellFormed.lean ====
section
/-! DEFINITION. Which commands are well-formed: those whose operands can exist as the spec lays them out. A command that is not well-formed still has a meaning; no statement needs to speak of it. -/

namespace Sys2Proof

/-- A packet's EXT is whole 8-byte words of at most 64 B, and LEN counts its payload (Table 09-2). -/
def Packet.wf (p : Packet) : Bool := p.ext.length % 8 = 0 && p.payload.length = p.len.toNat

/-- A C flit has a body of 44 bytes (Table 09-7). -/
def CFlit.wf (f : CFlit) : Bool := f.body.length = 44

/-- A codeword carries at most five data slots (R297); one that does not decode carries none. -/
def Codeword.wf (c : Codeword) : Bool := c.slots.length ≤ 5 && (c.decodes || c.slots.isEmpty)

/-- A write carries its data; a read carries none (R501). -/
def PcieReq.wf (r : PcieReq) : Bool := if r.write then r.data.length = r.len else r.data.isEmpty

/-- Bit errors name words and nonzero patterns. -/
def upsetsWf (u : Upsets) : Bool := u.all (fun e => e.2 != 0)

/-- Domains with a sensor: 0 to 584, and 1,023 for the always-on domain (Table 16-10). -/
def sensorDomain (n : Nat) : Bool := n ≤ 584 || n = 1023

/-- The Boolean check of one command. The instructions that share a word's CLASS and OP are told apart by FL (Table 03-2). -/
def Instr.wf : Instr → Bool
  | .registerWrite _ _ size _ => 1 ≤ size
  | .wideValueRead _ _ size => 1 ≤ size
  | .ld _ _ _ u => upsetsWf u
  | .st _ _ _ u => upsetsWf u
  | .ldm _ _ _ u => upsetsWf u
  | .stm _ _ _ u => upsetsWf u
  | .vld _ _ _ u => upsetsWf u
  | .vst _ _ _ u => upsetsWf u
  | .sadd _ _ f => f.fl != 1
  | .saddRemote _ _ f => f.fl = 1
  | .cqaddContribute _ _ f => f.fl != 1 && f.fl != 2
  | .cqaddOpen _ _ f => f.fl = 1
  | .cqaddClose _ _ f => f.fl = 2
  | .packetHop _ _ u => upsetsWf u
  | .writePkt p _ => p.wf
  | .readReqPkt p _ => p.wf
  | .readRespPkt p _ => p.wf
  | .writeAckPkt p _ => p.wf
  | .refusePkt p _ => p.wf
  | .recordPkt p _ => p.wf
  | .creditPkt p _ => p.wf
  | .joinPkt p _ => p.wf
  | .joinReplyPkt p _ => p.wf
  | .closeNoticePkt p _ => p.wf
  | .contribPkt p _ _ => p.wf
  | .saddPacket p _ => p.wf
  | .codewordRx _ cw => cw.wf
  | .beatMarker _ f _ => f.wf
  | .holdFlit _ f => f.wf
  | .stretchReq _ f => f.wf
  | .barrierArrive _ f => f.wf
  | .barrierRelease _ f => f.wf
  | .snapPropose _ f => f.wf
  | .snapStep _ f => f.wf
  | .snapDone _ f => f.wf
  | .thermalTrip _ dom => sensorDomain dom
  | .powerMonitorSample r => r.sensors.all (fun e => sensorDomain e.1)
  | .pcieInboundRequest _ req => req.wf
  | .pcieOutboundRequest _ _ off _ data => off + data.length ≤ 2 ^ 42
  | .virtioNetAccess _ _ off _ _ => off % 8 = 0 && off < 0x400
  | _ => true

end Sys2Proof
end

