-- ==== Sys2Proof/Decode.lean ====
section
/-! DEFINITION. The instruction words of the core (R89, Tables 03-1 and 03-2): reading a 64-bit word into the command that a core issues for it, and back. The rows of the table of commands have no bits, so no table word spells a command. -/

namespace Sys2Proof

/-- The command that a word of the command table spells: the table gives its rows no bits. -/
def decodeTableWord (_nbits _w : Nat) : Option Instr := none

/-! ## Fields (Table 03-1) -/

/-- The word of CLASS, OP and the fields of format S. -/
def wordS (cls : BitVec 4) (op : BitVec 8) (f : FmtS) : Word := cls ++ op ++ f.xd ++ f.xa ++ f.xb ++ f.fl ++ f.imm

/-- The word of CLASS, OP and the fields of format V; the top bit of `res` is bit [28], the others bits [19:16]. -/
def wordV (cls : BitVec 4) (op : BitVec 8) (f : FmtV) : Word :=
  cls ++ op ++ f.vd ++ f.va ++ f.vb ++ f.vc ++ f.fmt ++ f.xs ++ BitVec.ofBool f.bx ++ f.res.extractLsb' 4 1 ++ f.cond ++ f.iw ++
    f.res.extractLsb' 0 4 ++ f.imm16

/-- CLASS of a word. -/
def wordClass (w : Word) : BitVec 4 := w.extractLsb' 60 4

/-- OP of a word. -/
def wordOp (w : Word) : BitVec 8 := w.extractLsb' 52 8

/-- The fields of a word of format S. -/
def fieldsS (w : Word) : FmtS :=
  { xd := w.extractLsb' 47 5, xa := w.extractLsb' 42 5, xb := w.extractLsb' 37 5, fl := w.extractLsb' 32 5, imm := w.extractLsb' 0 32 }

/-- The fields of a word of format V. -/
def fieldsV (w : Word) : FmtV :=
  { vd := w.extractLsb' 49 3, va := w.extractLsb' 46 3, vb := w.extractLsb' 43 3, vc := w.extractLsb' 40 3, fmt := w.extractLsb' 35 5,
    xs := w.extractLsb' 30 5, bx := w.getLsbD 29, cond := w.extractLsb' 24 4, iw := w.extractLsb' 20 4,
    res := w.extractLsb' 28 1 ++ w.extractLsb' 16 4, imm16 := w.extractLsb' 0 16 }

/-! ## Operations (Table 03-2) -/

/-- The command for an operation of format S: SADD with FL = 1 is the remote form, and CQADD has three forms by FL. A read met no bit errors. -/
def decodeS (pc : Slot) (c : Ctx) (cls op : Nat) (f : FmtS) : Option Instr :=
  match cls, op with
  | 0x0, 0x00 => some (.add pc c f)
  | 0x0, 0x01 => some (.sub pc c f)
  | 0x0, 0x02 => some (.andOp pc c f)
  | 0x0, 0x03 => some (.orOp pc c f)
  | 0x0, 0x04 => some (.xorOp pc c f)
  | 0x0, 0x05 => some (.sll pc c f)
  | 0x0, 0x06 => some (.srl pc c f)
  | 0x0, 0x07 => some (.sra pc c f)
  | 0x0, 0x08 => some (.mul pc c f)
  | 0x0, 0x09 => some (.mulh pc c f)
  | 0x0, 0x0A => some (.div pc c f)
  | 0x0, 0x0B => some (.divu pc c f)
  | 0x0, 0x0C => some (.rem pc c f)
  | 0x0, 0x0D => some (.remu pc c f)
  | 0x0, 0x0E => some (.slt pc c f)
  | 0x0, 0x0F => some (.sltu pc c f)
  | 0x1, 0x00 => some (.addi pc c f)
  | 0x1, 0x01 => some (.subi pc c f)
  | 0x1, 0x02 => some (.andi pc c f)
  | 0x1, 0x03 => some (.ori pc c f)
  | 0x1, 0x04 => some (.xori pc c f)
  | 0x1, 0x05 => some (.slli pc c f)
  | 0x1, 0x06 => some (.srli pc c f)
  | 0x1, 0x07 => some (.srai pc c f)
  | 0x1, 0x08 => some (.muli pc c f)
  | 0x1, 0x09 => some (.mulhi pc c f)
  | 0x1, 0x0A => some (.divi pc c f)
  | 0x1, 0x0B => some (.divui pc c f)
  | 0x1, 0x0C => some (.remi pc c f)
  | 0x1, 0x0D => some (.remui pc c f)
  | 0x1, 0x0E => some (.slti pc c f)
  | 0x1, 0x0F => some (.sltui pc c f)
  | 0x1, 0x10 => some (.li pc c f)
  | 0x1, 0x11 => some (.lih pc c f)
  | 0x2, 0x00 => some (.ld pc c f [])
  | 0x2, 0x01 => some (.st pc c f [])
  | 0x2, 0x02 => some (.ldm pc c f [])
  | 0x2, 0x03 => some (.stm pc c f [])
  | 0x2, 0x04 => some (.fence pc c f)
  | 0x3, 0x00 => some (.beq pc c f)
  | 0x3, 0x01 => some (.bne pc c f)
  | 0x3, 0x02 => some (.blt pc c f)
  | 0x3, 0x03 => some (.bge pc c f)
  | 0x3, 0x04 => some (.bltu pc c f)
  | 0x3, 0x05 => some (.bgeu pc c f)
  | 0x3, 0x08 => some (.jal pc c f)
  | 0x3, 0x09 => some (.jalr pc c f)
  | 0x7, 0x00 => some (.sdecl pc c f)
  | 0x7, 0x01 => some (.srel pc c f)
  | 0x8, 0x00 => some (if f.fl = 1 then .saddRemote pc c f else .sadd pc c f)
  | 0x8, 0x01 => some (.sset pc c f)
  | 0x8, 0x02 => some (.swait pc c f)
  | 0x8, 0x03 => some (.sread pc c f)
  | 0x9, 0x00 => some (.csend pc c f)
  | 0x9, 0x01 => some (.cpeek pc c f)
  | 0x9, 0x02 => some (.cadv pc c f)
  | 0x9, 0x03 => some (if f.fl = 1 then .cqaddOpen pc c f else if f.fl = 2 then .cqaddClose pc c f else .cqaddContribute pc c f)
  | 0xA, 0x00 => some (.aload pc c f)
  | 0xA, 0x01 => some (.alaunch pc c f)
  | 0xA, 0x02 => some (.adrain pc c f)
  | 0xA, 0x03 => some (.astat pc c f)
  | 0xB, 0x00 => some (.csrr pc c f)
  | 0xB, 0x01 => some (.endTask pc c f)
  | 0xB, 0x02 => some (.yieldCtx pc c f)
  | 0xB, 0x03 => some (.bindTask pc c f)
  | 0xB, 0x04 => some (.nop pc c f)
  | _, _ => none

/-- The command for an operation of format V. -/
def decodeV (pc : Slot) (c : Ctx) (cls op : Nat) (f : FmtV) : Option Instr :=
  match cls, op with
  | 0x4, 0x00 => some (.vadd pc c f)
  | 0x4, 0x01 => some (.vsub pc c f)
  | 0x4, 0x02 => some (.vmul pc c f)
  | 0x4, 0x03 => some (.vfma pc c f)
  | 0x4, 0x04 => some (.vmin pc c f)
  | 0x4, 0x05 => some (.vmax pc c f)
  | 0x4, 0x06 => some (.vcmp pc c f)
  | 0x4, 0x07 => some (.vsum pc c f)
  | 0x4, 0x20 => some (.viadd pc c f)
  | 0x4, 0x21 => some (.visub pc c f)
  | 0x4, 0x22 => some (.vimul pc c f)
  | 0x4, 0x23 => some (.vand pc c f)
  | 0x4, 0x24 => some (.vor pc c f)
  | 0x4, 0x25 => some (.vxor pc c f)
  | 0x4, 0x26 => some (.vshl pc c f)
  | 0x4, 0x27 => some (.vshr pc c f)
  | 0x4, 0x28 => some (.vsra pc c f)
  | 0x4, 0x29 => some (.vicmp pc c f)
  | 0x5, 0x00 => some (.vsel pc c f)
  | 0x5, 0x01 => some (.vperm pc c f)
  | 0x5, 0x02 => some (.vrot pc c f)
  | 0x5, 0x03 => some (.vcvt pc c f)
  | 0x5, 0x04 => some (.vext pc c f)
  | 0x5, 0x05 => some (.vbcast pc c f)
  | 0x5, 0x06 => some (.vzero pc c f)
  | 0x6, 0x00 => some (.vld pc c f [])
  | 0x6, 0x01 => some (.vst pc c f [])
  | _, _ => none

/-- The command that a core issues for a word; none where its CLASS or OP is not listed (R91). -/
def decodeCore (pc : Slot) (c : Ctx) (w : Word) : Option Instr :=
  let cls := (wordClass w).toNat
  let op := (wordOp w).toNat
  if 4 ≤ cls && cls ≤ 6 then decodeV pc c cls op (fieldsV w) else decodeS pc c cls op (fieldsS w)

/-- The word of a core instruction; none for the other commands. -/
def encodeCore : Instr → Option Word
  | .add _ _ f => some (wordS 0x0 0x00 f)
  | .sub _ _ f => some (wordS 0x0 0x01 f)
  | .andOp _ _ f => some (wordS 0x0 0x02 f)
  | .orOp _ _ f => some (wordS 0x0 0x03 f)
  | .xorOp _ _ f => some (wordS 0x0 0x04 f)
  | .sll _ _ f => some (wordS 0x0 0x05 f)
  | .srl _ _ f => some (wordS 0x0 0x06 f)
  | .sra _ _ f => some (wordS 0x0 0x07 f)
  | .mul _ _ f => some (wordS 0x0 0x08 f)
  | .mulh _ _ f => some (wordS 0x0 0x09 f)
  | .div _ _ f => some (wordS 0x0 0x0A f)
  | .divu _ _ f => some (wordS 0x0 0x0B f)
  | .rem _ _ f => some (wordS 0x0 0x0C f)
  | .remu _ _ f => some (wordS 0x0 0x0D f)
  | .slt _ _ f => some (wordS 0x0 0x0E f)
  | .sltu _ _ f => some (wordS 0x0 0x0F f)
  | .addi _ _ f => some (wordS 0x1 0x00 f)
  | .subi _ _ f => some (wordS 0x1 0x01 f)
  | .andi _ _ f => some (wordS 0x1 0x02 f)
  | .ori _ _ f => some (wordS 0x1 0x03 f)
  | .xori _ _ f => some (wordS 0x1 0x04 f)
  | .slli _ _ f => some (wordS 0x1 0x05 f)
  | .srli _ _ f => some (wordS 0x1 0x06 f)
  | .srai _ _ f => some (wordS 0x1 0x07 f)
  | .muli _ _ f => some (wordS 0x1 0x08 f)
  | .mulhi _ _ f => some (wordS 0x1 0x09 f)
  | .divi _ _ f => some (wordS 0x1 0x0A f)
  | .divui _ _ f => some (wordS 0x1 0x0B f)
  | .remi _ _ f => some (wordS 0x1 0x0C f)
  | .remui _ _ f => some (wordS 0x1 0x0D f)
  | .slti _ _ f => some (wordS 0x1 0x0E f)
  | .sltui _ _ f => some (wordS 0x1 0x0F f)
  | .li _ _ f => some (wordS 0x1 0x10 f)
  | .lih _ _ f => some (wordS 0x1 0x11 f)
  | .ld _ _ f _ => some (wordS 0x2 0x00 f)
  | .st _ _ f _ => some (wordS 0x2 0x01 f)
  | .ldm _ _ f _ => some (wordS 0x2 0x02 f)
  | .stm _ _ f _ => some (wordS 0x2 0x03 f)
  | .fence _ _ f => some (wordS 0x2 0x04 f)
  | .beq _ _ f => some (wordS 0x3 0x00 f)
  | .bne _ _ f => some (wordS 0x3 0x01 f)
  | .blt _ _ f => some (wordS 0x3 0x02 f)
  | .bge _ _ f => some (wordS 0x3 0x03 f)
  | .bltu _ _ f => some (wordS 0x3 0x04 f)
  | .bgeu _ _ f => some (wordS 0x3 0x05 f)
  | .jal _ _ f => some (wordS 0x3 0x08 f)
  | .jalr _ _ f => some (wordS 0x3 0x09 f)
  | .sdecl _ _ f => some (wordS 0x7 0x00 f)
  | .srel _ _ f => some (wordS 0x7 0x01 f)
  | .sadd _ _ f => some (wordS 0x8 0x00 f)
  | .saddRemote _ _ f => some (wordS 0x8 0x00 f)
  | .sset _ _ f => some (wordS 0x8 0x01 f)
  | .swait _ _ f => some (wordS 0x8 0x02 f)
  | .sread _ _ f => some (wordS 0x8 0x03 f)
  | .csend _ _ f => some (wordS 0x9 0x00 f)
  | .cpeek _ _ f => some (wordS 0x9 0x01 f)
  | .cadv _ _ f => some (wordS 0x9 0x02 f)
  | .cqaddContribute _ _ f => some (wordS 0x9 0x03 f)
  | .cqaddOpen _ _ f => some (wordS 0x9 0x03 f)
  | .cqaddClose _ _ f => some (wordS 0x9 0x03 f)
  | .aload _ _ f => some (wordS 0xA 0x00 f)
  | .alaunch _ _ f => some (wordS 0xA 0x01 f)
  | .adrain _ _ f => some (wordS 0xA 0x02 f)
  | .astat _ _ f => some (wordS 0xA 0x03 f)
  | .csrr _ _ f => some (wordS 0xB 0x00 f)
  | .endTask _ _ f => some (wordS 0xB 0x01 f)
  | .yieldCtx _ _ f => some (wordS 0xB 0x02 f)
  | .bindTask _ _ f => some (wordS 0xB 0x03 f)
  | .nop _ _ f => some (wordS 0xB 0x04 f)
  | .vadd _ _ f => some (wordV 0x4 0x00 f)
  | .vsub _ _ f => some (wordV 0x4 0x01 f)
  | .vmul _ _ f => some (wordV 0x4 0x02 f)
  | .vfma _ _ f => some (wordV 0x4 0x03 f)
  | .vmin _ _ f => some (wordV 0x4 0x04 f)
  | .vmax _ _ f => some (wordV 0x4 0x05 f)
  | .vcmp _ _ f => some (wordV 0x4 0x06 f)
  | .vsum _ _ f => some (wordV 0x4 0x07 f)
  | .viadd _ _ f => some (wordV 0x4 0x20 f)
  | .visub _ _ f => some (wordV 0x4 0x21 f)
  | .vimul _ _ f => some (wordV 0x4 0x22 f)
  | .vand _ _ f => some (wordV 0x4 0x23 f)
  | .vor _ _ f => some (wordV 0x4 0x24 f)
  | .vxor _ _ f => some (wordV 0x4 0x25 f)
  | .vshl _ _ f => some (wordV 0x4 0x26 f)
  | .vshr _ _ f => some (wordV 0x4 0x27 f)
  | .vsra _ _ f => some (wordV 0x4 0x28 f)
  | .vicmp _ _ f => some (wordV 0x4 0x29 f)
  | .vsel _ _ f => some (wordV 0x5 0x00 f)
  | .vperm _ _ f => some (wordV 0x5 0x01 f)
  | .vrot _ _ f => some (wordV 0x5 0x02 f)
  | .vcvt _ _ f => some (wordV 0x5 0x03 f)
  | .vext _ _ f => some (wordV 0x5 0x04 f)
  | .vbcast _ _ f => some (wordV 0x5 0x05 f)
  | .vzero _ _ f => some (wordV 0x5 0x06 f)
  | .vld _ _ f _ => some (wordV 0x6 0x00 f)
  | .vst _ _ f _ => some (wordV 0x6 0x01 f)
  | _ => none

end Sys2Proof
end

