-- ==== Sys2Proof/Config.lean ====
section
/-! DEFINITION. The values that the spec leaves open, as constants without a body, and the few sizes that the model fixes. A statement about a free value holds for every value of it. -/

namespace Sys2Proof

/-- A fresh 64-bit value wherever the spec lets the device give any value; the argument counts the draws (log entry 5). -/
opaque Config.freeWord : Nat → BitVec 64

/-- A fresh choice wherever the spec lets the device do either of two things. DESIGN CHOICE, safe (log entry 5). -/
opaque Config.freeBit : Nat → Bool

/-- What a W80 decoder delivers for a stored word with four or more flipped bits: none reports the word as uncorrectable, some word is delivered as a wrong correction (R25). -/
opaque Config.w80Many : Nat → BitVec 64 → BitVec 80 → Option (BitVec 64)

/-- Bank and row of the memory device that hold a granule of a channel; the spec does not state the mapping (R273, R279). DESIGN CHOICE, safe (log entry 17). -/
opaque Config.farRow : Nat → Nat → Nat × Nat

/-- The byte that the stepping's layout of a saved digest state combines with byte i of the model's own layout (R267). DESIGN CHOICE, safe (log entry 15). -/
opaque Config.saveMask : Nat → BitVec 8

/-- The Zstandard frame that this stepping encodes for a chunk (R266). DESIGN CHOICE, safe (log entry 14). -/
opaque Config.zstdEncode : List (BitVec 8) → List (BitVec 8)

/-- What a Zstandard frame within the limits of R266 decodes to, by RFC 8878; none for a frame that fails to decode. DESIGN CHOICE, safe (log entry 14). -/
opaque Config.zstdDecode : List (BitVec 8) → Option (List (BitVec 8))

/-- Whether a public key verifies a signature over a message by FIPS 205 (R464): parameter set 256s or 256f by the signature's length. DESIGN CHOICE, safe (log entry 16). -/
opaque Config.slhVerify (key msg sig : List (BitVec 8)) : Bool

/-- The signature that the device's identity key makes over a message (R466). DESIGN CHOICE, safe (log entry 16). -/
opaque Config.slhSign (key msg : List (BitVec 8)) : List (BitVec 8)

/-- Whether a drive meets the conditions of R419, by its SNAP_DRIVEn_LINK: its namespace is formatted as asked, and the OS has created Squirrel's queue pair. -/
opaque Config.driveFit : Nat → BitVec 64 → Bool

/-- The shard that the peer which holds shard j delivers to a BUDDY_RESTORE; none where it cannot be reached (R433). The first argument counts the draws. -/
opaque Config.buddyFetch : Nat → Nat → Option (List (BitVec 8))

/-- What the peers tell a BUDDY_RESTORE of the snapshot whose shards they hold: step, manifest offset and length, and MANIFEST_DIGEST. The spec does not state how it reaches a replacement device (R433). -/
opaque Config.buddyInfo : Nat → Nat × Nat × Nat × List (BitVec 8)

/-- Image, signature block and public keys of an image pushed through the UpdateService, by the bank's header, whose layout the spec does not give (R461, R464). -/
opaque Config.bankParse (pushed : List (BitVec 8)) : List (BitVec 8) × List (BitVec 8) × List (List (BitVec 8))

/-- Whether the hash of a public key is one of the two vendor key hashes in ROM (R464). -/
opaque Config.vendorKey (key : List (BitVec 8)) : Bool

/-- A byte of a root port's configuration space at its reset, by offset; the spec leaves the space to PCI Express Base 6.0 and gives no value but the header type (R499). PRESUMED, unsafe (log entry 18). -/
opaque Config.pcieReset : Nat → BitVec 8

/-- The bits of a byte of a root port's configuration space that take a write (R499). PRESUMED, unsafe (log entry 18). -/
opaque Config.pcieWritable : Nat → BitVec 8

/-- Offset of the Advanced Error Reporting capability in a root port's configuration space (R499). -/
opaque Config.aerOffset : Nat

/-- The Ethernet frames that a front-end port makes of a frame with a VIRTIO network header, by VIRTIO 1.2: checksum inserted and segments cut as the header asks (R502). DESIGN CHOICE, safe (log entry 20). -/
opaque Config.netFrames (header frame : List (BitVec 8)) : List (List (BitVec 8))

end Sys2Proof
end

