-- ==== Sys2Proof/Machine/Fields.lean ====
section
/-! DEFINITION. The fields of the control-space registers, named REGISTER_FIELD as the register tables name them. `base` is (class << 24) + offset; a field of a numbered register is that of number 0, and `Fld.nth` steps to number n. -/

namespace Sys2Proof.Machine

/-- Bits hi to lo of the register at `base`. -/
structure Fld where
  base : Nat
  hi : Nat
  lo : Nat
  deriving DecidableEq, Repr

/-- The same field of the n-th register of a family that stands `stride` bytes apart. -/
def Fld.nth (f : Fld) (n : Nat) (stride : Nat := 8) : Fld := { f with base := f.base + stride * n }

namespace F

/-! Table 01-6 (01_organisation.md). -/
abbrev DEV_DIST_BASE : Fld := ⟨0x100, 63, 0⟩
abbrev DEV_DIST_BASE_EN : Fld := ⟨0x100, 63, 63⟩
abbrev DEV_DIST_BASE_BASE : Fld := ⟨0x100, 47, 12⟩
abbrev DEV_DIST_BASE_ERR : Fld := ⟨0x100, 1, 1⟩
/-! Table 01-7 (01_organisation.md). -/
abbrev DEV_DIST_GEN : Fld := ⟨0x108, 63, 0⟩
abbrev DEV_DIST_GEN_GEN : Fld := ⟨0x108, 31, 0⟩
/-! Table 01-10 (01_organisation.md). -/
abbrev DEV_PD_STATUS : Fld := ⟨0x180, 63, 0⟩
/-! Table 08-7 (08_hubs_far_memory.md). -/
abbrev DEV_FAR_SIZE : Fld := ⟨0x200, 63, 0⟩
abbrev DEV_FAR_SIZE_SIZE : Fld := ⟨0x200, 41, 0⟩
/-! Table 08-8 (08_hubs_far_memory.md). -/
abbrev DEV_FAR_CARVE : Fld := ⟨0x208, 63, 0⟩
abbrev DEV_FAR_CARVE_GIB : Fld := ⟨0x208, 7, 0⟩
/-! Table 08-9 (08_hubs_far_memory.md). -/
abbrev DEV_FAR_SHARE : Fld := ⟨0x210, 63, 0⟩
abbrev DEV_FAR_SHARE_ERR : Fld := ⟨0x210, 63, 63⟩
abbrev DEV_FAR_SHARE_OS_PCT : Fld := ⟨0x210, 23, 16⟩
abbrev DEV_FAR_SHARE_U_PCT : Fld := ⟨0x210, 15, 8⟩
abbrev DEV_FAR_SHARE_S_PCT : Fld := ⟨0x210, 7, 0⟩
/-! Table 08-10 (08_hubs_far_memory.md). -/
abbrev DEV_FAR_SCRUB : Fld := ⟨0x218, 63, 0⟩
abbrev DEV_FAR_SCRUB_HOURS : Fld := ⟨0x218, 7, 0⟩
/-! Table 09-16 (09_mesh_thernolink.md). -/
abbrev DEV_DOMAIN_ID : Fld := ⟨0x300, 63, 0⟩
abbrev DEV_DOMAIN_ID_VALID : Fld := ⟨0x300, 63, 63⟩
abbrev DEV_DOMAIN_ID_ERR : Fld := ⟨0x300, 62, 62⟩
abbrev DEV_DOMAIN_ID_MASTER_ID : Fld := ⟨0x300, 25, 16⟩
abbrev DEV_DOMAIN_ID_DEVICE_ID : Fld := ⟨0x300, 9, 0⟩
/-! Table 09-17 (09_mesh_thernolink.md). -/
abbrev DEV_DOMAIN_SHAPE : Fld := ⟨0x308, 63, 0⟩
abbrev DEV_DOMAIN_SHAPE_D0M1 : Fld := ⟨0x308, 9, 0⟩
abbrev DEV_DOMAIN_SHAPE_D1M1 : Fld := ⟨0x308, 19, 10⟩
abbrev DEV_DOMAIN_SHAPE_D2M1 : Fld := ⟨0x308, 29, 20⟩
abbrev DEV_DOMAIN_SHAPE_D3M1 : Fld := ⟨0x308, 39, 30⟩
abbrev DEV_DOMAIN_SHAPE_D4M1 : Fld := ⟨0x308, 49, 40⟩
abbrev DEV_DOMAIN_SHAPE_D5M1 : Fld := ⟨0x308, 59, 50⟩
/-! Table 09-18 (09_mesh_thernolink.md). -/
abbrev DEV_BEAT_COUNT : Fld := ⟨0x310, 63, 0⟩
/-! Table 09-19 (09_mesh_thernolink.md). -/
abbrev DEV_BEAT_STATUS : Fld := ⟨0x318, 63, 0⟩
abbrev DEV_BEAT_STATUS_LOCKED : Fld := ⟨0x318, 63, 63⟩
abbrev DEV_BEAT_STATUS_MASTER : Fld := ⟨0x318, 62, 62⟩
abbrev DEV_BEAT_STATUS_ALT : Fld := ⟨0x318, 61, 61⟩
abbrev DEV_BEAT_STATUS_PARENT_PORT : Fld := ⟨0x318, 55, 52⟩
abbrev DEV_BEAT_STATUS_MISSED : Fld := ⟨0x318, 31, 16⟩
abbrev DEV_BEAT_STATUS_LAST_CORR : Fld := ⟨0x318, 15, 0⟩
/-! Table 05-12 (05_scratchpad.md). -/
abbrev DEV_WIN_D0 : Fld := ⟨0x400, 63, 0⟩
abbrev DEV_WIN_D0_WRITE : Fld := ⟨0x400, 63, 63⟩
abbrev DEV_WIN_D0_READ : Fld := ⟨0x400, 62, 62⟩
abbrev DEV_WIN_D0_PEER_MODE : Fld := ⟨0x400, 61, 60⟩
abbrev DEV_WIN_D0_BASE : Fld := ⟨0x400, 47, 0⟩
/-! Table 05-13 (05_scratchpad.md). -/
abbrev DEV_WIN_D1 : Fld := ⟨0x408, 63, 0⟩
abbrev DEV_WIN_D1_LEN : Fld := ⟨0x408, 34, 0⟩
/-! Table 05-14 (05_scratchpad.md). -/
abbrev DEV_WIN_D2 : Fld := ⟨0x410, 63, 0⟩
abbrev DEV_WIN_D2_LIST_N : Fld := ⟨0x410, 63, 62⟩
abbrev DEV_WIN_D2_ID3 : Fld := ⟨0x410, 57, 48⟩
abbrev DEV_WIN_D2_ID2 : Fld := ⟨0x410, 41, 32⟩
abbrev DEV_WIN_D2_ID1 : Fld := ⟨0x410, 25, 16⟩
abbrev DEV_WIN_D2_ID0 : Fld := ⟨0x410, 9, 0⟩
/-! Table 05-15 (05_scratchpad.md). -/
abbrev DEV_WIN_D3 : Fld := ⟨0x418, 63, 0⟩
/-! Table 05-16 (05_scratchpad.md). -/
abbrev DEV_WIN_CMD : Fld := ⟨0x420, 63, 0⟩
abbrev DEV_WIN_CMD_WIN : Fld := ⟨0x420, 25, 16⟩
abbrev DEV_WIN_CMD_CMD : Fld := ⟨0x420, 2, 0⟩
/-! Table 05-17 (05_scratchpad.md). -/
abbrev DEV_WIN_STATUS : Fld := ⟨0x428, 63, 0⟩
abbrev DEV_WIN_STATUS_GEN : Fld := ⟨0x428, 63, 32⟩
abbrev DEV_WIN_STATUS_BUSY : Fld := ⟨0x428, 31, 31⟩
abbrev DEV_WIN_STATUS_CMD : Fld := ⟨0x428, 30, 28⟩
abbrev DEV_WIN_STATUS_WIN : Fld := ⟨0x428, 25, 16⟩
abbrev DEV_WIN_STATUS_RESULT : Fld := ⟨0x428, 7, 0⟩
/-! Table 05-18 (05_scratchpad.md). -/
abbrev DEV_WIN_DENIED : Fld := ⟨0x430, 63, 0⟩
/-! Table 05-19 (05_scratchpad.md). -/
abbrev DEV_WIN_LAST_DENIAL : Fld := ⟨0x438, 63, 0⟩
abbrev DEV_WIN_LAST_DENIAL_VALID : Fld := ⟨0x438, 63, 63⟩
abbrev DEV_WIN_LAST_DENIAL_REASON : Fld := ⟨0x438, 35, 32⟩
abbrev DEV_WIN_LAST_DENIAL_WIN : Fld := ⟨0x438, 25, 16⟩
abbrev DEV_WIN_LAST_DENIAL_SOURCE : Fld := ⟨0x438, 9, 0⟩
/-! Table 07-24 (07_channels.md). -/
abbrev DEV_OSCH_SEL : Fld := ⟨0x800, 63, 0⟩
abbrev DEV_OSCH_SEL_RESULT : Fld := ⟨0x800, 63, 60⟩
abbrev DEV_OSCH_SEL_SEND_RESULT : Fld := ⟨0x800, 59, 56⟩
abbrev DEV_OSCH_SEL_SEP : Fld := ⟨0x800, 23, 16⟩
abbrev DEV_OSCH_SEL_CHAN : Fld := ⟨0x800, 7, 0⟩
/-! Table 07-25 (07_channels.md). -/
abbrev DEV_OSCH_RING : Fld := ⟨0x808, 63, 0⟩
abbrev DEV_OSCH_RING_OPEN : Fld := ⟨0x808, 63, 63⟩
abbrev DEV_OSCH_RING_SIZE : Fld := ⟨0x808, 59, 56⟩
abbrev DEV_OSCH_RING_BATCH : Fld := ⟨0x808, 55, 53⟩
abbrev DEV_OSCH_RING_IRQ_EN : Fld := ⟨0x808, 52, 52⟩
abbrev DEV_OSCH_RING_BASE : Fld := ⟨0x808, 47, 12⟩
/-! Table 07-26 (07_channels.md). -/
abbrev DEV_OSCH_CMD : Fld := ⟨0x810, 63, 0⟩
abbrev DEV_OSCH_CMD_CMD : Fld := ⟨0x810, 2, 0⟩
/-! Table 07-24 (layout of CELL_CHAN_GEN) (07_channels.md). -/
abbrev DEV_OSCH_GEN : Fld := ⟨0x818, 63, 0⟩
abbrev DEV_OSCH_GEN_GEN : Fld := ⟨0x818, 31, 0⟩
/-! Table 07-24 (layout of CELL_CHAN_PTR) (07_channels.md). -/
abbrev DEV_OSCH_PTR : Fld := ⟨0x820, 63, 0⟩
abbrev DEV_OSCH_PTR_ARRIVED : Fld := ⟨0x820, 51, 32⟩
abbrev DEV_OSCH_PTR_RD : Fld := ⟨0x820, 19, 0⟩
/-! Table 07-24 (layout of CELL_CHAN_SRC) (07_channels.md). -/
abbrev DEV_OSCH_SRC : Fld := ⟨0x828, 63, 0⟩
abbrev DEV_OSCH_SRC_VALID : Fld := ⟨0x828, 63, 63⟩
abbrev DEV_OSCH_SRC_OS : Fld := ⟨0x828, 62, 62⟩
abbrev DEV_OSCH_SRC_DEVICE : Fld := ⟨0x828, 61, 52⟩
abbrev DEV_OSCH_SRC_LC : Fld := ⟨0x828, 51, 43⟩
abbrev DEV_OSCH_SRC_AON : Fld := ⟨0x828, 42, 42⟩
abbrev DEV_OSCH_SRC_SEP : Fld := ⟨0x828, 7, 0⟩
/-! Table 07-24 (layout of CELL_SEP_TARGET) (07_channels.md). -/
abbrev DEV_OSEP_TARGET : Fld := ⟨0x840, 63, 0⟩
abbrev DEV_OSEP_TARGET_CLASS : Fld := ⟨0x840, 61, 61⟩
abbrev DEV_OSEP_TARGET_DEVICE : Fld := ⟨0x840, 55, 46⟩
abbrev DEV_OSEP_TARGET_LC : Fld := ⟨0x840, 45, 37⟩
abbrev DEV_OSEP_TARGET_CHAN : Fld := ⟨0x840, 36, 29⟩
/-! Table 07-24 (layout of CELL_SEP_STATE) (07_channels.md). -/
abbrev DEV_OSEP_STATE : Fld := ⟨0x848, 63, 0⟩
abbrev DEV_OSEP_STATE_STATE : Fld := ⟨0x848, 63, 61⟩
abbrev DEV_OSEP_STATE_REASON : Fld := ⟨0x848, 60, 56⟩
abbrev DEV_OSEP_STATE_SIZE : Fld := ⟨0x848, 55, 52⟩
abbrev DEV_OSEP_STATE_WR : Fld := ⟨0x848, 51, 32⟩
abbrev DEV_OSEP_STATE_GEN : Fld := ⟨0x848, 31, 0⟩
/-! Table 07-24 (layout of CELL_SEP_CREDITS) (07_channels.md). -/
abbrev DEV_OSEP_CREDITS : Fld := ⟨0x850, 63, 0⟩
abbrev DEV_OSEP_CREDITS_SENT : Fld := ⟨0x850, 63, 32⟩
abbrev DEV_OSEP_CREDITS_FREED : Fld := ⟨0x850, 31, 0⟩
/-! Table 07-27 (07_channels.md). -/
abbrev DEV_OSCH_SEND : Fld := ⟨0x858, 63, 0⟩
abbrev DEV_OSCH_SEND_SEP : Fld := ⟨0x858, 63, 56⟩
abbrev DEV_OSCH_SEND_DESC : Fld := ⟨0x858, 47, 4⟩
/-! Table 07-28 (07_channels.md). -/
abbrev DEV_OSCH_PENDING : Fld := ⟨0x860, 63, 0⟩
/-! Table 07-23 (07_channels.md). -/
abbrev DEV_OSCH_MSGS_RECV : Fld := ⟨0x880, 63, 0⟩
abbrev DEV_OSCH_BYTES_RECV : Fld := ⟨0x888, 63, 0⟩
abbrev DEV_OSCH_PADS : Fld := ⟨0x890, 63, 0⟩
abbrev DEV_OSCH_ORPHANS : Fld := ⟨0x898, 63, 0⟩
abbrev DEV_OSEP_MSGS_SENT : Fld := ⟨0x8a0, 63, 0⟩
abbrev DEV_OSEP_BYTES_SENT : Fld := ⟨0x8a8, 63, 0⟩
abbrev DEV_OSEP_CREDIT_STALL : Fld := ⟨0x8b0, 63, 0⟩
abbrev DEV_OSEP_CREDIT_FAULTS : Fld := ⟨0x8b8, 63, 0⟩
/-! Table 07-29 (07_channels.md). -/
abbrev DEV_CHAN_EPOCH : Fld := ⟨0x8f8, 63, 0⟩
abbrev DEV_CHAN_EPOCH_EPOCH : Fld := ⟨0x8f8, 7, 0⟩
/-! Table 16-7 (16_pins_power.md). -/
abbrev DEV_PWR_CFG : Fld := ⟨0xa00, 63, 0⟩
abbrev DEV_PWR_CFG_T_CTL : Fld := ⟨0xa00, 47, 40⟩
abbrev DEV_PWR_CFG_PEAK_W : Fld := ⟨0xa00, 31, 16⟩
abbrev DEV_PWR_CFG_TDP_W : Fld := ⟨0xa00, 15, 0⟩
/-! Table 16-8 (16_pins_power.md). -/
abbrev DEV_PWR_STATUS : Fld := ⟨0xa08, 63, 0⟩
abbrev DEV_PWR_STATUS_THROT_IN : Fld := ⟨0xa08, 63, 63⟩
abbrev DEV_PWR_STATUS_FREEZE : Fld := ⟨0xa08, 62, 62⟩
abbrev DEV_PWR_STATUS_MONITOR : Fld := ⟨0xa08, 61, 61⟩
abbrev DEV_PWR_STATUS_ALERT : Fld := ⟨0xa08, 60, 60⟩
abbrev DEV_PWR_STATUS_OFF_PENDING : Fld := ⟨0xa08, 59, 59⟩
abbrev DEV_PWR_STATUS_TJ_MAX : Fld := ⟨0xa08, 55, 48⟩
abbrev DEV_PWR_STATUS_TJ_SRC : Fld := ⟨0xa08, 47, 38⟩
abbrev DEV_PWR_STATUS_PKG_AVG_W : Fld := ⟨0xa08, 31, 16⟩
abbrev DEV_PWR_STATUS_PKG_W : Fld := ⟨0xa08, 15, 0⟩
/-! Table 16-9 (16_pins_power.md). -/
abbrev DEV_PWR_CTL : Fld := ⟨0xa10, 63, 0⟩
abbrev DEV_PWR_CTL_OFF_ACK : Fld := ⟨0xa10, 63, 63⟩
abbrev DEV_PWR_CTL_OFF_GRACE_MS : Fld := ⟨0xa10, 31, 0⟩
/-! Table 16-10 (16_pins_power.md). -/
abbrev DEV_TEMP_SEL : Fld := ⟨0xa18, 63, 0⟩
abbrev DEV_TEMP_SEL_TEMP : Fld := ⟨0xa18, 63, 56⟩
abbrev DEV_TEMP_SEL_DOMAIN : Fld := ⟨0xa18, 9, 0⟩
/-! Table 16-11 (16_pins_power.md). -/
abbrev DEV_PWR_STRETCH_MS : Fld := ⟨0xa40, 63, 0⟩
abbrev DEV_PWR_PEAK_EVENTS : Fld := ⟨0xa48, 63, 0⟩
abbrev DEV_PWR_HOLDS : Fld := ⟨0xa50, 63, 0⟩
abbrev DEV_PWR_FREEZES : Fld := ⟨0xa58, 63, 0⟩
abbrev DEV_PWR_MAIN_UPS : Fld := ⟨0xa60, 63, 0⟩
/-! Table 01-2 (01_organisation.md). -/
abbrev PART_MAP_GEN : Fld := ⟨0x1000100, 63, 0⟩
abbrev PART_MAP_GEN_GEN : Fld := ⟨0x1000100, 31, 0⟩
/-! Table 01-3 (01_organisation.md). -/
abbrev PART_LMAP : Fld := ⟨0x1000200, 63, 0⟩
abbrev PART_LMAP_L3_STATE : Fld := ⟨0x1000200, 63, 62⟩
abbrev PART_LMAP_L3_PC : Fld := ⟨0x1000200, 57, 48⟩
abbrev PART_LMAP_L2_STATE : Fld := ⟨0x1000200, 47, 46⟩
abbrev PART_LMAP_L2_PC : Fld := ⟨0x1000200, 41, 32⟩
abbrev PART_LMAP_L1_STATE : Fld := ⟨0x1000200, 31, 30⟩
abbrev PART_LMAP_L1_PC : Fld := ⟨0x1000200, 25, 16⟩
abbrev PART_LMAP_L0_STATE : Fld := ⟨0x1000200, 15, 14⟩
abbrev PART_LMAP_L0_PC : Fld := ⟨0x1000200, 9, 0⟩
/-! Table 01-4 (01_organisation.md). -/
abbrev PART_SLOT : Fld := ⟨0x1000280, 63, 0⟩
abbrev PART_SLOT_S0 : Fld := ⟨0x1000280, 3, 0⟩
abbrev PART_SLOT_S1 : Fld := ⟨0x1000280, 7, 4⟩
abbrev PART_SLOT_S2 : Fld := ⟨0x1000280, 11, 8⟩
abbrev PART_SLOT_S3 : Fld := ⟨0x1000280, 15, 12⟩
abbrev PART_SLOT_S4 : Fld := ⟨0x1000280, 19, 16⟩
abbrev PART_SLOT_S5 : Fld := ⟨0x1000280, 23, 20⟩
abbrev PART_SLOT_S6 : Fld := ⟨0x1000280, 27, 24⟩
abbrev PART_SLOT_S7 : Fld := ⟨0x1000280, 31, 28⟩
abbrev PART_SLOT_S8 : Fld := ⟨0x1000280, 35, 32⟩
abbrev PART_SLOT_S9 : Fld := ⟨0x1000280, 39, 36⟩
abbrev PART_SLOT_S10 : Fld := ⟨0x1000280, 43, 40⟩
abbrev PART_SLOT_S11 : Fld := ⟨0x1000280, 47, 44⟩
abbrev PART_SLOT_S12 : Fld := ⟨0x1000280, 51, 48⟩
abbrev PART_SLOT_S13 : Fld := ⟨0x1000280, 55, 52⟩
abbrev PART_SLOT_S14 : Fld := ⟨0x1000280, 59, 56⟩
abbrev PART_SLOT_S15 : Fld := ⟨0x1000280, 63, 60⟩
/-! Table 03-11 (03_cell_core.md). -/
abbrev CELL_CORE_INFO : Fld := ⟨0x2000000, 63, 0⟩
abbrev CELL_CORE_INFO_STEPPING : Fld := ⟨0x2000000, 15, 8⟩
abbrev CELL_CORE_INFO_NCTX : Fld := ⟨0x2000000, 5, 0⟩
/-! Table 03-12 (03_cell_core.md). -/
abbrev CELL_CTX_STATE : Fld := ⟨0x2000040, 63, 0⟩
abbrev CELL_CTX_STATE_C0 : Fld := ⟨0x2000040, 7, 0⟩
abbrev CELL_CTX_STATE_C1 : Fld := ⟨0x2000040, 15, 8⟩
abbrev CELL_CTX_STATE_C2 : Fld := ⟨0x2000040, 23, 16⟩
abbrev CELL_CTX_STATE_C3 : Fld := ⟨0x2000040, 31, 24⟩
abbrev CELL_CTX_STATE_C4 : Fld := ⟨0x2000040, 39, 32⟩
abbrev CELL_CTX_STATE_C5 : Fld := ⟨0x2000040, 47, 40⟩
abbrev CELL_CTX_STATE_C6 : Fld := ⟨0x2000040, 55, 48⟩
abbrev CELL_CTX_STATE_C7 : Fld := ⟨0x2000040, 63, 56⟩
/-! Table 03-13 (03_cell_core.md). -/
abbrev CELL_CTX_CTL : Fld := ⟨0x2000060, 63, 0⟩
abbrev CELL_CTX_CTL_DESC : Fld := ⟨0x2000060, 63, 40⟩
abbrev CELL_CTX_CTL_CMD : Fld := ⟨0x2000060, 10, 8⟩
abbrev CELL_CTX_CTL_CTX : Fld := ⟨0x2000060, 4, 0⟩
/-! Table 03-14 (03_cell_core.md). -/
abbrev CELL_CTX_CTL_STATUS : Fld := ⟨0x2000068, 63, 0⟩
abbrev CELL_CTX_CTL_STATUS_CMD : Fld := ⟨0x2000068, 18, 16⟩
abbrev CELL_CTX_CTL_STATUS_CTX : Fld := ⟨0x2000068, 12, 8⟩
abbrev CELL_CTX_CTL_STATUS_RESULT : Fld := ⟨0x2000068, 2, 0⟩
/-! Table 03-15 (03_cell_core.md). -/
abbrev CELL_CTX_FAULT_NAME : Fld := ⟨0x2000080, 63, 0⟩
/-! Table 03-16 (03_cell_core.md). -/
abbrev CELL_CTX_FAULT_BEAT : Fld := ⟨0x2000088, 63, 0⟩
/-! Table 03-17 (03_cell_core.md). -/
abbrev CELL_CTX_FAULT_CAUSE : Fld := ⟨0x2000090, 63, 0⟩
abbrev CELL_CTX_FAULT_CAUSE_VALID : Fld := ⟨0x2000090, 63, 63⟩
abbrev CELL_CTX_FAULT_CAUSE_LOST : Fld := ⟨0x2000090, 62, 62⟩
abbrev CELL_CTX_FAULT_CAUSE_CAUSE : Fld := ⟨0x2000090, 7, 0⟩
/-! Table 03-18 (03_cell_core.md). -/
abbrev CELL_RETIRED : Fld := ⟨0x20000c0, 63, 0⟩
abbrev CELL_PARKS : Fld := ⟨0x20000c8, 63, 0⟩
abbrev CELL_MISPREDICTS : Fld := ⟨0x20000d0, 63, 0⟩
abbrev CELL_TASK_SWITCHES : Fld := ⟨0x20000d8, 63, 0⟩
abbrev CELL_VEC_BUSY : Fld := ⟨0x20000e0, 63, 0⟩
abbrev CELL_IDLE : Fld := ⟨0x20000e8, 63, 0⟩
/-! Table 02-10 (02_arithmetic.md). -/
abbrev CELL_ARITH_STATUS : Fld := ⟨0x2000300, 63, 0⟩
abbrev CELL_ARITH_STATUS_VEC_INVALID : Fld := ⟨0x2000300, 7, 7⟩
abbrev CELL_ARITH_STATUS_VEC_OVERFLOW : Fld := ⟨0x2000300, 6, 6⟩
abbrev CELL_ARITH_STATUS_ROUND_NAN : Fld := ⟨0x2000300, 5, 5⟩
abbrev CELL_ARITH_STATUS_ROUND_INF : Fld := ⟨0x2000300, 4, 4⟩
abbrev CELL_ARITH_STATUS_ROUND_SAT : Fld := ⟨0x2000300, 3, 3⟩
abbrev CELL_ARITH_STATUS_NONFINITE_IN : Fld := ⟨0x2000300, 2, 2⟩
abbrev CELL_ARITH_STATUS_OVERFLOW : Fld := ⟨0x2000300, 1, 1⟩
abbrev CELL_ARITH_STATUS_UNDERFLOW_INEXACT : Fld := ⟨0x2000300, 0, 0⟩
/-! Table 04-11 (04_array.md). -/
abbrev CELL_ARR_STATUS : Fld := ⟨0x2000400, 63, 0⟩
abbrev CELL_ARR_STATUS_RUN_HANDLE : Fld := ⟨0x2000400, 63, 32⟩
abbrev CELL_ARR_STATUS_RUN_VALID : Fld := ⟨0x2000400, 31, 31⟩
abbrev CELL_ARR_STATUS_RUN_CTX : Fld := ⟨0x2000400, 30, 26⟩
abbrev CELL_ARR_STATUS_PEND_VALID : Fld := ⟨0x2000400, 25, 25⟩
abbrev CELL_ARR_STATUS_PEND_CTX : Fld := ⟨0x2000400, 24, 20⟩
abbrev CELL_ARR_STATUS_ACTIVE : Fld := ⟨0x2000400, 19, 19⟩
abbrev CELL_ARR_STATUS_DRAINING : Fld := ⟨0x2000400, 18, 18⟩
abbrev CELL_ARR_STATUS_HELD : Fld := ⟨0x2000400, 17, 17⟩
/-! Table 04-12 (04_array.md). -/
abbrev CELL_ARR_PLANE : Fld := ⟨0x2000408, 63, 0⟩
abbrev CELL_ARR_PLANE_STATE : Fld := ⟨0x2000408, 19, 18⟩
abbrev CELL_ARR_PLANE_MODE : Fld := ⟨0x2000408, 16, 16⟩
abbrev CELL_ARR_PLANE_IMAGE_ID : Fld := ⟨0x2000408, 15, 0⟩
/-! Table 04-13 (04_array.md). -/
abbrev CELL_ARR_STRIP_MAP : Fld := ⟨0x2000418, 63, 0⟩
abbrev CELL_ARR_STRIP_MAP_REPAIRED : Fld := ⟨0x2000418, 7, 7⟩
abbrev CELL_ARR_STRIP_MAP_BAD : Fld := ⟨0x2000418, 5, 0⟩
/-! Table 04-14 (04_array.md). -/
abbrev CELL_ARR_CHECK : Fld := ⟨0x2000420, 63, 0⟩
abbrev CELL_ARR_CHECK_VALID : Fld := ⟨0x2000420, 63, 63⟩
abbrev CELL_ARR_CHECK_LOST : Fld := ⟨0x2000420, 62, 62⟩
abbrev CELL_ARR_CHECK_RETRY_FAILED : Fld := ⟨0x2000420, 61, 61⟩
abbrev CELL_ARR_CHECK_INEXACT : Fld := ⟨0x2000420, 60, 60⟩
abbrev CELL_ARR_CHECK_HANDLE : Fld := ⟨0x2000420, 31, 0⟩
/-! Table 04-15 (04_array.md). -/
abbrev CELL_ARR_CHECK_ROWS : Fld := ⟨0x2000428, 63, 0⟩
abbrev CELL_ARR_CHECK_ROWS_MASK : Fld := ⟨0x2000428, 32, 0⟩
abbrev CELL_ARR_CHECK_COLS : Fld := ⟨0x2000430, 63, 0⟩
abbrev CELL_ARR_CHECK_COLS_MASK : Fld := ⟨0x2000430, 32, 0⟩
/-! Table 04-16 (04_array.md). -/
abbrev CELL_ARR_FAULT : Fld := ⟨0x2000438, 63, 0⟩
abbrev CELL_ARR_FAULT_VALID : Fld := ⟨0x2000438, 63, 63⟩
abbrev CELL_ARR_FAULT_LOST : Fld := ⟨0x2000438, 62, 62⟩
abbrev CELL_ARR_FAULT_KIND : Fld := ⟨0x2000438, 55, 48⟩
abbrev CELL_ARR_FAULT_UNIT : Fld := ⟨0x2000438, 47, 40⟩
abbrev CELL_ARR_FAULT_LANE : Fld := ⟨0x2000438, 39, 29⟩
abbrev CELL_ARR_FAULT_TAG_A : Fld := ⟨0x2000438, 15, 8⟩
abbrev CELL_ARR_FAULT_TAG_B : Fld := ⟨0x2000438, 7, 0⟩
/-! Table 04-17 (04_array.md). -/
abbrev CELL_ARR_IMBAL_SEL : Fld := ⟨0x2000448, 63, 0⟩
abbrev CELL_ARR_IMBAL_SEL_UNIT : Fld := ⟨0x2000448, 6, 0⟩
/-! Table 04-18 (04_array.md). -/
abbrev CELL_ARR_IMBAL_UNIT : Fld := ⟨0x2000450, 63, 0⟩
abbrev CELL_ARR_LAUNCHES : Fld := ⟨0x2000460, 63, 0⟩
abbrev CELL_ARR_TILES : Fld := ⟨0x2000468, 63, 0⟩
abbrev CELL_ARR_TILE_RETRIES : Fld := ⟨0x2000470, 63, 0⟩
abbrev CELL_ARR_INEXACT_CHECKS : Fld := ⟨0x2000478, 63, 0⟩
abbrev CELL_ARR_BUSY : Fld := ⟨0x2000480, 63, 0⟩
abbrev CELL_ARR_IMBAL_STALL : Fld := ⟨0x2000488, 63, 0⟩
abbrev CELL_ARR_DRAINS : Fld := ⟨0x2000490, 63, 0⟩
abbrev CELL_ARR_LINK_CORRECTED : Fld := ⟨0x2000498, 63, 0⟩
/-! Table 05-7 (05_scratchpad.md). -/
abbrev SPAD_OPSET : Fld := ⟨0x2000500, 63, 0⟩
abbrev SPAD_OPSET_SWITCHING : Fld := ⟨0x2000500, 2, 2⟩
abbrev SPAD_OPSET_CUR : Fld := ⟨0x2000500, 1, 1⟩
abbrev SPAD_OPSET_REQ : Fld := ⟨0x2000500, 0, 0⟩
/-! Table 05-8 (05_scratchpad.md). -/
abbrev SPAD_NM_CTL : Fld := ⟨0x2000508, 63, 0⟩
abbrev SPAD_NM_CTL_EN : Fld := ⟨0x2000508, 63, 63⟩
abbrev SPAD_NM_CTL_CHAN : Fld := ⟨0x2000508, 5, 0⟩
/-! Table 05-9 (05_scratchpad.md). -/
abbrev SPAD_NM_STATUS : Fld := ⟨0x2000510, 63, 0⟩
abbrev SPAD_NM_STATUS_BUSY : Fld := ⟨0x2000510, 63, 63⟩
abbrev SPAD_NM_STATUS_HELD : Fld := ⟨0x2000510, 62, 62⟩
abbrev SPAD_NM_STATUS_LAST_OP : Fld := ⟨0x2000510, 15, 8⟩
abbrev SPAD_NM_STATUS_LAST_RESULT : Fld := ⟨0x2000510, 7, 0⟩
/-! Table 05-10 (05_scratchpad.md). -/
abbrev SPAD_ECC_LAST : Fld := ⟨0x2000518, 63, 0⟩
abbrev SPAD_ECC_LAST_VALID : Fld := ⟨0x2000518, 63, 63⟩
abbrev SPAD_ECC_LAST_DOUBLE : Fld := ⟨0x2000518, 62, 62⟩
abbrev SPAD_ECC_LAST_OFFSET : Fld := ⟨0x2000518, 23, 0⟩
/-! Table 05-11 (05_scratchpad.md). -/
abbrev SPAD_NM_CMDS : Fld := ⟨0x2000540, 63, 0⟩
abbrev SPAD_NM_REFUSED : Fld := ⟨0x2000548, 63, 0⟩
abbrev SPAD_NARROW_PROMOTED : Fld := ⟨0x2000550, 63, 0⟩
abbrev SPAD_NARROW_WAIT : Fld := ⟨0x2000558, 63, 0⟩
abbrev SPAD_CORRECTED : Fld := ⟨0x2000560, 63, 0⟩
abbrev SPAD_SCRUB_PASSES : Fld := ⟨0x2000568, 63, 0⟩
/-! Table 06-4 (06_sync_counters.md). -/
abbrev CELL_SYNC_SEL : Fld := ⟨0x2000600, 63, 0⟩
abbrev CELL_SYNC_SEL_RESULT : Fld := ⟨0x2000600, 63, 62⟩
abbrev CELL_SYNC_SEL_CTR : Fld := ⟨0x2000600, 7, 0⟩
/-! Table 06-5 (06_sync_counters.md). -/
abbrev CELL_SYNC_VALUE : Fld := ⟨0x2000608, 63, 0⟩
/-! Table 06-6 (06_sync_counters.md). -/
abbrev CELL_SYNC_WAITERS : Fld := ⟨0x2000610, 63, 0⟩
abbrev CELL_SYNC_WAITERS_MASK : Fld := ⟨0x2000610, 31, 0⟩
/-! Table 06-7 (06_sync_counters.md). -/
abbrev CELL_SYNC_STATUS : Fld := ⟨0x2000618, 63, 0⟩
abbrev CELL_SYNC_STATUS_SAT : Fld := ⟨0x2000618, 0, 0⟩
/-! Table 06-8 (06_sync_counters.md). -/
abbrev CELL_SYNC_ALIGN : Fld := ⟨0x2000640, 63, 0⟩
abbrev CELL_SYNC_ALIGN_EN : Fld := ⟨0x2000640, 63, 63⟩
abbrev CELL_SYNC_ALIGN_ROLE : Fld := ⟨0x2000640, 62, 62⟩
abbrev CELL_SYNC_ALIGN_COUNTER : Fld := ⟨0x2000640, 61, 54⟩
abbrev CELL_SYNC_ALIGN_BASE : Fld := ⟨0x2000640, 47, 32⟩
abbrev CELL_SYNC_ALIGN_EXPECT : Fld := ⟨0x2000640, 31, 0⟩
/-! Table 06-9 (06_sync_counters.md). -/
abbrev CELL_SYNC_DRIFT_LAST : Fld := ⟨0x20006c0, 63, 0⟩
abbrev CELL_SYNC_DRIFT_LAST_VALID : Fld := ⟨0x20006c0, 63, 63⟩
abbrev CELL_SYNC_DRIFT_LAST_WAITER : Fld := ⟨0x20006c0, 62, 62⟩
abbrev CELL_SYNC_DRIFT_LAST_ENTRY : Fld := ⟨0x20006c0, 59, 56⟩
abbrev CELL_SYNC_DRIFT_LAST_DELTA : Fld := ⟨0x20006c0, 31, 0⟩
/-! Table 06-10 (06_sync_counters.md). -/
abbrev CELL_SYNC_DRIFTS : Fld := ⟨0x20006d0, 63, 0⟩
abbrev CELL_SYNC_DBG_WRITES : Fld := ⟨0x20006d8, 63, 0⟩
abbrev CELL_SYNC_WAKES : Fld := ⟨0x20006e0, 63, 0⟩
/-! Table 07-11 (07_channels.md). -/
abbrev CELL_CHAN_SEL : Fld := ⟨0x2000700, 63, 0⟩
abbrev CELL_CHAN_SEL_RESULT : Fld := ⟨0x2000700, 63, 60⟩
abbrev CELL_CHAN_SEL_CQ : Fld := ⟨0x2000700, 18, 16⟩
abbrev CELL_CHAN_SEL_SEP : Fld := ⟨0x2000700, 13, 8⟩
abbrev CELL_CHAN_SEL_CHAN : Fld := ⟨0x2000700, 5, 0⟩
/-! Table 07-12 (07_channels.md). -/
abbrev CELL_CHAN_RING : Fld := ⟨0x2000708, 63, 0⟩
abbrev CELL_CHAN_RING_OPEN : Fld := ⟨0x2000708, 63, 63⟩
abbrev CELL_CHAN_RING_SIZE : Fld := ⟨0x2000708, 59, 56⟩
abbrev CELL_CHAN_RING_BATCH : Fld := ⟨0x2000708, 55, 53⟩
abbrev CELL_CHAN_RING_POST_EN : Fld := ⟨0x2000708, 52, 52⟩
abbrev CELL_CHAN_RING_POST_CTR : Fld := ⟨0x2000708, 51, 44⟩
abbrev CELL_CHAN_RING_BASE : Fld := ⟨0x2000708, 23, 0⟩
/-! Table 07-13 (07_channels.md). -/
abbrev CELL_CHAN_GEN : Fld := ⟨0x2000710, 63, 0⟩
abbrev CELL_CHAN_GEN_GEN : Fld := ⟨0x2000710, 31, 0⟩
/-! Table 07-14 (07_channels.md). -/
abbrev CELL_CHAN_PTR : Fld := ⟨0x2000718, 63, 0⟩
abbrev CELL_CHAN_PTR_ARRIVED : Fld := ⟨0x2000718, 51, 32⟩
abbrev CELL_CHAN_PTR_RD : Fld := ⟨0x2000718, 19, 0⟩
/-! Table 07-15 (07_channels.md). -/
abbrev CELL_CHAN_SRC : Fld := ⟨0x2000720, 63, 0⟩
abbrev CELL_CHAN_SRC_VALID : Fld := ⟨0x2000720, 63, 63⟩
abbrev CELL_CHAN_SRC_OS : Fld := ⟨0x2000720, 62, 62⟩
abbrev CELL_CHAN_SRC_DEVICE : Fld := ⟨0x2000720, 61, 52⟩
abbrev CELL_CHAN_SRC_LC : Fld := ⟨0x2000720, 51, 43⟩
abbrev CELL_CHAN_SRC_AON : Fld := ⟨0x2000720, 42, 42⟩
abbrev CELL_CHAN_SRC_SEP : Fld := ⟨0x2000720, 7, 0⟩
/-! Table 07-16 (07_channels.md). -/
abbrev CELL_CHAN_CMD : Fld := ⟨0x2000728, 63, 0⟩
abbrev CELL_CHAN_CMD_DESC : Fld := ⟨0x2000728, 63, 40⟩
abbrev CELL_CHAN_CMD_CMD : Fld := ⟨0x2000728, 2, 0⟩
/-! Table 07-17 (07_channels.md). -/
abbrev CELL_SEP_TARGET : Fld := ⟨0x2000740, 63, 0⟩
abbrev CELL_SEP_TARGET_OS : Fld := ⟨0x2000740, 63, 63⟩
abbrev CELL_SEP_TARGET_MCAST : Fld := ⟨0x2000740, 62, 62⟩
abbrev CELL_SEP_TARGET_CLASS : Fld := ⟨0x2000740, 61, 61⟩
abbrev CELL_SEP_TARGET_DEVICE : Fld := ⟨0x2000740, 55, 46⟩
abbrev CELL_SEP_TARGET_LC : Fld := ⟨0x2000740, 45, 37⟩
abbrev CELL_SEP_TARGET_CHAN : Fld := ⟨0x2000740, 36, 29⟩
/-! Table 07-18 (07_channels.md). -/
abbrev CELL_SEP_MCAST : Fld := ⟨0x2000748, 63, 0⟩
abbrev CELL_SEP_MCAST_COLMASK : Fld := ⟨0x2000748, 63, 32⟩
abbrev CELL_SEP_MCAST_ROW_HI : Fld := ⟨0x2000748, 31, 28⟩
abbrev CELL_SEP_MCAST_ROW_LO : Fld := ⟨0x2000748, 27, 24⟩
abbrev CELL_SEP_MCAST_INCL_OWN : Fld := ⟨0x2000748, 23, 23⟩
abbrev CELL_SEP_MCAST_DIM : Fld := ⟨0x2000748, 22, 20⟩
abbrev CELL_SEP_MCAST_DIR : Fld := ⟨0x2000748, 19, 19⟩
abbrev CELL_SEP_MCAST_HOPS : Fld := ⟨0x2000748, 18, 15⟩
/-! Table 07-19 (07_channels.md). -/
abbrev CELL_SEP_STATE : Fld := ⟨0x2000750, 63, 0⟩
abbrev CELL_SEP_STATE_STATE : Fld := ⟨0x2000750, 63, 61⟩
abbrev CELL_SEP_STATE_REASON : Fld := ⟨0x2000750, 60, 56⟩
abbrev CELL_SEP_STATE_SIZE : Fld := ⟨0x2000750, 55, 52⟩
abbrev CELL_SEP_STATE_WR : Fld := ⟨0x2000750, 51, 32⟩
abbrev CELL_SEP_STATE_GEN : Fld := ⟨0x2000750, 31, 0⟩
/-! Table 07-20 (07_channels.md). -/
abbrev CELL_SEP_CREDITS : Fld := ⟨0x2000758, 63, 0⟩
abbrev CELL_SEP_CREDITS_SENT : Fld := ⟨0x2000758, 63, 32⟩
abbrev CELL_SEP_CREDITS_FREED : Fld := ⟨0x2000758, 31, 0⟩
/-! Table 07-23 (07_channels.md). -/
abbrev CELL_CHAN_MSGS_RECV : Fld := ⟨0x2000780, 63, 0⟩
abbrev CELL_CHAN_BYTES_RECV : Fld := ⟨0x2000788, 63, 0⟩
abbrev CELL_CHAN_PADS : Fld := ⟨0x2000790, 63, 0⟩
abbrev CELL_CHAN_ORPHANS : Fld := ⟨0x2000798, 63, 0⟩
abbrev CELL_SEP_MSGS_SENT : Fld := ⟨0x20007a0, 63, 0⟩
abbrev CELL_SEP_BYTES_SENT : Fld := ⟨0x20007a8, 63, 0⟩
abbrev CELL_SEP_CREDIT_STALL : Fld := ⟨0x20007b0, 63, 0⟩
abbrev CELL_SEP_CREDIT_FAULTS : Fld := ⟨0x20007b8, 63, 0⟩
/-! Table 07-21 (07_channels.md). -/
abbrev CELL_CQ_STATE : Fld := ⟨0x2000800, 63, 0⟩
abbrev CELL_CQ_STATE_STATE : Fld := ⟨0x2000800, 63, 61⟩
abbrev CELL_CQ_STATE_MODE : Fld := ⟨0x2000800, 60, 60⟩
abbrev CELL_CQ_STATE_RECEIVED : Fld := ⟨0x2000800, 58, 48⟩
abbrev CELL_CQ_STATE_NEXT : Fld := ⟨0x2000800, 42, 32⟩
abbrev CELL_CQ_STATE_SEQ : Fld := ⟨0x2000800, 31, 0⟩
/-! Table 07-22 (07_channels.md). -/
abbrev CELL_CQ_EPOCH : Fld := ⟨0x2000808, 63, 0⟩
abbrev CELL_CQ_EPOCH_USED : Fld := ⟨0x2000808, 63, 63⟩
abbrev CELL_CQ_EPOCH_EPOCH : Fld := ⟨0x2000808, 31, 0⟩
/-! Table 07-23 (07_channels.md). -/
abbrev CELL_CQ_CONTRIB : Fld := ⟨0x2000840, 63, 0⟩
abbrev CELL_CQ_DUPS : Fld := ⟨0x2000848, 63, 0⟩
abbrev CELL_CQ_STALE : Fld := ⟨0x2000850, 63, 0⟩
abbrev CELL_CQ_EARLY : Fld := ⟨0x2000858, 63, 0⟩
abbrev CELL_CQ_REJECTS : Fld := ⟨0x2000860, 63, 0⟩
abbrev CELL_CQ_POSTS : Fld := ⟨0x2000868, 63, 0⟩
/-! Table 09-15 (09_mesh_thernolink.md). -/
abbrev CELL_RTR_FLITS : Fld := ⟨0x2000900, 63, 0⟩
abbrev CELL_RTR_CORRECTED : Fld := ⟨0x2000908, 63, 0⟩
abbrev CELL_RTR_ESCAPE : Fld := ⟨0x2000910, 63, 0⟩
abbrev CELL_RTR_FORWARDED : Fld := ⟨0x2000918, 63, 0⟩
abbrev CELL_RTR_S_CONFLICT : Fld := ⟨0x2000920, 63, 0⟩
abbrev CELL_RTR_E2E_CRC : Fld := ⟨0x2000928, 63, 0⟩
/-! Table 08-20 (08_hubs_far_memory.md). -/
abbrev HUB_COMMONS_ECC_LAST : Fld := ⟨0x3000000, 63, 0⟩
abbrev HUB_COMMONS_ECC_LAST_VALID : Fld := ⟨0x3000000, 63, 63⟩
abbrev HUB_COMMONS_ECC_LAST_DOUBLE : Fld := ⟨0x3000000, 62, 62⟩
abbrev HUB_COMMONS_ECC_LAST_OFFSET : Fld := ⟨0x3000000, 24, 0⟩
abbrev HUB_COMMONS_CORRECTED : Fld := ⟨0x3000100, 63, 0⟩
abbrev HUB_SCRUB_PASSES : Fld := ⟨0x3000108, 63, 0⟩
/-! Table 08-11 (08_hubs_far_memory.md). -/
abbrev ENG_INFO : Fld := ⟨0x4000000, 63, 0⟩
abbrev ENG_INFO_INFLIGHT : Fld := ⟨0x4000000, 23, 16⟩
abbrev ENG_INFO_NQUEUE : Fld := ⟨0x4000000, 15, 8⟩
abbrev ENG_INFO_KIND : Fld := ⟨0x4000000, 3, 0⟩
/-! Table 08-12 (08_hubs_far_memory.md). -/
abbrev ENG_CTL : Fld := ⟨0x4000008, 63, 0⟩
abbrev ENG_CTL_FENCED : Fld := ⟨0x4000008, 63, 63⟩
abbrev ENG_CTL_ISOLATE : Fld := ⟨0x4000008, 62, 62⟩
abbrev ENG_CTL_REDIRECTED : Fld := ⟨0x4000008, 61, 61⟩
abbrev ENG_CTL_SERVING : Fld := ⟨0x4000008, 60, 60⟩
/-! Table 08-13 (08_hubs_far_memory.md). -/
abbrev ENG_WQ_SEL : Fld := ⟨0x4000010, 63, 0⟩
abbrev ENG_WQ_SEL_RESULT : Fld := ⟨0x4000010, 63, 60⟩
abbrev ENG_WQ_SEL_Q : Fld := ⟨0x4000010, 5, 0⟩
/-! Table 08-14 (08_hubs_far_memory.md). -/
abbrev ENG_WQ_CFG : Fld := ⟨0x4000018, 63, 0⟩
abbrev ENG_WQ_CFG_EN : Fld := ⟨0x4000018, 63, 63⟩
abbrev ENG_WQ_CFG_CLASS : Fld := ⟨0x4000018, 62, 62⟩
abbrev ENG_WQ_CFG_PRIO : Fld := ⟨0x4000018, 61, 60⟩
abbrev ENG_WQ_CFG_PKIND : Fld := ⟨0x4000018, 59, 58⟩
abbrev ENG_WQ_CFG_PLC : Fld := ⟨0x4000018, 57, 49⟩
abbrev ENG_WQ_CFG_SIZE : Fld := ⟨0x4000018, 48, 45⟩
abbrev ENG_WQ_CFG_BASE : Fld := ⟨0x4000018, 24, 0⟩
/-! Table 08-15 (08_hubs_far_memory.md). -/
abbrev ENG_WQ_PTR : Fld := ⟨0x4000020, 63, 0⟩
abbrev ENG_WQ_PTR_NEXT : Fld := ⟨0x4000020, 63, 32⟩
abbrev ENG_WQ_PTR_PENDING : Fld := ⟨0x4000020, 12, 0⟩
/-! Table 08-16 (08_hubs_far_memory.md). -/
abbrev ENG_WQ_CMD : Fld := ⟨0x4000028, 63, 0⟩
abbrev ENG_WQ_CMD_CMD : Fld := ⟨0x4000028, 1, 0⟩
/-! Table 08-17 (08_hubs_far_memory.md). -/
abbrev ENG_REFUSED_LAST : Fld := ⟨0x4000030, 63, 0⟩
abbrev ENG_REFUSED_LAST_VALID : Fld := ⟨0x4000030, 63, 63⟩
abbrev ENG_REFUSED_LAST_Q : Fld := ⟨0x4000030, 53, 48⟩
abbrev ENG_REFUSED_LAST_REASON : Fld := ⟨0x4000030, 39, 32⟩
abbrev ENG_REFUSED_LAST_SEQ : Fld := ⟨0x4000030, 31, 0⟩
/-! Table 08-19 (08_hubs_far_memory.md). -/
abbrev ENG_ITEMS_DONE : Fld := ⟨0x4000100, 63, 0⟩
abbrev ENG_ITEMS_ABORTED : Fld := ⟨0x4000108, 63, 0⟩
abbrev ENG_ITEMS_FAILED : Fld := ⟨0x4000110, 63, 0⟩
abbrev ENG_WRITES_REFUSED : Fld := ⟨0x4000118, 63, 0⟩
abbrev ENG_BUSY : Fld := ⟨0x4000120, 63, 0⟩
abbrev ENG_BYTES_IN : Fld := ⟨0x4000128, 63, 0⟩
abbrev ENG_BYTES_OUT : Fld := ⟨0x4000130, 63, 0⟩
abbrev ENG_REPLAYS : Fld := ⟨0x4000138, 63, 0⟩
/-! Table 08-18 (08_hubs_far_memory.md). -/
abbrev ENG_SG_KEY_LO : Fld := ⟨0x4000200, 63, 0⟩
abbrev ENG_SG_KEY_HI : Fld := ⟨0x4000208, 63, 0⟩
/-! Table 08-21 (08_hubs_far_memory.md). -/
abbrev FAR_INFO : Fld := ⟨0x5000000, 63, 0⟩
abbrev FAR_INFO_DENSITY : Fld := ⟨0x5000000, 47, 40⟩
abbrev FAR_INFO_SPPR_CAP : Fld := ⟨0x5000000, 39, 39⟩
abbrev FAR_INFO_GRANULES : Fld := ⟨0x5000000, 31, 0⟩
/-! Table 08-22 (08_hubs_far_memory.md). -/
abbrev FAR_STATUS : Fld := ⟨0x5000008, 63, 0⟩
abbrev FAR_STATUS_STATE : Fld := ⟨0x5000008, 63, 61⟩
/-! Table 08-23 (08_hubs_far_memory.md). -/
abbrev FAR_ECC_LAST : Fld := ⟨0x5000010, 63, 0⟩
abbrev FAR_ECC_LAST_VALID : Fld := ⟨0x5000010, 63, 63⟩
abbrev FAR_ECC_LAST_DOUBLE : Fld := ⟨0x5000010, 62, 62⟩
abbrev FAR_ECC_LAST_LGRANULE : Fld := ⟨0x5000010, 40, 16⟩
abbrev FAR_ECC_LAST_WORD : Fld := ⟨0x5000010, 8, 0⟩
/-! Table 08-24 (08_hubs_far_memory.md). -/
abbrev FAR_SPPR : Fld := ⟨0x5000018, 63, 0⟩
abbrev FAR_SPPR_LEFT : Fld := ⟨0x5000018, 47, 32⟩
abbrev FAR_SPPR_DONE : Fld := ⟨0x5000018, 15, 0⟩
/-! Table 08-25 (08_hubs_far_memory.md). -/
abbrev FAR_CORRECTED : Fld := ⟨0x5000100, 63, 0⟩
abbrev FAR_SCRUB_PASSES : Fld := ⟨0x5000108, 63, 0⟩
abbrev FAR_BYTES_S : Fld := ⟨0x5000110, 63, 0⟩
abbrev FAR_BYTES_U : Fld := ⟨0x5000118, 63, 0⟩
abbrev FAR_BYTES_OS : Fld := ⟨0x5000120, 63, 0⟩
abbrev FAR_SHARE_WAIT : Fld := ⟨0x5000128, 63, 0⟩
/-! Table 09-9 (09_mesh_thernolink.md). -/
abbrev TL_CFG : Fld := ⟨0x6000000, 63, 0⟩
abbrev TL_CFG_EN : Fld := ⟨0x6000000, 63, 63⟩
abbrev TL_CFG_FEC : Fld := ⟨0x6000000, 62, 62⟩
abbrev TL_CFG_DIM : Fld := ⟨0x6000000, 61, 59⟩
abbrev TL_CFG_DIR : Fld := ⟨0x6000000, 58, 58⟩
abbrev TL_CFG_NEIGH_ID : Fld := ⟨0x6000000, 57, 48⟩
abbrev TL_CFG_NEIGH_PORT : Fld := ⟨0x6000000, 47, 44⟩
/-! Table 09-10 (09_mesh_thernolink.md). -/
abbrev TL_LINK_STATUS : Fld := ⟨0x6000008, 63, 0⟩
abbrev TL_LINK_STATUS_STATE : Fld := ⟨0x6000008, 63, 60⟩
abbrev TL_LINK_STATUS_LANES : Fld := ⟨0x6000008, 59, 52⟩
abbrev TL_LINK_STATUS_FEC_CUR : Fld := ⟨0x6000008, 51, 51⟩
abbrev TL_LINK_STATUS_PARENT : Fld := ⟨0x6000008, 50, 50⟩
abbrev TL_LINK_STATUS_CFG_ERR : Fld := ⟨0x6000008, 49, 49⟩
abbrev TL_LINK_STATUS_WHY : Fld := ⟨0x6000008, 48, 44⟩
abbrev TL_LINK_STATUS_DELAY : Fld := ⟨0x6000008, 19, 0⟩
/-! Table 09-11 (09_mesh_thernolink.md). -/
abbrev TL_IDENT_SEEN : Fld := ⟨0x6000010, 63, 0⟩
abbrev TL_IDENT_SEEN_VALID : Fld := ⟨0x6000010, 63, 63⟩
abbrev TL_IDENT_SEEN_MASTER : Fld := ⟨0x6000010, 23, 14⟩
abbrev TL_IDENT_SEEN_PORT : Fld := ⟨0x6000010, 13, 10⟩
abbrev TL_IDENT_SEEN_DEVICE : Fld := ⟨0x6000010, 9, 0⟩
/-! Table 09-12 (09_mesh_thernolink.md). -/
abbrev TL_SHAPE_SEEN : Fld := ⟨0x6000018, 63, 0⟩
/-! Table 09-13 (09_mesh_thernolink.md). -/
abbrev TL_CMD : Fld := ⟨0x6000020, 63, 0⟩
abbrev TL_CMD_CMD : Fld := ⟨0x6000020, 1, 0⟩
/-! Table 09-14 (09_mesh_thernolink.md). -/
abbrev TL_CW_RX : Fld := ⟨0x6000100, 63, 0⟩
abbrev TL_SYM_CORRECTED : Fld := ⟨0x6000108, 63, 0⟩
abbrev TL_CW_UNCORR : Fld := ⟨0x6000110, 63, 0⟩
abbrev TL_REPLAYS : Fld := ⟨0x6000118, 63, 0⟩
abbrev TL_TX_S : Fld := ⟨0x6000120, 63, 0⟩
abbrev TL_TX_U : Fld := ⟨0x6000128, 63, 0⟩
abbrev TL_TX_C : Fld := ⟨0x6000130, 63, 0⟩
abbrev TL_RX_S : Fld := ⟨0x6000138, 63, 0⟩
abbrev TL_RX_U : Fld := ⟨0x6000140, 63, 0⟩
abbrev TL_RX_C : Fld := ⟨0x6000148, 63, 0⟩
abbrev TL_BUBBLE_WAIT : Fld := ⟨0x6000150, 63, 0⟩
abbrev TL_C_DEFERRED : Fld := ⟨0x6000158, 63, 0⟩
abbrev TL_LINK_DOWNS : Fld := ⟨0x6000160, 63, 0⟩
abbrev TL_LOST : Fld := ⟨0x6000168, 63, 0⟩
abbrev TL_S_CONFLICT : Fld := ⟨0x6000170, 63, 0⟩
abbrev TL_E2E_CRC : Fld := ⟨0x6000178, 63, 0⟩
/-! Table 10-16 (10_schedules.md). -/
abbrev SCHED_STATUS : Fld := ⟨0x7000000, 63, 0⟩
abbrev SCHED_STATUS_STATE : Fld := ⟨0x7000000, 63, 60⟩
abbrev SCHED_STATUS_RESULT : Fld := ⟨0x7000000, 59, 56⟩
abbrev SCHED_STATUS_VARIANT : Fld := ⟨0x7000000, 47, 32⟩
abbrev SCHED_STATUS_EPOCH : Fld := ⟨0x7000000, 31, 0⟩
/-! Table 10-17 (10_schedules.md). -/
abbrev SCHED_CMD : Fld := ⟨0x7000008, 63, 0⟩
abbrev SCHED_CMD_EPOCH : Fld := ⟨0x7000008, 63, 32⟩
abbrev SCHED_CMD_CMD : Fld := ⟨0x7000008, 2, 0⟩
/-! Table 10-18 (10_schedules.md). -/
abbrev SCHED_IMAGE_BASE : Fld := ⟨0x7000010, 63, 0⟩
abbrev SCHED_IMAGE_BASE_BASE : Fld := ⟨0x7000010, 47, 6⟩
/-! Table 10-19 (10_schedules.md). -/
abbrev SCHED_RESUME_POS : Fld := ⟨0x7000018, 63, 0⟩
abbrev SCHED_RESUME_POS_VARIANT : Fld := ⟨0x7000018, 63, 48⟩
abbrev SCHED_RESUME_POS_POS : Fld := ⟨0x7000018, 47, 0⟩
/-! Table 10-23 (10_schedules.md). -/
abbrev SCHED_RESUME_BEAT : Fld := ⟨0x7000020, 63, 0⟩
abbrev SCHED_POS : Fld := ⟨0x7000028, 63, 0⟩
abbrev SCHED_STEP : Fld := ⟨0x7000030, 63, 0⟩
abbrev SCHED_START_BEAT : Fld := ⟨0x7000038, 63, 0⟩
abbrev SCHED_HOLD_POS : Fld := ⟨0x7000040, 63, 0⟩
abbrev SCHED_HOLD_BEAT : Fld := ⟨0x7000048, 63, 0⟩
abbrev SCHED_SHAPE : Fld := ⟨0x7000050, 63, 0⟩
/-! Table 10-20 (10_schedules.md). -/
abbrev SCHED_HOLD : Fld := ⟨0x7000058, 63, 0⟩
abbrev SCHED_HOLD_VALID : Fld := ⟨0x7000058, 63, 63⟩
abbrev SCHED_HOLD_LOCAL : Fld := ⟨0x7000058, 62, 62⟩
abbrev SCHED_HOLD_CAUSE : Fld := ⟨0x7000058, 55, 48⟩
abbrev SCHED_HOLD_PORT : Fld := ⟨0x7000058, 47, 40⟩
abbrev SCHED_HOLD_ORIGIN : Fld := ⟨0x7000058, 39, 30⟩
abbrev SCHED_HOLD_LC : Fld := ⟨0x7000058, 29, 21⟩
abbrev SCHED_HOLD_COLL : Fld := ⟨0x7000058, 15, 0⟩
/-! Table 10-21 (10_schedules.md). -/
abbrev SCHED_STRETCH : Fld := ⟨0x7000060, 63, 0⟩
abbrev SCHED_STRETCH_NEXT : Fld := ⟨0x7000060, 31, 24⟩
abbrev SCHED_STRETCH_CUR : Fld := ⟨0x7000060, 23, 16⟩
abbrev SCHED_STRETCH_SYS_REQ : Fld := ⟨0x7000060, 15, 8⟩
abbrev SCHED_STRETCH_OS_REQ : Fld := ⟨0x7000060, 7, 0⟩
/-! Table 10-23 (10_schedules.md). -/
abbrev SCHED_STRETCH_BEAT : Fld := ⟨0x7000068, 63, 0⟩
/-! Table 10-22 (10_schedules.md). -/
abbrev SCHED_OVERRUN_LAST : Fld := ⟨0x7000070, 63, 0⟩
abbrev SCHED_OVERRUN_LAST_VALID : Fld := ⟨0x7000070, 63, 63⟩
abbrev SCHED_OVERRUN_LAST_KIND : Fld := ⟨0x7000070, 62, 62⟩
abbrev SCHED_OVERRUN_LAST_INDEX : Fld := ⟨0x7000070, 61, 32⟩
abbrev SCHED_OVERRUN_LAST_POS : Fld := ⟨0x7000070, 31, 0⟩
/-! Table 10-24 (10_schedules.md). -/
abbrev SCHED_BINDS : Fld := ⟨0x7000100, 63, 0⟩
abbrev SCHED_OVERRUNS : Fld := ⟨0x7000108, 63, 0⟩
abbrev SCHED_HOLDS : Fld := ⟨0x7000110, 63, 0⟩
abbrev SCHED_HOLD_MSGS : Fld := ⟨0x7000118, 63, 0⟩
abbrev SCHED_RESUMES : Fld := ⟨0x7000120, 63, 0⟩
abbrev SCHED_DISCARDED : Fld := ⟨0x7000128, 63, 0⟩
abbrev SCHED_WINDOWS : Fld := ⟨0x7000130, 63, 0⟩
abbrev SCHED_STRETCH_BEATS : Fld := ⟨0x7000138, 63, 0⟩
/-! Table 11-13 (11_patrol_repair.md). -/
abbrev BADGER_CTL : Fld := ⟨0x8000000, 63, 0⟩
abbrev BADGER_CTL_EN : Fld := ⟨0x8000000, 63, 63⟩
/-! Table 11-14 (11_patrol_repair.md). -/
abbrev BADGER_STATUS : Fld := ⟨0x8000008, 63, 0⟩
abbrev BADGER_STATUS_FIRST_LIGHT : Fld := ⟨0x8000008, 63, 63⟩
abbrev BADGER_STATUS_CAP_LOSS : Fld := ⟨0x8000008, 62, 62⟩
abbrev BADGER_STATUS_SCORE : Fld := ⟨0x8000008, 9, 0⟩
/-! Table 11-15 (11_patrol_repair.md). -/
abbrev BADGER_PERIOD : Fld := ⟨0x8000010, 63, 0⟩
/-! Table 11-16 (11_patrol_repair.md). -/
abbrev BADGER_REQ_CFG : Fld := ⟨0x8000018, 63, 0⟩
abbrev BADGER_REQ_CFG_HOLD : Fld := ⟨0x8000018, 63, 63⟩
abbrev BADGER_REQ_CFG_CAP_MIN : Fld := ⟨0x8000018, 47, 32⟩
abbrev BADGER_REQ_CFG_ADVISE_DAYS : Fld := ⟨0x8000018, 15, 0⟩
/-! Table 11-17 (11_patrol_repair.md). -/
abbrev BADGER_REQ : Fld := ⟨0x8000020, 63, 0⟩
abbrev BADGER_REQ_LEVEL : Fld := ⟨0x8000020, 63, 62⟩
abbrev BADGER_REQ_RAW : Fld := ⟨0x8000020, 61, 60⟩
abbrev BADGER_REQ_FROZEN : Fld := ⟨0x8000020, 59, 59⟩
abbrev BADGER_REQ_DAYS : Fld := ⟨0x8000020, 15, 0⟩
/-! Table 11-18 (11_patrol_repair.md). -/
abbrev BADGER_PART_HEALTH0 : Fld := ⟨0x8000028, 63, 0⟩
abbrev BADGER_PART_HEALTH0_P0 : Fld := ⟨0x8000028, 15, 0⟩
abbrev BADGER_PART_HEALTH0_P1 : Fld := ⟨0x8000028, 31, 16⟩
abbrev BADGER_PART_HEALTH0_P2 : Fld := ⟨0x8000028, 47, 32⟩
abbrev BADGER_PART_HEALTH0_P3 : Fld := ⟨0x8000028, 63, 48⟩
abbrev BADGER_PART_HEALTH1 : Fld := ⟨0x8000030, 63, 0⟩
abbrev BADGER_PART_HEALTH1_P0 : Fld := ⟨0x8000030, 15, 0⟩
abbrev BADGER_PART_HEALTH1_P1 : Fld := ⟨0x8000030, 31, 16⟩
abbrev BADGER_PART_HEALTH1_P2 : Fld := ⟨0x8000030, 47, 32⟩
abbrev BADGER_PART_HEALTH1_P3 : Fld := ⟨0x8000030, 63, 48⟩
/-! Table 11-19 (11_patrol_repair.md). -/
abbrev BADGER_CMD : Fld := ⟨0x8000038, 63, 0⟩
abbrev BADGER_CMD_TARGET : Fld := ⟨0x8000038, 25, 16⟩
abbrev BADGER_CMD_CMD : Fld := ⟨0x8000038, 2, 0⟩
/-! Table 11-20 (11_patrol_repair.md). -/
abbrev BADGER_CMD_STATUS : Fld := ⟨0x8000040, 63, 0⟩
abbrev BADGER_CMD_STATUS_RESULT : Fld := ⟨0x8000040, 2, 0⟩
/-! Table 11-21 (11_patrol_repair.md). -/
abbrev BADGER_MIGRATIONS : Fld := ⟨0x8000100, 63, 0⟩
abbrev BADGER_MIG_ABORTED : Fld := ⟨0x8000108, 63, 0⟩
abbrev BADGER_LIVE_MIGRATIONS : Fld := ⟨0x8000110, 63, 0⟩
abbrev BADGER_TESTS_PASSED : Fld := ⟨0x8000118, 63, 0⟩
abbrev BADGER_TESTS_FAILED : Fld := ⟨0x8000120, 63, 0⟩
abbrev BADGER_STRIKES : Fld := ⟨0x8000128, 63, 0⟩
abbrev BADGER_FENCES : Fld := ⟨0x8000130, 63, 0⟩
abbrev BADGER_REPAIRS : Fld := ⟨0x8000138, 63, 0⟩
abbrev BADGER_NOTICES : Fld := ⟨0x8000140, 63, 0⟩
/-! Table 11-22 (11_patrol_repair.md). -/
abbrev BADGER_ROW_STATE : Fld := ⟨0x8000000, 63, 0⟩
abbrev BADGER_ROW_STATE_PHASE : Fld := ⟨0x8000000, 63, 60⟩
abbrev BADGER_ROW_STATE_STAGE : Fld := ⟨0x8000000, 59, 58⟩
abbrev BADGER_ROW_STATE_FREE : Fld := ⟨0x8000000, 57, 55⟩
abbrev BADGER_ROW_STATE_SRC_PC : Fld := ⟨0x8000000, 54, 45⟩
abbrev BADGER_ROW_STATE_DST_PC : Fld := ⟨0x8000000, 44, 35⟩
abbrev BADGER_ROW_STATE_LC : Fld := ⟨0x8000000, 34, 26⟩
abbrev BADGER_ROW_STATE_TEST_PC : Fld := ⟨0x8000000, 25, 16⟩
abbrev BADGER_ROW_STATE_TEST_STEP : Fld := ⟨0x8000000, 15, 12⟩
abbrev BADGER_ROW_STATE_ABORTS : Fld := ⟨0x8000000, 7, 0⟩
/-! Table 11-23 (11_patrol_repair.md). -/
abbrev BADGER_ROW_LAST : Fld := ⟨0x8000008, 63, 0⟩
abbrev BADGER_ROW_LAST_VALID : Fld := ⟨0x8000008, 63, 63⟩
abbrev BADGER_ROW_LAST_SUSPECT : Fld := ⟨0x8000008, 62, 62⟩
abbrev BADGER_ROW_LAST_RESULT : Fld := ⟨0x8000008, 55, 48⟩
abbrev BADGER_ROW_LAST_PC : Fld := ⟨0x8000008, 41, 32⟩
abbrev BADGER_ROW_LAST_PERIOD : Fld := ⟨0x8000008, 31, 0⟩
/-! Table 11-24 (11_patrol_repair.md). -/
abbrev BADGER_SLOT : Fld := ⟨0x8000100, 63, 0⟩
abbrev BADGER_SLOT_LAST_PASS : Fld := ⟨0x8000100, 63, 48⟩
abbrev BADGER_SLOT_HEADROOM : Fld := ⟨0x8000100, 47, 40⟩
abbrev BADGER_SLOT_TREND : Fld := ⟨0x8000100, 39, 32⟩
abbrev BADGER_SLOT_STRIKES : Fld := ⟨0x8000100, 31, 30⟩
abbrev BADGER_SLOT_MARGIN_LOW : Fld := ⟨0x8000100, 29, 29⟩
abbrev BADGER_SLOT_GUARD : Fld := ⟨0x8000100, 28, 26⟩
abbrev BADGER_SLOT_SCORE : Fld := ⟨0x8000100, 25, 16⟩
abbrev BADGER_SLOT_REPAIRS : Fld := ⟨0x8000100, 15, 8⟩
abbrev BADGER_SLOT_LAST_FAIL : Fld := ⟨0x8000100, 7, 0⟩
/-! Table 14-8 (14_hangs_resets.md). -/
abbrev WDOG_CFG : Fld := ⟨0x9000000, 63, 0⟩
abbrev WDOG_CFG_ENG_BEATS : Fld := ⟨0x9000000, 63, 48⟩
abbrev WDOG_CFG_PROG_BEATS : Fld := ⟨0x9000000, 47, 32⟩
abbrev WDOG_CFG_PARK_BEATS : Fld := ⟨0x9000000, 31, 16⟩
/-! Table 14-9 (14_hangs_resets.md). -/
abbrev WDOG_OS_CFG : Fld := ⟨0x9000008, 63, 0⟩
abbrev WDOG_OS_CFG_EN : Fld := ⟨0x9000008, 63, 63⟩
abbrev WDOG_OS_CFG_ACTION : Fld := ⟨0x9000008, 62, 62⟩
abbrev WDOG_OS_CFG_HB_MS : Fld := ⟨0x9000008, 15, 0⟩
/-! Table 14-10 (14_hangs_resets.md). -/
abbrev WDOG_OS_HB : Fld := ⟨0x9000010, 63, 0⟩
abbrev WDOG_OS_HB_COUNT : Fld := ⟨0x9000010, 63, 32⟩
abbrev WDOG_OS_HB_BEAT : Fld := ⟨0x9000010, 0, 0⟩
/-! Table 14-11 (14_hangs_resets.md). -/
abbrev WDOG_SLOLIS : Fld := ⟨0x9000018, 63, 0⟩
abbrev WDOG_SLOLIS_STOPPED : Fld := ⟨0x9000018, 63, 63⟩
abbrev WDOG_SLOLIS_EXPIRIES_N : Fld := ⟨0x9000018, 55, 48⟩
abbrev WDOG_SLOLIS_KICK : Fld := ⟨0x9000018, 0, 0⟩
/-! Table 14-12 (14_hangs_resets.md). -/
abbrev WDOG_RST_CMD : Fld := ⟨0x9000020, 63, 0⟩
abbrev WDOG_RST_CMD_PART : Fld := ⟨0x9000020, 10, 8⟩
abbrev WDOG_RST_CMD_UNIT : Fld := ⟨0x9000020, 2, 0⟩
/-! Table 14-13 (14_hangs_resets.md). -/
abbrev WDOG_RST_STATUS : Fld := ⟨0x9000028, 63, 0⟩
abbrev WDOG_RST_STATUS_STATE : Fld := ⟨0x9000028, 63, 60⟩
abbrev WDOG_RST_STATUS_UNIT : Fld := ⟨0x9000028, 59, 57⟩
abbrev WDOG_RST_STATUS_CAUSE : Fld := ⟨0x9000028, 47, 40⟩
abbrev WDOG_RST_STATUS_PARTS : Fld := ⟨0x9000028, 23, 16⟩
abbrev WDOG_RST_STATUS_RESET_EPOCH : Fld := ⟨0x9000028, 15, 0⟩
/-! Table 14-14 (14_hangs_resets.md). -/
abbrev WDOG_RST_LAST : Fld := ⟨0x9000030, 63, 0⟩
abbrev WDOG_RST_LAST_VALID : Fld := ⟨0x9000030, 63, 63⟩
abbrev WDOG_RST_LAST_UNIT : Fld := ⟨0x9000030, 62, 60⟩
abbrev WDOG_RST_LAST_RESULT : Fld := ⟨0x9000030, 59, 56⟩
abbrev WDOG_RST_LAST_CAUSE : Fld := ⟨0x9000030, 55, 48⟩
abbrev WDOG_RST_LAST_PART : Fld := ⟨0x9000030, 47, 45⟩
abbrev WDOG_RST_LAST_MS : Fld := ⟨0x9000030, 31, 0⟩
/-! Table 14-15 (14_hangs_resets.md). -/
abbrev WDOG_PROGRESS_FAULTS : Fld := ⟨0x9000100, 63, 0⟩
abbrev WDOG_DRAIN_TIMEOUTS : Fld := ⟨0x9000108, 63, 0⟩
abbrev WDOG_ENG_TIMEOUTS : Fld := ⟨0x9000110, 63, 0⟩
abbrev WDOG_PARK_LONG : Fld := ⟨0x9000118, 63, 0⟩
abbrev WDOG_OS_MISSES : Fld := ⟨0x9000120, 63, 0⟩
abbrev WDOG_SLOLIS_EXPIRIES : Fld := ⟨0x9000128, 63, 0⟩
abbrev WDOG_RST_SLOLIS : Fld := ⟨0x9000130, 63, 0⟩
abbrev WDOG_RST_OS : Fld := ⟨0x9000138, 63, 0⟩
abbrev WDOG_RST_PART : Fld := ⟨0x9000140, 63, 0⟩
abbrev WDOG_RST_DEV : Fld := ⟨0x9000148, 63, 0⟩
abbrev WDOG_RST_ABSORBED : Fld := ⟨0x9000150, 63, 0⟩
/-! Table 13-12 (13_snapshots.md). -/
abbrev SNAP_STATUS : Fld := ⟨0xa000000, 63, 0⟩
abbrev SNAP_STATUS_STATE : Fld := ⟨0xa000000, 63, 60⟩
abbrev SNAP_STATUS_RESULT : Fld := ⟨0xa000000, 59, 52⟩
abbrev SNAP_STATUS_LIVE : Fld := ⟨0xa000000, 51, 51⟩
abbrev SNAP_STATUS_PENDING : Fld := ⟨0xa000000, 50, 50⟩
/-! Table 13-13 (13_snapshots.md). -/
abbrev SNAP_CMD : Fld := ⟨0xa000008, 63, 0⟩
abbrev SNAP_CMD_CMD : Fld := ⟨0xa000008, 2, 0⟩
/-! Table 13-14 (13_snapshots.md). -/
abbrev SNAP_PLAN_BASE : Fld := ⟨0xa000010, 63, 0⟩
abbrev SNAP_PLAN_BASE_BASE : Fld := ⟨0xa000010, 47, 12⟩
/-! Table 13-15 (13_snapshots.md). -/
abbrev SNAP_CFG : Fld := ⟨0xa000018, 63, 0⟩
abbrev SNAP_CFG_SEL_OFF : Fld := ⟨0xa000018, 63, 40⟩
abbrev SNAP_CFG_W : Fld := ⟨0xa000018, 39, 32⟩
abbrev SNAP_CFG_SLOTS : Fld := ⟨0xa000018, 31, 29⟩
abbrev SNAP_CFG_DRIVE_EN : Fld := ⟨0xa000018, 23, 16⟩
abbrev SNAP_CFG_RATE_PCT : Fld := ⟨0xa000018, 15, 8⟩
abbrev SNAP_CFG_STAGE : Fld := ⟨0xa000018, 7, 0⟩
/-! Table 13-16 (13_snapshots.md). -/
abbrev SNAP_MDOM : Fld := ⟨0xa000020, 63, 0⟩
abbrev SNAP_MDOM_V : Fld := ⟨0xa000020, 31, 0⟩
abbrev SNAP_BUDGET : Fld := ⟨0xa000028, 63, 0⟩
abbrev SNAP_BUDGET_V : Fld := ⟨0xa000028, 31, 0⟩
abbrev SNAP_LIMITS : Fld := ⟨0xa000030, 63, 0⟩
abbrev SNAP_INTERVAL : Fld := ⟨0xa000038, 63, 0⟩
abbrev SNAP_MEAS : Fld := ⟨0xa000040, 63, 0⟩
abbrev SNAP_MEAS2 : Fld := ⟨0xa000048, 63, 0⟩
abbrev SNAP_NEXT : Fld := ⟨0xa000050, 63, 0⟩
abbrev SNAP_LAST : Fld := ⟨0xa000058, 63, 0⟩
abbrev SNAP_RESTORE_SEL : Fld := ⟨0xa000060, 63, 0⟩
abbrev SNAP_RESTORE_STEP : Fld := ⟨0xa000068, 63, 0⟩
abbrev SNAP_RESTORE_SAMPLE : Fld := ⟨0xa000070, 63, 0⟩
/-! Table 13-17 (13_snapshots.md). -/
abbrev SNAP_BUDDY : Fld := ⟨0xa000078, 63, 0⟩
abbrev SNAP_BUDDY_EN : Fld := ⟨0xa000078, 63, 63⟩
abbrev SNAP_BUDDY_DIM : Fld := ⟨0xa000078, 62, 60⟩
abbrev SNAP_BUDDY_EVERY : Fld := ⟨0xa000078, 59, 56⟩
abbrev SNAP_BUDDY_BASE : Fld := ⟨0xa000078, 47, 12⟩
abbrev SNAP_BUDDY_SOURCE : Fld := ⟨0xa000078, 9, 0⟩
/-! Table 13-18 (13_snapshots.md). -/
abbrev SNAP_DRIVE_LINK : Fld := ⟨0xa000100, 63, 0⟩
abbrev SNAP_DRIVE_LINK_STATE : Fld := ⟨0xa000100, 63, 60⟩
abbrev SNAP_DRIVE_LINK_PORT : Fld := ⟨0xa000100, 59, 58⟩
abbrev SNAP_DRIVE_LINK_HALF : Fld := ⟨0xa000100, 57, 57⟩
abbrev SNAP_DRIVE_LINK_QID : Fld := ⟨0xa000100, 47, 32⟩
abbrev SNAP_DRIVE_LINK_NSID : Fld := ⟨0xa000100, 31, 0⟩
/-! Table 13-19 (13_snapshots.md). -/
abbrev SNAP_DRIVE_START : Fld := ⟨0xa000108, 63, 0⟩
abbrev SNAP_DRIVE_START_LBA : Fld := ⟨0xa000108, 47, 0⟩
abbrev SNAP_DRIVE_COUNT : Fld := ⟨0xa000110, 63, 0⟩
abbrev SNAP_DRIVE_COUNT_LBA : Fld := ⟨0xa000110, 47, 0⟩
/-! Table 13-20 (13_snapshots.md). -/
abbrev SNAP_TAKEN : Fld := ⟨0xa000200, 63, 0⟩
abbrev SNAP_FAILED : Fld := ⟨0xa000208, 63, 0⟩
abbrev SNAP_SKIPPED : Fld := ⟨0xa000210, 63, 0⟩
abbrev SNAP_BYTES_RAW : Fld := ⟨0xa000218, 63, 0⟩
abbrev SNAP_BYTES_WRITTEN : Fld := ⟨0xa000220, 63, 0⟩
abbrev SNAP_RESTORES : Fld := ⟨0xa000228, 63, 0⟩
abbrev SNAP_RESTORE_WARN : Fld := ⟨0xa000230, 63, 0⟩
abbrev SNAP_NVME_ERRORS : Fld := ⟨0xa000238, 63, 0⟩
abbrev SNAP_BUDDY_SENT : Fld := ⟨0xa000240, 63, 0⟩
abbrev SNAP_BUDDY_HELD : Fld := ⟨0xa000248, 63, 0⟩
/-! Table 17-7 (17_register_index.md). -/
abbrev PCIE_STATUS : Fld := ⟨0xb000000, 63, 0⟩
abbrev PCIE_STATUS_STATE0 : Fld := ⟨0xb000000, 63, 60⟩
abbrev PCIE_STATUS_RATE0 : Fld := ⟨0xb000000, 59, 56⟩
abbrev PCIE_STATUS_WIDTH0 : Fld := ⟨0xb000000, 55, 52⟩
abbrev PCIE_STATUS_STATE1 : Fld := ⟨0xb000000, 51, 48⟩
abbrev PCIE_STATUS_RATE1 : Fld := ⟨0xb000000, 47, 44⟩
abbrev PCIE_STATUS_WIDTH1 : Fld := ⟨0xb000000, 43, 40⟩
/-! Table 17-8 (17_register_index.md). -/
abbrev PCIE_MSI_ADDR : Fld := ⟨0xb000008, 63, 0⟩
/-! Table 17-9 (17_register_index.md). -/
abbrev PCIE_MSI_PEND : Fld := ⟨0xb000010, 63, 0⟩
abbrev PCIE_CORRECTABLE : Fld := ⟨0xb000100, 63, 0⟩
abbrev PCIE_UNCORRECTABLE : Fld := ⟨0xb000108, 63, 0⟩
abbrev PCIE_LINK_DOWNS : Fld := ⟨0xb000110, 63, 0⟩
/-! Table 17-10 (17_register_index.md). -/
abbrev VIRTIO_MMIO : Fld := ⟨0xc000000, 63, 0⟩
abbrev VIRTIO_MMIO_V : Fld := ⟨0xc000000, 31, 0⟩
abbrev ETH_MAC : Fld := ⟨0xc000800, 63, 0⟩
abbrev ETH_MAC_MAC : Fld := ⟨0xc000800, 47, 0⟩
/-! Table 17-11 (17_register_index.md). -/
abbrev ETH_STATUS : Fld := ⟨0xc000808, 63, 0⟩
abbrev ETH_STATUS_UP : Fld := ⟨0xc000808, 63, 63⟩
abbrev ETH_STATUS_FEC_LOCK : Fld := ⟨0xc000808, 62, 62⟩
abbrev ETH_RX_FRAMES : Fld := ⟨0xc000900, 63, 0⟩
abbrev ETH_TX_FRAMES : Fld := ⟨0xc000908, 63, 0⟩
abbrev ETH_RX_DROPPED : Fld := ⟨0xc000910, 63, 0⟩
abbrev ETH_FEC_CORRECTED : Fld := ⟨0xc000918, 63, 0⟩
abbrev ETH_FEC_UNCORR : Fld := ⟨0xc000920, 63, 0⟩
abbrev ETH_LINK_DOWNS : Fld := ⟨0xc000928, 63, 0⟩
/-! Table 12-9 (12_silent_errors.md). -/
abbrev FLOG_STATUS : Fld := ⟨0xd000000, 63, 0⟩
abbrev FLOG_STATUS_COLL1_UP : Fld := ⟨0xd000000, 63, 63⟩
abbrev FLOG_STATUS_COLL0_UP : Fld := ⟨0xd000000, 62, 62⟩
abbrev FLOG_STATUS_OPEN_SLOTS : Fld := ⟨0xd000000, 40, 32⟩
abbrev FLOG_STATUS_NEXT_SEQ : Fld := ⟨0xd000000, 31, 0⟩
/-! Table 12-10 (12_silent_errors.md). -/
abbrev FLOG_CFG : Fld := ⟨0xd000008, 63, 0⟩
abbrev FLOG_CFG_RATE_MS : Fld := ⟨0xd000008, 47, 32⟩
abbrev FLOG_CFG_COALESCE_MS : Fld := ⟨0xd000008, 15, 0⟩
/-! Table 12-11 (12_silent_errors.md). -/
abbrev FLOG_MIRROR_BASE : Fld := ⟨0xd000010, 63, 0⟩
abbrev FLOG_MIRROR_BASE_EN : Fld := ⟨0xd000010, 63, 63⟩
abbrev FLOG_MIRROR_BASE_BASE : Fld := ⟨0xd000010, 47, 18⟩
abbrev FLOG_MIRROR_BASE_ERR : Fld := ⟨0xd000010, 1, 1⟩
/-! Table 12-12 (12_silent_errors.md). -/
abbrev FLOG_READ_SEL : Fld := ⟨0xd000018, 63, 0⟩
abbrev FLOG_READ_SEL_VALID : Fld := ⟨0xd000018, 63, 63⟩
abbrev FLOG_READ_SEL_SEQ : Fld := ⟨0xd000018, 31, 0⟩
/-! Table 12-13 (12_silent_errors.md). -/
abbrev FLOG_READ : Fld := ⟨0xd000020, 63, 0⟩
/-! Table 12-14 (12_silent_errors.md). -/
abbrev FLOG_TAINT : Fld := ⟨0xd000060, 63, 0⟩
abbrev FLOG_TAINT_VALID : Fld := ⟨0xd000060, 63, 63⟩
abbrev FLOG_TAINT_SEQ : Fld := ⟨0xd000060, 31, 0⟩
/-! Table 12-15 (12_silent_errors.md). -/
abbrev FLOG_TAINT_BEAT : Fld := ⟨0xd000068, 63, 0⟩
/-! Table 12-16 (12_silent_errors.md). -/
abbrev FLOG_RECORDS : Fld := ⟨0xd000100, 63, 0⟩
abbrev FLOG_ENTRIES : Fld := ⟨0xd000108, 63, 0⟩
abbrev FLOG_COALESCED : Fld := ⟨0xd000110, 63, 0⟩
abbrev FLOG_RATE_SUPPRESSED : Fld := ⟨0xd000118, 63, 0⟩
abbrev FLOG_LOST : Fld := ⟨0xd000120, 63, 0⟩
abbrev FLOG_DGRAMS : Fld := ⟨0xd000128, 63, 0⟩
/-! Table 15-12 (15_management_boot_security.md). -/
abbrev SEC_STATUS : Fld := ⟨0xe000000, 63, 0⟩
abbrev SEC_STATUS_STAGE : Fld := ⟨0xe000000, 63, 60⟩
abbrev SEC_STATUS_PUF_OK : Fld := ⟨0xe000000, 59, 59⟩
abbrev SEC_STATUS_FW_BANK : Fld := ⟨0xe000000, 58, 58⟩
abbrev SEC_STATUS_FW_FALLBACK : Fld := ⟨0xe000000, 57, 57⟩
abbrev SEC_STATUS_LDR_BANK : Fld := ⟨0xe000000, 56, 56⟩
abbrev SEC_STATUS_LDR_FALLBACK : Fld := ⟨0xe000000, 55, 55⟩
abbrev SEC_STATUS_SIG_SCHED_REQ : Fld := ⟨0xe000000, 54, 54⟩
abbrev SEC_STATUS_SIG_LDR_REQ : Fld := ⟨0xe000000, 53, 53⟩
/-! Table 15-13 (15_management_boot_security.md). -/
abbrev SEC_VERSIONS : Fld := ⟨0xe000008, 63, 0⟩
abbrev SEC_VERSIONS_FW_SVN : Fld := ⟨0xe000008, 63, 32⟩
abbrev SEC_VERSIONS_LDR_SVN : Fld := ⟨0xe000008, 31, 0⟩
/-! Table 15-14 (15_management_boot_security.md). -/
abbrev SEC_DEBUG : Fld := ⟨0xe000010, 63, 0⟩
abbrev SEC_DEBUG_ACTIVE : Fld := ⟨0xe000010, 63, 63⟩
abbrev SEC_DEBUG_HOLDER : Fld := ⟨0xe000010, 62, 61⟩
abbrev SEC_DEBUG_REVOKE : Fld := ⟨0xe000010, 60, 60⟩
abbrev SEC_DEBUG_SCOPE : Fld := ⟨0xe000010, 59, 56⟩
abbrev SEC_DEBUG_REMAIN : Fld := ⟨0xe000010, 31, 0⟩
/-! Table 15-15 (15_management_boot_security.md). -/
abbrev SEC_ID : Fld := ⟨0xe000040, 63, 0⟩
/-! Table 15-16 (15_management_boot_security.md). -/
abbrev SEC_MEAS_SEL : Fld := ⟨0xe000080, 63, 0⟩
abbrev SEC_MEAS_SEL_REG : Fld := ⟨0xe000080, 2, 0⟩
abbrev SEC_MEAS : Fld := ⟨0xe000088, 63, 0⟩
/-! Table 15-17 (15_management_boot_security.md). -/
abbrev SEC_SIG_VERIFIED : Fld := ⟨0xe000100, 63, 0⟩
abbrev SEC_SIG_FAILED : Fld := ⟨0xe000108, 63, 0⟩
abbrev SEC_QUOTES : Fld := ⟨0xe000110, 63, 0⟩
abbrev SEC_DEBUG_GRANTS : Fld := ⟨0xe000118, 63, 0⟩
abbrev SEC_DEBUG_DENIED : Fld := ⟨0xe000120, 63, 0⟩
/-! Table 15-18 (15_management_boot_security.md). -/
abbrev MBOX_CFG : Fld := ⟨0xf000000, 63, 0⟩
abbrev MBOX_CFG_EN : Fld := ⟨0xf000000, 63, 63⟩
abbrev MBOX_CFG_SIZE : Fld := ⟨0xf000000, 59, 56⟩
abbrev MBOX_CFG_REPLY_CHAN : Fld := ⟨0xf000000, 55, 48⟩
abbrev MBOX_CFG_BASE : Fld := ⟨0xf000000, 47, 12⟩
/-! Table 15-19 (15_management_boot_security.md). -/
abbrev MBOX_STATUS : Fld := ⟨0xf000008, 63, 0⟩
abbrev MBOX_STATUS_SLOLIS_UP : Fld := ⟨0xf000008, 63, 63⟩
abbrev MBOX_STATUS_ERR : Fld := ⟨0xf000008, 62, 62⟩
abbrev MBOX_STATUS_NEXT : Fld := ⟨0xf000008, 31, 0⟩
/-! Table 15-20 (15_management_boot_security.md). -/
abbrev MGMT_LINK : Fld := ⟨0xf000010, 63, 0⟩
abbrev MGMT_LINK_UP : Fld := ⟨0xf000010, 63, 63⟩
abbrev MGMT_LINK_STREAM : Fld := ⟨0xf000010, 62, 62⟩
abbrev MGMT_LINK_PTP : Fld := ⟨0xf000010, 61, 61⟩
/-! Table 15-21 (15_management_boot_security.md). -/
abbrev MGMT_PTP : Fld := ⟨0xf000020, 63, 0⟩
abbrev MGMT_PTP_LOCKED : Fld := ⟨0xf000020, 63, 63⟩
abbrev MGMT_PTP_EVER : Fld := ⟨0xf000020, 62, 62⟩
abbrev MGMT_PTP_OFFSET : Fld := ⟨0xf000020, 31, 0⟩
/-! Table 15-22 (15_management_boot_security.md). -/
abbrev MGMT_REDFISH_REQS : Fld := ⟨0xf000100, 63, 0⟩
abbrev MGMT_NOTICES : Fld := ⟨0xf000108, 63, 0⟩
abbrev MGMT_PTP_LOSSES : Fld := ⟨0xf000110, 63, 0⟩
abbrev MBOX_REQS : Fld := ⟨0xf000118, 63, 0⟩

end F

end Sys2Proof.Machine
end

