-- ==== Sys2Proof/Machine/Regs.lean ====
section
/-! DEFINITION. The control-space registers of the spec as data: offsets, access masks and reset values (R8 to R17, and the register tables of every chapter, indexed by Tables 17-1 to 17-12). -/

namespace Sys2Proof.Machine

/-- Which index, beside the instance, names a copy of a register: none, or the item that a SEL register shows, or the master (R182). -/
inductive RegBank where
  | none | chan | sep | cq | imbal | osch | osep | wq | master
  deriving DecidableEq, Repr

/-- One register of the index: its class, its offset, how many of it stand `stride` bytes apart, which bits take a write (RW), which are cleared by a 1 (W1C), which need debug authorization (DBG), and its reset value. WO fields perform actions and read zero, so they have no mask. `row` marks the per-row registers of class 0x08. -/
structure RegSpec where
  cls : Nat
  off : Nat
  count : Nat
  stride : Nat
  rw : Nat
  w1c : Nat
  dbg : Nat
  rst : Nat
  bank : RegBank
  row : Bool
  deriving DecidableEq, Repr

/-- Registers of class 0x00, part 0. -/
def regs00_0 : List RegSpec :=
  [
  -- DEV_DIST_BASE, Table 01-6
    ⟨0x0, 0x100, 1, 8, 0x8000fffffffff000, 0x2, 0x0, 0x0, .none, false⟩,
  -- DEV_DIST_GEN, Table 01-7
    ⟨0x0, 0x108, 1, 8, 0x0, 0x0, 0x0, 0x0, .none, false⟩,
  -- DEV_PD_STATUS, Table 01-10
    ⟨0x0, 0x180, 10, 8, 0x0, 0x0, 0x0, 0x0, .none, false⟩,
  -- DEV_FAR_SIZE, Table 08-7
    ⟨0x0, 0x200, 1, 8, 0x0, 0x0, 0x0, 0x0, .none, false⟩,
  -- DEV_FAR_CARVE, Table 08-8
    ⟨0x0, 0x208, 1, 8, 0x0, 0x0, 0x0, 0x40, .none, false⟩,
  -- DEV_FAR_SHARE, Table 08-9
    ⟨0x0, 0x210, 1, 8, 0xffffff, 0x8000000000000000, 0x0, 0x80c50, .none, false⟩,
  -- DEV_FAR_SCRUB, Table 08-10
    ⟨0x0, 0x218, 1, 8, 0xff, 0x0, 0x0, 0xc, .none, false⟩,
  -- DEV_DOMAIN_ID, Table 09-16
    ⟨0x0, 0x300, 1, 8, 0x3ff03ff, 0x0, 0x0, 0x0, .none, false⟩,
  -- DEV_DOMAIN_SHAPE, Table 09-17
    ⟨0x0, 0x308, 1, 8, 0xfffffffffffffff, 0x0, 0x0, 0x0, .none, false⟩,
  -- DEV_BEAT_COUNT, Table 09-18
    ⟨0x0, 0x310, 1, 8, 0x0, 0x0, 0x0, 0x0, .none, false⟩,
  -- DEV_BEAT_STATUS, Table 09-19
    ⟨0x0, 0x318, 1, 8, 0x0, 0x0, 0x0, 0x0, .none, false⟩,
  -- DEV_WIN_D0, Table 05-12
    ⟨0x0, 0x400, 1, 8, 0xf000ffffffffffff, 0x0, 0x0, 0x0, .master, false⟩,
  -- DEV_WIN_D1, Table 05-13
    ⟨0x0, 0x408, 1, 8, 0x7ffffffff, 0x0, 0x0, 0x0, .master, false⟩,
  -- DEV_WIN_D2, Table 05-14
    ⟨0x0, 0x410, 1, 8, 0xc3ff03ff03ff03ff, 0x0, 0x0, 0x0, .master, false⟩,
  -- DEV_WIN_D3, Table 05-15
    ⟨0x0, 0x418, 1, 8, 0x0, 0x0, 0x0, 0x0, .master, false⟩,
  -- DEV_WIN_CMD, Table 05-16
    ⟨0x0, 0x420, 1, 8, 0x0, 0x0, 0x0, 0x0, .none, false⟩,
  -- DEV_WIN_STATUS, Table 05-17
    ⟨0x0, 0x428, 1, 8, 0x0, 0x0, 0x0, 0x0, .master, false⟩,
  -- DEV_WIN_DENIED, Table 05-18
    ⟨0x0, 0x430, 1, 8, 0xffffffffffff, 0x8000000000000000, 0x0, 0x0, .none, false⟩,
  -- DEV_WIN_LAST_DENIAL, Table 05-19
    ⟨0x0, 0x438, 1, 8, 0x0, 0x8000000000000000, 0x0, 0x0, .none, false⟩,
  -- DEV_OSCH_SEL, Table 07-24
    ⟨0x0, 0x800, 1, 8, 0xff00ff, 0x0, 0x0, 0x0, .none, false⟩,
  -- DEV_OSCH_RING, Table 07-25
    ⟨0x0, 0x808, 1, 8, 0xff0fffffffff000, 0x0, 0x0, 0x0, .osch, false⟩,
  -- DEV_OSCH_CMD, Table 07-26
    ⟨0x0, 0x810, 1, 8, 0x0, 0x0, 0x0, 0x0, .none, false⟩,
  -- DEV_OSCH_GEN, Table 07-24 (layout of CELL_CHAN_GEN)
    ⟨0x0, 0x818, 1, 8, 0x0, 0x0, 0x0, 0x0, .osch, false⟩,
  -- DEV_OSCH_PTR, Table 07-24 (layout of CELL_CHAN_PTR)
    ⟨0x0, 0x820, 1, 8, 0x0, 0x0, 0x0, 0x0, .osch, false⟩
  ]

/-- Registers of class 0x00, part 1. -/
def regs00_1 : List RegSpec :=
  [
  -- DEV_OSCH_SRC, Table 07-24 (layout of CELL_CHAN_SRC)
    ⟨0x0, 0x828, 1, 8, 0x0, 0x0, 0x0, 0x0, .osch, false⟩,
  -- DEV_OSEP_TARGET, Table 07-24 (layout of CELL_SEP_TARGET)
    ⟨0x0, 0x840, 1, 8, 0x20ffffffe0000000, 0x0, 0x0, 0x0, .osep, false⟩,
  -- DEV_OSEP_STATE, Table 07-24 (layout of CELL_SEP_STATE)
    ⟨0x0, 0x848, 1, 8, 0x0, 0x0, 0x0, 0x0, .osep, false⟩,
  -- DEV_OSEP_CREDITS, Table 07-24 (layout of CELL_SEP_CREDITS)
    ⟨0x0, 0x850, 1, 8, 0x0, 0x0, 0x0, 0x0, .osep, false⟩,
  -- DEV_OSCH_SEND, Table 07-27
    ⟨0x0, 0x858, 1, 8, 0x0, 0x0, 0x0, 0x0, .none, false⟩,
  -- DEV_OSCH_PENDING, Table 07-28
    ⟨0x0, 0x860, 4, 8, 0x0, 0xffffffffffffffff, 0x0, 0x0, .none, false⟩,
  -- DEV_OSCH_MSGS_RECV, Table 07-23
    ⟨0x0, 0x880, 1, 8, 0xffffffffffff, 0x8000000000000000, 0x0, 0x0, .osch, false⟩,
  -- DEV_OSCH_BYTES_RECV, Table 07-23
    ⟨0x0, 0x888, 1, 8, 0xffffffffffff, 0x8000000000000000, 0x0, 0x0, .osch, false⟩,
  -- DEV_OSCH_PADS, Table 07-23
    ⟨0x0, 0x890, 1, 8, 0xffffffffffff, 0x8000000000000000, 0x0, 0x0, .osch, false⟩,
  -- DEV_OSCH_ORPHANS, Table 07-23
    ⟨0x0, 0x898, 1, 8, 0xffffffffffff, 0x8000000000000000, 0x0, 0x0, .osch, false⟩,
  -- DEV_OSEP_MSGS_SENT, Table 07-23
    ⟨0x0, 0x8a0, 1, 8, 0xffffffffffff, 0x8000000000000000, 0x0, 0x0, .osep, false⟩,
  -- DEV_OSEP_BYTES_SENT, Table 07-23
    ⟨0x0, 0x8a8, 1, 8, 0xffffffffffff, 0x8000000000000000, 0x0, 0x0, .osep, false⟩,
  -- DEV_OSEP_CREDIT_STALL, Table 07-23
    ⟨0x0, 0x8b0, 1, 8, 0xffffffffffff, 0x8000000000000000, 0x0, 0x0, .osep, false⟩,
  -- DEV_OSEP_CREDIT_FAULTS, Table 07-23
    ⟨0x0, 0x8b8, 1, 8, 0xffffffffffff, 0x8000000000000000, 0x0, 0x0, .osep, false⟩,
  -- DEV_CHAN_EPOCH, Table 07-29
    ⟨0x0, 0x8f8, 1, 8, 0x0, 0x0, 0x0, 0x0, .none, false⟩,
  -- DEV_PWR_CFG, Table 16-7
    ⟨0x0, 0xa00, 1, 8, 0xff00ffffffff, 0x0, 0x0, 0x5f0000000000, .none, false⟩,
  -- DEV_PWR_STATUS, Table 16-8
    ⟨0x0, 0xa08, 1, 8, 0x0, 0x1000000000000000, 0x0, 0x0, .none, false⟩,
  -- DEV_PWR_CTL, Table 16-9
    ⟨0x0, 0xa10, 1, 8, 0xffffffff, 0x0, 0x0, 0x1388, .none, false⟩,
  -- DEV_TEMP_SEL, Table 16-10
    ⟨0x0, 0xa18, 1, 8, 0x3ff, 0x0, 0x0, 0x0, .none, false⟩,
  -- DEV_PWR_STRETCH_MS, Table 16-11
    ⟨0x0, 0xa40, 1, 8, 0xffffffffffff, 0x8000000000000000, 0x0, 0x0, .none, false⟩,
  -- DEV_PWR_PEAK_EVENTS, Table 16-11
    ⟨0x0, 0xa48, 1, 8, 0xffffffffffff, 0x8000000000000000, 0x0, 0x0, .none, false⟩,
  -- DEV_PWR_HOLDS, Table 16-11
    ⟨0x0, 0xa50, 1, 8, 0xffffffffffff, 0x8000000000000000, 0x0, 0x0, .none, false⟩,
  -- DEV_PWR_FREEZES, Table 16-11
    ⟨0x0, 0xa58, 1, 8, 0xffffffffffff, 0x8000000000000000, 0x0, 0x0, .none, false⟩,
  -- DEV_PWR_MAIN_UPS, Table 16-11
    ⟨0x0, 0xa60, 1, 8, 0xffffffffffff, 0x8000000000000000, 0x0, 0x0, .none, false⟩
  ]

/-- Registers of class 0x01, part 0. -/
def regs01_0 : List RegSpec :=
  [
  -- PART_MAP_GEN, Table 01-2
    ⟨0x1, 0x100, 1, 8, 0x0, 0x0, 0x0, 0x0, .none, false⟩,
  -- PART_LMAP, Table 01-3
    ⟨0x1, 0x200, 16, 8, 0x0, 0x0, 0x0, 0x0, .none, false⟩,
  -- PART_SLOT, Table 01-4
    ⟨0x1, 0x280, 5, 8, 0x0, 0x0, 0x0, 0x3333333333333333, .none, false⟩
  ]

/-- Registers of class 0x02, part 0. -/
def regs02_0 : List RegSpec :=
  [
  -- CELL_CORE_INFO, Table 03-11
    ⟨0x2, 0x0, 1, 8, 0x0, 0x0, 0x0, 0xb020, .none, false⟩,
  -- CELL_CTX_STATE, Table 03-12
    ⟨0x2, 0x40, 4, 8, 0x0, 0x0, 0x0, 0x0, .none, false⟩,
  -- CELL_CTX_CTL, Table 03-13
    ⟨0x2, 0x60, 1, 8, 0x0, 0x0, 0x0, 0x0, .none, false⟩,
  -- CELL_CTX_CTL_STATUS, Table 03-14
    ⟨0x2, 0x68, 1, 8, 0x0, 0x0, 0x0, 0x0, .none, false⟩,
  -- CELL_CTX_FAULT_NAME, Table 03-15
    ⟨0x2, 0x80, 1, 8, 0x0, 0x0, 0x0, 0x0, .none, false⟩,
  -- CELL_CTX_FAULT_BEAT, Table 03-16
    ⟨0x2, 0x88, 1, 8, 0x0, 0x0, 0x0, 0x0, .none, false⟩,
  -- CELL_CTX_FAULT_CAUSE, Table 03-17
    ⟨0x2, 0x90, 1, 8, 0x0, 0xc000000000000000, 0x0, 0x0, .none, false⟩,
  -- CELL_RETIRED, Table 03-18
    ⟨0x2, 0xc0, 1, 8, 0xffffffffffff, 0x8000000000000000, 0x0, 0x0, .none, false⟩,
  -- CELL_PARKS, Table 03-18
    ⟨0x2, 0xc8, 1, 8, 0xffffffffffff, 0x8000000000000000, 0x0, 0x0, .none, false⟩,
  -- CELL_MISPREDICTS, Table 03-18
    ⟨0x2, 0xd0, 1, 8, 0xffffffffffff, 0x8000000000000000, 0x0, 0x0, .none, false⟩,
  -- CELL_TASK_SWITCHES, Table 03-18
    ⟨0x2, 0xd8, 1, 8, 0xffffffffffff, 0x8000000000000000, 0x0, 0x0, .none, false⟩,
  -- CELL_VEC_BUSY, Table 03-18
    ⟨0x2, 0xe0, 1, 8, 0xffffffffffff, 0x8000000000000000, 0x0, 0x0, .none, false⟩,
  -- CELL_IDLE, Table 03-18
    ⟨0x2, 0xe8, 1, 8, 0xffffffffffff, 0x8000000000000000, 0x0, 0x0, .none, false⟩,
  -- CELL_ARITH_STATUS, Table 02-10
    ⟨0x2, 0x300, 1, 8, 0x0, 0xff, 0x0, 0x0, .none, false⟩,
  -- CELL_ARR_STATUS, Table 04-11
    ⟨0x2, 0x400, 1, 8, 0x0, 0x0, 0x0, 0x0, .none, false⟩,
  -- CELL_ARR_PLANE, Table 04-12
    ⟨0x2, 0x408, 2, 8, 0x0, 0x0, 0x0, 0x0, .none, false⟩,
  -- CELL_ARR_STRIP_MAP, Table 04-13
    ⟨0x2, 0x418, 1, 8, 0x0, 0x0, 0x0, 0x21, .none, false⟩,
  -- CELL_ARR_CHECK, Table 04-14
    ⟨0x2, 0x420, 1, 8, 0x0, 0xc000000000000000, 0x0, 0x0, .none, false⟩,
  -- CELL_ARR_CHECK_ROWS, Table 04-15
    ⟨0x2, 0x428, 1, 8, 0x0, 0x0, 0x0, 0x0, .none, false⟩,
  -- CELL_ARR_CHECK_COLS, Table 04-15
    ⟨0x2, 0x430, 1, 8, 0x0, 0x0, 0x0, 0x0, .none, false⟩,
  -- CELL_ARR_FAULT, Table 04-16
    ⟨0x2, 0x438, 1, 8, 0x0, 0xc000000000000000, 0x0, 0x0, .none, false⟩,
  -- CELL_ARR_IMBAL_SEL, Table 04-17
    ⟨0x2, 0x448, 1, 8, 0x7f, 0x0, 0x0, 0x0, .none, false⟩,
  -- CELL_ARR_IMBAL_UNIT, Table 04-18
    ⟨0x2, 0x450, 1, 8, 0xffffffffffff, 0x8000000000000000, 0x0, 0x0, .imbal, false⟩,
  -- CELL_ARR_LAUNCHES, Table 04-18
    ⟨0x2, 0x460, 1, 8, 0xffffffffffff, 0x8000000000000000, 0x0, 0x0, .none, false⟩
  ]

/-- Registers of class 0x02, part 1. -/
def regs02_1 : List RegSpec :=
  [
  -- CELL_ARR_TILES, Table 04-18
    ⟨0x2, 0x468, 1, 8, 0xffffffffffff, 0x8000000000000000, 0x0, 0x0, .none, false⟩,
  -- CELL_ARR_TILE_RETRIES, Table 04-18
    ⟨0x2, 0x470, 1, 8, 0xffffffffffff, 0x8000000000000000, 0x0, 0x0, .none, false⟩,
  -- CELL_ARR_INEXACT_CHECKS, Table 04-18
    ⟨0x2, 0x478, 1, 8, 0xffffffffffff, 0x8000000000000000, 0x0, 0x0, .none, false⟩,
  -- CELL_ARR_BUSY, Table 04-18
    ⟨0x2, 0x480, 1, 8, 0xffffffffffff, 0x8000000000000000, 0x0, 0x0, .none, false⟩,
  -- CELL_ARR_IMBAL_STALL, Table 04-18
    ⟨0x2, 0x488, 1, 8, 0xffffffffffff, 0x8000000000000000, 0x0, 0x0, .none, false⟩,
  -- CELL_ARR_DRAINS, Table 04-18
    ⟨0x2, 0x490, 1, 8, 0xffffffffffff, 0x8000000000000000, 0x0, 0x0, .none, false⟩,
  -- CELL_ARR_LINK_CORRECTED, Table 04-18
    ⟨0x2, 0x498, 1, 8, 0xffffffffffff, 0x8000000000000000, 0x0, 0x0, .none, false⟩,
  -- SPAD_OPSET, Table 05-7
    ⟨0x2, 0x500, 1, 8, 0x1, 0x0, 0x0, 0x0, .none, false⟩,
  -- SPAD_NM_CTL, Table 05-8
    ⟨0x2, 0x508, 1, 8, 0x800000000000003f, 0x0, 0x0, 0x0, .none, false⟩,
  -- SPAD_NM_STATUS, Table 05-9
    ⟨0x2, 0x510, 1, 8, 0x0, 0x0, 0x0, 0x0, .none, false⟩,
  -- SPAD_ECC_LAST, Table 05-10
    ⟨0x2, 0x518, 1, 8, 0x0, 0x8000000000000000, 0x0, 0x0, .none, false⟩,
  -- SPAD_NM_CMDS, Table 05-11
    ⟨0x2, 0x540, 1, 8, 0xffffffffffff, 0x8000000000000000, 0x0, 0x0, .none, false⟩,
  -- SPAD_NM_REFUSED, Table 05-11
    ⟨0x2, 0x548, 1, 8, 0xffffffffffff, 0x8000000000000000, 0x0, 0x0, .none, false⟩,
  -- SPAD_NARROW_PROMOTED, Table 05-11
    ⟨0x2, 0x550, 1, 8, 0xffffffffffff, 0x8000000000000000, 0x0, 0x0, .none, false⟩,
  -- SPAD_NARROW_WAIT, Table 05-11
    ⟨0x2, 0x558, 1, 8, 0xffffffffffff, 0x8000000000000000, 0x0, 0x0, .none, false⟩,
  -- SPAD_CORRECTED, Table 05-11
    ⟨0x2, 0x560, 1, 8, 0xffffffffffff, 0x8000000000000000, 0x0, 0x0, .none, false⟩,
  -- SPAD_SCRUB_PASSES, Table 05-11
    ⟨0x2, 0x568, 1, 8, 0xffffffffffff, 0x8000000000000000, 0x0, 0x0, .none, false⟩,
  -- CELL_SYNC_SEL, Table 06-4
    ⟨0x2, 0x600, 1, 8, 0xff, 0x0, 0x0, 0x0, .none, false⟩,
  -- CELL_SYNC_VALUE, Table 06-5
    ⟨0x2, 0x608, 1, 8, 0xffffffffffffffff, 0x0, 0xffffffffffffffff, 0x0, .none, false⟩,
  -- CELL_SYNC_WAITERS, Table 06-6
    ⟨0x2, 0x610, 1, 8, 0x0, 0x0, 0x0, 0x0, .none, false⟩,
  -- CELL_SYNC_STATUS, Table 06-7
    ⟨0x2, 0x618, 1, 8, 0x0, 0x1, 0x0, 0x0, .none, false⟩,
  -- CELL_SYNC_ALIGN, Table 06-8
    ⟨0x2, 0x640, 16, 8, 0xffc0ffffffffffff, 0x0, 0x0, 0x0, .none, false⟩,
  -- CELL_SYNC_DRIFT_LAST, Table 06-9
    ⟨0x2, 0x6c0, 1, 8, 0x0, 0x8000000000000000, 0x0, 0x0, .none, false⟩,
  -- CELL_SYNC_DRIFTS, Table 06-10
    ⟨0x2, 0x6d0, 1, 8, 0xffffffffffff, 0x8000000000000000, 0x0, 0x0, .none, false⟩
  ]

/-- Registers of class 0x02, part 2. -/
def regs02_2 : List RegSpec :=
  [
  -- CELL_SYNC_DBG_WRITES, Table 06-10
    ⟨0x2, 0x6d8, 1, 8, 0xffffffffffff, 0x8000000000000000, 0x0, 0x0, .none, false⟩,
  -- CELL_SYNC_WAKES, Table 06-10
    ⟨0x2, 0x6e0, 1, 8, 0xffffffffffff, 0x8000000000000000, 0x0, 0x0, .none, false⟩,
  -- CELL_CHAN_SEL, Table 07-11
    ⟨0x2, 0x700, 1, 8, 0x73f3f, 0x0, 0x0, 0x0, .none, false⟩,
  -- CELL_CHAN_RING, Table 07-12
    ⟨0x2, 0x708, 1, 8, 0xffff00000ffffff, 0x0, 0x0, 0x0, .chan, false⟩,
  -- CELL_CHAN_GEN, Table 07-13
    ⟨0x2, 0x710, 1, 8, 0x0, 0x0, 0x0, 0x0, .chan, false⟩,
  -- CELL_CHAN_PTR, Table 07-14
    ⟨0x2, 0x718, 1, 8, 0x0, 0x0, 0x0, 0x0, .chan, false⟩,
  -- CELL_CHAN_SRC, Table 07-15
    ⟨0x2, 0x720, 1, 8, 0x0, 0x0, 0x0, 0x0, .chan, false⟩,
  -- CELL_CHAN_CMD, Table 07-16
    ⟨0x2, 0x728, 1, 8, 0x0, 0x0, 0x0, 0x0, .none, false⟩,
  -- CELL_SEP_TARGET, Table 07-17
    ⟨0x2, 0x740, 1, 8, 0xe0ffffffe0000000, 0x0, 0x0, 0x0, .sep, false⟩,
  -- CELL_SEP_MCAST, Table 07-18
    ⟨0x2, 0x748, 1, 8, 0xffffffffffff8000, 0x0, 0x0, 0x0, .sep, false⟩,
  -- CELL_SEP_STATE, Table 07-19
    ⟨0x2, 0x750, 1, 8, 0x0, 0x0, 0x0, 0x0, .sep, false⟩,
  -- CELL_SEP_CREDITS, Table 07-20
    ⟨0x2, 0x758, 1, 8, 0x0, 0x0, 0x0, 0x0, .sep, false⟩,
  -- CELL_CHAN_MSGS_RECV, Table 07-23
    ⟨0x2, 0x780, 1, 8, 0xffffffffffff, 0x8000000000000000, 0x0, 0x0, .chan, false⟩,
  -- CELL_CHAN_BYTES_RECV, Table 07-23
    ⟨0x2, 0x788, 1, 8, 0xffffffffffff, 0x8000000000000000, 0x0, 0x0, .chan, false⟩,
  -- CELL_CHAN_PADS, Table 07-23
    ⟨0x2, 0x790, 1, 8, 0xffffffffffff, 0x8000000000000000, 0x0, 0x0, .chan, false⟩,
  -- CELL_CHAN_ORPHANS, Table 07-23
    ⟨0x2, 0x798, 1, 8, 0xffffffffffff, 0x8000000000000000, 0x0, 0x0, .chan, false⟩,
  -- CELL_SEP_MSGS_SENT, Table 07-23
    ⟨0x2, 0x7a0, 1, 8, 0xffffffffffff, 0x8000000000000000, 0x0, 0x0, .sep, false⟩,
  -- CELL_SEP_BYTES_SENT, Table 07-23
    ⟨0x2, 0x7a8, 1, 8, 0xffffffffffff, 0x8000000000000000, 0x0, 0x0, .sep, false⟩,
  -- CELL_SEP_CREDIT_STALL, Table 07-23
    ⟨0x2, 0x7b0, 1, 8, 0xffffffffffff, 0x8000000000000000, 0x0, 0x0, .sep, false⟩,
  -- CELL_SEP_CREDIT_FAULTS, Table 07-23
    ⟨0x2, 0x7b8, 1, 8, 0xffffffffffff, 0x8000000000000000, 0x0, 0x0, .sep, false⟩,
  -- CELL_CQ_STATE, Table 07-21
    ⟨0x2, 0x800, 1, 8, 0x0, 0x0, 0x0, 0x0, .cq, false⟩,
  -- CELL_CQ_EPOCH, Table 07-22
    ⟨0x2, 0x808, 1, 8, 0x0, 0x0, 0x0, 0x0, .cq, false⟩,
  -- CELL_CQ_CONTRIB, Table 07-23
    ⟨0x2, 0x840, 1, 8, 0xffffffffffff, 0x8000000000000000, 0x0, 0x0, .cq, false⟩,
  -- CELL_CQ_DUPS, Table 07-23
    ⟨0x2, 0x848, 1, 8, 0xffffffffffff, 0x8000000000000000, 0x0, 0x0, .cq, false⟩
  ]

/-- Registers of class 0x02, part 3. -/
def regs02_3 : List RegSpec :=
  [
  -- CELL_CQ_STALE, Table 07-23
    ⟨0x2, 0x850, 1, 8, 0xffffffffffff, 0x8000000000000000, 0x0, 0x0, .cq, false⟩,
  -- CELL_CQ_EARLY, Table 07-23
    ⟨0x2, 0x858, 1, 8, 0xffffffffffff, 0x8000000000000000, 0x0, 0x0, .cq, false⟩,
  -- CELL_CQ_REJECTS, Table 07-23
    ⟨0x2, 0x860, 1, 8, 0xffffffffffff, 0x8000000000000000, 0x0, 0x0, .cq, false⟩,
  -- CELL_CQ_POSTS, Table 07-23
    ⟨0x2, 0x868, 1, 8, 0xffffffffffff, 0x8000000000000000, 0x0, 0x0, .cq, false⟩,
  -- CELL_RTR_FLITS, Table 09-15
    ⟨0x2, 0x900, 1, 8, 0xffffffffffff, 0x8000000000000000, 0x0, 0x0, .none, false⟩,
  -- CELL_RTR_CORRECTED, Table 09-15
    ⟨0x2, 0x908, 1, 8, 0xffffffffffff, 0x8000000000000000, 0x0, 0x0, .none, false⟩,
  -- CELL_RTR_ESCAPE, Table 09-15
    ⟨0x2, 0x910, 1, 8, 0xffffffffffff, 0x8000000000000000, 0x0, 0x0, .none, false⟩,
  -- CELL_RTR_FORWARDED, Table 09-15
    ⟨0x2, 0x918, 1, 8, 0xffffffffffff, 0x8000000000000000, 0x0, 0x0, .none, false⟩,
  -- CELL_RTR_S_CONFLICT, Table 09-15
    ⟨0x2, 0x920, 1, 8, 0xffffffffffff, 0x8000000000000000, 0x0, 0x0, .none, false⟩,
  -- CELL_RTR_E2E_CRC, Table 09-15
    ⟨0x2, 0x928, 1, 8, 0xffffffffffff, 0x8000000000000000, 0x0, 0x0, .none, false⟩
  ]

/-- Registers of class 0x03, part 0. -/
def regs03_0 : List RegSpec :=
  [
  -- HUB_COMMONS_ECC_LAST, Table 08-20
    ⟨0x3, 0x0, 1, 8, 0x0, 0x8000000000000000, 0x0, 0x0, .none, false⟩,
  -- HUB_COMMONS_CORRECTED, Table 08-20
    ⟨0x3, 0x100, 1, 8, 0xffffffffffff, 0x8000000000000000, 0x0, 0x0, .none, false⟩,
  -- HUB_SCRUB_PASSES, Table 08-20
    ⟨0x3, 0x108, 1, 8, 0xffffffffffff, 0x8000000000000000, 0x0, 0x0, .none, false⟩
  ]

/-- Registers of class 0x04, part 0. -/
def regs04_0 : List RegSpec :=
  [
  -- ENG_INFO, Table 08-11
    ⟨0x4, 0x0, 1, 8, 0x0, 0x0, 0x0, 0x44000, .none, false⟩,
  -- ENG_CTL, Table 08-12
    ⟨0x4, 0x8, 1, 8, 0x0, 0x0, 0x0, 0x0, .none, false⟩,
  -- ENG_WQ_SEL, Table 08-13
    ⟨0x4, 0x10, 1, 8, 0x3f, 0x0, 0x0, 0x0, .none, false⟩,
  -- ENG_WQ_CFG, Table 08-14
    ⟨0x4, 0x18, 1, 8, 0x7fffe00001ffffff, 0x0, 0x0, 0x0, .wq, false⟩,
  -- ENG_WQ_PTR, Table 08-15
    ⟨0x4, 0x20, 1, 8, 0x0, 0x0, 0x0, 0x0, .wq, false⟩,
  -- ENG_WQ_CMD, Table 08-16
    ⟨0x4, 0x28, 1, 8, 0x0, 0x0, 0x0, 0x0, .none, false⟩,
  -- ENG_REFUSED_LAST, Table 08-17
    ⟨0x4, 0x30, 1, 8, 0x0, 0x8000000000000000, 0x0, 0x0, .none, false⟩,
  -- ENG_ITEMS_DONE, Table 08-19
    ⟨0x4, 0x100, 1, 8, 0xffffffffffff, 0x8000000000000000, 0x0, 0x0, .none, false⟩,
  -- ENG_ITEMS_ABORTED, Table 08-19
    ⟨0x4, 0x108, 1, 8, 0xffffffffffff, 0x8000000000000000, 0x0, 0x0, .none, false⟩,
  -- ENG_ITEMS_FAILED, Table 08-19
    ⟨0x4, 0x110, 1, 8, 0xffffffffffff, 0x8000000000000000, 0x0, 0x0, .none, false⟩,
  -- ENG_WRITES_REFUSED, Table 08-19
    ⟨0x4, 0x118, 1, 8, 0xffffffffffff, 0x8000000000000000, 0x0, 0x0, .none, false⟩,
  -- ENG_BUSY, Table 08-19
    ⟨0x4, 0x120, 1, 8, 0xffffffffffff, 0x8000000000000000, 0x0, 0x0, .none, false⟩,
  -- ENG_BYTES_IN, Table 08-19
    ⟨0x4, 0x128, 1, 8, 0xffffffffffff, 0x8000000000000000, 0x0, 0x0, .none, false⟩,
  -- ENG_BYTES_OUT, Table 08-19
    ⟨0x4, 0x130, 1, 8, 0xffffffffffff, 0x8000000000000000, 0x0, 0x0, .none, false⟩,
  -- ENG_REPLAYS, Table 08-19
    ⟨0x4, 0x138, 1, 8, 0xffffffffffff, 0x8000000000000000, 0x0, 0x0, .none, false⟩,
  -- ENG_SG_KEY_LO, Table 08-18
    ⟨0x4, 0x200, 16, 16, 0xffffffffffffffff, 0x0, 0x0, 0x0, .none, false⟩,
  -- ENG_SG_KEY_HI, Table 08-18
    ⟨0x4, 0x208, 16, 16, 0xffffffffffffffff, 0x0, 0x0, 0x0, .none, false⟩
  ]

/-- Registers of class 0x05, part 0. -/
def regs05_0 : List RegSpec :=
  [
  -- FAR_INFO, Table 08-21
    ⟨0x5, 0x0, 1, 8, 0x0, 0x0, 0x0, 0x0, .none, false⟩,
  -- FAR_STATUS, Table 08-22
    ⟨0x5, 0x8, 1, 8, 0x0, 0x0, 0x0, 0x0, .none, false⟩,
  -- FAR_ECC_LAST, Table 08-23
    ⟨0x5, 0x10, 1, 8, 0x0, 0x8000000000000000, 0x0, 0x0, .none, false⟩,
  -- FAR_SPPR, Table 08-24
    ⟨0x5, 0x18, 1, 8, 0x0, 0x0, 0x0, 0x0, .none, false⟩,
  -- FAR_CORRECTED, Table 08-25
    ⟨0x5, 0x100, 1, 8, 0xffffffffffff, 0x8000000000000000, 0x0, 0x0, .none, false⟩,
  -- FAR_SCRUB_PASSES, Table 08-25
    ⟨0x5, 0x108, 1, 8, 0xffffffffffff, 0x8000000000000000, 0x0, 0x0, .none, false⟩,
  -- FAR_BYTES_S, Table 08-25
    ⟨0x5, 0x110, 1, 8, 0xffffffffffff, 0x8000000000000000, 0x0, 0x0, .none, false⟩,
  -- FAR_BYTES_U, Table 08-25
    ⟨0x5, 0x118, 1, 8, 0xffffffffffff, 0x8000000000000000, 0x0, 0x0, .none, false⟩,
  -- FAR_BYTES_OS, Table 08-25
    ⟨0x5, 0x120, 1, 8, 0xffffffffffff, 0x8000000000000000, 0x0, 0x0, .none, false⟩,
  -- FAR_SHARE_WAIT, Table 08-25
    ⟨0x5, 0x128, 1, 8, 0xffffffffffff, 0x8000000000000000, 0x0, 0x0, .none, false⟩
  ]

/-- Registers of class 0x06, part 0. -/
def regs06_0 : List RegSpec :=
  [
  -- TL_CFG, Table 09-9
    ⟨0x6, 0x0, 1, 8, 0xfffff00000000000, 0x0, 0x0, 0x0, .none, false⟩,
  -- TL_LINK_STATUS, Table 09-10
    ⟨0x6, 0x8, 1, 8, 0x0, 0x2000000000000, 0x0, 0x0, .none, false⟩,
  -- TL_IDENT_SEEN, Table 09-11
    ⟨0x6, 0x10, 1, 8, 0x0, 0x8000000000000000, 0x0, 0x0, .none, false⟩,
  -- TL_SHAPE_SEEN, Table 09-12
    ⟨0x6, 0x18, 1, 8, 0x0, 0x0, 0x0, 0x0, .none, false⟩,
  -- TL_CMD, Table 09-13
    ⟨0x6, 0x20, 1, 8, 0x0, 0x0, 0x0, 0x0, .none, false⟩,
  -- TL_CW_RX, Table 09-14
    ⟨0x6, 0x100, 1, 8, 0xffffffffffff, 0x8000000000000000, 0x0, 0x0, .none, false⟩,
  -- TL_SYM_CORRECTED, Table 09-14
    ⟨0x6, 0x108, 1, 8, 0xffffffffffff, 0x8000000000000000, 0x0, 0x0, .none, false⟩,
  -- TL_CW_UNCORR, Table 09-14
    ⟨0x6, 0x110, 1, 8, 0xffffffffffff, 0x8000000000000000, 0x0, 0x0, .none, false⟩,
  -- TL_REPLAYS, Table 09-14
    ⟨0x6, 0x118, 1, 8, 0xffffffffffff, 0x8000000000000000, 0x0, 0x0, .none, false⟩,
  -- TL_TX_S, Table 09-14
    ⟨0x6, 0x120, 1, 8, 0xffffffffffff, 0x8000000000000000, 0x0, 0x0, .none, false⟩,
  -- TL_TX_U, Table 09-14
    ⟨0x6, 0x128, 1, 8, 0xffffffffffff, 0x8000000000000000, 0x0, 0x0, .none, false⟩,
  -- TL_TX_C, Table 09-14
    ⟨0x6, 0x130, 1, 8, 0xffffffffffff, 0x8000000000000000, 0x0, 0x0, .none, false⟩,
  -- TL_RX_S, Table 09-14
    ⟨0x6, 0x138, 1, 8, 0xffffffffffff, 0x8000000000000000, 0x0, 0x0, .none, false⟩,
  -- TL_RX_U, Table 09-14
    ⟨0x6, 0x140, 1, 8, 0xffffffffffff, 0x8000000000000000, 0x0, 0x0, .none, false⟩,
  -- TL_RX_C, Table 09-14
    ⟨0x6, 0x148, 1, 8, 0xffffffffffff, 0x8000000000000000, 0x0, 0x0, .none, false⟩,
  -- TL_BUBBLE_WAIT, Table 09-14
    ⟨0x6, 0x150, 1, 8, 0xffffffffffff, 0x8000000000000000, 0x0, 0x0, .none, false⟩,
  -- TL_C_DEFERRED, Table 09-14
    ⟨0x6, 0x158, 1, 8, 0xffffffffffff, 0x8000000000000000, 0x0, 0x0, .none, false⟩,
  -- TL_LINK_DOWNS, Table 09-14
    ⟨0x6, 0x160, 1, 8, 0xffffffffffff, 0x8000000000000000, 0x0, 0x0, .none, false⟩,
  -- TL_LOST, Table 09-14
    ⟨0x6, 0x168, 1, 8, 0xffffffffffff, 0x8000000000000000, 0x0, 0x0, .none, false⟩,
  -- TL_S_CONFLICT, Table 09-14
    ⟨0x6, 0x170, 1, 8, 0xffffffffffff, 0x8000000000000000, 0x0, 0x0, .none, false⟩,
  -- TL_E2E_CRC, Table 09-14
    ⟨0x6, 0x178, 1, 8, 0xffffffffffff, 0x8000000000000000, 0x0, 0x0, .none, false⟩
  ]

/-- Registers of class 0x07, part 0. -/
def regs07_0 : List RegSpec :=
  [
  -- SCHED_STATUS, Table 10-16
    ⟨0x7, 0x0, 1, 8, 0x0, 0x0, 0x0, 0x0, .none, false⟩,
  -- SCHED_CMD, Table 10-17
    ⟨0x7, 0x8, 1, 8, 0x0, 0x0, 0x0, 0x0, .none, false⟩,
  -- SCHED_IMAGE_BASE, Table 10-18
    ⟨0x7, 0x10, 1, 8, 0xffffffffffc0, 0x0, 0x0, 0x0, .none, false⟩,
  -- SCHED_RESUME_POS, Table 10-19
    ⟨0x7, 0x18, 1, 8, 0xffffffffffffffff, 0x0, 0x0, 0x0, .none, false⟩,
  -- SCHED_RESUME_BEAT, Table 10-23
    ⟨0x7, 0x20, 1, 8, 0xffffffffffffffff, 0x0, 0x0, 0x0, .none, false⟩,
  -- SCHED_POS, Table 10-23
    ⟨0x7, 0x28, 1, 8, 0x0, 0x0, 0x0, 0x0, .none, false⟩,
  -- SCHED_STEP, Table 10-23
    ⟨0x7, 0x30, 1, 8, 0xffffffffffffffff, 0x0, 0x0, 0x0, .none, false⟩,
  -- SCHED_START_BEAT, Table 10-23
    ⟨0x7, 0x38, 1, 8, 0x0, 0x0, 0x0, 0x0, .none, false⟩,
  -- SCHED_HOLD_POS, Table 10-23
    ⟨0x7, 0x40, 1, 8, 0x0, 0x0, 0x0, 0x0, .none, false⟩,
  -- SCHED_HOLD_BEAT, Table 10-23
    ⟨0x7, 0x48, 1, 8, 0x0, 0x0, 0x0, 0x0, .none, false⟩,
  -- SCHED_SHAPE, Table 10-23
    ⟨0x7, 0x50, 1, 8, 0x0, 0x0, 0x0, 0x4040404040404040, .none, false⟩,
  -- SCHED_HOLD, Table 10-20
    ⟨0x7, 0x58, 1, 8, 0x0, 0x8000000000000000, 0x0, 0x0, .none, false⟩,
  -- SCHED_STRETCH, Table 10-21
    ⟨0x7, 0x60, 1, 8, 0xffff, 0x0, 0x0, 0x10101010, .none, false⟩,
  -- SCHED_STRETCH_BEAT, Table 10-23
    ⟨0x7, 0x68, 1, 8, 0x0, 0x0, 0x0, 0x0, .none, false⟩,
  -- SCHED_OVERRUN_LAST, Table 10-22
    ⟨0x7, 0x70, 1, 8, 0x0, 0x8000000000000000, 0x0, 0x0, .none, false⟩,
  -- SCHED_BINDS, Table 10-24
    ⟨0x7, 0x100, 1, 8, 0xffffffffffff, 0x8000000000000000, 0x0, 0x0, .none, false⟩,
  -- SCHED_OVERRUNS, Table 10-24
    ⟨0x7, 0x108, 1, 8, 0xffffffffffff, 0x8000000000000000, 0x0, 0x0, .none, false⟩,
  -- SCHED_HOLDS, Table 10-24
    ⟨0x7, 0x110, 1, 8, 0xffffffffffff, 0x8000000000000000, 0x0, 0x0, .none, false⟩,
  -- SCHED_HOLD_MSGS, Table 10-24
    ⟨0x7, 0x118, 1, 8, 0xffffffffffff, 0x8000000000000000, 0x0, 0x0, .none, false⟩,
  -- SCHED_RESUMES, Table 10-24
    ⟨0x7, 0x120, 1, 8, 0xffffffffffff, 0x8000000000000000, 0x0, 0x0, .none, false⟩,
  -- SCHED_DISCARDED, Table 10-24
    ⟨0x7, 0x128, 1, 8, 0xffffffffffff, 0x8000000000000000, 0x0, 0x0, .none, false⟩,
  -- SCHED_WINDOWS, Table 10-24
    ⟨0x7, 0x130, 1, 8, 0xffffffffffff, 0x8000000000000000, 0x0, 0x0, .none, false⟩,
  -- SCHED_STRETCH_BEATS, Table 10-24
    ⟨0x7, 0x138, 1, 8, 0xffffffffffff, 0x8000000000000000, 0x0, 0x0, .none, false⟩
  ]

/-- Registers of class 0x08, part 0. -/
def regs08_0 : List RegSpec :=
  [
  -- BADGER_CTL, Table 11-13
    ⟨0x8, 0x0, 1, 8, 0x8000000000000000, 0x0, 0x0, 0x8000000000000000, .none, false⟩,
  -- BADGER_STATUS, Table 11-14
    ⟨0x8, 0x8, 1, 8, 0x0, 0x0, 0x0, 0x0, .none, false⟩,
  -- BADGER_PERIOD, Table 11-15
    ⟨0x8, 0x10, 1, 8, 0x0, 0x0, 0x0, 0x0, .none, false⟩,
  -- BADGER_REQ_CFG, Table 11-16
    ⟨0x8, 0x18, 1, 8, 0x8000ffff0000ffff, 0x0, 0x0, 0x3c000000b4, .none, false⟩,
  -- BADGER_REQ, Table 11-17
    ⟨0x8, 0x20, 1, 8, 0x0, 0x0, 0x0, 0xffff, .none, false⟩,
  -- BADGER_PART_HEALTH0, Table 11-18
    ⟨0x8, 0x28, 1, 8, 0x0, 0x0, 0x0, 0x0, .none, false⟩,
  -- BADGER_PART_HEALTH1, Table 11-18
    ⟨0x8, 0x30, 1, 8, 0x0, 0x0, 0x0, 0x0, .none, false⟩,
  -- BADGER_CMD, Table 11-19
    ⟨0x8, 0x38, 1, 8, 0x0, 0x0, 0x0, 0x0, .none, false⟩,
  -- BADGER_CMD_STATUS, Table 11-20
    ⟨0x8, 0x40, 1, 8, 0x0, 0x0, 0x0, 0x0, .none, false⟩,
  -- BADGER_MIGRATIONS, Table 11-21
    ⟨0x8, 0x100, 1, 8, 0xffffffffffff, 0x8000000000000000, 0x0, 0x0, .none, false⟩,
  -- BADGER_MIG_ABORTED, Table 11-21
    ⟨0x8, 0x108, 1, 8, 0xffffffffffff, 0x8000000000000000, 0x0, 0x0, .none, false⟩,
  -- BADGER_LIVE_MIGRATIONS, Table 11-21
    ⟨0x8, 0x110, 1, 8, 0xffffffffffff, 0x8000000000000000, 0x0, 0x0, .none, false⟩,
  -- BADGER_TESTS_PASSED, Table 11-21
    ⟨0x8, 0x118, 1, 8, 0xffffffffffff, 0x8000000000000000, 0x0, 0x0, .none, false⟩,
  -- BADGER_TESTS_FAILED, Table 11-21
    ⟨0x8, 0x120, 1, 8, 0xffffffffffff, 0x8000000000000000, 0x0, 0x0, .none, false⟩,
  -- BADGER_STRIKES, Table 11-21
    ⟨0x8, 0x128, 1, 8, 0xffffffffffff, 0x8000000000000000, 0x0, 0x0, .none, false⟩,
  -- BADGER_FENCES, Table 11-21
    ⟨0x8, 0x130, 1, 8, 0xffffffffffff, 0x8000000000000000, 0x0, 0x0, .none, false⟩,
  -- BADGER_REPAIRS, Table 11-21
    ⟨0x8, 0x138, 1, 8, 0xffffffffffff, 0x8000000000000000, 0x0, 0x0, .none, false⟩,
  -- BADGER_NOTICES, Table 11-21
    ⟨0x8, 0x140, 1, 8, 0xffffffffffff, 0x8000000000000000, 0x0, 0x0, .none, false⟩,
  -- BADGER_ROW_STATE, Table 11-22
    ⟨0x8, 0x0, 1, 8, 0x0, 0x0, 0x0, 0x3ff0000, .none, true⟩,
  -- BADGER_ROW_LAST, Table 11-23
    ⟨0x8, 0x8, 1, 8, 0x0, 0x8000000000000000, 0x0, 0x0, .none, true⟩,
  -- BADGER_SLOT, Table 11-24
    ⟨0x8, 0x100, 34, 8, 0x0, 0x0, 0x0, 0x0, .none, true⟩
  ]

/-- Registers of class 0x09, part 0. -/
def regs09_0 : List RegSpec :=
  [
  -- WDOG_CFG, Table 14-8
    ⟨0x9, 0x0, 1, 8, 0xffffffffffff0000, 0x0, 0x0, 0x2000100000000000, .none, false⟩,
  -- WDOG_OS_CFG, Table 14-9
    ⟨0x9, 0x8, 1, 8, 0xc00000000000ffff, 0x0, 0x0, 0xc000000000000bb8, .none, false⟩,
  -- WDOG_OS_HB, Table 14-10
    ⟨0x9, 0x10, 1, 8, 0x0, 0x0, 0x0, 0x0, .none, false⟩,
  -- WDOG_SLOLIS, Table 14-11
    ⟨0x9, 0x18, 1, 8, 0x0, 0x0, 0x0, 0x0, .none, false⟩,
  -- WDOG_RST_CMD, Table 14-12
    ⟨0x9, 0x20, 1, 8, 0x0, 0x0, 0x0, 0x0, .none, false⟩,
  -- WDOG_RST_STATUS, Table 14-13
    ⟨0x9, 0x28, 1, 8, 0x0, 0x0, 0x0, 0x0, .none, false⟩,
  -- WDOG_RST_LAST, Table 14-14
    ⟨0x9, 0x30, 1, 8, 0x0, 0x8000000000000000, 0x0, 0x0, .none, false⟩,
  -- WDOG_PROGRESS_FAULTS, Table 14-15
    ⟨0x9, 0x100, 1, 8, 0xffffffffffff, 0x8000000000000000, 0x0, 0x0, .none, false⟩,
  -- WDOG_DRAIN_TIMEOUTS, Table 14-15
    ⟨0x9, 0x108, 1, 8, 0xffffffffffff, 0x8000000000000000, 0x0, 0x0, .none, false⟩,
  -- WDOG_ENG_TIMEOUTS, Table 14-15
    ⟨0x9, 0x110, 1, 8, 0xffffffffffff, 0x8000000000000000, 0x0, 0x0, .none, false⟩,
  -- WDOG_PARK_LONG, Table 14-15
    ⟨0x9, 0x118, 1, 8, 0xffffffffffff, 0x8000000000000000, 0x0, 0x0, .none, false⟩,
  -- WDOG_OS_MISSES, Table 14-15
    ⟨0x9, 0x120, 1, 8, 0xffffffffffff, 0x8000000000000000, 0x0, 0x0, .none, false⟩,
  -- WDOG_SLOLIS_EXPIRIES, Table 14-15
    ⟨0x9, 0x128, 1, 8, 0xffffffffffff, 0x8000000000000000, 0x0, 0x0, .none, false⟩,
  -- WDOG_RST_SLOLIS, Table 14-15
    ⟨0x9, 0x130, 1, 8, 0xffffffffffff, 0x8000000000000000, 0x0, 0x0, .none, false⟩,
  -- WDOG_RST_OS, Table 14-15
    ⟨0x9, 0x138, 1, 8, 0xffffffffffff, 0x8000000000000000, 0x0, 0x0, .none, false⟩,
  -- WDOG_RST_PART, Table 14-15
    ⟨0x9, 0x140, 1, 8, 0xffffffffffff, 0x8000000000000000, 0x0, 0x0, .none, false⟩,
  -- WDOG_RST_DEV, Table 14-15
    ⟨0x9, 0x148, 1, 8, 0xffffffffffff, 0x8000000000000000, 0x0, 0x0, .none, false⟩,
  -- WDOG_RST_ABSORBED, Table 14-15
    ⟨0x9, 0x150, 1, 8, 0xffffffffffff, 0x8000000000000000, 0x0, 0x0, .none, false⟩
  ]

/-- Registers of class 0x0A, part 0. -/
def regs0A_0 : List RegSpec :=
  [
  -- SNAP_STATUS, Table 13-12
    ⟨0xa, 0x0, 1, 8, 0x0, 0x0, 0x0, 0x0, .none, false⟩,
  -- SNAP_CMD, Table 13-13
    ⟨0xa, 0x8, 1, 8, 0x0, 0x0, 0x0, 0x0, .none, false⟩,
  -- SNAP_PLAN_BASE, Table 13-14
    ⟨0xa, 0x10, 1, 8, 0xfffffffff000, 0x0, 0x0, 0x0, .none, false⟩,
  -- SNAP_CFG, Table 13-15
    ⟨0xa, 0x18, 1, 8, 0xffffffffe0ffffff, 0x0, 0x0, 0x4060000700, .none, false⟩,
  -- SNAP_MDOM, Table 13-16
    ⟨0xa, 0x20, 1, 8, 0xffffffff, 0x0, 0x0, 0x0, .none, false⟩,
  -- SNAP_BUDGET, Table 13-16
    ⟨0xa, 0x28, 1, 8, 0xffffffff, 0x0, 0x0, 0x0, .none, false⟩,
  -- SNAP_LIMITS, Table 13-16
    ⟨0xa, 0x30, 1, 8, 0xffffffffffffffff, 0x0, 0x0, 0x186a000000001, .none, false⟩,
  -- SNAP_INTERVAL, Table 13-16
    ⟨0xa, 0x38, 1, 8, 0x0, 0x0, 0x0, 0x0, .none, false⟩,
  -- SNAP_MEAS, Table 13-16
    ⟨0xa, 0x40, 1, 8, 0x0, 0x0, 0x0, 0x0, .none, false⟩,
  -- SNAP_MEAS2, Table 13-16
    ⟨0xa, 0x48, 1, 8, 0x0, 0x0, 0x0, 0x0, .none, false⟩,
  -- SNAP_NEXT, Table 13-16
    ⟨0xa, 0x50, 1, 8, 0x0, 0x0, 0x0, 0x0, .none, false⟩,
  -- SNAP_LAST, Table 13-16
    ⟨0xa, 0x58, 1, 8, 0x0, 0x0, 0x0, 0x0, .none, false⟩,
  -- SNAP_RESTORE_SEL, Table 13-16
    ⟨0xa, 0x60, 1, 8, 0xffffffffffffffff, 0x0, 0x0, 0x0, .none, false⟩,
  -- SNAP_RESTORE_STEP, Table 13-16
    ⟨0xa, 0x68, 1, 8, 0x0, 0x0, 0x0, 0x0, .none, false⟩,
  -- SNAP_RESTORE_SAMPLE, Table 13-16
    ⟨0xa, 0x70, 1, 8, 0x0, 0x0, 0x0, 0x0, .none, false⟩,
  -- SNAP_BUDDY, Table 13-17
    ⟨0xa, 0x78, 1, 8, 0xff00fffffffff3ff, 0x0, 0x0, 0x400000000000000, .none, false⟩,
  -- SNAP_DRIVE_LINK, Table 13-18
    ⟨0xa, 0x100, 8, 32, 0xe00ffffffffffff, 0x0, 0x0, 0x0, .none, false⟩,
  -- SNAP_DRIVE_START, Table 13-19
    ⟨0xa, 0x108, 8, 32, 0xffffffffffff, 0x0, 0x0, 0x0, .none, false⟩,
  -- SNAP_DRIVE_COUNT, Table 13-19
    ⟨0xa, 0x110, 8, 32, 0xffffffffffff, 0x0, 0x0, 0x0, .none, false⟩,
  -- SNAP_TAKEN, Table 13-20
    ⟨0xa, 0x200, 1, 8, 0xffffffffffff, 0x8000000000000000, 0x0, 0x0, .none, false⟩,
  -- SNAP_FAILED, Table 13-20
    ⟨0xa, 0x208, 1, 8, 0xffffffffffff, 0x8000000000000000, 0x0, 0x0, .none, false⟩,
  -- SNAP_SKIPPED, Table 13-20
    ⟨0xa, 0x210, 1, 8, 0xffffffffffff, 0x8000000000000000, 0x0, 0x0, .none, false⟩,
  -- SNAP_BYTES_RAW, Table 13-20
    ⟨0xa, 0x218, 1, 8, 0xffffffffffff, 0x8000000000000000, 0x0, 0x0, .none, false⟩,
  -- SNAP_BYTES_WRITTEN, Table 13-20
    ⟨0xa, 0x220, 1, 8, 0xffffffffffff, 0x8000000000000000, 0x0, 0x0, .none, false⟩
  ]

/-- Registers of class 0x0A, part 1. -/
def regs0A_1 : List RegSpec :=
  [
  -- SNAP_RESTORES, Table 13-20
    ⟨0xa, 0x228, 1, 8, 0xffffffffffff, 0x8000000000000000, 0x0, 0x0, .none, false⟩,
  -- SNAP_RESTORE_WARN, Table 13-20
    ⟨0xa, 0x230, 1, 8, 0xffffffffffff, 0x8000000000000000, 0x0, 0x0, .none, false⟩,
  -- SNAP_NVME_ERRORS, Table 13-20
    ⟨0xa, 0x238, 1, 8, 0xffffffffffff, 0x8000000000000000, 0x0, 0x0, .none, false⟩,
  -- SNAP_BUDDY_SENT, Table 13-20
    ⟨0xa, 0x240, 1, 8, 0xffffffffffff, 0x8000000000000000, 0x0, 0x0, .none, false⟩,
  -- SNAP_BUDDY_HELD, Table 13-20
    ⟨0xa, 0x248, 1, 8, 0xffffffffffff, 0x8000000000000000, 0x0, 0x0, .none, false⟩
  ]

/-- Registers of class 0x0B, part 0. -/
def regs0B_0 : List RegSpec :=
  [
  -- PCIE_STATUS, Table 17-7
    ⟨0xb, 0x0, 1, 8, 0x0, 0x0, 0x0, 0x0, .none, false⟩,
  -- PCIE_MSI_ADDR, Table 17-8
    ⟨0xb, 0x8, 1, 8, 0x0, 0x0, 0x0, 0x3fffffff000, .none, false⟩,
  -- PCIE_MSI_PEND, Table 17-9
    ⟨0xb, 0x10, 4, 8, 0x0, 0xffffffffffffffff, 0x0, 0x0, .none, false⟩,
  -- PCIE_CORRECTABLE, Table 17-9
    ⟨0xb, 0x100, 1, 8, 0xffffffffffff, 0x8000000000000000, 0x0, 0x0, .none, false⟩,
  -- PCIE_UNCORRECTABLE, Table 17-9
    ⟨0xb, 0x108, 1, 8, 0xffffffffffff, 0x8000000000000000, 0x0, 0x0, .none, false⟩,
  -- PCIE_LINK_DOWNS, Table 17-9
    ⟨0xb, 0x110, 1, 8, 0xffffffffffff, 0x8000000000000000, 0x0, 0x0, .none, false⟩
  ]

/-- Registers of class 0x0C, part 0. -/
def regs0C_0 : List RegSpec :=
  [
  -- VIRTIO_MMIO, Table 17-10
    ⟨0xc, 0x0, 128, 8, 0x0, 0x0, 0x0, 0x0, .none, false⟩,
  -- ETH_MAC, Table 17-10
    ⟨0xc, 0x800, 1, 8, 0xffffffffffff, 0x0, 0x0, 0x0, .none, false⟩,
  -- ETH_STATUS, Table 17-11
    ⟨0xc, 0x808, 1, 8, 0x0, 0x0, 0x0, 0x0, .none, false⟩,
  -- ETH_RX_FRAMES, Table 17-11
    ⟨0xc, 0x900, 1, 8, 0xffffffffffff, 0x8000000000000000, 0x0, 0x0, .none, false⟩,
  -- ETH_TX_FRAMES, Table 17-11
    ⟨0xc, 0x908, 1, 8, 0xffffffffffff, 0x8000000000000000, 0x0, 0x0, .none, false⟩,
  -- ETH_RX_DROPPED, Table 17-11
    ⟨0xc, 0x910, 1, 8, 0xffffffffffff, 0x8000000000000000, 0x0, 0x0, .none, false⟩,
  -- ETH_FEC_CORRECTED, Table 17-11
    ⟨0xc, 0x918, 1, 8, 0xffffffffffff, 0x8000000000000000, 0x0, 0x0, .none, false⟩,
  -- ETH_FEC_UNCORR, Table 17-11
    ⟨0xc, 0x920, 1, 8, 0xffffffffffff, 0x8000000000000000, 0x0, 0x0, .none, false⟩,
  -- ETH_LINK_DOWNS, Table 17-11
    ⟨0xc, 0x928, 1, 8, 0xffffffffffff, 0x8000000000000000, 0x0, 0x0, .none, false⟩
  ]

/-- Registers of class 0x0D, part 0. -/
def regs0D_0 : List RegSpec :=
  [
  -- FLOG_STATUS, Table 12-9
    ⟨0xd, 0x0, 1, 8, 0x0, 0x0, 0x0, 0x0, .none, false⟩,
  -- FLOG_CFG, Table 12-10
    ⟨0xd, 0x8, 1, 8, 0xffff0000ffff, 0x0, 0x0, 0x64000003e8, .none, false⟩,
  -- FLOG_MIRROR_BASE, Table 12-11
    ⟨0xd, 0x10, 1, 8, 0x8000fffffffc0000, 0x2, 0x0, 0x0, .none, false⟩,
  -- FLOG_READ_SEL, Table 12-12
    ⟨0xd, 0x18, 1, 8, 0xffffffff, 0x0, 0x0, 0x0, .none, false⟩,
  -- FLOG_READ, Table 12-13
    ⟨0xd, 0x20, 8, 8, 0x0, 0x0, 0x0, 0x0, .none, false⟩,
  -- FLOG_TAINT, Table 12-14
    ⟨0xd, 0x60, 1, 8, 0x0, 0x8000000000000000, 0x0, 0x0, .none, false⟩,
  -- FLOG_TAINT_BEAT, Table 12-15
    ⟨0xd, 0x68, 1, 8, 0x0, 0x0, 0x0, 0x0, .none, false⟩,
  -- FLOG_RECORDS, Table 12-16
    ⟨0xd, 0x100, 1, 8, 0xffffffffffff, 0x8000000000000000, 0x0, 0x0, .none, false⟩,
  -- FLOG_ENTRIES, Table 12-16
    ⟨0xd, 0x108, 1, 8, 0xffffffffffff, 0x8000000000000000, 0x0, 0x0, .none, false⟩,
  -- FLOG_COALESCED, Table 12-16
    ⟨0xd, 0x110, 1, 8, 0xffffffffffff, 0x8000000000000000, 0x0, 0x0, .none, false⟩,
  -- FLOG_RATE_SUPPRESSED, Table 12-16
    ⟨0xd, 0x118, 1, 8, 0xffffffffffff, 0x8000000000000000, 0x0, 0x0, .none, false⟩,
  -- FLOG_LOST, Table 12-16
    ⟨0xd, 0x120, 1, 8, 0xffffffffffff, 0x8000000000000000, 0x0, 0x0, .none, false⟩,
  -- FLOG_DGRAMS, Table 12-16
    ⟨0xd, 0x128, 1, 8, 0xffffffffffff, 0x8000000000000000, 0x0, 0x0, .none, false⟩
  ]

/-- Registers of class 0x0E, part 0. -/
def regs0E_0 : List RegSpec :=
  [
  -- SEC_STATUS, Table 15-12
    ⟨0xe, 0x0, 1, 8, 0x0, 0x0, 0x0, 0x0, .none, false⟩,
  -- SEC_VERSIONS, Table 15-13
    ⟨0xe, 0x8, 1, 8, 0x0, 0x0, 0x0, 0x0, .none, false⟩,
  -- SEC_DEBUG, Table 15-14
    ⟨0xe, 0x10, 1, 8, 0x0, 0x0, 0x0, 0x0, .none, false⟩,
  -- SEC_ID, Table 15-15
    ⟨0xe, 0x40, 8, 8, 0x0, 0x0, 0x0, 0x0, .none, false⟩,
  -- SEC_MEAS_SEL, Table 15-16
    ⟨0xe, 0x80, 1, 8, 0x7, 0x0, 0x0, 0x0, .none, false⟩,
  -- SEC_MEAS, Table 15-16
    ⟨0xe, 0x88, 4, 8, 0x0, 0x0, 0x0, 0x0, .none, false⟩,
  -- SEC_SIG_VERIFIED, Table 15-17
    ⟨0xe, 0x100, 1, 8, 0xffffffffffff, 0x8000000000000000, 0x0, 0x0, .none, false⟩,
  -- SEC_SIG_FAILED, Table 15-17
    ⟨0xe, 0x108, 1, 8, 0xffffffffffff, 0x8000000000000000, 0x0, 0x0, .none, false⟩,
  -- SEC_QUOTES, Table 15-17
    ⟨0xe, 0x110, 1, 8, 0xffffffffffff, 0x8000000000000000, 0x0, 0x0, .none, false⟩,
  -- SEC_DEBUG_GRANTS, Table 15-17
    ⟨0xe, 0x118, 1, 8, 0xffffffffffff, 0x8000000000000000, 0x0, 0x0, .none, false⟩,
  -- SEC_DEBUG_DENIED, Table 15-17
    ⟨0xe, 0x120, 1, 8, 0xffffffffffff, 0x8000000000000000, 0x0, 0x0, .none, false⟩
  ]

/-- Registers of class 0x0F, part 0. -/
def regs0F_0 : List RegSpec :=
  [
  -- MBOX_CFG, Table 15-18
    ⟨0xf, 0x0, 1, 8, 0x8ffffffffffff000, 0x0, 0x0, 0x0, .none, false⟩,
  -- MBOX_STATUS, Table 15-19
    ⟨0xf, 0x8, 1, 8, 0x0, 0x4000000000000000, 0x0, 0x0, .none, false⟩,
  -- MGMT_LINK, Table 15-20
    ⟨0xf, 0x10, 2, 8, 0x0, 0x0, 0x0, 0x0, .none, false⟩,
  -- MGMT_PTP, Table 15-21
    ⟨0xf, 0x20, 1, 8, 0x0, 0x0, 0x0, 0x0, .none, false⟩,
  -- MGMT_REDFISH_REQS, Table 15-22
    ⟨0xf, 0x100, 1, 8, 0xffffffffffff, 0x8000000000000000, 0x0, 0x0, .none, false⟩,
  -- MGMT_NOTICES, Table 15-22
    ⟨0xf, 0x108, 1, 8, 0xffffffffffff, 0x8000000000000000, 0x0, 0x0, .none, false⟩,
  -- MGMT_PTP_LOSSES, Table 15-22
    ⟨0xf, 0x110, 1, 8, 0xffffffffffff, 0x8000000000000000, 0x0, 0x0, .none, false⟩,
  -- MBOX_REQS, Table 15-22
    ⟨0xf, 0x118, 1, 8, 0xffffffffffff, 0x8000000000000000, 0x0, 0x0, .none, false⟩
  ]

/-- The registers of one class. -/
def regsOfClass : Nat → List RegSpec
  | 0 => regs00_0 ++ regs00_1
  | 1 => regs01_0
  | 2 => regs02_0 ++ regs02_1 ++ regs02_2 ++ regs02_3
  | 3 => regs03_0
  | 4 => regs04_0
  | 5 => regs05_0
  | 6 => regs06_0
  | 7 => regs07_0
  | 8 => regs08_0
  | 9 => regs09_0
  | 10 => regs0A_0 ++ regs0A_1
  | 11 => regs0B_0
  | 12 => regs0C_0
  | 13 => regs0D_0
  | 14 => regs0E_0
  | 15 => regs0F_0
  | _ => []

end Sys2Proof.Machine
end

