-- ==== Sys2Proof/Machine/Numbers.lean ====
section
/-! DEFINITION. Number formats, exact values and rounding (R53 to R57, R59, R60, R69 to R72, R76, R95). -/

namespace Sys2Proof.Machine

/-! ## Formats (Table 02-1, Table 02-2) -/

/-- Exponent bits, mantissa bits and bias of an element format, by its code; the MX codes give their element's (Table 02-2). INT8, MXINT8 and EA have none. -/
def fmtShape : Nat → Option (Nat × Nat × Int)
  | 0x00 => some (8, 23, 127)
  | 0x01 => some (8, 7, 127)
  | 0x02 => some (5, 10, 15)
  | 0x03 => some (4, 3, 7)
  | 0x04 => some (5, 2, 15)
  | 0x05 => some (3, 2, 3)
  | 0x06 => some (2, 3, 1)
  | 0x07 => some (2, 1, 1)
  | 0x09 => some (4, 3, 7)
  | 0x0A => some (5, 2, 15)
  | 0x0B => some (3, 2, 3)
  | 0x0C => some (2, 3, 1)
  | 0x0D => some (2, 1, 1)
  | _ => none

/-- Element bits of a format (Table 02-1); 0 for a reserved code. -/
def fmtBits : Nat → Nat
  | 0x00 => 32 | 0x01 => 16 | 0x02 => 16 | 0x03 => 8 | 0x04 => 8 | 0x05 => 6 | 0x06 => 6 | 0x07 => 4
  | 0x08 => 8 | 0x09 => 8 | 0x0A => 8 | 0x0B => 6 | 0x0C => 6 | 0x0D => 4 | 0x0E => 8 | 0x0F => 208
  | _ => 0

/-- The five-bit code is one of Table 02-1. -/
def fmtKnown (f : Nat) : Bool := f ≤ 0x0F

/-- The MX formats: blocks of 32 with a shared scale (R57). -/
def fmtIsMx (f : Nat) : Bool := 0x09 ≤ f && f ≤ 0x0E

/-- FP6 elements, packed four to three bytes (R56). -/
def fmtIsFp6 (f : Nat) : Bool := f = 0x05 || f = 0x06 || f = 0x0B || f = 0x0C

/-- Formats that an array product reads (Table 02-1, column Array input), EA apart. -/
def fmtArrayIn (f : Nat) : Bool := 0x01 ≤ f && f ≤ 0x0E

/-- Formats that an EA is written in (Table 02-1, column Array output). -/
def fmtArrayOut (f : Nat) : Bool :=
  f = 0x00 || f = 0x01 || f = 0x03 || f = 0x04 || (0x09 ≤ f && f ≤ 0x0F)

/-- Group size g of one MAC, from the wider of two formats (R58, Table 02-3). -/
def macGroup (fa fb : Nat) : Nat :=
  let w := Nat.max (fmtBits fa) (fmtBits fb)
  if 16 ≤ w then 2 else if w = 8 then 4 else 8

/-- Formats whose NaN is e all ones with m nonzero and whose infinity is e all ones with m zero (Table 02-2). -/
def fmtIeee (f : Nat) : Bool := f = 0x00 || f = 0x01 || f = 0x02 || f = 0x04 || f = 0x0A

/-! ## Values -/

/-- The value of an element: NaN, an infinity, or (-1)^neg times m times 2^e. -/
inductive Fp where
  | nan
  | inf (neg : Bool)
  | fin (neg : Bool) (m : Nat) (e : Int)
  deriving DecidableEq, Repr

/-- The value is NaN. -/
def Fp.isNan : Fp → Bool
  | .nan => true
  | _ => false

/-- The value is finite. -/
def Fp.isFin : Fp → Bool
  | .fin .. => true
  | _ => false

/-- The element that `bits` encode in a format, the scale of an MX block apart (R54, R55). -/
def fpDecode (f bits : Nat) : Fp :=
  match fmtShape f with
  | some (eb, mb, bias) =>
    let neg := bitOf bits (eb + mb)
    let e := bitsOf bits (eb + mb - 1) mb
    let m := bits % 2 ^ mb
    if fmtIeee f && e = 2 ^ eb - 1 then (if m = 0 then .inf neg else .nan)
    else if (f = 0x03 || f = 0x09) && e = 15 && m = 7 then .nan
    else if e = 0 then .fin neg m (1 - bias - mb)
    else .fin neg (m + 2 ^ mb) (e - bias - mb)
  | none =>
    let i := bits % 256
    let v := if 128 ≤ i then 256 - i else i
    .fin (decide (128 ≤ i)) v (if f = 0x0E then -6 else 0)

/-- An element times its block scale byte (R57). -/
def fpScale (v : Fp) (scale : Nat) : Fp :=
  if scale = 0xFF then .nan
  else match v with
    | .fin n m e => .fin n m (e + scale - 127)
    | w => w

/-- A finite value as an integer multiple of 2^q, truncated toward zero; the flag says that bits were lost. -/
def fpFloorTo (m : Nat) (e q : Int) : Nat × Bool :=
  if q ≤ e then (m <<< (e - q).toNat, false)
  else
    let k := (q - e).toNat
    (m >>> k, decide (m % 2 ^ k ≠ 0))

/-- Signed integer multiple of 2^q that equals a finite value with e at least q. -/
def fpInt (neg : Bool) (m : Nat) (e q : Int) : Int :=
  let v : Int := (m <<< (e - q).toNat : Nat)
  if neg then -v else v

/-! ## Rounding -/

/-- m / 2^k to nearest, ties to even. -/
def rneShr (m k : Nat) : Nat :=
  if k = 0 then m
  else
    let q := m >>> k
    let r := m % 2 ^ k
    let half := 2 ^ (k - 1)
    if half < r || (r = half && q % 2 = 1) then q + 1 else q

/-- A magnitude m times 2^e as a multiple of 2^q, to nearest even. -/
def rneTo (m : Nat) (e q : Int) : Nat :=
  if q ≤ e then m <<< (e - q).toNat else rneShr m (q - e).toNat

/-- The exponent and mantissa bits (no sign) of a magnitude rounded to nearest even with unbounded exponent range above: exponent field and mantissa as one number, so that a carry moves to the next binade. -/
def fpRoundBits (mb : Nat) (bias : Int) (m : Nat) (e : Int) : Nat :=
  if m = 0 then 0
  else
    let l : Int := (Nat.log2 m : Nat) + e
    let l' := if l < 1 - bias then 1 - bias else l
    let n := rneTo m e (l' - mb)
    n + ((l' + bias - 1).toNat <<< mb)

/-- What an out-of-range value becomes. -/
inductive Range where
  /-- Infinity of its sign. -/
  | toInf
  /-- The largest finite value. -/
  | saturate
  deriving DecidableEq, Repr

/-- Largest finite encoding of an element format, without sign. -/
def fmtMaxBits : Nat → Nat
  | 0x00 => 0x7F7FFFFF | 0x01 => 0x7F7F | 0x02 => 0x7BFF | 0x03 => 0x7E | 0x04 => 0x7B | 0x05 => 0x1F | 0x06 => 0x1F
  | 0x07 => 0x7 | 0x09 => 0x7E | 0x0A => 0x7B | 0x0B => 0x1F | 0x0C => 0x1F | 0x0D => 0x7
  | _ => 0

/-- The sign bit of an element format as a number. -/
def fmtSignBit (f : Nat) : Nat := 2 ^ (fmtBits f - 1)

/-- A finite value rounded once to an element format, to nearest even; the flag says that it was out of range (R59, R60, R70, R72, R76). -/
def fpRoundFin (f : Nat) (r : Range) (neg : Bool) (m : Nat) (e : Int) : Nat × Bool :=
  match fmtShape f with
  | none => (0, false)
  | some (_, mb, bias) =>
    let b := fpRoundBits mb bias m e
    let s := if neg then fmtSignBit f else 0
    if b ≤ fmtMaxBits f then (s + b, false)
    else match r with
      | .toInf => (s + fmtMaxBits f + 1, true)
      | .saturate => (s + fmtMaxBits f, true)

/-- Canonical NaN of FP32, BF16 and the FP8 formats (R59, R60, Table 02-6). -/
def fmtNan : Nat → Nat
  | 0x00 => 0x7FC00000 | 0x01 => 0x7FC0 | 0x02 => 0x7E00 | 0x03 => 0x7F | 0x04 => 0x7F
  | _ => 0

/-! ## Vector-unit arithmetic (R59, R60) -/

/-- Status that an operation adds: NaN from non-NaN operands, and infinity rounded from finite operands. -/
structure VecFlags where
  invalid : Bool
  overflow : Bool
  deriving DecidableEq, Repr

/-- No status. -/
def VecFlags.clear : VecFlags := ⟨false, false⟩

/-- Both operations' status. -/
def VecFlags.or (a b : VecFlags) : VecFlags := ⟨a.invalid || b.invalid, a.overflow || b.overflow⟩

/-- A result value rounded to FP32 or BF16: NaN is canonical, overflow gives infinity. The first flag is left to the caller; the second is set when a finite value rounds to infinity. -/
def vecRound (f : Nat) : Fp → Nat × Bool
  | .nan => (fmtNan f, false)
  | .inf neg => ((if neg then fmtSignBit f else 0) + fmtMaxBits f + 1, false)
  | .fin neg m e => fpRoundFin f .toInf neg m e

/-- Exact sum of two values by IEEE 754 rules: a zero sum is +0 unless both addends are -0 (round to nearest). -/
def fpAdd : Fp → Fp → Fp
  | .nan, _ => .nan
  | _, .nan => .nan
  | .inf a, .inf b => if a = b then .inf a else .nan
  | .inf a, .fin .. => .inf a
  | .fin .., .inf b => .inf b
  | .fin na ma ea, .fin nb mb eb =>
    let q := if ea ≤ eb then ea else eb
    let s := fpInt na ma ea q + fpInt nb mb eb q
    if s = 0 then .fin (na && nb) 0 q
    else .fin (decide (s < 0)) s.natAbs q

/-- Exact product of two values. -/
def fpMul : Fp → Fp → Fp
  | .nan, _ => .nan
  | _, .nan => .nan
  | .inf a, .inf b => .inf (a != b)
  | .inf a, .fin nb mb _ => if mb = 0 then .nan else .inf (a != nb)
  | .fin na ma _, .inf b => if ma = 0 then .nan else .inf (na != b)
  | .fin na ma ea, .fin nb mb eb => .fin (na != nb) (ma * mb) (ea + eb)

/-- The value with its sign turned. -/
def fpNeg : Fp → Fp
  | .nan => .nan
  | .inf n => .inf (!n)
  | .fin n m e => .fin (!n) m e

/-- a is below b; both are not NaN. The zeros are equal. -/
def fpLt : Fp → Fp → Bool
  | .nan, _ => false
  | _, .nan => false
  | .inf a, .inf b => a && !b
  | .inf a, .fin .. => a
  | .fin .., .inf b => !b
  | .fin na ma ea, .fin nb mb eb =>
    let q := if ea ≤ eb then ea else eb
    decide (fpInt na ma ea q < fpInt nb mb eb q)

/-- a equals b; NaN equals nothing. -/
def fpEq (a b : Fp) : Bool := !a.isNan && !b.isNan && !fpLt a b && !fpLt b a

/-- The sign of a value that is not NaN. -/
def fpSign : Fp → Bool
  | .nan => false
  | .inf n => n
  | .fin n .. => n

/-- Minimum by R95: the other operand when one is NaN, and -0 below +0. -/
def fpMin (a b : Fp) : Fp :=
  if a.isNan then b else if b.isNan then a
  else if fpLt a b then a else if fpLt b a then b
  else if fpSign a then a else b

/-- Maximum by R95. -/
def fpMax (a b : Fp) : Fp :=
  if a.isNan then b else if b.isNan then a
  else if fpLt a b then b else if fpLt b a then a
  else if fpSign a then b else a

/-- An FP32 or BF16 result from exact operand values and the exact result, with its status. -/
def vecResult (f : Nat) (ops : List Fp) (r : Fp) : Nat × VecFlags :=
  let b := vecRound f r
  (b.1, ⟨r.isNan && ops.all (fun o => !o.isNan), b.2 && ops.all Fp.isFin⟩)

/-- FP32 or BF16 addition of two encodings (R59, R60). -/
def vecAdd (f a b : Nat) : Nat × VecFlags :=
  let x := fpDecode f a
  let y := fpDecode f b
  vecResult f [x, y] (fpAdd x y)

/-- Subtraction. -/
def vecSub (f a b : Nat) : Nat × VecFlags :=
  let x := fpDecode f a
  let y := fpDecode f b
  vecResult f [x, y] (fpAdd x (fpNeg y))

/-- Multiplication. -/
def vecMul (f a b : Nat) : Nat × VecFlags :=
  let x := fpDecode f a
  let y := fpDecode f b
  vecResult f [x, y] (fpMul x y)

/-- Fused multiply-add, rounded once. -/
def vecFma (f a b c : Nat) : Nat × VecFlags :=
  let x := fpDecode f a
  let y := fpDecode f b
  let z := fpDecode f c
  vecResult f [x, y, z] (fpAdd (fpMul x y) z)

/-- VMIN (R95). -/
def vecMin (f a b : Nat) : Nat × VecFlags := ((vecRound f (fpMin (fpDecode f a) (fpDecode f b))).1, VecFlags.clear)

/-- VMAX (R95). -/
def vecMax (f a b : Nat) : Nat × VecFlags := ((vecRound f (fpMax (fpDecode f a) (fpDecode f b))).1, VecFlags.clear)

/-- Conversion of one element between FP32 and BF16 (R98); a finite FP32 that rounds to infinity sets VEC_OVERFLOW. -/
def vecCvt (src dst a : Nat) : Nat × VecFlags :=
  let x := fpDecode src a
  vecResult dst [x] x

/-- Floating-point comparison under COND (Table 03-3). -/
def fpCompare (cond : Nat) (a b : Fp) : Bool :=
  let un := a.isNan || b.isNan
  match cond with
  | 0 => fpEq a b
  | 1 => un || !fpEq a b
  | 2 => fpLt a b
  | 3 => !un && !fpLt b a
  | 4 => fpLt b a
  | 5 => !un && !fpLt a b
  | 6 => un
  | _ => false

/-- Integer comparison under COND at width w (Table 03-3). -/
def intCompare (cond w a b : Nat) : Bool :=
  let sa : Int := (BitVec.ofNat w a).toInt
  let sb : Int := (BitVec.ofNat w b).toInt
  match cond with
  | 0 => a = b
  | 1 => a ≠ b
  | 2 => sa < sb
  | 3 => sa ≤ sb
  | 4 => sb < sa
  | 5 => sb ≤ sa
  | 8 => a < b
  | 9 => b ≤ a
  | _ => false

/-- A COND value is one of Table 03-3 for VCMP, or for VICMP. -/
def condOk (fp : Bool) (cond : Nat) : Bool :=
  cond ≤ 5 || (if fp then cond = 6 else cond = 8 || cond = 9)

end Sys2Proof.Machine
end

