-- ==== Sys2Proof/Machine/Accum.lean ====
section
/-! DEFINITION. The exact accumulator and the rounding of its results (R61 to R76, R507). -/

namespace Sys2Proof.Machine

/-- An exact accumulator in its internal register (R61, R64): the sum of its terms in units of 2^-112, the two sticky flags, and the terms received since it was cleared. -/
structure Ea where
  sum : Int
  under : Bool
  ovf : Bool
  terms : Nat
  deriving DecidableEq, Repr

/-- A cleared EA (R65). -/
def Ea.zero : Ea := ⟨0, false, false, 0⟩

/-- The overflow pattern: only bit 207 of VALUE is set (R64). -/
def eaPattern : Nat := 2 ^ 207

/-- OVERFLOW as R64 judges it when the EA is read. -/
def Ea.overflow (a : Ea) : Bool := a.ovf || decide (2 ^ 207 ≤ a.sum.natAbs) || decide (2 ^ 32 ≤ a.terms)

/-- VALUE as R64 reads it, as a number below 2^208. -/
def Ea.value (a : Ea) : Nat :=
  if a.overflow then eaPattern else (a.sum % (2 ^ 208 : Int)).toNat

/-- A term added to an EA: its sign and magnitude, or non-finite (R62, R63). -/
def Ea.addFp (a : Ea) (v : Fp) : Ea :=
  match v with
  | .fin neg m e =>
    let t := fpFloorTo m e (-112)
    if 2 ^ 207 ≤ t.1 then { a with ovf := true, terms := a.terms + 1 }
    else { a with sum := a.sum + (if neg then -(t.1 : Int) else t.1), under := a.under || t.2, terms := a.terms + 1 }
  | _ => { a with ovf := true, terms := a.terms + 1 }

/-- The product of two operand values added as one term (R62): a product with a NaN or infinite operand is non-finite, zero times an infinity too. -/
def Ea.addProduct (a : Ea) (x y : Fp) : Ea :=
  match x, y with
  | .fin .., .fin .. => a.addFp (fpMul x y)
  | _, _ => a.addFp .nan

/-- One EA value added to another, as one term (R64, R67, R74). -/
def Ea.addEa (a b : Ea) : Ea :=
  { sum := a.sum + (if b.overflow then 0 else b.sum), under := a.under || b.under, ovf := a.ovf || b.overflow, terms := a.terms + 1 }

/-- The EA that 26 stored bytes seed or contribute (R65, R67). -/
def Ea.ofValue (v : Nat) : Ea :=
  let w : Nat := v % 2 ^ 208
  if w = eaPattern then ⟨0, false, true, 0⟩
  else if 2 ^ 207 ≤ w then ⟨(w : Int) - (2 ^ 208 : Int), false, false, 0⟩
  else ⟨w, false, false, 0⟩

/-- The 26 bytes of R67. -/
def Ea.bytes (a : Ea) : List Byte := leBytes 26 a.value

/-- The exact value that an EA without OVERFLOW holds. -/
def Ea.fp (a : Ea) : Fp := .fin (decide (a.sum < 0)) a.sum.natAbs (-112)

/-! ## Status bits (Table 02-10) -/

/-- The bits of CELL_ARITH_STATUS that an event sets, as numbers. -/
def stUnder : Nat := 1
/-- OVERFLOW of Table 02-10. -/
def stOver : Nat := 2
/-- NONFINITE_IN of Table 02-10. -/
def stNonfinite : Nat := 4
/-- ROUND_SAT of Table 02-10. -/
def stSat : Nat := 8
/-- ROUND_INF of Table 02-10. -/
def stInf : Nat := 16
/-- ROUND_NAN of Table 02-10. -/
def stNan : Nat := 32
/-- VEC_OVERFLOW of Table 02-10. -/
def stVecOver : Nat := 64
/-- VEC_INVALID of Table 02-10. -/
def stVecInvalid : Nat := 128

/-- The status of a vector operation. -/
def VecFlags.status (v : VecFlags) : Nat :=
  (if v.invalid then stVecInvalid else 0) + (if v.overflow then stVecOver else 0)

/-- OVERFLOW and UNDERFLOW_INEXACT of an EA that is read, rounded, transported or stored. -/
def Ea.status (a : Ea) : Nat := (if a.overflow then stOver else 0) + (if a.under then stUnder else 0)

/-! ## Rounding (R69, R70, Table 02-6) -/

/-- An EA rounded to FP32, BF16, E5M2 or E4M3, with the status bits set. A zero is +0; OVERFLOW gives NaN. -/
def Ea.round (f : Nat) (a : Ea) : Nat × Nat :=
  if a.overflow then (fmtNan f, a.status ||| stNan)
  else
    let m := a.sum.natAbs
    let neg := decide (a.sum < 0)
    match f with
    | 0x04 => let r := fpRoundFin f .toInf neg m (-112); (r.1, a.status ||| (if r.2 then stInf else 0))
    | 0x03 => let r := fpRoundFin f .saturate neg m (-112); (r.1, a.status ||| (if r.2 then stSat else 0))
    | _ => ((fpRoundFin f .toInf neg m (-112)).1, a.status)

/-- emax of R71. -/
def mxEmax : Nat → Int
  | 0x09 => 8 | 0x0A => 15 | 0x0B => 4 | 0x0C => 2 | 0x0D => 2 | _ => 0

/-- One element of an MX block: the value divided by 2^X, rounded to nearest even, saturating (R72). -/
def mxElement (f : Nat) (x : Int) (a : Ea) : Nat × Bool :=
  let m := a.sum.natAbs
  let neg := decide (a.sum < 0)
  if f = 0x0E then
    let n := rneTo m (-112 - (x - 6)) 0
    if neg then (if 128 < n then (128, true) else ((256 - n) % 256, false))
    else (if 127 < n then (127, true) else (n, false))
  else if m = 0 then (0, false)
  else fpRoundFin f .saturate neg m (-112 - x)

/-- An MX block rounded from its EAs together: the scale byte, the elements and the status (R71, R72). -/
def mxRound (f : Nat) (as : List Ea) : Nat × List Nat × Nat :=
  let st := as.foldl (fun s a => s ||| a.status) 0
  if as.any Ea.overflow then (0xFF, as.map (fun _ => 0), st ||| stNan)
  else
    let mx := as.foldl (fun m a => Nat.max m a.sum.natAbs) 0
    if mx = 0 then (0x7F, as.map (fun _ => 0), st)
    else
      let x : Int := (Nat.log2 mx : Nat) - 112 - mxEmax f
      let es := as.map (mxElement f x)
      ((x + 127).toNat, es.map Prod.fst, st ||| (if es.any Prod.snd then stSat else 0))

/-- A ranked-mode FP32 result posted in an output format, with the status bits of R507 (R76). -/
def rankedRound (f bits : Nat) : Nat × Nat :=
  match fpDecode 0x00 bits with
  | .nan => (fmtNan f, stNan)
  | .inf neg =>
    if f = 0x03 then ((if neg then fmtSignBit f else 0) + fmtMaxBits f, stSat)
    else ((if neg then fmtSignBit f else 0) + fmtMaxBits f + 1, stInf)
  | .fin neg m e =>
    if f = 0x03 then let r := fpRoundFin f .saturate neg m e; (r.1, if r.2 then stSat else 0)
    else let r := fpRoundFin f .toInf neg m e; (r.1, if r.2 then stInf else 0)

/-- One addition of a ranked fold, with VEC_INVALID and VEC_OVERFLOW by R507. -/
def rankedAdd (a b : Nat) : Nat × Nat :=
  let r := vecAdd 0x00 a b
  (r.1, r.2.status)

/-! ## Packing (R56, R67) -/

/-- Bits from an offset in packed elements to the bytes that hold them: element i of a format occupies its bits from bit i times the element width, little-endian; an EA 26 bytes. -/
def packedAt (f i : Nat) (bytes : Nat → Byte) : Nat :=
  let w := fmtBits f
  let lo := i * w
  let b0 := lo / 8
  let n := (lo + w + 7) / 8 - b0
  (leNat ((List.range n).map (fun k => bytes (b0 + k))) >>> (lo % 8)) % 2 ^ w

/-- Bytes that n packed elements occupy. -/
def packedSize (f n : Nat) : Nat := (n * fmtBits f + 7) / 8

/-- Elements packed into bytes, little-endian in bit order. -/
def packElems (f : Nat) (es : List Nat) : List Byte :=
  let w := fmtBits f
  leBytes (packedSize f es.length) (es.foldr (fun e acc => e % 2 ^ w + acc * 2 ^ w) 0)

end Sys2Proof.Machine
end

