-- ==== Sys2Proof/Machine/SMap.lean ====
section
/-! DEFINITION. Sparse maps: the registers and memories of the device as lists of (key, value) pairs in one canonical form, keys strictly rising and no entry equal to what an unlisted key reads as. -/

namespace Sys2Proof.Machine

/-- A sparse map from numbers. -/
abbrev SMap (α : Type) := List (Nat × α)

/-- The value listed at a key. -/
def SMap.find {α : Type} (k : Nat) : SMap α → Option α
  | [] => none
  | (k', v) :: m => if k' = k then some v else SMap.find k m

/-- The value at a key, `dflt` where it lists none. -/
def SMap.read {α : Type} (dflt : α) (m : SMap α) (k : Nat) : α := (SMap.find k m).getD dflt

/-- The map with a value listed at a key. -/
def SMap.insert {α : Type} (k : Nat) (v : α) : SMap α → SMap α
  | [] => [(k, v)]
  | (k', v') :: m =>
    if k < k' then (k, v) :: (k', v') :: m
    else if k = k' then (k, v) :: m
    else (k', v') :: SMap.insert k v m

/-- The map with nothing listed at a key. -/
def SMap.erase {α : Type} (k : Nat) : SMap α → SMap α
  | [] => []
  | (k', v') :: m => if k' = k then SMap.erase k m else (k', v') :: SMap.erase k m

/-- The map that reads `v` at `k`, in canonical form. -/
def SMap.write {α : Type} [DecidableEq α] (dflt : α) (m : SMap α) (k : Nat) (v : α) : SMap α :=
  if v = dflt then SMap.erase k m else SMap.insert k v m

/-- Every key is above `lo`, keys rise strictly, and no entry holds the unlisted value of its key. -/
def SMap.okFrom {α : Type} [DecidableEq α] (dflt : Nat → α) : Nat → SMap α → Bool
  | _, [] => true
  | lo, (k, v) :: m => decide (lo ≤ k) && decide (v ≠ dflt k) && SMap.okFrom dflt (k + 1) m

/-- The canonical form. -/
def SMap.ok {α : Type} [DecidableEq α] (dflt : Nat → α) (m : SMap α) : Bool := SMap.okFrom dflt 0 m

/-- The map without the keys in [lo, hi). -/
def SMap.dropRange {α : Type} (m : SMap α) (lo hi : Nat) : SMap α :=
  List.filter (fun e => !(decide (lo ≤ e.1) && decide (e.1 < hi))) m

/-- The part of the map with keys in [lo, hi), its keys moved so that `lo` becomes `base`. -/
def SMap.slice {α : Type} (m : SMap α) (lo hi base : Nat) : SMap α :=
  List.map (fun e => (e.1 - lo + base, e.2)) (List.filter (fun e => decide (lo ≤ e.1) && decide (e.1 < hi)) m)

/-- One map laid over another: entries of `top` replace those of `m`. -/
def SMap.overlay {α : Type} (top m : SMap α) : SMap α :=
  List.foldr (fun e acc => SMap.insert e.1 e.2 acc) m top

/-! ## Bytes of storage -/

/-- A byte that nothing has written reads as zero: the reset contents where the spec zero-fills (Table 11-1, R446), and the model's choice for far memory after power-on. -/
def memReset : Byte := 0

/-- The canonical form of memory. -/
def Memory.wf (m : List (Nat × Byte)) : Bool := SMap.ok (fun _ => memReset) m

/-- One byte of storage. -/
def Memory.byte (m : List (Nat × Byte)) (a : Nat) : Byte := SMap.read memReset m a

/-- `n` bytes from an address. -/
def Memory.read (m : List (Nat × Byte)) (a : Nat) : Nat → List Byte
  | 0 => []
  | n + 1 => Memory.byte m a :: Memory.read m (a + 1) n

/-- Stores bytes from an address on. -/
def Memory.write (m : List (Nat × Byte)) (a : Nat) : List Byte → List (Nat × Byte)
  | [] => m
  | b :: bs => Memory.write (SMap.write memReset m a b) (a + 1) bs

/-- Zero-fills [lo, hi). -/
def Memory.zero (m : List (Nat × Byte)) (lo hi : Nat) : List (Nat × Byte) := SMap.dropRange m lo hi

/-- Copies `len` bytes from `src` to `dst`, all of the source read first. -/
def Memory.copy (m : List (Nat × Byte)) (src dst len : Nat) : List (Nat × Byte) :=
  SMap.overlay (SMap.slice m src (src + len) dst) (SMap.dropRange m dst (dst + len))

end Sys2Proof.Machine
end

