-- ==== Sys2Proof/Machine/State.lean ====
section
/-! DEFINITION. The state of the device as plain data, the reasons a step can stop, and the state after reset. -/

namespace Sys2Proof.Machine

/-! ## The cell: contexts (chapter 03) -/

/-- States of a context (Table 03-8). -/
inductive CtxPhase where
  | empty
  | ready
  | running
  | parked
  | done
  | faulted
  deriving DecidableEq, Repr

/-- What a parked context waits for: the WAIT codes of Table 03-12 with the condition held in hardware (R115, R196). -/
inductive Wait where
  /-- WAIT 0: counter `n` at `threshold` or above. -/
  | counter (n threshold : Nat)
  /-- WAIT 1: `units` credit units and outbox room on an endpoint. -/
  | credit (sep units bytes : Nat)
  /-- WAIT 2: a message on an inbound channel. -/
  | receive (chan : Nat)
  /-- WAIT 3: outbox room for a contribution, or a combining queue's end. -/
  | queue (kind q : Nat)
  /-- WAIT 4: the end of a launch. -/
  | launchEnd (handle : Nat)
  /-- WAIT 5: an array plane or the pending launch. -/
  | plane
  deriving DecidableEq, Repr

/-- A declared stream descriptor (Table 03-5), with the read-ahead of R105: `pos` is the stream offset after the last committed access and `ahead` the offset up to which the core has read. -/
structure StreamDesc where
  base : Nat
  rowBytes : Nat
  rowStride : Int
  rows : Nat
  dir : Nat
  fmt : Nat
  runahead : Bool
  pos : Nat
  ahead : Nat
  deriving DecidableEq, Repr

/-- A task descriptor as read at the start of a task switch (Table 03-6). -/
structure TaskDesc where
  entry : Nat
  codeBase : Nat
  codeLimit : Nat
  prio : Nat
  doneCtr : Nat
  doneEn : Bool
  args : List Word
  deriving DecidableEq, Repr

/-- The 96-cycle activity of a context, if any: the task switch of a bind or the clear after a KILL (R110, R113). -/
inductive CtxActivity where
  | idle
  | switching (d : TaskDesc) (sched : Option Nat)
  | clearing
  deriving DecidableEq, Repr

/-- One hardware context (R84). The slab registers lie in the slice's slab store (R86) and the private counters among the cell's counters (R88). -/
structure CtxState where
  phase : CtxPhase
  wait : Option Wait
  /-- The program counter, a byte offset into the slice (R87). -/
  pc : Word
  /-- x1 to x31; x0 is never listed (R85). -/
  x : SMap Word
  /-- Valid stream descriptors, by index 0 to 7. -/
  sds : SMap StreamDesc
  prio : Nat
  codeBase : Nat
  codeLimit : Nat
  doneEn : Bool
  doneCtr : Nat
  /-- START of R193. -/
  start : Bool
  /-- Instructions retired since the bind (CSRR 5). -/
  retired : Nat
  /-- Which bind of the cell the context runs, to tell tasks apart (R505). -/
  bindId : Nat
  /-- The TASKS entry when the schedule unit bound the task. -/
  sched : Option Nat
  act : CtxActivity
  deriving DecidableEq, Repr

/-- A context after reset. DESIGN CHOICE, unsafe (log entry 4). -/
def CtxState.reset : CtxState :=
  { phase := .empty, wait := none, pc := 0, x := [], sds := [], prio := 0, codeBase := 0, codeLimit := 0, doneEn := false,
    doneCtr := 0, start := false, retired := 0, bindId := 0, sched := none, act := .idle }

/-- Where a slab operation writes. -/
inductive SlabDst where
  | slab (k : Nat)
  | scalar (r : Nat)
  deriving DecidableEq, Repr

/-- A slab operation that has issued and not yet written its destination (R93): its result bytes, the slab registers it read, the status it sets, and the instruction's place and scalar registers, to which a residue fault returns the context (R99, R117). -/
structure SlabOp where
  ctx : Nat
  pc : Word
  dst : SlabDst
  result : List Byte
  status : Nat
  x : SMap Word
  deriving DecidableEq, Repr

/-! ## The cell: array (chapter 04) -/

/-- A word on an array link (R125): kind (token or data), tag and data. -/
structure AWord where
  token : Bool
  tag : Nat
  data : Word
  deriving DecidableEq, Repr

/-- A lane in DATAFLOW mode: its inputs N, E, S and W, its accumulator and firings, its table position, and result words not yet sent (R126, R131). -/
structure LaneState where
  ins : SMap (List AWord)
  ea : Ea
  fired : Nat
  table : Nat
  out : List AWord
  deriving DecidableEq, Repr

/-- A lane at launch start. -/
def LaneState.reset : LaneState := ⟨[], Ea.zero, 0, 0, []⟩

/-- The buffers of a steering unit (R134). -/
structure UnitState where
  data : List AWord
  tokens : List AWord
  deriving DecidableEq, Repr

/-- A steering unit with empty buffers. -/
def UnitState.reset : UnitState := ⟨[], []⟩

/-- A launch as ALAUNCH queued it (Table 04-7), with its bound descriptors (R142) and who issued it (R118, R505). -/
structure LaunchDesc where
  handle : Nat
  ctx : Nat
  bindId : Nat
  sched : Option Nat
  pc : Word
  imageId : Nat
  doneCtr : Nat
  tileCtr : Nat
  seed : Bool
  tileEn : Bool
  ports : SMap StreamDesc
  m : Nat
  n : Nat
  k : Nat
  /-- Device address of the descriptor's STATUS word. -/
  statusAddr : Nat
  deriving DecidableEq, Repr

/-- The masks of a tile's mismatch, waiting for its repeat (R153). -/
structure Mismatch where
  rows : Nat
  cols : Nat
  inexact : Bool
  deriving DecidableEq, Repr

/-- Why a drain runs (R156). -/
inductive DrainCause where
  | freeze
  | adrain
  | kill
  | fault
  deriving DecidableEq, Repr

/-- The running launch: its tile position in MATMUL mode, its lanes, units, edge links and stream positions in DATAFLOW mode, and the flags of its status word. -/
structure Launch where
  desc : LaunchDesc
  dataflow : Bool
  tile : Nat
  repeating : Option Mismatch
  inexact : Bool
  retried : Bool
  under : Bool
  ovf : Bool
  /-- Words that each stream port has delivered or received. -/
  portPos : SMap Nat
  lanes : SMap LaneState
  units : SMap UnitState
  /-- The word on the link from an end lane to the steering units: 2s west, 2s + 1 east of strip s. -/
  edges : SMap AWord
  /-- The end state, once decided and until LAUNCH_END writes it (R144): 2 DONE, 3 ABORTED, 4 FAILED, 5 FAULTED. -/
  ending : Option Nat
  drain : Option DrainCause
  /-- Drained for freeze, state held (R156). -/
  held : Bool
  deriving DecidableEq, Repr

/-- A launch that has ended: the last eight are kept (R145). -/
structure EndedLaunch where
  handle : Nat
  ctx : Nat
  bindId : Nat
  status : Nat
  deriving DecidableEq, Repr

/-- An image load under way or waiting (R140). -/
structure ImageLoad where
  ctx : Nat
  addr : Nat
  deriving DecidableEq, Repr

/-- The array of a cell (R124 to R158); the plane states stand in CELL_ARR_PLANEn. -/
structure ArrayState where
  /-- Image bytes of the two planes. -/
  plane0 : List Byte
  plane1 : List Byte
  /-- The active plane is plane 1. -/
  active : Bool
  load : Option ImageLoad
  loadWait : List ImageLoad
  /-- Results of ended loads that their ALOADs have not yet committed, by context. -/
  loadDone : SMap Nat
  run : Option Launch
  pend : Option LaunchDesc
  ended : List EndedLaunch
  nextHandle : Nat
  /-- Drains that an ADRAIN of a context started, by context: the handle (R146). -/
  drains : SMap Nat
  deriving DecidableEq, Repr

/-- The array after reset: planes EMPTY, the first handle is 1 (Table 04-8). -/
def ArrayState.reset : ArrayState :=
  { plane0 := [], plane1 := [], active := false, load := none, loadWait := [], loadDone := [], run := none, pend := none,
    ended := [], nextHandle := 1, drains := [] }

/-! ## The cell: near-memory unit (R173 to R180) -/

/-- The near-memory command under way: its 64 bytes, its result so far, and whether its operation has been performed. -/
structure NmCommand where
  bytes : List Byte
  result : Nat
  performed : Bool
  deriving DecidableEq, Repr

/-! ## The cell: channels, endpoints and combining queues (chapter 07) -/

/-- A record under way at its receiver (R217): its SEQ, ring offset and header, and how many of the bytes after the header have come. -/
structure RecPart where
  seq : Nat
  off : Nat
  hdr : List Byte
  need : Nat
  got : Nat
  deriving DecidableEq, Repr

/-- An inbound channel beside its banked registers (R210, R217, R220): the SEQ that becomes visible next, units between RD and ARRIVED, units freed and units returned since the JOIN, and records not yet visible. -/
structure ChanState where
  nextSeq : Nat
  visible : Nat
  freed : Nat
  returned : Nat
  parts : List RecPart
  deriving DecidableEq, Repr

/-- A channel at OPEN. -/
def ChanState.reset : ChanState := ⟨0, 0, 0, 0, []⟩

/-- A member of an endpoint's target (R211, R232): device, logical cell, its generation once it has accepted, and its latest cumulative count of freed units. -/
structure SepMember where
  dev : Nat
  lc : Nat
  gen : Option Nat
  freed : Nat
  deriving DecidableEq, Repr

/-- A send endpoint beside its banked registers: the SEQ of its next record (R216) and its members. -/
structure SepState where
  seq : Nat
  members : List SepMember
  deriving DecidableEq, Repr

/-- An endpoint that has not been bound. -/
def SepState.reset : SepState := ⟨0, []⟩

/-- An item in the outbox (R223, R506): a record of an endpoint, or a packet of a contribution. `head` is the record header or the contribution's packet extension; `off` the ring offset of the record, or the byte offset in the contribution; `sent` counts the bytes already released (a record's header included). -/
structure OutItem where
  contrib : Bool
  sep : Nat
  seq : Nat
  off : Nat
  head : List Byte
  body : List Byte
  sent : Nat
  space : Nat
  /-- Target: device, unit, channel (a record's), and whether the endpoint is bound with CLASS S. A multicast record has its ring direction in `unit` and the devices along the ring in `hops`, and goes to members on the own device if `own`. -/
  dstDev : Nat
  unit : Nat
  chan : Nat
  sched : Bool
  mcast : Bool
  hops : Nat
  own : Bool
  deriving DecidableEq, Repr

/-- A committed contribution whose source is still being read (R237). -/
structure ContribJob where
  dstDev : Nat
  dstLc : Nat
  queue : Nat
  ranked : Bool
  srcFmt : Nat
  rank : Nat
  epoch : Nat
  seq : Nat
  src : Nat
  count : Nat
  inexact : Bool
  doneCtr : Nat
  doneEn : Bool
  /-- Elements read. -/
  pos : Nat
  deriving DecidableEq, Repr

/-- A combining queue beside its banked registers (Table 07-6, R239, R240): its open descriptor, its accumulators, and what has arrived of each rank. -/
structure CqState where
  outFmt : Nat
  toSep : Bool
  destSep : Nat
  postCtr : Nat
  window : Nat
  ncontrib : Nat
  count : Nat
  storeOff : Nat
  outOff : Nat
  outScaleOff : Nat
  rearm : Bool
  under : Bool
  ea : SMap Ea
  acc : SMap Nat
  /-- Ranks accepted in this round, with their pieces until complete: byte offset and bytes. -/
  ranks : SMap (List (Nat × List Byte))
  /-- Ranks complete and added, or held for their turn in ranked mode with their elements. -/
  complete : List Nat
  held : SMap (List Nat)
  /-- Status bits of the rounding, to be set when the post ends. -/
  status : Nat
  /-- The result message waits for credits or outbox room. -/
  sending : List Byte
  deriving DecidableEq, Repr

/-- A queue that is CLOSED. -/
def CqState.reset : CqState :=
  { outFmt := 0, toSep := false, destSep := 0, postCtr := 0, window := 0, ncontrib := 0, count := 0, storeOff := 0, outOff := 0,
    outScaleOff := 0, rearm := false, under := false, ea := [], acc := [], ranks := [], complete := [], held := [], status := 0,
    sending := [] }

/-! ## Engines (chapter 08) -/

/-- How an item ends, before it is posted (Table 08-3): STATE, ERROR, DETAIL, FLAGS and RESULT. -/
structure ItemEnd where
  state : Nat
  error : Nat
  detail : Nat
  flags : Nat
  result : Nat
  deriving DecidableEq, Repr

/-- An item in flight on an engine (R253): the engine and queue whose ring holds it, its SEQ, the descriptor as read when it started, the stream key and the loaded digest state that it uses (R265, R385), its end once fixed, and whether it stops under an abort word, holds one that came too late, was re-run, or runs here as the partner's suspect (R386). `run` counts its runs, and `refused` keeps the reason of a refusal (R258). -/
structure EngItem where
  home : Nat
  q : Nat
  seq : Nat
  desc : List Byte
  keyLo : Nat
  keyHi : Nat
  loaded : List Byte
  ending : Option ItemEnd
  aborting : Bool
  tooLate : Bool
  replayed : Bool
  guest : Bool
  run : Nat
  issued : Bool
  refused : Option Nat
  deriving DecidableEq, Repr

/-- A suspect replay (R385, R386): the suspects still to run, those that have run, how many reproduced with the first of them, and whether the self-test runs. Items are named by home engine, queue and SEQ. -/
structure Replay where
  todo : List (Nat × Nat × Nat)
  done : List (Nat × Nat × Nat)
  /-- An indication has come during the present run. -/
  hit : Bool
  repro : List (Nat × Nat × Nat)
  selfTest : Bool
  deriving DecidableEq, Repr

/-- An engine beside its registers: items in flight in the order they started, the queue that started one last for the round robin of R253 and R270 (own 0 to 63, redirected 64 to 127), STATE of the slots used since ENABLE (by queue × 4096 + slot), queues that a DISABLE empties, the replay under way, and when the engine was last found guilty. -/
structure EngState where
  items : List EngItem
  last : Nat
  slots : SMap Nat
  disabling : List Nat
  replay : Option Replay
  guiltyNs : Option Nat
  deriving DecidableEq, Repr

/-- An engine after reset. -/
def EngState.reset : EngState := ⟨[], 127, [], [], none, none⟩

/-- A remote request of a mover that awaits its answer (R257): the engine that runs the item, the item and its run, the device asked, write or read, and the bytes of the item it moves. -/
structure RemoteReq where
  eng : Nat
  item : Nat × Nat × Nat
  run : Nat
  dev : Nat
  write : Bool
  off : Nat
  len : Nat
  deriving DecidableEq, Repr

/-! ## Mesh and ports (chapter 09) -/

/-- A packet in flight on the die: the router it is at, the input it waits in (0 N, 1 E, 2 S, 3 W, 4 local), and the port by which it entered the device. -/
structure Flight where
  pkt : Packet
  node : Nat
  dir : Nat
  via : Option Nat
  deriving DecidableEq, Repr

/-- The link layer of a port beside its registers (R298 to R303, R315). -/
structure LinkState where
  /-- Receiver: the sequence number expected next, whether a NAK is due, partial packets by virtual channel, and cumulative buffers freed by class (0 S, 1 UA, 2 UE, 3 C). -/
  rxNext : Nat
  nak : Bool
  parts : SMap (List (BitVec 512))
  freed : SMap Nat
  /-- Sender: the next sequence number, the unacknowledged slots with the last slot of each packet marked, where a replay under way resends from, credits used by class, and the peer's last cumulative counts. -/
  txNext : Nat
  replay : List (Nat × Bool × LinkSlot)
  resend : Option Nat
  used : SMap Nat
  peer : SMap Nat
  /-- Consecutive matching control flits, up to 16. -/
  good : Nat
  /-- T_TX of the last control flit received and the time of its arrival. -/
  lastTx : Nat
  lastAt : Nat
  /-- Sum and number of the delay samples of the filter (R315). -/
  delaySum : Nat
  delayN : Nat
  /-- Replays started in this beat (R302). -/
  replays : Nat
  /-- GOING_DOWN is being sent. -/
  goingDown : Bool
  deriving DecidableEq, Repr

/-- A link that has carried nothing. -/
def LinkState.reset : LinkState :=
  { rxNext := 0, nak := false, parts := [], freed := [], txNext := 0, replay := [], resend := none, used := [], peer := [],
    good := 0, lastTx := 0, lastAt := 0, delaySum := 0, delayN := 0, replays := 0, goingDown := false }

/-! ## The cell -/

/-- The freeze sources of R504, and the containment freezes that only a reset ends (R390, R444, R446, Table 16-4). -/
structure FreezeSources where
  command : Bool
  migration : Bool
  hold : Bool
  thermal : Bool
  containment : Bool
  deriving DecidableEq, Repr

/-- Any source holds the cell. -/
def FreezeSources.any (f : FreezeSources) : Bool := f.command || f.migration || f.hold || f.thermal || f.containment

/-- The state of a cell that follows its logical cell through a migration, kept by the hosting slot (Table 11-3). Slice contents lie in memory and register values in the register map. -/
structure CellState where
  ctxs : SMap CtxState
  /-- The 256 sync counters (R189). -/
  ctrs : SMap Word
  freeze : FreezeSources
  /-- FROZEN: issue has stopped and the cell reports it (R120). -/
  frozen : Bool
  /-- Context that ran last, for the round robin of R114. -/
  lastRun : Nat
  /-- Next bind number (R505). -/
  nextBind : Nat
  slabOps : List SlabOp
  arr : ArrayState
  nm : Option NmCommand
  chans : SMap ChanState
  seps : SMap SepState
  cqs : SMap CqState
  /-- Queue commands of CELL_CHAN_CMD that wait out a post: queue, and the descriptor's slice offset of an open (R235, R236). -/
  cqWait : List (Nat × Option Nat)
  outbox : List OutItem
  contribs : List ContribJob
  deriving DecidableEq, Repr

/-- A cell after reset (R441). -/
def CellState.reset : CellState :=
  { ctxs := [], ctrs := [], freeze := ⟨false, false, false, false, false⟩, frozen := false, lastRun := 31, nextBind := 1,
    slabOps := [], arr := ArrayState.reset, nm := none, chans := [], seps := [], cqs := [], cqWait := [], outbox := [], contribs := [] }

/-! ## Records and the log (chapter 12) -/

/-- A fault record as its source makes it (Table 12-5), before the log gives it a SEQ. -/
structure Record where
  event : Nat
  key : Nat
  cls : Nat
  inst : Nat
  sev : Nat
  context : Nat
  d0 : Nat
  d1 : Nat
  d2 : Nat
  beat : Nat
  ptp : Nat
  deriving DecidableEq, Repr

/-- An entry of the log ring (R399): the record, its SEQ, COUNT, LATEST and COALESCED, and its streaming state (R403, R404): when it was written, when last sent, whether a send is due, and whether it was ever sent. -/
structure LogEntry where
  body : Record
  seq : Nat
  count : Nat
  latest : Bool
  coalesced : Bool
  writtenNs : Nat
  sentNs : Option Nat
  due : Bool
  deriving DecidableEq, Repr

/-- An open coalescing slot (R401): its signature, the SEQs of its first and LATEST entries, when it opened and its lifetime. -/
structure CoalSlot where
  event : Nat
  key : Nat
  cls : Nat
  inst : Nat
  first : Nat
  latest : Option Nat
  openedNs : Nat
  lifeMs : Nat
  deriving DecidableEq, Repr

/-! ## The schedule unit (chapter 10) -/

/-- A hold raised or received and not yet acted on (R345). -/
structure HoldInfo where
  isLocal : Bool
  cause : Nat
  port : Nat
  origin : Nat
  lc : Nat
  coll : Nat
  deriving DecidableEq, Repr

/-- What a load or resume is doing (R337, R338). -/
inductive LoadStage where
  | none
  | digest
  | signature
  /-- Phase A is done; the device waits for the release of barrier A. -/
  | barrierA
  /-- Endpoints bind in phase B. -/
  | phaseB
  /-- Phase B is done; the device waits for the release of barrier B. -/
  | barrierB
  deriving DecidableEq, Repr

/-- An open transfer window (R329): the running position after its last, the payload bytes released, and those due by R343. -/
structure WindowState where
  last : Nat
  released : Nat
  due : Nat
  deriving DecidableEq, Repr

/-- The schedule unit beside its registers. -/
structure SchedState where
  /-- SCHED_IMAGE_BASE as the accepted LOAD found it. -/
  base : Nat
  /-- An image is loaded or loading. -/
  loaded : Bool
  stage : LoadStage
  /-- The arming under way is a resume's: its RESUME record and epoch. -/
  resuming : Bool
  point : Nat
  newEpoch : Nat
  /-- A setup write of the arming returned a result other than OK, or a bind failed. -/
  setupFailed : Bool
  hold : Option HoldInfo
  unload : Bool
  /-- SCHED_STEP latched at each resume point passed (R342). -/
  stepAt : SMap Nat
  windows : SMap WindowState
  /-- Subtree counts of BARRIER_ARRIVE flits by the port they came in on: epoch, phase and count (R339). -/
  arrives : SMap (Nat × Nat × Nat)
  /-- The epoch and phase for which this device has sent its own ARRIVE. -/
  arrived : Option (Nat × Nat)
  /-- What setup records opened, bound and enabled, for UNLOAD (R350): channels and endpoints by logical cell, queues by engine, alignment entries by cell. -/
  setupChans : List (Nat × Nat)
  setupEps : List (Nat × Nat)
  setupQueues : List (Nat × Nat)
  setupAligns : List (Nat × Nat)
  /-- Stretch requests at the master: value and beat by device (R324). -/
  stretch : SMap (Nat × Nat)
  /-- The stretch request last sent (R323). -/
  lastReq : Nat
  /-- No marker has come from either neighbour (R317), and good markers seen from the parent while the alternate is used. -/
  noSource : Bool
  goodMarkers : Nat
  /-- A marker that the next beat boundary forwards, with its port and the cycle of its arrival (R314, R315). -/
  marker : Option (Nat × Nat × CFlit)
  deriving DecidableEq, Repr

/-- The schedule unit after reset. -/
def SchedState.reset : SchedState :=
  { base := 0, loaded := false, stage := .none, resuming := false, point := 0, newEpoch := 0,
    setupFailed := false, hold := none, unload := false, stepAt := [], windows := [], arrives := [], arrived := none,
    setupChans := [], setupEps := [], setupQueues := [], setupAligns := [], stretch := [], lastReq := 16, noSource := false,
    goodMarkers := 0, marker := none }

/-! ## Patrol (chapter 11) -/

/-- Phases of a migration (Table 11-4). -/
inductive MigPhase where
  | select
  | freeze
  | copy
  | aborting
  deriving DecidableEq, Repr

/-- A migration under way (R358, R359): patrol or live, and whether it waits for the domain to be held (R364). -/
structure Migration where
  row : Nat
  lc : Nat
  src : Nat
  dst : Nat
  live : Bool
  waiting : Bool
  phase : MigPhase
  deriving DecidableEq, Repr

/-- The test under way in a slot (Table 11-1): the step to come, whether the slot is a suspect's, and what the test has changed. -/
structure SlotTest where
  step : Nat
  suspect : Bool
  repaired : Bool
  deriving DecidableEq, Repr

/-- What Badger and Slolis keep of a slot beside BADGER_SLOTn and the defect map. -/
structure SlotInfo where
  /-- Period and beat in which the slot was vacated (R357); none before. -/
  vacated : Option (Nat × Nat)
  /-- The slot's last test passed (R364). -/
  lastPassed : Bool
  test : Option SlotTest
  /-- The slot was vacated by a suspect and is to be tested as one. -/
  suspect : Bool
  /-- Tiles passed on retry in this maintenance period (Table 11-6). -/
  retries : Nat
  /-- PTP seconds of double-bit corrections in the slice (Table 11-6). -/
  doubles : List Nat
  /-- PTP seconds and amounts of corrected errors (Table 11-11). -/
  corrected : List (Nat × Nat)
  /-- Counter sum last seen by the health score. -/
  correctedSeen : Nat
  /-- Lines of the slice corrected on a read and not yet written back, by slice offset of the word (R165). -/
  ecc : List Nat
  /-- Next line of the scrubber (R168). -/
  scrub : Nat
  /-- Headroom samples of the day: sum and number; then daily means, oldest first, at most 30 (R370). -/
  dayMean : Nat × Nat
  means : List Nat
  deriving DecidableEq, Repr

/-- A slot of which nothing is known yet. -/
def SlotInfo.reset : SlotInfo :=
  { vacated := none, lastPassed := false, test := none, suspect := false, retries := 0, doubles := [], corrected := [],
    correctedSeen := 0, ecc := [], scrub := 0, dayMean := (0, 0), means := [] }

/-- The replacement request beside BADGER_REQ (R378, R379): since when, in PTP seconds, the condition of each level has held and has been clear, when the last notification left, and whether a change's notification waits for CAP_MIN. -/
structure ReplaceState where
  held : SMap Nat
  clear : SMap Nat
  lastNotice : Option Nat
  due : Bool
  deriving DecidableEq, Repr

/-- Before the first evaluation. -/
def ReplaceState.reset : ReplaceState := ⟨[], [], none, false⟩

/-! ## Snapshots (chapter 13) -/

/-- A region of the snapshot plan (Table 13-2). -/
structure SnapRegion where
  id : Nat
  kind : Nat
  flags : Nat
  len : Nat
  base0 : Nat
  base1 : Nat
  deriving DecidableEq, Repr

/-- A slot as the current superblock describes it (Table 13-7). -/
structure SnapSlot where
  step : Nat
  state : Nat
  tainted : Bool
  moff : Nat
  mlen : Nat
  digest : List Byte
  deriving DecidableEq, Repr

/-- A slot of an area without a superblock: EMPTY. -/
def SnapSlot.empty : SnapSlot := ⟨0, 0, false, 0, 0, []⟩

/-- What Squirrel's outstanding NVMe commands are for (R418, R428, R429). -/
inductive SnapStage where
  | none
  /-- Superblocks are read at ARM, or at the start of a restore or of a buddy restore. -/
  | loadArm
  | loadRestore
  | loadBuddy
  | data
  | flushData
  | manifest
  | flushManifest
  | commit
  /-- The manifest and then the data of a restore are read. -/
  | readManifest
  | readData
  deriving DecidableEq, Repr

/-- An NVMe command that awaits its completion: drive, opcode (0 Flush, 1 Write, 2 Read), first block and blocks from the start of the drive's area, and the byte offset in the slot's data space that it carries. -/
structure NvmeReq where
  drive : Nat
  opcode : Nat
  lba : Nat
  blocks : Nat
  off : Nat
  deriving DecidableEq, Repr

/-- The segment that a hub works on: its number, its region's position in the plan, the bytes of the region before it and within it that are done, and those bytes for its digest (R416). -/
structure SnapWork where
  seg : Nat
  done : Nat
  bytes : List Byte
  deriving DecidableEq, Repr

/-- A shard that Squirrel holds for a sender in the last slot (R432). -/
structure SnapShard where
  step : Nat
  j : Nat
  data : List Byte
  deriving DecidableEq, Repr

/-- Squirrel beside its registers. -/
structure SnapState where
  plan : List SnapRegion
  /-- The superblock: generation and slots. -/
  sbGen : Nat
  slots : SMap SnapSlot
  stage : SnapStage
  reqs : List NvmeReq
  /-- Data of completed reads, by drive × 2^48 plus block for superblocks and by offset in the data space for the slot. -/
  read : SMap (List Byte)
  /-- The buffer that the drain reads, and the T of the last flip that the selector of R410 still follows. -/
  buf : Nat
  selT : Nat
  /-- The slot in use, and what the flip latched: T, TAINTED, beat, PTP, SHAPE, IMAGE_ID, SAMPLE (Table 13-8). -/
  slot : Nat
  t : Nat
  tainted : Bool
  flipBeat : Nat
  flipPtp : Nat
  flipNs : Nat
  shape : Nat
  imageId : Nat
  sample : Nat
  /-- Work of each hub, segments finished with their digests, chunk directory (offset and LEN with RAW), and bytes of data space used. -/
  works : SMap SnapWork
  segs : SMap (List Byte)
  chunks : SMap (Nat × Nat)
  used : Nat
  /-- The data space as written so far, for the manifest and the buddy shards. -/
  space : List Byte
  manifest : List Byte
  /-- Segments of a restore that have been written and checked. -/
  restored : List Nat
  /-- SNAPS of the selector, and the last selector's RD and WR. -/
  snaps : Nat
  rd : Nat
  wr : Nat
  /-- The newest T acted on, and the SNAP_DONE that is repeated: STATUS and T. -/
  acted : Nat
  doneMsg : Option (Nat × Nat)
  /-- At the master: T announced last and its beat, devices whose SNAP_DONE for it has come, and proposals by device: steps and beat. -/
  announced : Nat
  announcedBeat : Nat
  doneFrom : List Nat
  proposals : SMap (Nat × Nat)
  /-- Wall time of the last step starts, newest first, at most 65; of the starts during the drain; t in ns before the flip; and measured C and D in ns and Z in bytes (R423). -/
  starts : List Nat
  drainStarts : List Nat
  tBefore : Nat
  cost : Nat
  drainNs : Nat
  written : Nat
  /-- Committed snapshots since the last that made shards. -/
  since : Nat
  shards : SMap SnapShard
  deriving DecidableEq, Repr

/-- Squirrel after reset. -/
def SnapState.reset : SnapState :=
  { plan := [], sbGen := 0, slots := [], stage := .none, reqs := [], read := [], buf := 0, selT := 0, slot := 0, t := 0, tainted := false, flipBeat := 0,
    flipPtp := 0, flipNs := 0, shape := 0, imageId := 0, sample := 0, works := [], segs := [], chunks := [], used := 0, space := [],
    manifest := [], restored := [], snaps := 0, rd := 0, wr := 0, acted := 0, doneMsg := none, announced := 0, announcedBeat := 0,
    doneFrom := [], proposals := [], starts := [], drainStarts := [], tBefore := 0, cost := 0, drainNs := 0, written := 0, since := 0,
    shards := [] }

/-! ## Resets, boot and trust (chapters 14 and 15) -/

/-- A partition, device or OS complex reset in progress: its unit as WDOG_RST_CMD, its partition, its cause of Table 14-3, and when it started. -/
structure ResetRun where
  unit : Nat
  part : Nat
  cause : Nat
  startNs : Nat
  deriving DecidableEq, Repr

/-- An entry of the measurement log (R463). -/
structure MeasEntry where
  reg : Nat
  digest : List Byte
  keyId : List Byte
  svn : Nat
  deriving DecidableEq, Repr

/-- A quote that is being signed or waits (R466): its nonce, and TAG and buffer of a mailbox request. -/
structure QuoteReq where
  nonce : List Byte
  mbox : Option (Nat × Nat)
  deriving DecidableEq, Repr

/-- A bank without contents. -/
def Bank.empty : Bank := ⟨[], [], []⟩

/-- A flash without contents. -/
def FlashImage.empty : FlashImage :=
  { config := [], ownerKeys := [], defectMap := [], torn := false, fwActive := false, fwTrial := none, fwTrialCount := 0,
    ldrActive := false, ldrTrial := none, ldrTrialCount := 0, fw0 := Bank.empty, fw1 := Bank.empty, ldr0 := Bank.empty,
    ldr1 := Bank.empty, pufOk := false, pufErrors := 0, identity := [] }

/-- Slolis's firmware state and the always-on SRAM beside the registers. -/
structure Mgmt where
  /-- The configuration flash as read at power-on and written since (R458). -/
  flash : FlashImage
  /-- Time of the power-on, and of resets and accepted restores since (R424). -/
  bootNs : Nat
  interrupts : List Nat
  /-- Measurement registers that are not zero, and the log (R463). -/
  meas : SMap (List Byte)
  measLog : List MeasEntry
  /-- Outstanding challenges with the time of issue, oldest first (R467). -/
  challenges : List (List Byte × Nat)
  /-- Time and duration of the active grant, in ns and s (R468). -/
  grantNs : Nat
  grantSec : Nat
  /-- Quotes, the one being signed first (R466). -/
  quotes : List QuoteReq
  /-- Mailbox requests taken and not yet served: OP and TAG (R469). -/
  taken : List (Nat × Nat)
  /-- Heartbeat checking has started, the COUNT last seen and since when (R438). -/
  hbOn : Bool
  hbCount : Nat
  hbNs : Nat
  /-- When Slolis last kicked its timer, and PTP times of the timer's expiries (R439). -/
  kickNs : Nat
  expiries : List Nat
  /-- A loader or a firmware runs as a trial and has not reported ready (R461). -/
  fwTrial : Bool
  ldrTrial : Bool
  /-- The loader may run: it verified, or needs no signature (R461). -/
  loaderOk : Bool
  deriving DecidableEq, Repr

/-- Before power-on. -/
def Mgmt.reset : Mgmt :=
  { flash := FlashImage.empty, bootNs := 0, interrupts := [], meas := [], measLog := [], challenges := [], grantNs := 0, grantSec := 0,
    quotes := [], taken := [], hbOn := false, hbCount := 0, hbNs := 0, kickNs := 0, expiries := [], fwTrial := false, ldrTrial := false,
    loaderOk := false }

/-! ## Power (chapter 16) -/

/-- Pins of the system control group and the power loop beside the registers. -/
structure Power where
  /-- AON_PWRGD, MAIN_EN and MAIN_PWRGD high; OFF_REQ_N and THERMTRIP_N low. -/
  aonUp : Bool
  mainEn : Bool
  mainUp : Bool
  offReq : Bool
  tripped : Bool
  /-- A main power-up is in progress (R486), failed attempts of it (R485), and main power that stays off until a power cycle. -/
  rising : Bool
  attempts : Nat
  dead : Bool
  /-- PTP times of main power-ups after a loss (R488). -/
  retries : List Nat
  /-- When the orderly power-down began (R486). -/
  offNs : Option Nat
  /-- req_p and req_t with the ms since each changed and since each was last outside its falling range (R490). -/
  reqP : Nat
  reqT : Nat
  sameP : Nat
  sameT : Nat
  lowP : Nat
  lowT : Nat
  /-- Milliseconds of the 10 ms round, and of the loop in all. -/
  ms : Nat
  /-- PKG_W of the last ms in which S held, newest first, at most 10. -/
  powers : List Nat
  lastS : Nat
  /-- Milliseconds for which SYS_REQ has been 64. -/
  maxMs : Nat
  /-- Readings of the sensors by domain, as signed bytes. -/
  sensors : SMap Nat
  deriving DecidableEq, Repr

/-- Before power-on. -/
def Power.reset : Power :=
  { aonUp := false, mainEn := false, mainUp := false, offReq := false, tripped := false, rising := false, attempts := 0, dead := false,
    retries := [], offNs := none, reqP := 16, reqT := 16, sameP := 0, sameT := 0, lowP := 0, lowT := 0, ms := 0, powers := [], lastS := 16,
    maxMs := 0, sensors := [] }

/-! ## Front-end Ethernet (R502) -/

/-- A virtqueue: size, ready, addresses of its three areas, and the ring indexes that the device keeps. -/
structure VirtQueue where
  num : Nat
  ready : Bool
  desc : Nat
  driver : Nat
  device : Nat
  seen : Nat
  used : Nat
  deriving DecidableEq, Repr

/-- A queue after reset. -/
def VirtQueue.reset : VirtQueue := ⟨0, false, 0, 0, 0, 0, 0⟩

/-- A front-end port's VIRTIO transport. -/
structure EthState where
  status : Nat
  devSel : Nat
  drvSel : Nat
  features : Nat
  queueSel : Nat
  queues : SMap VirtQueue
  intStatus : Nat
  configGen : Nat
  deriving DecidableEq, Repr

/-- A port after reset. -/
def EthState.reset : EthState := ⟨0, 0, 0, 0, 0, [], 0, 0⟩

/-! ## What leaves the device -/

/-- Messages that the device sends out of the block: C flits and link control flits on a port, frames and datagrams of the management ports and Ethernet ports, notices of Slolis, and requests to drives. -/
inductive Output where
  | cFlit (port : Nat) (f : CFlit)
  | linkFlit (port : Nat) (f : LinkFlit)
  | slot (port seq : Nat) (s : LinkSlot)
  | datagram (collector : Nat) (bytes : List Byte)
  | notice (what : Nat) (words : List Nat) (bytes : List Byte)
  | frame (port : Nat) (bytes : List Byte)
  | pcie (port : Nat) (write : Bool) (addr : Nat) (len : Nat) (bytes : List Byte)
  | nvme (drive opcode lba blocks : Nat) (bytes : List Byte)
  deriving DecidableEq, Repr

/-- What the last access of a master or agent, or the last Redfish request, was answered (R5, R9, R10, R457, R466). -/
inductive Reply where
  | none
  | value (v : Nat)
  | bytes (bs : List Byte)
  | addressFault
  | http (status : Nat)
  deriving DecidableEq, Repr

/-! ## Remote windows (R181) -/

/-- A window entry: BASE, PERM and peer fields as DEV_WIN_D0 to D2 hold them, KEY, GEN, its state, and whether a close is under way. -/
structure Window where
  d0 : Nat
  d1 : Nat
  d2 : Nat
  key : Nat
  gen : Nat
  isOpen : Bool
  closing : Bool
  deriving DecidableEq, Repr

/-- A window that has never been opened. -/
def Window.reset : Window := ⟨0, 0, 0, 0, 0, false, false⟩

/-! ## The device -/

/-- Everything of the device but the queue of waiting commands. -/
structure Dev where
  /-- Control-space registers that differ from their reset values, by key: the bank's item plus one, the class, the instance and the offset. -/
  regs : SMap Word
  /-- Words latched by a read of the lowest register of a wide value, by register key (R15). -/
  latch : SMap Word
  /-- Storage: far memory at its device addresses, commons at theirs, and the slice of slot pc at 0x8000_0000_0000 + pc * 2^24. -/
  mem : List Host.Cell
  /-- Cells by physical slot. -/
  cells : SMap CellState
  /-- Records in reporter buffers, oldest first, each in the buffer of its class and instance (R400). -/
  reports : List Record
  sched : SchedState
  /-- Sequence numbers of the C flits that the device originates, by TYPE (Table 09-7). -/
  cSeq : SMap Nat
  /-- HOLD flits seen lately: origin, SEQ and beat (R318). -/
  holdSeen : List (Nat × Nat × Nat)
  /-- C flits sent this beat on each port, and those that wait for the next (R313). -/
  cSent : SMap Nat
  cWait : SMap (List CFlit)
  /-- The 1,024 remote windows (R181). -/
  wins : SMap Window
  /-- Engines by instance, and remote requests that await an answer, oldest first. -/
  engs : SMap EngState
  remotes : List RemoteReq
  /-- Far-memory rows marked for soft post-package repair: channel, bank and row; and PTP seconds of corrected errors by channel, bank and row (R279). -/
  spprMarks : List (Nat × Nat × Nat)
  rowErrors : List (Nat × Nat × Nat × Nat)
  /-- Next line of a scrubber: channels 0 to 31, hubs as 32 + h (R278). -/
  scrubAt : SMap Nat
  /-- Packets in flight on the die, oldest first. -/
  net : List Flight
  links : SMap LinkState
  /-- The OS complex's channels and endpoints (R244); endpoint 256 is Slolis's reply endpoint (R469). -/
  osChans : SMap ChanState
  osSeps : SMap SepState
  migrations : List Migration
  slots : SMap SlotInfo
  /-- A maintenance window has been signalled and has not ended (R354). -/
  windowOpen : Bool
  /-- PTP seconds at which each published score was last published: partitions 0 to 7, and the device as 8 (R377). -/
  scoreAt : SMap Nat
  replace : ReplaceState
  /-- Logical cells that are suspects and not yet moved (Table 11-19, BUSY). -/
  suspects : List Nat
  /-- Slots fenced whose power-off and defect-map entry wait for Slolis, with the result code (R448). -/
  fencePending : List (Nat × Nat)
  /-- Slolis runs (R439, R448). -/
  slolisUp : Bool
  /-- Partition, device and OS complex resets in progress (R441, R442). -/
  resets : List ResetRun
  snap : SnapState
  mgmt : Mgmt
  power : Power
  eths : SMap EthState
  /-- Bytes of the root ports' own configuration space that software has written, by port × 2^16 + device × 2^12 + offset (R499). -/
  pcieCfg : SMap Byte
  /-- The instruction in force on the boundary-scan chain (R468). -/
  jtag : JtagInstr
  /-- Failed training attempts of each channel since its training began (R445). -/
  farTries : SMap Nat
  /-- Islands whose clock has left its band and that withhold their handshakes (R49). -/
  bandOut : List Island
  /-- Engines, DMA movers, PCIe and Ethernet have stopped issuing for a device reset (R390, R446). -/
  halted : Bool
  /-- An uncorrectable error waits for Slolis to start the device reset (R390, R448). -/
  resetWaits : Bool
  /-- The defect map of the configuration flash (Table 11-8). -/
  defects : List DefectEntry
  logRing : SMap LogEntry
  logSlots : SMap CoalSlot
  /-- DGRAM_SEQ of the next datagram (Table 12-8). -/
  dgramSeq : Nat
  /-- PART_MAP_GEN of each partition at the start of the last update of the distance table; empty when a full update is due (R41). -/
  distSeen : List Nat
  /-- Base of the update under way. -/
  distRun : Option Nat
  /-- BASE failed its check and no valid write has come since, so the table is not written (R42). -/
  distBad : Bool
  /-- The model's own: what the device has sent, in order. -/
  out : List Output
  /-- The model's own: the answer to the last access. -/
  reply : Reply
  /-- The configuration block in force (Table 15-4); empty before power-on. -/
  config : List Byte
  /-- PTP time in ns of cycle 0 by Slolis's clock (R455). -/
  ptpBase : Int
  /-- The free-running cell cycle counter (CSRR 4). -/
  cycle : Nat
  /-- The model's own: how many free values have been drawn. -/
  freeCtr : Nat
  deriving DecidableEq, Repr

/-- The device at power-on reset. DESIGN CHOICE, unsafe (log entry 4). -/
def Dev.reset : Dev :=
  { regs := [], latch := [], mem := [], cells := [], sched := SchedState.reset, cSeq := [], holdSeen := [], cSent := [], cWait := [], wins := [], engs := [], remotes := [], spprMarks := [], rowErrors := [], scrubAt := [], net := [], links := [],
    osChans := [], osSeps := [], migrations := [],
    slots := [], windowOpen := false, scoreAt := [], replace := ReplaceState.reset, suspects := [], fencePending := [], resets := [], snap := SnapState.reset, mgmt := Mgmt.reset,
    power := Power.reset, eths := [], pcieCfg := [], jtag := .idcode, farTries := [], slolisUp := false, bandOut := [], halted := false, resetWaits := false,
    defects := [], reports := [], logRing := [], logSlots := [], dgramSeq := 0, distSeen := [], distRun := none, distBad := false, out := [],
    reply := .none, config := [], ptpBase := 0, cycle := 0, freeCtr := 0 }

/-- The state of the block: the device and the commands that wait, first in, first out. -/
structure State where
  dev : Dev
  pending : List Instr
  deriving DecidableEq, Repr

/-- The machine right after reset. DEDUCED, unsafe (log entry 8). -/
def State.reset : State := { dev := Dev.reset, pending := [] }

/-- Reasons for a command to stop the machine with a fault: none. The spec gives every command of the table an effect, and an access that fails answers its requester with an address fault (R5), which is a next state. -/
inductive Fault where
  deriving DecidableEq, Repr

/-- Reasons to refuse a command. -/
inductive Refusal where
  /-- Raised by no meaning: a command of the table whose meaning is not written yet. Safe: nothing is claimed of it. -/
  | notModelled (mnemonic : String)
  deriving DecidableEq, Repr

end Sys2Proof.Machine
end

