-- ==== Sys2Proof/Machine/Ops.lean ====
section
/-! DEFINITION. The named operations over the device's state: registers and their fields, counters, domains, the cell mapping, storage and free values. -/

namespace Sys2Proof.Machine

/-! ## Registers (R8, R10 to R17) -/

/-- The key of a register in the register map: item 0 for a register without a bank, else the bank's item plus 1. -/
def regKey (base inst item : Nat) : Nat := item * 2 ^ 32 + base + inst * 2 ^ 12

/-- The offset lies in a register family. -/
def RegSpec.covers (r : RegSpec) (off : Nat) : Bool :=
  r.off ≤ off && off < r.off + r.count * r.stride && (off - r.off) % r.stride = 0

/-- The register that a class and offset name; in class 0x08, instance 0 and the row instances have their own (R8, R9). -/
def findReg (cls inst off : Nat) : Option RegSpec :=
  (regsOfClass cls).find? (fun r => r.covers off && (cls != 8 || r.row == (inst != 0)))

/-- Instances of each class (Table 00-5). -/
def classInstances : Nat → Nat
  | 0 => 1 | 1 => 8 | 2 => 544 | 3 => 16 | 4 => 256 | 5 => 32 | 6 => 12 | 7 => 1 | 8 => 17 | 9 => 1 | 10 => 1
  | 11 => 4 | 12 => 2 | 13 => 1 | 14 => 1 | 15 => 1
  | _ => 0

/-- The instance is not implemented: it lies beyond its class's range, or is an engine of index 12 to 15 of its hub (R9, R246). -/
def instAbsent (cls inst : Nat) : Bool := decide (classInstances cls ≤ inst) || (decide (cls = 4) && decide (12 ≤ inst % 16))

/-- The default host of a logical cell (R29). -/
def defaultSlot (lc : Nat) : Nat :=
  let j := lc % 32
  (lc / 64 * 2 + lc / 32 % 2) * 34 + (if j < 16 then j else j + 2)

/-- PART_LMAPn of the default map (Table 01-3). -/
def lmapReset (p n : Nat) : Nat :=
  defaultSlot (64 * p + 4 * n) + defaultSlot (64 * p + 4 * n + 1) * 2 ^ 16 +
    defaultSlot (64 * p + 4 * n + 2) * 2 ^ 32 + defaultSlot (64 * p + 4 * n + 3) * 2 ^ 48

/-- The reset value of a register: its table's, with those that depend on the instance (Tables 01-3, 01-4, 08-11, 09-9, 16-7). -/
@[irreducible] def regReset (key : Nat) : Word :=
  let cls := key / 2 ^ 24 % 2 ^ 8
  let inst := key / 2 ^ 12 % 2 ^ 12
  let off := key % 2 ^ 12
  if cls = 1 && 0x200 ≤ off && off < 0x280 then wOf (lmapReset inst ((off - 0x200) / 8))
  else if cls = 1 && off = 0x2A0 then 0x3333
  else if cls = 0 && off = 0xA00 then 0x00005F00070805DC
  else if cls = 4 && off = 0 then wOf (0x44000 + inst % 16)
  else if cls = 6 && off = 0 then wOf (inst / 2 * 2 ^ 59 + inst % 2 * 2 ^ 58)
  else match findReg cls inst off with
    | some r => wOf r.rst
    | none => 0

/-- The value of a register. -/
def Dev.reg (d : Dev) (base : Nat) (inst : Nat := 0) (item : Nat := 0) : Nat :=
  let key := regKey base inst item
  (SMap.read (regReset key) d.regs key).toNat

/-- The device with a register's value set. -/
def Dev.setReg (d : Dev) (base inst item v : Nat) : Dev :=
  let key := regKey base inst item
  { d with regs := SMap.write (regReset key) d.regs key (wOf v) }

/-- A field of a register. -/
def Dev.get (d : Dev) (f : Fld) (inst : Nat := 0) (item : Nat := 0) : Nat := bitsOf (d.reg f.base inst item) f.hi f.lo

/-- The device with a field set. -/
def Dev.set (d : Dev) (f : Fld) (v : Nat) (inst : Nat := 0) (item : Nat := 0) : Dev :=
  d.setReg f.base inst item (setBitsOf (d.reg f.base inst item) f.hi f.lo v)

/-- A one-bit field. -/
def Dev.bit (d : Dev) (f : Fld) (inst : Nat := 0) (item : Nat := 0) : Bool := d.get f inst item != 0

/-- The device with bits of a register set, as hardware updates W1C status. -/
def Dev.orReg (d : Dev) (f : Fld) (v : Nat) (inst : Nat := 0) (item : Nat := 0) : Dev :=
  d.setReg f.base inst item (d.reg f.base inst item ||| v)

/-- The registers of one instance of a class back at their reset values, offsets in [lo, hi). -/
def Dev.resetRegs (d : Dev) (cls inst : Nat) (lo : Nat := 0) (hi : Nat := 0x1000) : Dev :=
  { d with regs := d.regs.filter (fun e =>
      !(e.1 / 2 ^ 24 % 2 ^ 8 == cls && e.1 / 2 ^ 12 % 2 ^ 12 == inst && decide (lo ≤ e.1 % 2 ^ 12) && decide (e.1 % 2 ^ 12 < hi))) }

/-- Registers of class 0x02 moved from one slot to another, the source's cleared (R83, R122). -/
def Dev.moveCellRegs (d : Dev) (keep : Nat → Bool) (src dst : Nat) : Dev :=
  let isReg := fun (e : Nat × Word) (i : Nat) =>
    e.1 / 2 ^ 24 % 2 ^ 8 == 2 && e.1 / 2 ^ 12 % 2 ^ 12 == i && !keep (e.1 % 2 ^ 12)
  let moved := (d.regs.filter (fun e => isReg e src)).map (fun e => (e.1 - src * 2 ^ 12 + dst * 2 ^ 12, e.2))
  { d with regs := SMap.overlay moved (d.regs.filter (fun e => !isReg e src && !isReg e dst)) }

/-- The largest COUNT of an event counter (R16). -/
def counterMax : Nat := 0xFFFFFFFFFFFF

/-- An event counter after `n` counted events (R16): it sticks at its maximum and sets OVF on the event that reaches or finds it there. -/
def countUp (v n : Nat) : Nat :=
  if n = 0 then v
  else
    let c := bitsOf v 47 0 + n
    if counterMax ≤ c then setBitsOf (setBitsOf v 47 0 counterMax) 63 63 1 else setBitsOf v 47 0 c

/-- The device with `n` events counted. -/
def Dev.count (d : Dev) (f : Fld) (inst : Nat := 0) (item : Nat := 0) (n : Nat := 1) : Dev :=
  d.setReg f.base inst item (countUp (d.reg f.base inst item) n)

/-! ## Free values -/

/-- A fresh 64-bit value, and the device with the draw counted. DESIGN CHOICE, unsafe (log entry 6). -/
def Dev.fresh (d : Dev) : Nat × Dev := ((Config.freeWord d.freeCtr).toNat, { d with freeCtr := d.freeCtr + 1 })

/-- A fresh choice. -/
def Dev.choose (d : Dev) : Bool × Dev := (Config.freeBit d.freeCtr, { d with freeCtr := d.freeCtr + 1 })

/-! ## Time (R21 to R23) -/

/-- The beat counter. -/
def Dev.beat (d : Dev) : Nat := d.reg F.DEV_BEAT_COUNT.base

/-- Nanoseconds that the device has run, from its 2.1 GHz cycles (R21). -/
def Dev.ns (d : Dev) : Nat := d.cycle * 10 / 21

/-! ## Power domains (R50) -/

/-- A power domain is on and in regulation (Table 01-10). -/
def Dev.domOn (d : Dev) (dom : Nat) : Bool := bitOf (d.reg (F.DEV_PD_STATUS.base + 8 * (dom / 64))) (dom % 64)

/-- The device with a domain's ON bit set or cleared. -/
def Dev.setDom (d : Dev) (dom : Nat) (on : Bool) : Dev :=
  let b := F.DEV_PD_STATUS.base + 8 * (dom / 64)
  d.setReg b 0 0 (setBitsOf (d.reg b) (dom % 64) (dom % 64) (b2n on))

/-! ## Cells -/

/-- The state of the cell in a slot. -/
def Dev.cell (d : Dev) (pc : Nat) : CellState := SMap.read CellState.reset d.cells pc

/-- The device with a slot's cell state set. -/
def Dev.setCell (d : Dev) (pc : Nat) (c : CellState) : Dev := { d with cells := SMap.write CellState.reset d.cells pc c }

/-- The device with a slot's cell state changed. -/
def Dev.modCell (d : Dev) (pc : Nat) (f : CellState → CellState) : Dev := d.setCell pc (f (d.cell pc))

/-- A context. -/
def CellState.ctx (s : CellState) (c : Nat) : CtxState := SMap.read CtxState.reset s.ctxs c

/-- The cell with a context set. -/
def CellState.setCtx (s : CellState) (c : Nat) (x : CtxState) : CellState :=
  { s with ctxs := SMap.write CtxState.reset s.ctxs c x }

/-- A context of the cell in a slot. -/
def Dev.ctx (d : Dev) (pc c : Nat) : CtxState := (d.cell pc).ctx c

/-- The device with a context set. -/
def Dev.setCtx (d : Dev) (pc c : Nat) (x : CtxState) : Dev := d.modCell pc (fun s => s.setCtx c x)

/-- The device with a context changed. -/
def Dev.modCtx (d : Dev) (pc c : Nat) (f : CtxState → CtxState) : Dev := d.setCtx pc c (f (d.ctx pc c))

/-- The device with a cell's array changed. -/
def Dev.modArr (d : Dev) (pc : Nat) (f : ArrayState → ArrayState) : Dev := d.modCell pc (fun s => { s with arr := f s.arr })

/-! ## The cell mapping (R29 to R36) -/

/-- The entry of PART_LMAPn for a logical cell: its state and slot (Table 01-3). -/
def Dev.lmap (d : Dev) (lc : Nat) : Nat × Nat :=
  let v := d.reg (F.PART_LMAP.base + 8 * (lc % 64 / 4)) (lc / 64)
  let k := lc % 4
  (bitsOf v (16 * k + 15) (16 * k + 14), bitsOf v (16 * k + 9) (16 * k))

/-- The device with a logical cell's entry set in one update (R36). -/
def Dev.setLmap (d : Dev) (lc st pc : Nat) : Dev :=
  let b := F.PART_LMAP.base + 8 * (lc % 64 / 4)
  let k := lc % 4
  let v := d.reg b (lc / 64)
  d.setReg b (lc / 64) 0 (setBitsOf (setBitsOf v (16 * k + 15) (16 * k + 14) st) (16 * k + 9) (16 * k) pc)

/-- The slot that hosts a logical cell; none while it is UNHOSTED. -/
def Dev.hostOf (d : Dev) (lc : Nat) : Option Nat :=
  let e := d.lmap lc
  if e.1 = 2 then none else some e.2

/-- The logical cell's entry is MIGRATING. -/
def Dev.migrating (d : Dev) (lc : Nat) : Bool := (d.lmap lc).1 = 1

/-- The logical cell that a slot hosts (R30: one of its own partition). -/
def Dev.hosted (d : Dev) (pc : Nat) : Option Nat :=
  ((List.range 64).map (fun i => pc / 68 * 64 + i)).find? (fun lc => d.hostOf lc == some pc)

/-- The state nibble of a slot in PART_SLOTn (R35): 0 LIVE, 1 STANDBY, 2 TESTING, 3 UNTESTED, 4 TARGET, 5 FENCED. -/
def Dev.slotState (d : Dev) (pc : Nat) : Nat :=
  let s := pc % 68
  bitsOf (d.reg (F.PART_SLOT.base + 8 * (s / 16)) (pc / 68)) (4 * (s % 16) + 3) (4 * (s % 16))

/-- The device with a slot's state set. -/
def Dev.setSlotState (d : Dev) (pc v : Nat) : Dev :=
  let s := pc % 68
  let b := F.PART_SLOT.base + 8 * (s / 16)
  d.setReg b (pc / 68) 0 (setBitsOf (d.reg b (pc / 68)) (4 * (s % 16) + 3) (4 * (s % 16)) v)

/-- Advances PART_MAP_GEN by one: odd before a change, even after it (R34). -/
def Dev.bumpMapGen (d : Dev) (p : Nat) : Dev := d.set F.PART_MAP_GEN_GEN (d.get F.PART_MAP_GEN_GEN p + 1) p

/-! ## Storage (R4 to R7, R86, R163) -/

/-- Storage address of a slot's slice. -/
def sliceBase (pc : Nat) : Nat := 0x800000000000 + pc * 2 ^ 24

/-- Bytes of the scratchpad part of a slice. -/
def spadSize : Nat := 0xB00000

/-- Bytes of a slice, slab store included. -/
def sliceSize : Nat := 0xC00000

/-- Start of a logical cell's scratchpad window (Table 00-4). -/
def windowBase (lc : Nat) : Nat := 0x100000000000 + lc * 2 ^ 24

/-- Storage address of slab register k of context c in a slot (R86). -/
def slabAddr (pc c k : Nat) : Nat := sliceBase pc + spadSize + (8 * c + k) * 4096

/-- Regions of the device address map (Table 00-4) for a range of bytes. -/
inductive Place where
  /-- Far memory below FAR_SIZE. -/
  | far (a : Nat)
  /-- A logical cell's slice, by its slot and offset. -/
  | slice (lc pc off : Nat)
  /-- A hub's commons, by storage address. -/
  | commons (h a : Nat)
  /-- Control space. -/
  | control
  /-- A remote window: device and offset. -/
  | remote (dev off : Nat)
  /-- A PCIe aperture: root port and offset. -/
  | pcie (n off : Nat)
  /-- Unpopulated or reserved (R5). -/
  | nowhere
  deriving DecidableEq, Repr

/-- Where a range of bytes lies (R4, R5). The slab store is decoded only with `slab` (R86). -/
def Dev.place (d : Dev) (slab : Bool) (a len : Nat) : Place :=
  if a + len ≤ d.get F.DEV_FAR_SIZE_SIZE then .far a
  else if 0x100000000000 ≤ a && a < 0x100200000000 then
    let lc := (a - 0x100000000000) / 2 ^ 24
    let off := a % 2 ^ 24
    if off + len ≤ (if slab then sliceSize else spadSize) then
      match d.hostOf lc with
      | some pc => .slice lc pc off
      | none => .nowhere
    else .nowhere
  else if 0x100200000000 ≤ a && a + len ≤ 0x100220000000 then .commons ((a - 0x100200000000) / 2 ^ 25) a
  else if 0x180000000000 ≤ a && a + len ≤ 0x180100000000 then .control
  else if 0x200000000000 ≤ a && a + len ≤ 0x300000000000 then
    .remote ((a - 0x200000000000) / 2 ^ 34) (a % 2 ^ 34)
  else if 0x300000000000 ≤ a && a + len ≤ 0x400000000000 then .pcie ((a - 0x300000000000) / 2 ^ 42) (a % 2 ^ 42)
  else .nowhere

/-- The storage address of a range in far memory, a slice or commons; none elsewhere. -/
def Place.storage : Place → Option Nat
  | .far a => some a
  | .slice _ pc off => some (sliceBase pc + off)
  | .commons _ a => some a
  | _ => none

/-- Bytes of storage. DESIGN CHOICE, unsafe (log entry 3). -/
def Dev.load (d : Dev) (a n : Nat) : List Byte := Memory.read d.mem a n

/-- A little-endian number in storage. -/
def Dev.loadNat (d : Dev) (a n : Nat) : Nat := leNat (d.load a n)

/-- The device with bytes stored. DESIGN CHOICE, unsafe (log entry 3). -/
def Dev.store (d : Dev) (a : Nat) (bs : List Byte) : Dev := { d with mem := Memory.write d.mem a bs }

/-- The device with an n-byte little-endian number stored. -/
def Dev.storeNat (d : Dev) (a n v : Nat) : Dev := d.store a (leBytes n v)

/-- The device with [a, a + n) zero-filled. -/
def Dev.zeroMem (d : Dev) (a n : Nat) : Dev := { d with mem := Memory.zero d.mem a (a + n) }

/-- The device with n bytes copied from src to dst. -/
def Dev.copyMem (d : Dev) (src dst n : Nat) : Dev := { d with mem := Memory.copy d.mem src dst n }

/-- Bytes of the slice of the cell in a slot. -/
def Dev.spad (d : Dev) (pc off n : Nat) : List Byte := d.load (sliceBase pc + off) n

/-- A little-endian number in a slice. -/
def Dev.spadNat (d : Dev) (pc off n : Nat) : Nat := leNat (d.spad pc off n)

/-- Scratchpad offset of a range that lies wholly in the scratchpad part of the window of the cell in a slot; none otherwise. -/
def Dev.ownSpad (d : Dev) (pc a n : Nat) : Option Nat :=
  match d.place false a n with
  | .slice _ p off => if p = pc then some off else none
  | _ => none

/-! ## Running a meaning -/

/-- A command that changes the device and goes on. Nothing but the device is touched: the queue of waiting commands stands. DEDUCED, unsafe (log entry 1). -/
def State.run (s : State) (f : Dev → Dev) : Host.Outcome State Fault Refusal := .next { s with dev := f s.dev }

/-- A command to a unit on the mesh supply: with main power off the unit ignores it (R497). DEDUCED, unsafe (log entry 1). -/
def State.runMain (s : State) (f : Dev → Dev) : Host.Outcome State Fault Refusal :=
  s.run (fun d => if d.power.mainUp then f d else d)

/-- What a command does to the device, for a command that another one gives. -/
def Dev.does (d : Dev) (k : State → Host.Outcome State Fault Refusal) : Dev :=
  match k ⟨d, []⟩ with
  | .next t => t.dev
  | _ => d

/-- Appends to what the device has sent. DESIGN CHOICE, unsafe (log entry 6). DESIGN CHOICE, unsafe (log entry 82). -/
def Dev.emit (d : Dev) (o : Output) : Dev := { d with out := d.out ++ [o] }

/-- The device with the answer to an access. -/
def Dev.answer (d : Dev) (r : Reply) : Dev := { d with reply := r }

end Sys2Proof.Machine
end

