-- ==== Sys2Proof/Machine/Log.lean ====
section
/-! DEFINITION. Fault records, the reporter buffers and the log (R380 to R405, R455, R456). -/

namespace Sys2Proof.Machine

/-! ## CRC-32C (R286) -/

/-- One bit of the reflected CRC-32C register. -/
def crc32cBit (c : Nat) : Nat := if c % 2 = 1 then (c / 2) ^^^ 0x82F63B78 else c / 2

/-- One byte into the register. -/
def crc32cByte (c : Nat) (b : Byte) : Nat :=
  (List.range 8).foldl (fun x _ => crc32cBit x) (c ^^^ b.toNat)

/-- CRC-32C: Castagnoli polynomial, reflected, initial value and final XOR all ones. -/
def crc32c (bs : List Byte) : Nat := bs.foldl crc32cByte 0xFFFFFFFF ^^^ 0xFFFFFFFF

/-! ## Names and time -/

/-- The device's id (DEV_DOMAIN_ID). -/
def Dev.deviceId (d : Dev) : Nat := d.get F.DEV_DOMAIN_ID_DEVICE_ID

/-- A context name (R118). -/
def ctxName (dev lc c pc : Nat) : Nat := dev * 2 ^ 54 + lc * 2 ^ 45 + c * 2 ^ 40 + pc % 2 ^ 24

/-- The no-context name (R396). -/
def Dev.noCtx (d : Dev) : Nat := d.deviceId * 2 ^ 54 + (2 ^ 54 - 1)

/-- PTP time in ns by Slolis's clock (R455). DESIGN CHOICE, unsafe (log entry 26). -/
def Dev.ptpNs (d : Dev) : Nat := (d.ptpBase + d.ns).toNat

/-- PTP seconds, as the defect map records them. DESIGN CHOICE, unsafe (log entry 26). -/
def Dev.ptpSec (d : Dev) : Nat := d.ptpNs / 1000000000

/-- The PTP word of a record: seconds in [63:30], ns in [29:0] (Table 12-5). -/
def Dev.ptpWord (d : Dev) : Nat := d.ptpSec * 2 ^ 30 + d.ptpNs % 1000000000

/-! ## Layout of an entry (Table 12-5) -/

/-- The 60 bytes that the CRC covers. -/
def LogEntry.front (e : LogEntry) : List Byte :=
  leBytes 8 e.body.beat ++ leBytes 8 e.body.ptp ++ leBytes 4 e.seq ++ leBytes 2 e.body.event ++ leBytes 2 e.body.key ++
  leBytes 1 e.body.cls ++ leBytes 1 (e.body.sev + 8 * b2n e.latest + 16 * b2n e.coalesced) ++ leBytes 2 e.body.inst ++
  leBytes 4 e.count ++ leBytes 8 e.body.context ++ leBytes 8 e.body.d0 ++ leBytes 8 e.body.d1 ++ leBytes 4 e.body.d2

/-- The 64 bytes of an entry. -/
def LogEntry.bytes (e : LogEntry) : List Byte := e.front ++ leBytes 4 (crc32c e.front)

/-! ## The ring -/

/-- SEQ of the next entry. -/
def Dev.nextSeq (d : Dev) : Nat := d.get F.FLOG_STATUS_NEXT_SEQ

/-- The entry with a SEQ, if the ring still holds it (R399). -/
def Dev.logEntry (d : Dev) (seq : Nat) : Option LogEntry :=
  match SMap.find (seq % 4096) d.logRing with
  | some e => if e.seq = seq then some e else none
  | none => none

/-- The device with a ring entry set. -/
def Dev.setEntry (d : Dev) (e : LogEntry) : Dev := { d with logRing := SMap.insert (e.seq % 4096) e d.logRing }

/-- A collector is configured with a nonzero address in the configuration block (R402, Table 15-4). -/
def Dev.collectorOn (d : Dev) (i : Nat) : Bool := ((d.config.drop (0xA0 + 32 * i)).take 16).any (fun b => b != 0)

/-- Some collector is enabled. -/
def Dev.anyCollector (d : Dev) : Bool := d.collectorOn 0 || d.collectorOn 1

/-- A management port is up (MGMT_LINKn.UP). -/
def Dev.mgmtUp (d : Dev) (n : Nat) : Bool := d.bit (F.MGMT_LINK_UP.nth n)

/-- Bytes of the OS carve-out (R276). -/
def Dev.carve (d : Dev) : Nat := d.get F.DEV_FAR_CARVE_GIB * 2 ^ 30

/-- A range of far memory lies in the OS carve-out and below FAR_SIZE. -/
def Dev.inCarve (d : Dev) (a n : Nat) : Bool := decide (a + n ≤ d.carve) && decide (a + n ≤ d.get F.DEV_FAR_SIZE_SIZE)

/-- Writes an entry to the mirror ring while EN is set; an invalid BASE sets ERR and writes nothing (R405). -/
def Dev.mirror (d : Dev) (e : LogEntry) : Dev :=
  if d.bit F.FLOG_MIRROR_BASE_EN then
    let base := d.get F.FLOG_MIRROR_BASE_BASE * 2 ^ 18
    if d.inCarve base 0x40000 then d.store (base + e.seq % 4096 * 64) e.bytes
    else d.set F.FLOG_MIRROR_BASE_ERR 1
  else d

/-- Closes a coalescing slot: its first entry is streamed again with its final COUNT (R401, R404). -/
def Dev.closeSlot (d : Dev) (i : Nat) : Dev :=
  match SMap.find i d.logSlots with
  | none => d
  | some s =>
    let d := { d with logSlots := SMap.erase i d.logSlots }
    match d.logEntry s.first with
    | some e => if e.coalesced then d.setEntry { e with due := true } else d
    | none => d

/-- What overwriting the entry 4,096 SEQs older does (R401, R402). -/
def Dev.overwrite (d : Dev) (idx : Nat) : Dev :=
  match SMap.find idx d.logRing with
  | none => d
  | some e =>
    let d := if d.anyCollector && e.sentNs.isNone then d.count F.FLOG_LOST else d
    match d.logSlots.find? (fun s => s.2.first == e.seq) with
    | some s => d.closeSlot s.1
    | none => d

/-- Latches the first tainting record (R393). -/
def Dev.taint (d : Dev) (r : Record) (seq : Nat) : Dev :=
  if 3 ≤ r.sev && !d.bit F.FLOG_TAINT_VALID then
    ((d.set F.FLOG_TAINT_VALID 1).set F.FLOG_TAINT_SEQ seq).set F.FLOG_TAINT_BEAT r.beat
  else d

/-- Appends a new entry to the ring (R399, R402, R403, R405). -/
def Dev.logAppend (d : Dev) (r : Record) (latest : Bool) : Dev :=
  let seq := d.nextSeq
  let d := d.overwrite (seq % 4096)
  let e : LogEntry := { body := r, seq := seq, count := 1, latest := latest, coalesced := false, writtenNs := d.ns, sentNs := none, due := true }
  let d := ((d.setEntry e).set F.FLOG_STATUS_NEXT_SEQ (seq + 1)).count F.FLOG_ENTRIES
  (d.mirror e).taint r seq

/-! ## Datagrams (R403, R404, R456) -/

/-- Entries of a datagram in SEQ order. -/
def Dev.datagramBytes (d : Dev) (es : List LogEntry) : List Byte :=
  leBytes 1 1 ++ leBytes 1 es.length ++ leBytes 2 d.deviceId ++ leBytes 4 d.dgramSeq ++
    leBytes 2 (d.get F.WDOG_RST_STATUS_RESET_EPOCH) ++ leBytes 6 0 ++ es.flatMap LogEntry.bytes

/-- Events that go out as priority notices (R456). -/
def priorityEvent (r : Record) : Bool :=
  r.event = 0x0200 || r.event = 0x0170 || r.event = 0x0183 || r.event = 0x0184 || r.sev = 4

/-- Sends a datagram to every enabled collector from the first management port that is up (R403); nothing is sent with no port up. -/
def Dev.sendDatagram (d : Dev) (es : List LogEntry) : Dev :=
  if d.anyCollector && (d.mgmtUp 0 || d.mgmtUp 1) then
    let bs := d.datagramBytes es
    let d := if d.collectorOn 0 then (d.emit (.datagram 0 bs)).count F.FLOG_DGRAMS else d
    let d := if d.collectorOn 1 then (d.emit (.datagram 1 bs)).count F.FLOG_DGRAMS else d
    { d with dgramSeq := (d.dgramSeq + 1) % 2 ^ 32 }
  else d

/-- A priority notice: one datagram with one record to the collectors and to the fabric manager's notice address, and ALERT (R456, R494). -/
def Dev.priority (d : Dev) (seq : Nat) : Dev :=
  match d.logEntry seq with
  | none => d
  | some e =>
    let d := (d.set F.DEV_PWR_STATUS_ALERT 1).sendDatagram [e]
    if d.mgmtUp 0 || d.mgmtUp 1 then (d.emit (.notice 0 [] e.bytes)).count F.MGMT_NOTICES else d

/-! ## Intake (R401) -/

/-- The open slot of a signature (R397). -/
def Dev.findSlot (d : Dev) (r : Record) : Option (Nat × CoalSlot) :=
  d.logSlots.find? (fun s => s.2.event == r.event && s.2.key == r.key && s.2.cls == r.cls && s.2.inst == r.inst)

/-- The lowest free coalescing slot. -/
def Dev.freeSlot (d : Dev) : Option Nat := (List.range 256).find? (fun i => (SMap.find i d.logSlots).isNone)

/-- COUNT of a first entry, one more; it sticks (Table 12-5). -/
def LogEntry.again (e : LogEntry) : LogEntry := { e with count := Nat.min (e.count + 1) 0xFFFFFFFF, coalesced := true }

/-- A record joins its open slot: the first entry's COUNT rises, and the LATEST entry is made or overwritten (R401, R404). -/
def Dev.coalesce (d : Dev) (i : Nat) (s : CoalSlot) (r : Record) : Dev :=
  let d := match d.logEntry s.first with
    | some e => d.setEntry e.again
    | none => d
  let d := d.count F.FLOG_COALESCED
  match s.latest.bind d.logEntry with
  | some e =>
    let d := if e.due then d.count F.FLOG_RATE_SUPPRESSED else d
    (d.setEntry { e with body := r, due := true }).taint r e.seq
  | none =>
    let seq := d.nextSeq
    let d := { d with logSlots := SMap.insert i { s with latest := some seq } d.logSlots }
    d.logAppend r true

/-- The intake engine takes a record (R401): FATAL records are never coalesced, COALESCE_MS zero disables coalescing, and with all slots open a record becomes a plain entry. DEDUCED, unsafe (log entry 68). -/
def Dev.intake (d : Dev) (r : Record) : Dev :=
  let d := d.count F.FLOG_RECORDS
  let seq := d.nextSeq
  let ms := d.get F.FLOG_CFG_COALESCE_MS
  let d' :=
    if r.sev = 4 then d.logAppend r false
    else match d.findSlot r with
      | some (i, s) => d.coalesce i s r
      | none =>
        match (if ms = 0 then none else d.freeSlot) with
        | some i =>
          let d := d.logAppend r false
          { d with logSlots := SMap.insert i ⟨r.event, r.key, r.cls, r.inst, seq, none, d.ns, ms⟩ d.logSlots }
        | none => d.logAppend r false
  if priorityEvent r then
    (if d'.nextSeq = d.nextSeq then
      (match d.findSlot r with
       | some (_, s) => d'.priority (s.latest.getD s.first)
       | none => d')
     else d'.priority seq)
  else d'

/-! ## Making a record (R395, R398, R400) -/

/-- Records that wait in the reporter buffer of a block. DEDUCED, unsafe (log entry 68). -/
def Dev.buffered (d : Dev) (cls inst : Nat) : Nat := (d.reports.filter (fun r => r.cls == cls && r.inst == inst)).length

/-- A block reports a record: FATAL records enter the log by their own path and are never dropped; any other waits in the block's buffer of four, or is dropped and counted (R390, R400). -/
def Dev.report (d : Dev) (r : Record) : Dev :=
  if r.sev = 4 then d.intake r
  else if d.buffered r.cls r.inst < 4 then { d with reports := d.reports ++ [r] }
  else d.count F.FLOG_LOST

/-- A record of the present beat and time. DEDUCED, unsafe (log entry 44). -/
def Dev.mkRecord (d : Dev) (event key cls inst sev context d0 d1 d2 : Nat) : Record :=
  ⟨event, key % 2 ^ 16, cls, inst, sev, context, d0 % 2 ^ 64, d1 % 2 ^ 64, d2 % 2 ^ 32, d.beat, d.ptpWord⟩

/-- A record without a context. DEDUCED, unsafe (log entry 44). -/
def Dev.record (d : Dev) (event key cls inst sev : Nat) (d0 d1 d2 : Nat := 0) : Dev :=
  d.report (d.mkRecord event key cls inst sev d.noCtx d0 d1 d2)

/-- A record that names a context. -/
def Dev.recordCtx (d : Dev) (event key cls inst sev context : Nat) (d0 d1 d2 : Nat := 0) : Dev :=
  d.report (d.mkRecord event key cls inst sev context d0 d1 d2)

/-! ## Meanings -/

/-- LOG_INTAKE (R401): the oldest waiting record is taken. -/
def Dev.logIntake (d : Dev) : Dev :=
  match d.reports with
  | [] => d
  | r :: rs => Dev.intake { d with reports := rs } r

/-- LOG_INTAKE. -/
def execLogIntake (s : State) : Host.Outcome State Fault Refusal := s.run Dev.logIntake

/-- COALESCE_SLOT_CLOSE (R401): the lifetime of slot i has passed. -/
def execCoalesceSlotClose (i : Fin 256) (s : State) : Host.Outcome State Fault Refusal := s.run (fun d => d.closeSlot i)

/-- An entry may be sent now: it is due, and a LATEST entry was last sent at least RATE_MS ago (R404). -/
def Dev.sendable (d : Dev) (e : LogEntry) : Bool :=
  e.due && (!e.latest || match e.sentNs with
    | none => true
    | some t => decide (t + d.get F.FLOG_CFG_RATE_MS * 1000000 ≤ d.ns))

/-- SEQs in the ring, oldest first. -/
def Dev.ringSeqs (d : Dev) : List Nat :=
  let n := d.nextSeq
  (List.range 4096).map (fun i => (n + 2 ^ 32 - 4096 + i) % 2 ^ 32)

/-- LOG_DATAGRAM (R403, R404): up to 16 entries that wait are sent in SEQ order; re-sent entries are mirrored with them (R405). -/
def Dev.logDatagram (d : Dev) : Dev :=
  let es := ((d.ringSeqs.filterMap d.logEntry).filter d.sendable).take 16
  if es.isEmpty then d
  else
    let d := es.foldl (fun d e => if e.sentNs.isSome || e.coalesced || e.latest then d.mirror e else d) d
    let sent := d.anyCollector && (d.mgmtUp 0 || d.mgmtUp 1)
    let d := d.sendDatagram es
    if sent then es.foldl (fun d e => d.setEntry { e with due := false, sentNs := some d.ns }) d else d

/-- LOG_DATAGRAM. -/
def execLogDatagram (s : State) : Host.Outcome State Fault Refusal := s.run Dev.logDatagram

end Sys2Proof.Machine
end

