-- ==== Sys2Proof/Machine/Image.lean ====
section
/-! DEFINITION. The schedule image as the schedule unit reads it from far memory (R320, R326 to R334). -/

namespace Sys2Proof.Machine

/-- A field of the image at `base`. -/
def Dev.img (d : Dev) (base off n : Nat) : Nat := d.loadNat (base + off) n

/-- OFFSET and COUNT of a section (Table 10-1). -/
def Dev.section (d : Dev) (base i : Nat) : Nat × Nat := (d.img base (0x40 + 16 * i) 8, d.img base (0x48 + 16 * i) 4)

/-- Address of record i of a section with records of a size. -/
def Dev.recordAt (d : Dev) (base sec size i : Nat) : Nat := base + (d.section base sec).1 + size * i

/-- LENGTH of the loaded image. -/
def Dev.imgLength (d : Dev) : Nat := d.img d.sched.base 0x30 8

/-- LOOP of the loaded image. -/
def Dev.imgLoop (d : Dev) : Bool := bitOf (d.img d.sched.base 0x07 1) 0

/-- LOOP_START of the loaded image. -/
def Dev.imgLoopStart (d : Dev) : Nat := d.img d.sched.base 0x38 4

/-- TARGET_SHAPE of an image. -/
def Dev.imgShape (d : Dev) (base : Nat) : Nat := d.img base 0x18 8

/-- The image position q of a running position p (R320). -/
def Dev.imagePos (d : Dev) (p : Nat) : Nat :=
  if d.imgLoop && d.imgLength ≤ p && d.imgLoopStart < d.imgLength then
    d.imgLoopStart + (p - d.imgLoopStart) % (d.imgLength - d.imgLoopStart)
  else p

/-- A logical cell is in service under a shape vector (R332). -/
def inShape (shape lc : Nat) : Bool := lc % 64 < bitsOf shape (8 * (lc / 64) + 7) (8 * (lc / 64))

/-- A task entry (Table 10-3). -/
structure TaskEntry where
  start : Nat
  deadline : Nat
  desc : Nat
  lc : Nat
  ctx : Nat
  flags : Nat
  deriving DecidableEq, Repr

/-- TASKS record i. -/
def Dev.taskEntry (d : Dev) (base i : Nat) : TaskEntry :=
  let a := d.recordAt base 0 16 i
  ⟨d.loadNat a 4, d.loadNat (a + 4) 4, d.loadNat (a + 8) 4, d.loadNat (a + 12) 2, d.loadNat (a + 14) 1, d.loadNat (a + 15) 1⟩

/-- A transfer entry (Table 10-4). -/
structure TransferEntry where
  start : Nat
  len : Nat
  contrib : Bool
  port : Nat
  lc : Nat
  sep : Nat
  u : Bool
  route : Nat
  dstDev : Nat
  dstLc : Nat
  bytes : Nat
  coll : Nat
  disabled : Bool
  deriving DecidableEq, Repr

/-- TRANSFERS record i of the base schedule. -/
def Dev.baseTransfer (d : Dev) (base i : Nat) : TransferEntry :=
  let a := d.recordAt base 1 32 i
  ⟨d.loadNat a 4, d.loadNat (a + 4) 2, d.loadNat (a + 6) 1 = 1, d.loadNat (a + 7) 1, d.loadNat (a + 8) 2, d.loadNat (a + 10) 1,
   d.loadNat (a + 11) 1 = 1, d.loadNat (a + 12) 2, d.loadNat (a + 16) 2, d.loadNat (a + 18) 2, d.loadNat (a + 20) 4,
   d.loadNat (a + 24) 2, false⟩

/-- An override (Table 10-6): entry, START, LEN, ROUTE, PORT and DISABLE. -/
structure OverrideRec where
  entry : Nat
  start : Nat
  len : Nat
  route : Nat
  port : Nat
  disable : Bool
  deriving DecidableEq, Repr

/-- OVERRIDES record i. -/
def Dev.overrideRec (d : Dev) (base i : Nat) : OverrideRec :=
  let a := d.recordAt base 5 16 i
  ⟨d.loadNat a 4, d.loadNat (a + 4) 4, d.loadNat (a + 8) 2, d.loadNat (a + 10) 2, d.loadNat (a + 12) 1, bitOf (d.loadNat (a + 13) 1) 0⟩

/-- Overrides of a variant; variant 0 has none (R333). -/
def Dev.overrides (d : Dev) (base v : Nat) : List OverrideRec :=
  if v = 0 then []
  else
    let a := d.recordAt base 4 16 (v - 1)
    (List.range (d.loadNat (a + 8) 4)).map (fun i => d.overrideRec base (d.loadNat (a + 4) 4 + i))

/-- Transfer entry i in force under a variant (R333). -/
def Dev.transferIn (d : Dev) (base v i : Nat) : TransferEntry :=
  (d.overrides base v).foldl (fun t o =>
    if o.entry = i then { t with start := o.start, len := o.len, route := o.route, port := o.port, disabled := o.disable } else t)
    (d.baseTransfer base i)

/-- Transfer entry i in force in the loaded job. -/
def Dev.transfer (d : Dev) (i : Nat) : TransferEntry := d.transferIn d.sched.base (d.get F.SCHED_STATUS_VARIANT) i

/-- Number of records of a section of the loaded image. -/
def Dev.sectionCount (d : Dev) (i : Nat) : Nat := (d.section d.sched.base i).2

/-- A collective descriptor (Table 10-5): ID, FIRST and LAST. -/
def Dev.collective (d : Dev) (base i : Nat) : Nat × Nat × Nat :=
  let a := d.recordAt base 2 32 i
  (d.loadNat a 2, d.loadNat (a + 4) 4, d.loadNat (a + 8) 4)

/-- A resume point (Table 10-6): POS, SETUP_FIRST and SETUP_COUNT. -/
def Dev.resumePoint (d : Dev) (base i : Nat) : Nat × Nat × Nat :=
  let a := d.recordAt base 3 16 i
  (d.loadNat a 4, d.loadNat (a + 4) 4, d.loadNat (a + 8) 4)

/-- A setup record (Table 10-7). -/
structure SetupRec where
  kind : Nat
  phase : Nat
  target : Nat
  offset : Nat
  value : Nat
  deriving DecidableEq, Repr

/-- SETUP record i. -/
def Dev.setupRec (d : Dev) (base i : Nat) : SetupRec :=
  let a := d.recordAt base 6 16 i
  ⟨d.loadNat a 1, d.loadNat (a + 1) 1, d.loadNat (a + 2) 2, d.loadNat (a + 4) 2, d.loadNat (a + 8) 8⟩

/-- STEPS position i. -/
def Dev.stepPos (d : Dev) (i : Nat) : Nat := d.loadNat (d.recordAt d.sched.base 7 4 i) 4

/-- The schedule unit's state (Table 10-16). -/
def Dev.schedState (d : Dev) : Nat := d.get F.SCHED_STATUS_STATE

/-- A job runs: the unit is in RUNNING. -/
def Dev.running (d : Dev) : Bool := d.schedState = 3

/-- The device with the unit's private state changed. -/
def Dev.modSched (d : Dev) (f : SchedState → SchedState) : Dev := { d with sched := f d.sched }

/-- The collective in progress at the running position, or 0xFFFF (R331, Table 10-10). -/
def Dev.currentColl (d : Dev) : Nat :=
  let q := d.imagePos (d.reg F.SCHED_POS.base)
  let b := d.sched.base
  match ((List.range (d.sectionCount 2)).map (d.collective b)).find? (fun c => decide (c.2.1 ≤ q) && decide (q < c.2.2)) with
  | some c => c.1
  | none => 0xFFFF

end Sys2Proof.Machine
end

