-- ==== Sys2Proof/Machine/Holds.lean ====
section
/-! DEFINITION. C flits and holds (R311 to R313, R318, R344). -/

namespace Sys2Proof.Machine

/-- A port carries the C class: it is UP, or HALF (R304). -/
def Dev.portUp (d : Dev) (n : Nat) : Bool :=
  let s := d.get F.TL_LINK_STATUS_STATE n
  s = 3 || s = 4

/-- The ports that carry C flits. -/
def Dev.upPorts (d : Dev) : List Nat := (List.range 12).filter d.portUp

/-- The 60 bytes of a C flit that its CRC covers (Table 09-7). -/
def CFlitFront (typ hops origin seq beat : Nat) (body : List Byte) : List Byte :=
  leBytes 1 typ ++ leBytes 1 hops ++ leBytes 2 origin ++ leBytes 4 seq ++ leBytes 8 beat ++ body

/-- A body of 44 bytes, zero after those given. -/
def padTo (n : Nat) (bs : List Byte) : List Byte := (bs ++ List.replicate n 0).take n

/-- A C flit with its CRC. -/
def mkCFlit (typ hops origin seq beat : Nat) (body : List Byte) : CFlit :=
  let b := padTo 44 body
  { typ := BitVec.ofNat 8 typ, hops := BitVec.ofNat 8 hops, origin := BitVec.ofNat 16 origin, seq := BitVec.ofNat 32 seq,
    beat := wOf beat, body := b, crc := BitVec.ofNat 32 (crc32c (CFlitFront typ hops origin seq beat b)) }

/-- The CRC of a received C flit is right. -/
def cFlitOk (f : CFlit) : Bool :=
  f.crc.toNat = crc32c (CFlitFront f.typ.toNat f.hops.toNat f.origin.toNat f.seq.toNat f.beat.toNat f.body)

/-- Sends a C flit on a port: one reserved slot and eight more per beat, and further flits wait for the next beat (R311, R313). -/
def Dev.sendC (d : Dev) (n : Nat) (f : CFlit) : Dev :=
  let sent := SMap.read 0 d.cSent n
  if sent < 9 then
    (({ d with cSent := SMap.insert n (sent + 1) d.cSent }).emit (.cFlit n f)).count F.TL_TX_C n
  else
    ({ d with cWait := SMap.insert n (SMap.read [] d.cWait n ++ [f]) d.cWait }).count F.TL_C_DEFERRED n

/-- Sends a C flit on several ports. -/
def Dev.sendCs (d : Dev) (ports : List Nat) (f : CFlit) : Dev := ports.foldl (fun d n => d.sendC n f) d

/-- The next SEQ of a TYPE, and the device with it used. -/
def Dev.nextCSeq (d : Dev) (typ : Nat) : Nat × Dev :=
  let s := SMap.read 0 d.cSeq typ
  (s, { d with cSeq := SMap.insert typ ((s + 1) % 2 ^ 32) d.cSeq })

/-- Remembers a HOLD that has been seen: the last 16 (R318). -/
def Dev.rememberHold (d : Dev) (origin seq : Nat) : Dev :=
  { d with holdSeen := (d.holdSeen ++ [(origin, seq, d.beat)]).reverse.take 16 |>.reverse }

/-- A hold of this device: it floods a HOLD flit and makes one DEGRADED record (R318, R344). -/
def Dev.floodHold (d : Dev) (cause port lc : Nat) : HoldInfo × Dev :=
  let coll := d.currentColl
  let pos := d.reg F.SCHED_POS.base
  let (seq, d) := d.nextCSeq 0x11
  let body := leBytes 1 cause ++ leBytes 1 port ++ leBytes 2 lc ++ leBytes 4 (d.imagePos pos) ++ leBytes 2 coll
  let f := mkCFlit 0x11 0 d.deviceId seq d.beat body
  let d := (d.rememberHold d.deviceId seq).sendCs d.upPorts f
  (⟨true, cause, port, d.deviceId, lc, coll⟩, d.record 0x0170 cause 7 0 2 (d.imagePos pos) d.deviceId coll)

/-- A hold of this device is sent and waits for the next beat boundary, at which the unit acts (R345). DEDUCED, unsafe (log entry 56). -/
def Dev.keepHold (d : Dev) (cause : Nat) (port : Nat := 0xFF) (lc : Nat := 0) : Dev :=
  let (h, d) := d.floodHold cause port lc
  d.modSched (fun s => { s with hold := s.hold.orElse (fun _ => some h) })

/-- The device raises a hold: only while its unit is RUNNING (R344, R345). DEDUCED, unsafe (log entry 56). -/
def Dev.raiseHold (d : Dev) (cause : Nat) (port : Nat := 0xFF) (lc : Nat := 0) : Dev :=
  if d.running then d.keepHold cause port lc else d

end Sys2Proof.Machine
end

