-- ==== Sys2Proof/Machine/Packets.lean ====
section
/-! DEFINITION. Packets: header fields, units and positions on the die, ring coordinates, the way out of the die, and sending (R284 to R286, R292, R305 to R309, Table 09-2). -/

namespace Sys2Proof.Machine

/-! ## Units and positions (Table 09-2) -/

/-- DST_UNIT or SRC_UNIT of a logical cell. -/
def unitCell (lc : Nat) : Nat := lc % 512

/-- Unit of a hub. -/
def unitHub (h : Nat) : Nat := 2 ^ 14 + h

/-- Unit of the OS complex. -/
def unitOs : Nat := 2 * 2 ^ 14

/-- Unit of the always-on domain. -/
def unitAon : Nat := 3 * 2 ^ 14

/-- Column of a Thernolink port on its edge (Table 01-1). -/
def portColumn (n : Nat) : Nat := [2, 7, 12, 21, 26, 31].getD (n % 6) 0

/-- The router next to a position of a DPC, as seen from a router (R27, R290, Table 01-1): a hub is entered from the row of its partition that is nearer, ties to the even row; the OS complex and the always-on domain from the corner routers next to them. -/
def dpcRouter (from' dpc : Nat) : Nat :=
  if dpc < 544 then dpc
  else if dpc < 560 then
    let h := dpc - 544
    let p := h / 2
    let r := from' / 34
    let row := if r ≤ 2 * p then 2 * p else 2 * p + 1
    row * 34 + (if h % 2 = 0 then 0 else 33)
  else if dpc < 572 then
    let n := dpc - 560
    (if n < 6 then 0 else 15) * 34 + portColumn n
  else if dpc = 572 then 33
  else 15 * 34 + 33

/-- The position that a unit has on this die; none for an UNHOSTED cell. -/
def Dev.unitDpc (d : Dev) (unit : Nat) : Option Nat :=
  match unit / 2 ^ 14 % 4 with
  | 0 => d.hostOf (unit % 512)
  | 1 => some (544 + unit % 16)
  | 2 => some 572
  | _ => some 573

/-! ## Ring coordinates (R305 to R307) -/

/-- Ring size of a dimension (Table 09-17). -/
def Dev.ringSize (d : Dev) (k : Nat) : Nat := bitsOf (d.reg F.DEV_DOMAIN_SHAPE.base) (10 * k + 9) (10 * k) + 1

/-- Coordinate k of a device (R306). -/
def Dev.coord (d : Dev) (id k : Nat) : Nat :=
  id / ((List.range k).foldl (fun m j => m * d.ringSize j) 1) % d.ringSize k

/-- The neighbour of a device in a dimension and direction (R306). -/
def Dev.neighbour (d : Dev) (id k : Nat) (plus : Bool) : Nat :=
  let stride := (List.range k).foldl (fun m j => m * d.ringSize j) 1
  let x := d.coord id k
  let n := d.ringSize k
  let y := if plus then (x + 1) % n else (x + n - 1) % n
  id - x * stride + y * stride

/-- Hops from one device to another in a dimension and direction (R308). -/
def Dev.ringHops (d : Dev) (src dst k : Nat) (plus : Bool) : Nat :=
  let n := d.ringSize k
  let a := d.coord src k
  let b := d.coord dst k
  if plus then (b + n - a) % n else (a + n - b) % n

/-- The bond group of a dimension and direction: its enabled ports, lower-numbered first (R307). -/
def Dev.bondGroup (d : Dev) (k : Nat) (plus : Bool) : List Nat :=
  (List.range 12).filter (fun n => d.bit F.TL_CFG_EN n && d.get F.TL_CFG_DIM n = k && (d.get F.TL_CFG_DIR n = 1) = plus)

/-- Link state of a port. -/
def Dev.link (d : Dev) (n : Nat) : LinkState := SMap.read LinkState.reset d.links n

/-- The device with a port's link state changed. -/
def Dev.modLink (d : Dev) (n : Nat) (f : LinkState → LinkState) : Dev :=
  { d with links := SMap.write LinkState.reset d.links n (f (d.link n)) }

/-- Receiver buffers per class (Table 09-1): S slots, UA packets, UE packets, C slots. -/
def linkBuffers (cls : Nat) : Nat := [256, 32, 8, 4].getD cls 0

/-- Buffers of a class at the peer that this sender may still use (R300). -/
def Dev.linkRoom (d : Dev) (n cls : Nat) : Nat := linkBuffers cls - SMap.read 0 (d.link n).used cls

/-- Dimensions in which two devices differ, lowest first. -/
def Dev.openDims (d : Dev) (src dst : Nat) : List Nat := (List.range 6).filter (fun k => d.coord src k != d.coord dst k)

/-- The port by which an S packet leaves: the lowest dimension that differs, by ROUTE.DIR and ROUTE.MEMBER (R308). -/
def Dev.sPort (d : Dev) (dst route : Nat) : Option Nat :=
  match d.openDims d.deviceId dst with
  | [] => none
  | k :: _ =>
    let g := d.bondGroup k (bitOf route k)
    (g.drop (b2n (bitOf route (6 + k)))).head?

/-- Productive directions of a dimension: the shorter, or both when they are equal (R309). -/
def Dev.prodDirs (d : Dev) (dst k : Nat) : List Bool :=
  let p := d.ringHops d.deviceId dst k true
  let m := d.ringHops d.deviceId dst k false
  if p < m then [true] else if m < p then [false] else [true, false]

/-- The port with the most free UA room; the first of the list on a tie. -/
def Dev.mostRoom (d : Dev) (ports : List Nat) : Option Nat :=
  ports.foldl (fun best n =>
    if d.linkRoom n 1 = 0 then best
    else match best with
      | none => some n
      | some b => if d.linkRoom b 1 < d.linkRoom n 1 then some n else best) none

/-- The port by which Fox sends a U packet out, and whether it takes the escape channel (R309). -/
def Dev.uPort (d : Dev) (dst : Nat) : Option (Nat × Bool) :=
  let dims := d.openDims d.deviceId dst
  let cands := dims.flatMap (fun k =>
    let g := (d.prodDirs dst k).flatMap (d.bondGroup k)
    (List.range 12).filter (fun n => g.contains n && d.portUp n))
  match d.mostRoom cands with
  | some n => some (n, false)
  | none =>
    match dims with
    | [] => none
    | k :: _ => ((d.bondGroup k ((d.prodDirs dst k).headD true)).head?).map (fun n => (n, true))

/-! ## Header fields -/

/-- CLASS: 0 S, 1 U, 2 C. -/
def pktClass (p : Packet) : Nat := p.ctl.toNat % 4

/-- MCAST. -/
def pktMcast (p : Packet) : Bool := bitOf p.ctl.toNat 2

/-- DPC of LOCAL. -/
def pktDpc (p : Packet) : Nat := p.loc.toNat % 1024

/-- HOPS_LEFT of LOCAL. -/
def pktHops (p : Packet) : Nat := bitsOf p.loc.toNat 13 10

/-- ESCAPE of LOCAL. -/
def pktEscape (p : Packet) : Bool := bitOf p.loc.toNat 14

/-- The packet with LOCAL set. -/
def pktSetLoc (p : Packet) (dpc hops : Nat) (esc fwd : Bool) : Packet :=
  { p with loc := BitVec.ofNat 16 (dpc % 1024 + hops % 16 * 2 ^ 10 + b2n esc * 2 ^ 14 + b2n fwd * 2 ^ 15) }

/-- The bytes that the trailer covers: header bytes 0x00 to 0x0D, extension and payload (R286). DESIGN CHOICE, unsafe (log entry 42). -/
def pktBytes (p : Packet) : List Byte :=
  leBytes 1 p.typ.toNat ++ leBytes 1 p.ctl.toNat ++ leBytes 2 p.len.toNat ++ leBytes 2 p.dstDev.toNat ++ leBytes 2 p.dstUnit.toNat ++
  leBytes 2 p.srcDev.toNat ++ leBytes 2 p.srcUnit.toNat ++ leBytes 2 p.route.toNat ++ p.ext ++ p.payload

/-- The trailer is right. -/
def pktCrcOk (p : Packet) : Bool := p.crc.toNat = crc32c (pktBytes p)

/-- The packet with its trailer computed. DESIGN CHOICE, unsafe (log entry 42). -/
def pktSeal (p : Packet) : Packet := { p with crc := BitVec.ofNat 32 (crc32c (pktBytes p)) }

/-- What a source gives a packet. -/
structure PktSpec where
  typ : Nat
  cls : Nat
  mcast : Bool
  dstDev : Nat
  dstUnit : Nat
  srcUnit : Nat
  route : Nat
  hops : Nat
  ext : List Byte
  payload : List Byte
  /-- LEN: payload bytes, or the length that a READ_REQ asks for. -/
  len : Nat
  deriving DecidableEq, Repr

/-- A U packet of this device. -/
def uPkt (typ dstDev dstUnit srcUnit : Nat) (ext payload : List Byte) : PktSpec :=
  { typ := typ, cls := 1, mcast := false, dstDev := dstDev, dstUnit := dstUnit, srcUnit := srcUnit, route := 0, hops := 0,
    ext := ext, payload := payload, len := payload.length }

/-- The port by which a multicast record goes on along its ring: the lowest-numbered UP member of the bond group that its unit names (R231). -/
def Dev.mcastPort (d : Dev) (p : Packet) : Option Nat :=
  let u := p.dstUnit.toNat
  (d.bondGroup (u % 8) (bitOf u 3)).find? d.portUp

/-- The first DPC of a packet at a router of this die: its target, or the port by which it leaves; the router's own slot where there is none (R290, R292, R308, R309). A multicast packet with devices left in HOPS_LEFT leaves; one with none is for cells of this device. -/
def Dev.aim (d : Dev) (at' : Nat) (p : Packet) : Packet :=
  if pktMcast p then
    pktSetLoc p (if pktHops p = 0 then at' else ((d.mcastPort p).map (560 + ·)).getD at') (pktHops p) (pktEscape p) false
  else if p.dstDev.toNat % 1024 = d.deviceId then
    pktSetLoc p ((d.unitDpc p.dstUnit.toNat).getD at') (pktHops p) (pktEscape p) (bitOf p.loc.toNat 15)
  else if pktClass p = 0 then
    pktSetLoc p (((d.sPort (p.dstDev.toNat % 1024) p.route.toNat).map (560 + ·)).getD at') (pktHops p) false (bitOf p.loc.toNat 15)
  else match d.uPort (p.dstDev.toNat % 1024) with
    | some (n, _) => pktSetLoc p (560 + n) (pktHops p) (pktEscape p) (bitOf p.loc.toNat 15)
    | none => pktSetLoc p at' (pktHops p) false false

/-- A packet made by this device. -/
def Dev.mkPkt (d : Dev) (s : PktSpec) : Packet :=
  pktSeal { typ := BitVec.ofNat 8 s.typ, ctl := BitVec.ofNat 8 (s.cls + 4 * b2n s.mcast), len := BitVec.ofNat 16 s.len,
            dstDev := BitVec.ofNat 16 s.dstDev, dstUnit := BitVec.ofNat 16 s.dstUnit, srcDev := BitVec.ofNat 16 d.deviceId,
            srcUnit := BitVec.ofNat 16 s.srcUnit, route := BitVec.ofNat 16 s.route, loc := BitVec.ofNat 16 (s.hops % 16 * 2 ^ 10),
            ext := s.ext, payload := s.payload, crc := 0 }

/-- A packet enters the mesh at its source's router. -/
def Dev.send (d : Dev) (s : PktSpec) : Dev :=
  let p := d.mkPkt s
  let dpc := (d.unitDpc s.srcUnit).getD 0
  let r := dpcRouter 0 dpc
  { d with net := d.net ++ [Flight.mk (d.aim r p) r 4 none] }

/-- Several packets, in order. -/
def Dev.sendAll (d : Dev) (l : List PktSpec) : Dev := l.foldl Dev.send d

/-- Two packets are the same but for the mutable bytes and the trailer check. -/
def pktSame (p q : Packet) : Bool := pktBytes p = pktBytes q

/-- A packet reaches its unit: the flight that carries it leaves the mesh. DEDUCED, unsafe (log entry 84). -/
def Dev.landed (d : Dev) (p : Packet) : Dev :=
  { d with net := d.net.eraseP (fun f => pktSame f.pkt p) }

end Sys2Proof.Machine
end

