-- ==== Sys2Proof/Machine/Rings.lean ====
section
/-! DEFINITION. Work-queue rings in the commons: where they lie, and writes that they refuse (R248 to R252). -/

namespace Sys2Proof.Machine

/-- An engine's state. -/
def Dev.eng (d : Dev) (e : Nat) : EngState := SMap.read EngState.reset d.engs e

/-- The device with an engine's state changed. -/
def Dev.modEng (d : Dev) (e : Nat) (f : EngState → EngState) : Dev :=
  { d with engs := SMap.write EngState.reset d.engs e (f (d.eng e)) }

/-- The instance is an engine (R246). -/
def engReal (e : Nat) : Bool := e < 256 && e % 16 < 12

/-- The engine of the same index in hub h xor 1 (R270). -/
def engPartner (e : Nat) : Nat := e ^^^ 16

/-- A queue is enabled. -/
def Dev.wqOn (d : Dev) (e q : Nat) : Bool := d.bit F.ENG_WQ_CFG_EN e (q + 1)

/-- Slots of a queue's ring. -/
def Dev.wqSlots (d : Dev) (e q : Nat) : Nat := 2 ^ d.get F.ENG_WQ_CFG_SIZE e (q + 1)

/-- Storage address of a queue's ring. -/
def Dev.wqBase (d : Dev) (e q : Nat) : Nat := 0x100200000000 + e / 16 * 2 ^ 25 + d.get F.ENG_WQ_CFG_BASE e (q + 1)

/-- The enabled ring that a range of storage touches: engine and queue. -/
def Dev.ringAt (d : Dev) (a n : Nat) : Option (Nat × Nat) :=
  if a + n ≤ 0x100200000000 || 0x100220000000 ≤ a then none
  else ((List.range 256).filter engReal).findSome? (fun e =>
    ((List.range 64).find? (fun q =>
      d.wqOn e q && a < d.wqBase e q + 64 * d.wqSlots e q && d.wqBase e q < a + n)).map (fun q => (e, q)))

/-- A refused ring write stores nothing and is counted, latched and recorded (R252). DEDUCED, unsafe (log entry 29). -/
def Dev.ringRefused (d : Dev) (e q reason seq : Nat) : Dev :=
  ((d.count F.ENG_WRITES_REFUSED e).setReg F.ENG_REFUSED_LAST.base e 0
    (2 ^ 63 + q * 2 ^ 48 + reason * 2 ^ 32 + seq % 2 ^ 32)).record 0x0142 reason 4 e 0 q seq

/-- An agent is a queue's producer (R250). -/
def Dev.isProducer (d : Dev) (e q : Nat) (who : Agent) : Bool :=
  match d.get F.ENG_WQ_CFG_PKIND e (q + 1), who with
  | 0, .cell lc => d.get F.ENG_WQ_CFG_PLC e (q + 1) = lc
  | 1, .os => true
  | 2, .sched => true
  | 3, .squirrel => true
  | _, _ => false

/-- Why a write of [a, a + n) to a ring is refused before its line is looked at: DISABLING, REMOTE, NOT_PRODUCER or PARTIAL (Table 08-17); 0 if it is not. A write by an engine has no agent. DEDUCED, unsafe (log entry 29). -/
def Dev.ringReason (d : Dev) (e q : Nat) (who : Option Agent) (a n : Nat) : Nat :=
  if (d.eng e).disabling.contains q then 8
  else match who with
    | some (.remote _) => 6
    | some w =>
      if !d.isProducer e q w then 1
      else if a < d.wqBase e q || d.wqBase e q + 64 * d.wqSlots e q < a + n || n % 8 ≠ 0 then 2 else 0
    | none => 1

/-- A store that can be neither a submission nor an abort word: storage outside every enabled ring is written, a ring refuses it. -/
def Dev.plainStore (d : Dev) (who : Option Agent) (a : Nat) (bs : List Byte) : Dev :=
  match d.ringAt a bs.length with
  | none => d.store a bs
  | some (e, q) =>
    let r := d.ringReason e q who a bs.length
    d.ringRefused e q (if r = 0 then 2 else r) 0

end Sys2Proof.Machine
end

