-- ==== Sys2Proof/Machine/Cells.lean ====
section
/-! DEFINITION. Contexts, counters and freezes of a cell: choosing a context, waking, faulting, ending launches, freezing and thawing (R112 to R122, R142, R144, R146, R155 to R157, R190 to R198, R504, R505). -/

namespace Sys2Proof.Machine

/-! ## Choosing a context (R107, R114) -/

/-- Read-ahead of a context is discarded (R105, R107). -/
def CtxState.dropAhead (x : CtxState) : CtxState :=
  { x with sds := x.sds.map (fun e => (e.1, { e.2 with ahead := e.2.pos })) }

/-- READY contexts of a priority, in round-robin order after the one that ran last. -/
def CellState.readyOf (s : CellState) (prio : Nat) : List Nat :=
  ((List.range 32).map (fun i => (s.lastRun + 1 + i) % 32)).filter (fun c => (s.ctx c).phase = .ready && (s.ctx c).prio = prio)

/-- The READY context of highest priority, round robin among equals. DEDUCED, unsafe (log entry 32). -/
def CellState.pick (s : CellState) : Option Nat :=
  match s.readyOf 3, s.readyOf 2, s.readyOf 1, s.readyOf 0 with
  | c :: _, _, _, _ => some c
  | [], c :: _, _, _ => some c
  | [], [], c :: _, _ => some c
  | [], [], [], c :: _ => some c
  | [], [], [], [] => none

/-- The running context. -/
def CellState.runner (s : CellState) : Option Nat := (List.range 32).find? (fun c => (s.ctx c).phase = .running)

/-- A context starts running. -/
def CellState.start (s : CellState) (c : Nat) : CellState :=
  { s.setCtx c { s.ctx c with phase := .running } with lastRun := c }

/-- The choice of R114 at an instruction boundary: a READY context runs if none does, or preempts one of strictly lower priority. A frozen cell runs nothing new. -/
def CellState.reselect (s : CellState) : CellState :=
  if s.freeze.any then s
  else match s.runner, s.pick with
    | none, some c => s.start c
    | some r, some c =>
      if (s.ctx r).prio < (s.ctx c).prio then
        (s.setCtx r { (s.ctx r).dropAhead with phase := .ready }).start c
      else s
    | _, none => s

/-- The device after the core of a cell has chosen. DEDUCED, unsafe (log entry 32). -/
def Dev.reselect (d : Dev) (pc : Nat) : Dev := d.modCell pc CellState.reselect

/-- A context leaves RUNNING for a phase; its read-ahead is discarded. -/
def CtxState.leave (x : CtxState) (p : CtxPhase) (w : Option Wait) : CtxState := { x.dropAhead with phase := p, wait := w }

/-- A parked context becomes READY. -/
def CtxState.wake (x : CtxState) : CtxState := { x with phase := .ready, wait := none }

/-! ## Counters (R189 to R197) -/

/-- The value of a sync counter. -/
def Dev.counter (d : Dev) (pc n : Nat) : Nat := (SMap.read 0 (d.cell pc).ctrs n).toNat

/-- The contexts parked on a counter (R196). -/
def CellState.waiters (s : CellState) (n : Nat) : List Nat :=
  (List.range 32).filter (fun c => match (s.ctx c).phase, (s.ctx c).wait with
    | .parked, some (.counter k _) => k = n
    | _, _ => false)

/-- Contexts parked on a counter whose threshold is reached. -/
def CellState.reached (s : CellState) (n v : Nat) : List Nat :=
  (List.range 32).filter (fun c => match (s.ctx c).phase, (s.ctx c).wait with
    | .parked, some (.counter k t) => k = n && t ≤ v
    | _, _ => false)

/-- A counter takes a value: it is compared with every wait slot on it, and the contexts reached become READY (R196). -/
def Dev.putCounter (d : Dev) (pc n v : Nat) : Dev :=
  let d := d.modCell pc (fun s => { s with ctrs := SMap.write 0 s.ctrs n (wOf v) })
  let woken := (d.cell pc).reached n v
  if woken.isEmpty then d
  else ((d.modCell pc (fun s => woken.foldl (fun s c => s.setCtx c (s.ctx c).wake) s)).count F.CELL_SYNC_WAKES pc 0 woken.length).reselect pc

/-- An addition to a counter, saturating (R192, R195). -/
def Dev.addCounter (d : Dev) (pc n amount : Nat) : Dev :=
  let v := d.counter pc n + amount
  if 2 ^ 64 ≤ v then
    ((d.set F.CELL_SYNC_STATUS_SAT 1 pc).record 0x0131 n 2 pc 0).putCounter pc n (2 ^ 64 - 1)
  else d.putCounter pc n v

/-- Counter n is another context's private counter (R88). -/
def foreignPrivate (c n : Nat) : Bool := 192 ≤ n && (n - 192) / 2 ≠ c

/-! ## Launch ends (R144 to R146) -/

/-- The status word of a launch (Table 04-8). -/
def launchStatus (handle st : Nat) (inexact retried ovf under : Bool) : Nat :=
  handle % 2 ^ 32 * 2 ^ 32 + st * 2 ^ 28 + 8 * b2n inexact + 4 * b2n retried + 2 * b2n ovf + b2n under

/-- The end of a launch: its status word is written, DONE_CTR posted, the last eight kept, and contexts that waited for it become READY (R144, R145). -/
def Dev.endLaunch (d : Dev) (pc : Nat) (l : LaunchDesc) (status : Nat) : Dev :=
  let d := match (d.place false l.statusAddr 8).storage with
    | some st => d.plainStore ((d.hosted pc).map (fun lc => Agent.cell (Fin.ofNat 512 lc))) st (leBytes 8 status)
    | none => d
  let d := d.modArr pc (fun a => { a with ended := ((a.ended ++ [EndedLaunch.mk l.handle l.ctx l.bindId status]).reverse.take 8).reverse })
  let d := d.addCounter pc l.doneCtr 1
  let wakes : Option Wait → Bool := fun w => match w with
    | some (.launchEnd h) => h = l.handle
    | some .plane => true
    | _ => false
  (d.modCell pc (fun s => (List.range 32).foldl (fun s c =>
    if (s.ctx c).phase = .parked && wakes (s.ctx c).wait then s.setCtx c (s.ctx c).wake else s) s)).reselect pc

/-- Wakes the contexts that wait for an array plane (R140, R141). -/
def Dev.wakePlane (d : Dev) (pc : Nat) : Dev :=
  (d.modCell pc (fun s => (List.range 32).foldl (fun s c =>
    if (s.ctx c).phase = .parked && (s.ctx c).wait = some .plane then s.setCtx c (s.ctx c).wake else s) s)).reselect pc

/-- Every output byte of the launch is written: nothing is left but its end (R146). -/
def Launch.committed (l : Launch) : Bool := l.ending.isSome

/-- A KILL, a fault or an ADRAIN aborts a launch of a context: a pending one ends ABORTED, a running one whose last output is not committed is drained (R142, R146, R155). -/
def Dev.abortLaunches (d : Dev) (pc c : Nat) (cause : DrainCause) (only : Option Nat) : Dev :=
  let hit := fun (l : LaunchDesc) => l.ctx = c && (match only with | some h => l.handle = h | none => true)
  let d := match (d.cell pc).arr.pend with
    | some l => if hit l then
        (d.modArr pc (fun a => { a with pend := none })).endLaunch pc l (launchStatus l.handle 3 false false false false)
      else d
    | none => d
  d.modArr pc (fun a => match a.run with
    | some l => if hit l.desc && !l.committed then { a with run := some { l with drain := some cause } } else a
    | none => a)

/-! ## Faults (R117 to R119) -/

/-- The severity of a fault cause (Table 12-7); PROGRESS is DEGRADED by R435. -/
def causeSeverity (cause : Nat) : Nat := if cause = 0x0B || cause = 0x0C then 3 else if cause = 0x0D then 2 else 0

/-- The fault latch of a cell (R119). -/
def Dev.latchFault (d : Dev) (pc cause name : Nat) : Dev :=
  if d.bit F.CELL_CTX_FAULT_CAUSE_VALID pc then d.set F.CELL_CTX_FAULT_CAUSE_LOST 1 pc
  else
    (((d.setReg F.CELL_CTX_FAULT_NAME.base pc 0 name).setReg F.CELL_CTX_FAULT_BEAT.base pc 0 d.beat).set
      F.CELL_CTX_FAULT_CAUSE_VALID 1 pc).set F.CELL_CTX_FAULT_CAUSE_CAUSE cause pc

/-- The record and the latch of a fault at a PC (R118, R119). -/
def Dev.noteFault (d : Dev) (pc c cause : Nat) (at' : Word) (d0 d1 d2 : Nat) : Dev :=
  let lc := (d.hosted pc).getD 0
  let name := ctxName d.deviceId lc c at'.toNat
  (d.latchFault pc cause name).recordCtx 0x0101 cause 2 pc (causeSeverity cause) name d0 d1 d2

/-- The array's loads no longer answer a context: those that wait are withdrawn, and one under way ends unheard (R140). -/
def ArrayState.forget (a : ArrayState) (c : Nat) : ArrayState :=
  { a with load := a.load.map (fun l => if l.ctx = c then { l with ctx := 32 } else l), loadWait := a.loadWait.filter (fun l => l.ctx != c),
           loadDone := SMap.erase c a.loadDone, drains := SMap.erase c a.drains }

/-- A context faults at a PC: it enters FAULTED there, its launches are aborted, and a task of the schedule unit raises a hold (R117, R142, R344). -/
def Dev.faultAt (d : Dev) (pc c cause : Nat) (at' : Word) (d0 d1 d2 : Nat := 0) : Dev :=
  let sched := (d.ctx pc c).sched
  let d := d.noteFault pc c cause at' d0 d1 d2
  let d := d.modCtx pc c (fun x => { x.leave .faulted none with pc := at' })
  let d := d.modArr pc (fun a => a.forget c)
  let d := d.abortLaunches pc c .fault none
  let d := if sched.isSome then d.raiseHold 3 0xFF ((d.hosted pc).getD 0) else d
  d.reselect pc

/-- A context faults at its present instruction. -/
def Dev.fault (d : Dev) (pc c cause : Nat) : Dev := d.faultAt pc c cause (d.ctx pc c).pc

/-- A fault that the array directs at the context of a launch (R505): the context's state changes only while it is still in the bind that issued the ALAUNCH; the latch, the record and the hold of a scheduled task follow in any case. -/
def Dev.arrayFault (d : Dev) (pc : Nat) (l : LaunchDesc) (cause : Nat) (d0 d1 d2 : Nat := 0) : Dev :=
  let x := d.ctx pc l.ctx
  if x.bindId = l.bindId && (x.phase = .ready || x.phase = .running || x.phase = .parked) then
    d.faultAt pc l.ctx cause l.pc d0 d1 d2
  else
    let d := d.noteFault pc l.ctx cause l.pc d0 d1 d2
    if l.sched.isSome then d.raiseHold 3 0xFF ((d.hosted pc).getD 0) else d

/-! ## Freeze and thaw (R120, R121, R156, R157, R180, R504) -/

/-- What setting the first freeze source does: issue stops, a running launch is drained and held, an image load is abandoned with its plane EMPTY, and the near-memory unit holds its command. -/
def Dev.freezeCell (d : Dev) (pc : Nat) : Dev :=
  let d := d.modCell pc (fun s => { s with ctxs := s.ctxs.map (fun e => (e.1, e.2.dropAhead)) })
  let shadow := if (d.cell pc).arr.active then 0 else 1
  let d := match (d.cell pc).arr.load with
    | some _ => (d.modArr pc (fun a => { a with load := none, loadWait := [] })).setReg (F.CELL_ARR_PLANE.base + 8 * shadow) pc 0 0
    | none => d
  let d := d.modArr pc (fun a => match a.run with
    | some l => if l.drain.isNone && !l.committed then { a with run := some { l with drain := some .freeze } } else a
    | none => a)
  if (d.cell pc).nm.isSome then d.set F.SPAD_NM_STATUS_HELD 1 pc else d

/-- What clearing the last freeze source does: contexts that were RUNNING resume as READY, a held launch and a held command resume, and waits on a plane execute again (R115, R157). -/
def Dev.thawCell (d : Dev) (pc : Nat) : Dev :=
  let d := d.modCell pc (fun s => { s with frozen := false, ctxs := s.ctxs.map (fun e =>
    (e.1, if e.2.phase = .running then { e.2 with phase := .ready } else e.2)) })
  let d := d.modArr pc (fun a => match a.run with
    | some l => { a with run := some { l with held := false, drain := if l.drain = some .freeze then none else l.drain } }
    | none => a)
  let d := d.set F.SPAD_NM_STATUS_HELD 0 pc
  d.wakePlane pc

/-- Changes the freeze sources of a cell: setting the first performs FREEZE, clearing the last performs THAW (R504). -/
def Dev.setFreeze (d : Dev) (pc : Nat) (f : FreezeSources → FreezeSources) : Dev :=
  let was := (d.cell pc).freeze.any
  let d := d.modCell pc (fun s => { s with freeze := f s.freeze })
  let now := (d.cell pc).freeze.any
  if !was && now then d.freezeCell pc
  else if was && !now then d.thawCell pc
  else d

/-- A cell is frozen, or its freeze has begun. -/
def Dev.isFrozen (d : Dev) (pc : Nat) : Bool := (d.cell pc).freeze.any

/-- The slots that host a logical cell. -/
def Dev.hostedSlots (d : Dev) : List Nat := (List.range 512).filterMap d.hostOf

/-! ## Kill and clear (R110, R113) -/

/-- KILL of a context: EMPTY at once, its wait withdrawn, its launches aborted; the clear of R110 follows. -/
def Dev.kill (d : Dev) (pc c : Nat) : Dev :=
  let d := d.abortLaunches pc c .kill none
  let d := d.modCtx pc c (fun x => { x.leave .empty none with sched := none, act := .clearing })
  let shadow := if (d.cell pc).arr.active then 0 else 1
  let d := if (d.cell pc).arr.load.any (fun l => l.ctx = c) then d.setReg (F.CELL_ARR_PLANE.base + 8 * shadow) pc 0 0 else d
  let d := d.modCell pc (fun s => { s with slabOps := s.slabOps.filter (fun o => o.ctx != c), arr := { s.arr with
    load := s.arr.load.filter (fun l => l.ctx != c), loadWait := s.arr.loadWait.filter (fun l => l.ctx != c),
    loadDone := SMap.erase c s.arr.loadDone, drains := SMap.erase c s.arr.drains } })
  (d.count F.CELL_TASK_SWITCHES pc).wakePlane pc

/-- The clear of R110: scalar registers, slab registers, private counters and stream descriptors. -/
def Dev.clearCtx (d : Dev) (pc c : Nat) : Dev :=
  let d := d.zeroMem (slabAddr pc c 0) 0x8000
  let d := d.modCtx pc c (fun x => { x with x := [], sds := [] })
  (d.putCounter pc (192 + 2 * c) 0).putCounter pc (193 + 2 * c) 0

end Sys2Proof.Machine
end

