-- ==== Sys2Proof/Machine/Chans.lean ====
section
/-! DEFINITION. Channels, endpoints and credits of cells, of the OS complex and of Slolis's reply endpoint: the shared operations (R207 to R221, R227 to R233, R244, R245, R506). -/

namespace Sys2Proof.Machine

/-! ## Owners and their banked registers -/

/-- Who owns a channel or an endpoint: the cell in a slot, or the OS complex. OS endpoint 256 is Slolis's reply endpoint (R469). -/
inductive Owner where
  | cell (pc : Nat)
  | os
  deriving DecidableEq, Repr

/-- The register instance of an owner. -/
def ownerInst : Owner → Nat
  | .cell pc => pc
  | .os => 0

/-- The cell's field or the OS complex's. -/
def ownerFld (o : Owner) (c s : Fld) : Fld :=
  match o with
  | .cell _ => c
  | .os => s

/-- A field of the register of item k. -/
def Dev.og (d : Dev) (o : Owner) (k : Nat) (c s : Fld) : Nat := d.get (ownerFld o c s) (ownerInst o) (k + 1)

/-- The device with a field of the register of item k set. -/
def Dev.os (d : Dev) (o : Owner) (k : Nat) (c s : Fld) (v : Nat) : Dev := d.set (ownerFld o c s) v (ownerInst o) (k + 1)

/-- The device with events counted in a counter of item k. -/
def Dev.oc (d : Dev) (o : Owner) (k : Nat) (c s : Fld) (n : Nat := 1) : Dev := d.count (ownerFld o c s) (ownerInst o) (k + 1) n

/-- A channel's state. -/
def Dev.chan (d : Dev) (o : Owner) (k : Nat) : ChanState :=
  match o with
  | .cell pc => SMap.read ChanState.reset (d.cell pc).chans k
  | .os => SMap.read ChanState.reset d.osChans k

/-- The device with a channel's state changed. -/
def Dev.modChan (d : Dev) (o : Owner) (k : Nat) (f : ChanState → ChanState) : Dev :=
  match o with
  | .cell pc => d.modCell pc (fun s => { s with chans := SMap.write ChanState.reset s.chans k (f (d.chan o k)) })
  | .os => { d with osChans := SMap.write ChanState.reset d.osChans k (f (d.chan o k)) }

/-- An endpoint's state. -/
def Dev.sep (d : Dev) (o : Owner) (k : Nat) : SepState :=
  match o with
  | .cell pc => SMap.read SepState.reset (d.cell pc).seps k
  | .os => SMap.read SepState.reset d.osSeps k

/-- The device with an endpoint's state changed. -/
def Dev.modSep (d : Dev) (o : Owner) (k : Nat) (f : SepState → SepState) : Dev :=
  match o with
  | .cell pc => d.modCell pc (fun s => { s with seps := SMap.write SepState.reset s.seps k (f (d.sep o k)) })
  | .os => { d with osSeps := SMap.write SepState.reset d.osSeps k (f (d.sep o k)) }

/-- The unit of an owner's channels (Table 09-2). -/
def Dev.ownerUnit (d : Dev) : Owner → Nat
  | .cell pc => unitCell ((d.hosted pc).getD 0)
  | .os => unitOs

/-- SOURCE of an endpoint (Table 07-1). -/
def Dev.sourceWord (d : Dev) (o : Owner) (k : Nat) : Nat :=
  match o with
  | .cell pc => d.deviceId * 2 ^ 20 + (d.hosted pc).getD 0 * 2 ^ 11 + k
  | .os => if k = 256 then 2 ^ 30 + d.deviceId * 2 ^ 20 else 2 ^ 31 + d.deviceId * 2 ^ 20 + k

/-- The unit that a SOURCE names. -/
def sourceUnit (w : Nat) : Nat := if bitOf w 31 then unitOs else if bitOf w 30 then unitAon else unitCell (bitsOf w 19 11)

/-- The unit of an endpoint, as packets it sends name it. -/
def Dev.sepUnit (d : Dev) (o : Owner) (k : Nat) : Nat := sourceUnit (d.sourceWord o k)

/-! ## Rings (R207, R213) -/

/-- The channel is OPEN. -/
def Dev.chanOpen (d : Dev) (o : Owner) (k : Nat) : Bool := d.og o k F.CELL_CHAN_RING_OPEN F.DEV_OSCH_RING_OPEN = 1

/-- Bytes of a ring of a size code. -/
def ringBytes (size : Nat) : Nat := 4096 * 2 ^ size

/-- Bytes of a channel's ring. -/
def Dev.chanBytes (d : Dev) (o : Owner) (k : Nat) : Nat := ringBytes (d.og o k F.CELL_CHAN_RING_SIZE F.DEV_OSCH_RING_SIZE)

/-- Storage address of a channel's ring. -/
def Dev.ringBase (d : Dev) (o : Owner) (k : Nat) : Nat :=
  match o with
  | .cell pc => sliceBase pc + d.get F.CELL_CHAN_RING_BASE pc (k + 1)
  | .os => d.get F.DEV_OSCH_RING_BASE 0 (k + 1) * 4096

/-- Generation of a channel. -/
def Dev.chanGen (d : Dev) (o : Owner) (k : Nat) : Nat := d.og o k F.CELL_CHAN_GEN_GEN F.DEV_OSCH_GEN_GEN

/-- Ring offset of the head record. -/
def Dev.chanRd (d : Dev) (o : Owner) (k : Nat) : Nat := d.og o k F.CELL_CHAN_PTR_RD F.DEV_OSCH_PTR_RD

/-- Units of a record: a message's, or a pad's to the ring end (R213, R215). -/
def recUnits (kind len : Nat) : Nat := if kind = 1 then (16 + len) / 64 else ceilDiv (16 + len) 64

/-- The recorded source as a SOURCE word; none while VALID is clear. -/
def Dev.chanSource (d : Dev) (o : Owner) (k : Nat) : Option Nat :=
  let g := fun c s => d.og o k c s
  if g F.CELL_CHAN_SRC_VALID F.DEV_OSCH_SRC_VALID = 0 then none
  else some (g F.CELL_CHAN_SRC_OS F.DEV_OSCH_SRC_OS * 2 ^ 31 + g F.CELL_CHAN_SRC_AON F.DEV_OSCH_SRC_AON * 2 ^ 30 +
    g F.CELL_CHAN_SRC_DEVICE F.DEV_OSCH_SRC_DEVICE * 2 ^ 20 + g F.CELL_CHAN_SRC_LC F.DEV_OSCH_SRC_LC * 2 ^ 11 +
    g F.CELL_CHAN_SRC_SEP F.DEV_OSCH_SRC_SEP)

/-- The device with a channel's recorded source set from a SOURCE word, or cleared. -/
def Dev.setSource (d : Dev) (o : Owner) (k : Nat) (w : Option Nat) : Dev :=
  let v := match w with
    | none => 0
    | some w => 2 ^ 63 + bitsOf w 31 31 * 2 ^ 62 + bitsOf w 29 20 * 2 ^ 52 + bitsOf w 19 11 * 2 ^ 43 + bitsOf w 30 30 * 2 ^ 42 + bitsOf w 7 0
  d.os o k F.CELL_CHAN_SRC F.DEV_OSCH_SRC v

/-! ## Messages between the two ends

The bodies of JOIN, JOIN_REPLY, CREDIT and CLOSE_NOTICE, which the spec leaves open, are: endpoint or channel (2 B), then as each function says. -/

/-- A close notice to a source: endpoint, channel, generation (R227, R228). -/
def Dev.closeNotice (d : Dev) (o : Owner) (k source gen : Nat) : Dev :=
  d.send (uPkt 0x0A (bitsOf source 29 20) (sourceUnit source) (d.ownerUnit o) []
    (leBytes 2 (bitsOf source 7 0) ++ leBytes 2 k ++ leBytes 4 gen))

/-- A credit return to the recorded source: endpoint, channel, generation, cumulative freed count (R220). -/
def Dev.creditReturn (d : Dev) (o : Owner) (k : Nat) : Dev :=
  match d.chanSource o k with
  | none => d
  | some w =>
    let freed := (d.chan o k).freed
    (d.send (uPkt 0x07 (bitsOf w 29 20) (sourceUnit w) (d.ownerUnit o) []
      (leBytes 2 (bitsOf w 7 0) ++ leBytes 2 k ++ leBytes 4 (d.chanGen o k) ++ leBytes 4 freed))).modChan o k
      (fun c => { c with returned := c.freed })

/-- Sends a credit return when R220 says so. -/
def Dev.creditCheck (d : Dev) (o : Owner) (k : Nat) : Dev :=
  let c := d.chan o k
  let due := (c.freed + 2 ^ 32 - c.returned) % 2 ^ 32
  if 2 ^ d.og o k F.CELL_CHAN_RING_BATCH F.DEV_OSCH_RING_BATCH ≤ due || (c.visible = 0 && due ≠ 0) then d.creditReturn o k else d

/-! ## The receiving side -/

/-- LEN of the record at RD. -/
def Dev.headLen (d : Dev) (o : Owner) (k : Nat) : Nat := d.loadNat (d.ringBase o k + d.chanRd o k + 8) 2

/-- KIND of the record at RD. -/
def Dev.headKind (d : Dev) (o : Owner) (k : Nat) : Nat := d.loadNat (d.ringBase o k + d.chanRd o k + 10) 1

/-- A visible MESSAGE is at RD. -/
def Dev.hasHead (d : Dev) (o : Owner) (k : Nat) : Bool := d.chanOpen o k && (d.chan o k).visible != 0

/-- Frees the record at RD (R218, R225): RD moves past it and its units are freed. -/
def Dev.freeHead (d : Dev) (o : Owner) (k : Nat) : Dev :=
  let u := recUnits (d.headKind o k) (d.headLen o k)
  let rd := (d.chanRd o k + 64 * u) % d.chanBytes o k
  (d.os o k F.CELL_CHAN_PTR_RD F.DEV_OSCH_PTR_RD rd).modChan o k
    (fun c => { c with visible := c.visible - u, freed := (c.freed + u) % 2 ^ 32 })

/-- A visible PAD at RD is consumed at once (R218); the record after it is a message. -/
def Dev.eatPad (d : Dev) (o : Owner) (k : Nat) : Dev :=
  if d.hasHead o k && d.headKind o k = 1 then (d.freeHead o k).oc o k F.CELL_CHAN_PADS F.DEV_OSCH_PADS else d

/-- The head message is freed by its reader: CADV, ADV or the near-memory unit (R173, R218, R220, R225). -/
def Dev.advance (d : Dev) (o : Owner) (k : Nat) : Dev := ((d.freeHead o k).eatPad o k).creditCheck o k

/-- Wakes the contexts of a cell parked on a channel's receive (R224, R227). -/
def Dev.wakeReceivers (d : Dev) (o : Owner) (k : Nat) : Dev :=
  match o with
  | .os => d
  | .cell pc =>
    (d.modCell pc (fun s => (List.range 32).foldl (fun s c =>
      if (s.ctx c).phase = .parked && (s.ctx c).wait = some (.receive k) then s.setCtx c (s.ctx c).wake else s) s)).reselect pc

/-- The next record of the generation is complete: its header is written, ARRIVED advances over it, a message is counted and posted, and a pad at RD is consumed (R217, R218, R245). -/
def Dev.makeVisible (d : Dev) (o : Owner) (k : Nat) (r : RecPart) : Dev :=
  let len := leNat ((r.hdr.drop 8).take 2)
  let kind := leNat ((r.hdr.drop 10).take 1)
  let u := recUnits kind len
  let d := d.store (d.ringBase o k + r.off) r.hdr
  let d := d.os o k F.CELL_CHAN_PTR_ARRIVED F.DEV_OSCH_PTR_ARRIVED ((r.off + 64 * u) % d.chanBytes o k)
  let d := d.modChan o k (fun c => { c with
    visible := c.visible + u, nextSeq := (c.nextSeq + 1) % 2 ^ 32, parts := c.parts.filter (fun p => p.seq != r.seq) })
  if kind = 1 then (d.eatPad o k).creditCheck o k
  else
    let d := (d.oc o k F.CELL_CHAN_MSGS_RECV F.DEV_OSCH_MSGS_RECV).oc o k F.CELL_CHAN_BYTES_RECV F.DEV_OSCH_BYTES_RECV len
    let d := match o with
      | .cell pc =>
        if d.get F.CELL_CHAN_RING_POST_EN pc (k + 1) = 1 then d.addCounter pc (d.get F.CELL_CHAN_RING_POST_CTR pc (k + 1)) 1 else d
      | .os =>
        if d.get F.DEV_OSCH_RING_IRQ_EN 0 (k + 1) = 1 then
          d.setReg (F.DEV_OSCH_PENDING.base + 8 * (k / 64)) 0 0 (d.reg (F.DEV_OSCH_PENDING.base + 8 * (k / 64)) ||| 2 ^ (k % 64))
        else d
    d.wakeReceivers o k

/-- Makes complete records visible in SEQ order (R217). -/
def Dev.showRecords (d : Dev) (o : Owner) (k : Nat) : Nat → Dev
  | 0 => d
  | n + 1 =>
    match (d.chan o k).parts.find? (fun p => p.seq == (d.chan o k).nextSeq && p.got == p.need) with
    | some r => (d.makeVisible o k r).showRecords o k n
    | none => d

/-- A piece of a record arrives: the record's header, the ring offset of the record, the offset of the piece after the header, and its bytes (R217, R228). An orphan is dropped, counted and answered. A multicast record's header carries one GEN for members whose channels have their own (R232), so `mc` leaves GEN unchecked. -/
def Dev.recvPiece (d : Dev) (o : Owner) (k : Nat) (mc : Bool) (hdr : List Byte) (off rel : Nat) (bs : List Byte) : Dev :=
  let gen := leNat (hdr.take 4)
  let seq := leNat ((hdr.drop 4).take 4)
  let len := leNat ((hdr.drop 8).take 2)
  let kind := leNat ((hdr.drop 10).take 1)
  let src := leNat ((hdr.drop 12).take 4)
  if !d.chanOpen o k || (!mc && gen != d.chanGen o k) || d.chanSource o k != some src then
    (d.oc o k F.CELL_CHAN_ORPHANS F.DEV_OSCH_ORPHANS).closeNotice o k src gen
  else
    let d := d.store (d.ringBase o k + off + 16 + rel) bs
    let need := if kind = 1 then 0 else 64 * recUnits kind len - 16
    let d := d.modChan o k (fun c =>
      match c.parts.find? (fun p => p.seq == seq) with
      | some p => { c with parts := c.parts.map (fun q => if q.seq == seq then { p with got := p.got + bs.length } else q) }
      | none => { c with parts := c.parts ++ [RecPart.mk seq off hdr need bs.length] })
    d.showRecords o k ((d.chan o k).parts.length)

/-! ## Opening and closing (R210, R227, R244) -/

/-- OPEN of a channel: its result (Table 07-11). -/
def Dev.openChan (d : Dev) (o : Owner) (k : Nat) : Nat × Dev :=
  if d.chanOpen o k then (2, d)
  else
    let size := d.og o k F.CELL_CHAN_RING_SIZE F.DEV_OSCH_RING_SIZE
    let batch := d.og o k F.CELL_CHAN_RING_BATCH F.DEV_OSCH_RING_BATCH
    let bad := match o with
      | .cell pc =>
        let b := d.get F.CELL_CHAN_RING_BASE pc (k + 1)
        b % 4096 != 0 || decide (spadSize < b + ringBytes size) ||
        (d.get F.CELL_CHAN_RING_POST_EN pc (k + 1) = 1 && decide (191 < d.get F.CELL_CHAN_RING_POST_CTR pc (k + 1)))
      | .os =>
        let b := d.get F.DEV_OSCH_RING_BASE 0 (k + 1) * 4096
        !d.inCarve b (ringBytes size)
    if 8 < size || 6 < batch || bad then (1, d)
    else
      let d := d.os o k F.CELL_CHAN_PTR F.DEV_OSCH_PTR 0
      let d := (d.setSource o k none).modChan o k (fun _ => ChanState.reset)
      (0, d.os o k F.CELL_CHAN_RING_OPEN F.DEV_OSCH_RING_OPEN 1)

/-- CLOSE of a channel (R227): its result. -/
def Dev.closeChan (d : Dev) (o : Owner) (k : Nat) : Nat × Dev :=
  if !d.chanOpen o k then (3, d)
  else
    let gen := d.chanGen o k
    let d := match d.chanSource o k with
      | some w => d.closeNotice o k w gen
      | none => d
    let d := (d.os o k F.CELL_CHAN_RING_OPEN F.DEV_OSCH_RING_OPEN 0).setSource o k none
    let d := (d.os o k F.CELL_CHAN_PTR F.DEV_OSCH_PTR 0).modChan o k (fun _ => ChanState.reset)
    let d := d.os o k F.CELL_CHAN_GEN_GEN F.DEV_OSCH_GEN_GEN ((gen + 1) % 2 ^ 32)
    (0, d.wakeReceivers o k)

/-! ## Endpoints (R211, R212, R219, R231, R232) -/

/-- STATE of an endpoint (Table 07-19): 0 UNBOUND, 1 BINDING, 2 BOUND, 3 CLOSED, 4 FAILED. -/
def Dev.sepState (d : Dev) (o : Owner) (k : Nat) : Nat := d.og o k F.CELL_SEP_STATE_STATE F.DEV_OSEP_STATE_STATE

/-- A field of an endpoint's target. -/
def Dev.target (d : Dev) (o : Owner) (k : Nat) (hi lo : Nat) : Nat :=
  bitsOf (d.og o k F.CELL_SEP_TARGET F.DEV_OSEP_TARGET) hi lo

/-- The endpoint is multicast (only a cell's, R244). -/
def Dev.sepMcast (d : Dev) (o : Owner) (k : Nat) : Bool :=
  match o with
  | .cell _ => d.target o k 62 62 = 1
  | .os => false

/-- The target is an OS channel (OS endpoints cannot name the bit, R244; Slolis's reply endpoint targets the OS). -/
def Dev.sepToOs (d : Dev) (o : Owner) (k : Nat) : Bool :=
  match o with
  | .cell _ => d.target o k 63 63 = 1
  | .os => k = 256

/-- The logical cells of a multicast set on one device (R231). -/
def mcastCells (v : Nat) : List Nat :=
  (List.range 512).filter (fun lc =>
    bitsOf v 27 24 ≤ lc / 32 && lc / 32 ≤ bitsOf v 31 28 && bitOf (bitsOf v 63 32) (lc % 32))

/-- Devices of a multicast chain: the own device if INCL_OWN, then HOPS along the ring (R231). -/
def Dev.mcastDevs (d : Dev) (v : Nat) : List Nat :=
  let go := (List.range (bitsOf v 18 15)).foldl (fun acc _ =>
    acc ++ [d.neighbour (acc.getLast?.getD d.deviceId) (bitsOf v 22 20) (bitOf v 19)]) []
  (if bitOf v 23 then [d.deviceId] else []) ++ go

/-- The members that a BIND joins: device and logical cell (0 for an OS target). -/
def Dev.bindMembers (d : Dev) (o : Owner) (k : Nat) : List (Nat × Nat) :=
  if d.sepMcast o k then
    let v := d.og o k F.CELL_SEP_MCAST F.CELL_SEP_MCAST
    (d.mcastDevs v).flatMap (fun dev => (mcastCells v).map (fun lc => (dev, lc)))
  else [(d.target o k 55 46, if d.sepToOs o k then 0 else d.target o k 45 37)]

/-- The device with an endpoint's STATE and REASON set. -/
def Dev.setSepState (d : Dev) (o : Owner) (k st reason : Nat) : Dev :=
  (d.os o k F.CELL_SEP_STATE_STATE F.DEV_OSEP_STATE_STATE st).os o k F.CELL_SEP_STATE_REASON F.DEV_OSEP_STATE_REASON reason

/-- BIND of an endpoint: its result; it sends a JOIN to every member and enters BINDING (R211, R231, R232). The JOIN's body is the channel (2 B), 2 zero bytes and SOURCE (4 B). DEDUCED, unsafe (log entry 35). -/
def Dev.bindSep (d : Dev) (o : Owner) (k : Nat) : Nat × Dev :=
  let st := d.sepState o k
  if st = 1 || st = 2 then (2, d)
  else
    let chan := d.target o k 36 29
    let ms := d.bindMembers o k
    let toOs := d.sepToOs o k
    if !toOs && 63 < chan then (1, d)
    else if d.sepMcast o k && (k < 60 || ms.isEmpty || decide (512 < ms.length)) then (1, d.setSepState o k 4 3)
    else
      let d := (d.setSepState o k 1 0).modSep o k (fun e => { e with members := ms.map (fun m => SepMember.mk m.1 m.2 none 0) })
      let body := leBytes 2 chan ++ leBytes 2 0 ++ leBytes 4 (d.sourceWord o k)
      (0, d.sendAll (ms.map (fun m => uPkt 0x08 m.1 (if toOs then unitOs else unitCell m.2) (d.sepUnit o k) [] body)))

/-- UNBIND (R212). -/
def Dev.unbindSep (d : Dev) (o : Owner) (k : Nat) : Dev := d.setSepState o k 0 0

/-- SENT of an endpoint. -/
def Dev.sent (d : Dev) (o : Owner) (k : Nat) : Nat := d.og o k F.CELL_SEP_CREDITS_SENT F.DEV_OSEP_CREDITS_SENT

/-- FREED of an endpoint. -/
def Dev.freed (d : Dev) (o : Owner) (k : Nat) : Nat := d.og o k F.CELL_SEP_CREDITS_FREED F.DEV_OSEP_CREDITS_FREED

/-- Bytes of the ring that an endpoint is bound to. -/
def Dev.sepRing (d : Dev) (o : Owner) (k : Nat) : Nat := ringBytes (d.og o k F.CELL_SEP_STATE_SIZE F.DEV_OSEP_STATE_SIZE)

/-- AVAIL of an endpoint (R219, R229). -/
def Dev.avail (d : Dev) (o : Owner) (k : Nat) : Nat :=
  if d.sepState o k = 2 then d.sepRing o k / 64 - (d.sent o k + 2 ^ 32 - d.freed o k) % 2 ^ 32 else 0

/-! ## The outbox (R223, R506) -/

/-- Bytes of the outbox. -/
def outboxSize : Nat := 32768

/-- Free bytes of a cell's outbox. -/
def Dev.outFree (d : Dev) (pc : Nat) : Nat := outboxSize - (d.cell pc).outbox.foldl (fun n i => n + i.space) 0

/-- A wait with WAIT 1 is over: the endpoint is no longer BINDING, and either not BOUND or has the units and the outbox room (R222, R229). -/
def Dev.creditReady (d : Dev) (pc sep units bytes : Nat) : Bool :=
  match d.sepState (.cell pc) sep with
  | 1 => false
  | 2 => units ≤ d.avail (.cell pc) sep && bytes ≤ d.outFree pc
  | _ => true

/-- Wakes the contexts whose wait on credits, outbox room or an endpoint's end is over (R222, R229, R237). -/
def Dev.wakeSenders (d : Dev) (pc : Nat) : Dev :=
  let ready := (List.range 32).filter (fun c =>
    (d.ctx pc c).phase = .parked && (match (d.ctx pc c).wait with
      | some (.credit sep units bytes) => d.creditReady pc sep units bytes
      | some (.queue 0 _) => 1024 ≤ d.outFree pc
      | _ => false))
  if ready.isEmpty then d
  else (d.modCell pc (fun s => ready.foldl (fun s c => s.setCtx c (s.ctx c).wake) s)).reselect pc

/-- Wakes senders of an owner. -/
def Dev.wakeOwner (d : Dev) : Owner → Dev
  | .cell pc => d.wakeSenders pc
  | .os => d

/-! ## Replies, credits and notices at the sender (R211, R221, R229, R232) -/

/-- An endpoint is BOUND: ring size and generation taken, offsets and counts at zero (R211). -/
def Dev.sepBound (d : Dev) (o : Owner) (k size gen : Nat) : Dev :=
  let d := (d.setSepState o k 2 0).os o k F.CELL_SEP_STATE_SIZE F.DEV_OSEP_STATE_SIZE size
  let d := (d.os o k F.CELL_SEP_STATE_WR F.DEV_OSEP_STATE_WR 0).os o k F.CELL_SEP_STATE_GEN F.DEV_OSEP_STATE_GEN gen
  let d := d.os o k F.CELL_SEP_CREDITS F.DEV_OSEP_CREDITS 0
  (d.modSep o k (fun e => { e with seq := 0, members := e.members.map (fun m => { m with freed := 0 }) })).wakeOwner o

/-- A JOIN reply reaches an endpoint: result 0 accepts, else a REASON (R211, R232). -/
def Dev.joinReply (d : Dev) (o : Owner) (k dev lc result size gen : Nat) : Dev :=
  if d.sepState o k ≠ 1 then d
  else if result ≠ 0 then (d.setSepState o k 4 result).wakeOwner o
  else
    let first := (d.sep o k).members.all (fun m => m.gen.isNone)
    let old := d.og o k F.CELL_SEP_STATE_SIZE F.DEV_OSEP_STATE_SIZE
    let sz := if first then size else min old size
    let d := d.modSep o k (fun e => { e with members := e.members.map (fun m =>
      if m.dev = dev && m.lc = lc then { m with gen := some gen } else m) })
    let d := d.os o k F.CELL_SEP_STATE_SIZE F.DEV_OSEP_STATE_SIZE sz
    if (d.sep o k).members.all (fun m => m.gen.isSome) then d.sepBound o k sz (if d.sepMcast o k then 0 else gen) else d

/-- The oldest FREED of an endpoint's members (R232): the one with most units outstanding. -/
def oldestFreed (sent : Nat) (ms : List SepMember) : Nat :=
  (ms.foldl (fun best m =>
    let out := (sent + 2 ^ 32 - m.freed) % 2 ^ 32
    match best with
    | none => some (out, m.freed)
    | some b => if b.1 < out then some (out, m.freed) else some b) (none : Option (Nat × Nat))).map Prod.snd |>.getD 0

/-- A credit return reaches an endpoint (R221). -/
def Dev.creditArrives (d : Dev) (o : Owner) (k dev lc gen count : Nat) : Dev :=
  if d.sepState o k ≠ 2 then d
  else match (d.sep o k).members.find? (fun m => m.dev = dev && m.lc = lc && m.gen = some gen) with
    | none => d
    | some m =>
      if !newer32 count m.freed then d
      else if newer32 count (d.sent o k) then
        (d.oc o k F.CELL_SEP_CREDIT_FAULTS F.DEV_OSEP_CREDIT_FAULTS).record 0x0150 k (match o with | .cell _ => 2 | .os => 0)
          (ownerInst o) 2 count (d.sent o k)
      else
        let d := d.modSep o k (fun e => { e with members := e.members.map (fun x =>
          if x.dev = dev && x.lc = lc then { x with freed := count } else x) })
        (d.os o k F.CELL_SEP_CREDITS_FREED F.DEV_OSEP_CREDITS_FREED (oldestFreed (d.sent o k) (d.sep o k).members)).wakeOwner o

/-- A close notice reaches an endpoint: one of its generation closes a BOUND or BINDING endpoint (R229, R233). -/
def Dev.noticeArrives (d : Dev) (o : Owner) (k dev lc gen : Nat) : Dev :=
  let st := d.sepState o k
  let hit := if d.sepMcast o k then (d.sep o k).members.any (fun m => m.dev = dev && m.lc = lc && m.gen = some gen)
    else d.og o k F.CELL_SEP_STATE_GEN F.DEV_OSEP_STATE_GEN = gen
  if (st = 1 || st = 2) && hit then (d.setSepState o k 3 0).wakeOwner o else d

/-- A JOIN reaches a channel: it is accepted when OPEN with no source, and answered (R211). The reply's body is the endpoint (2 B), the result and the size code (1 B each), and GEN (4 B). -/
def Dev.joinArrives (d : Dev) (o : Owner) (k source : Nat) : Dev :=
  let result := if !d.chanOpen o k then 1 else if (d.chanSource o k).isSome then 2 else 0
  let d := if result = 0 then d.setSource o k (some source) else d
  d.send (uPkt 0x09 (bitsOf source 29 20) (sourceUnit source) (d.ownerUnit o) []
    (leBytes 2 (bitsOf source 7 0) ++ leBytes 1 result ++ leBytes 1 (d.og o k F.CELL_CHAN_RING_SIZE F.DEV_OSCH_RING_SIZE) ++
      leBytes 4 (d.chanGen o k)))

/-! ## Placing and sending a message (R213 to R216, R222) -/

/-- The LEN limit of R214 for a ring. -/
def lenLimit (ring : Nat) : Nat := min 16384 (ring / 2 - 16)

/-- A record header (Table 07-1). -/
def recHeader (gen seq len kind source : Nat) : List Byte :=
  leBytes 4 gen ++ leBytes 4 seq ++ leBytes 2 len ++ leBytes 1 kind ++ leBytes 1 0 ++ leBytes 4 source

/-- Units of the pad that a message of u units needs at the write offset (R215). -/
def Dev.padUnits (d : Dev) (o : Owner) (k u : Nat) : Nat :=
  let left := (d.sepRing o k - d.og o k F.CELL_SEP_STATE_WR F.DEV_OSEP_STATE_WR) / 64
  if u ≤ left then 0 else left

/-- An outbox item for a record of an endpoint at its write offset, with the write offset, SENT and SEQ moved past it. -/
def Dev.placeRecord (d : Dev) (o : Owner) (k len kind units : Nat) (body : List Byte) (space : Nat) : OutItem × Dev :=
  let wr := d.og o k F.CELL_SEP_STATE_WR F.DEV_OSEP_STATE_WR
  let seq := (d.sep o k).seq
  let mc := d.sepMcast o k
  let v := d.og o k F.CELL_SEP_MCAST F.CELL_SEP_MCAST
  let item : OutItem :=
    { contrib := false, sep := k, seq := seq, off := wr,
      head := recHeader (d.og o k F.CELL_SEP_STATE_GEN F.DEV_OSEP_STATE_GEN) seq len kind (d.sourceWord o k), body := body,
      sent := 0, space := space, dstDev := d.target o k 55 46,
      unit := if mc then bitsOf v 22 20 + 8 * bitsOf v 19 19 else if d.sepToOs o k then unitOs else unitCell (d.target o k 45 37),
      chan := d.target o k 36 29, sched := d.target o k 61 61 = 1, mcast := mc, hops := bitsOf v 18 15, own := bitOf v 23 }
  let d := d.os o k F.CELL_SEP_STATE_WR F.DEV_OSEP_STATE_WR ((wr + 64 * units) % d.sepRing o k)
  let d := d.os o k F.CELL_SEP_CREDITS_SENT F.DEV_OSEP_CREDITS_SENT ((d.sent o k + units) % 2 ^ 32)
  (item, d.modSep o k (fun e => { e with seq := (e.seq + 1) % 2 ^ 32 }))

/-- The items of a message with its pad, if it needs one; the message's body is padded with zeros (R213, R215). -/
def Dev.placeMessage (d : Dev) (o : Owner) (k : Nat) (msg : List Byte) : List OutItem × Dev :=
  let u := recUnits 0 msg.length
  let p := d.padUnits o k u
  let (pads, d) := if p = 0 then (([] : List OutItem), d)
    else
      let (i, d) := d.placeRecord o k (64 * p - 16) 1 p [] 64
      ([i], d)
  let (m, d) := d.placeRecord o k msg.length 0 u (padTo (64 * u - 16) msg) (64 * u)
  (pads ++ [m], (d.oc o k F.CELL_SEP_MSGS_SENT F.DEV_OSEP_MSGS_SENT).oc o k F.CELL_SEP_BYTES_SENT F.DEV_OSEP_BYTES_SENT msg.length)

/-- What a send finds (R222): a status code of Table 07-4, a wait for units and outbox bytes, or leave to send. -/
inductive SendCheck where
  | status (code : Nat)
  | wait (units bytes : Nat)
  | go
  deriving DecidableEq, Repr

/-- The conditions of R222 in order, for a message of len bytes; `free` is the outbox room. -/
def Dev.sendCheck (d : Dev) (o : Owner) (k len free : Nat) : SendCheck :=
  match d.sepState o k with
  | 0 => .status 4
  | 4 => .status 4
  | 3 => .status 1
  | 1 => .wait 0 0
  | _ =>
    if lenLimit (d.sepRing o k) < len then .status 3
    else
      let u := recUnits 0 len
      let p := d.padUnits o k u
      let bytes := 64 * u + (if p = 0 then 0 else 64)
      if d.avail o k < p + u || free < bytes then .wait (p + u) bytes else .go

/-! ## From the outbox to the mesh -/

/-- The packets of bytes [a, b) of an outbox item, `a` and `b` counted as `sent` counts them, in a class and with a route. A RECORD packet carries the record's header, then the piece; its extension holds the channel in bits [31:24] and the record's ring offset below, then SEQ (R284). A CONTRIB packet carries the piece with COUNT and the byte offset before it. -/
def Dev.itemPackets (d : Dev) (srcUnit : Nat) (i : OutItem) (a b cls route : Nat) : List PktSpec :=
  if i.contrib then
    [{ typ := 0x0B, cls := cls, mcast := false, dstDev := i.dstDev, dstUnit := i.unit, srcUnit := srcUnit, route := route, hops := 0,
       ext := i.head, payload := leBytes 4 i.seq ++ leBytes 4 (i.off + a) ++ (i.body.drop a).take (b - a), len := 8 + (b - a) }]
  else
    let from' := a - 16
    let piece := (i.body.drop from').take (b - 16 - from')
    let ext := leBytes 4 (i.off + i.chan * 2 ^ 24) ++ leBytes 4 i.seq
    let pay := i.head ++ leBytes 4 from' ++ piece
    let mk : Bool → Nat → Nat → Nat → PktSpec := fun mc dev unit hops =>
      { typ := 0x06, cls := cls, mcast := mc, dstDev := dev, dstUnit := unit, srcUnit := srcUnit, route := route, hops := hops,
        ext := ext, payload := pay, len := pay.length }
    if i.mcast then
      (if i.own then [mk true d.deviceId i.unit 0] else []) ++
      (if i.hops = 0 then [] else [mk true (d.neighbour d.deviceId (i.unit % 8) (bitOf i.unit 3)) i.unit i.hops])
    else [mk false i.dstDev i.unit 0]

/-- Bytes of an item as releases count them: a record's with its header, or a contribution packet's elements. -/
def itemBytes (i : OutItem) : Nat := if i.contrib then i.body.length else 16 + i.body.length

/-- Largest piece of an item in one packet of a class (R285), counted as `sent` counts. -/
def pieceLimit (i : OutItem) (cls : Nat) : Nat :=
  let p := if cls = 0 then 1024 else 256
  if i.contrib then p - 8 else p - 20

/-- The cuts of [a, b) into pieces of at most n bytes; a record's first piece has its header and n bytes more at most. -/
def cuts (n a b : Nat) : Nat → List (Nat × Nat)
  | 0 => []
  | fuel + 1 => if b ≤ a then [] else
    let e := min b (if a = 0 then max 16 n else a + n)
    (a, e) :: cuts n e b fuel

/-- Sends bytes [a, b) of an item. -/
def Dev.sendItem (d : Dev) (srcUnit : Nat) (i : OutItem) (a b cls route : Nat) : Dev :=
  (cuts (pieceLimit i cls) a b (b + 1)).foldl (fun d c => d.sendAll (d.itemPackets srcUnit i c.1 c.2 cls route)) d

end Sys2Proof.Machine
end

