-- ==== Sys2Proof/Machine/Ports.lean ====
section
/-! DEFINITION. States of Thernolink ports and their control flits, and the table of remote windows (R181 to R188, R297 to R303). -/

namespace Sys2Proof.Machine

/-! ## States (Table 09-5) -/

/-- STATE of a port: 0 DISABLED, 1 TRAINING, 2 IDENT, 3 UP, 4 HALF, 5 MISMATCH, 6 DOWN. -/
def Dev.portState (d : Dev) (n : Nat) : Nat := d.get F.TL_LINK_STATUS_STATE n

/-- The device with a port's state set. -/
def Dev.setPortState (d : Dev) (n st : Nat) : Dev := d.set F.TL_LINK_STATUS_STATE st n

/-- A port starts training with a fresh link layer. -/
def Dev.startTraining (d : Dev) (n : Nat) : Dev :=
  ((d.setPortState n 1).set F.TL_LINK_STATUS_LANES 0 n).modLink n (fun _ => LinkState.reset)

/-- Packets that a port holds in its replay buffer or has received in part. -/
def LinkState.packets (l : LinkState) : Nat :=
  (l.replay.filter (fun r => r.2.1)).length + (l.parts.filter (fun e => !e.2.isEmpty)).length

/-- What a port discards when its link goes down: the replay buffer and partial packets, counted in TL_LOST (R302). -/
def Dev.dropLink (d : Dev) (n : Nat) : Dev :=
  let lost := (d.link n).packets
  (d.count F.TL_LOST n 0 lost).modLink n (fun l => { l with replay := [], parts := [], resend := none, good := 0 })

/-! ## Islands out of their clock band (R49) -/

/-- An island withholds its handshakes. -/
def Dev.islandOut (d : Dev) (i : Island) : Bool := d.bandOut.contains i

/-- The island of a unit withholds its handshakes, so that packets to and from the unit stall. -/
def Dev.unitOut (d : Dev) (unit : Nat) : Bool :=
  match unit / 2 ^ 14 % 4 with
  | 0 => match d.hostOf (unit % 512) with
    | some pc => d.islandOut (.cell (Fin.ofNat 544 pc))
    | none => false
  | 1 => d.islandOut (.hub (Fin.ofNat 16 unit))
  | 2 => d.islandOut .osComplex
  | _ => d.islandOut .alwaysOn

/-! ## Control flits -/

/-- The 60 bytes of a control flit that its CRC covers (Table 09-4). -/
def linkFlitFront (f : LinkFlit) : List Byte :=
  leBytes 1 f.version.toNat ++ leBytes 1 f.flags.toNat ++ leBytes 2 f.sender.toNat ++ leBytes 4 f.firstSeq.toNat ++
  leBytes 4 f.ack.toNat ++ leBytes 4 f.nakSeq.toNat ++ leBytes 8 f.credits.toNat ++ leBytes 8 f.tTx.toNat ++
  leBytes 8 f.tEcho.toNat ++ leBytes 4 f.tHold.toNat ++ leBytes 2 f.master.toNat ++ leBytes 2 0 ++ leBytes 8 f.shape.toNat ++ leBytes 4 0

/-- The control flit that a port sends at a time. -/
def Dev.controlFlit (d : Dev) (n now : Nat) : LinkFlit :=
  let l := d.link n
  let st := d.portState n
  let flags := b2n l.nak + 2 * b2n (st = 4) + 4 * b2n l.goingDown + 8 * d.get F.TL_CFG_FEC n
  let cr := (List.range 4).foldl (fun v c => v + SMap.read 0 l.freed c % 2 ^ 16 * 2 ^ (16 * c)) 0
  let f : LinkFlit := { version := 1, flags := BitVec.ofNat 8 flags, sender := BitVec.ofNat 16 (d.deviceId + n * 2 ^ 10), firstSeq := BitVec.ofNat 32 l.txNext, ack := BitVec.ofNat 32 l.rxNext, nakSeq := BitVec.ofNat 32 (if l.nak then l.rxNext else 0), credits := wOf cr, tTx := wOf (now % 2 ^ 48), tEcho := wOf l.lastTx, tHold := BitVec.ofNat 32 (now - l.lastAt), master := BitVec.ofNat 16 (d.get F.DEV_DOMAIN_ID_MASTER_ID), shape := wOf (d.reg F.DEV_DOMAIN_SHAPE.base), crc := 0 }
  { f with crc := BitVec.ofNat 32 (crc32c (linkFlitFront f)) }

/-- A port that is up sends GOING_DOWN, which loses the link at its neighbour (R302). -/
def Dev.goDown (d : Dev) (n : Nat) : Dev :=
  let d := (d.dropLink n).modLink n (fun l => { l with goingDown := true })
  (d.emit (.linkFlit n (d.controlFlit n (d.link n).lastAt))).modLink n (fun l => { l with goingDown := false })

/-! ## Remote windows -/

/-- A window. -/
def Dev.win (d : Dev) (w : Nat) : Window := SMap.read Window.reset d.wins w

/-- The device with a window set. -/
def Dev.setWin (d : Dev) (w : Nat) (x : Window) : Dev := { d with wins := SMap.write Window.reset d.wins w x }

/-- The window is closed: GEN advances and KEY is cleared (R184). -/
def Window.closed (x : Window) : Window := { x with gen := (x.gen + 1) % 2 ^ 32, key := 0, isOpen := false, closing := false }

/-- The logical cell of a scratchpad window. -/
def Window.lc (x : Window) : Option Nat :=
  let base := bitsOf x.d0 47 0
  if 0x100000000000 ≤ base && base < 0x100200000000 then some ((base - 0x100000000000) / 2 ^ 24) else none

/-! ## Resets (R188) -/

/-- Every window closed, its KEY cleared and its GEN set from the reset epoch. -/
def Dev.resetWindows (d : Dev) : Dev :=
  let g := d.get F.WDOG_RST_STATUS_RESET_EPOCH * 2 ^ 16
  { d with wins := if g = 0 then [] else (List.range 1024).map (fun w => (w, { Window.reset with gen := g })) }

/-- A partition reset closes every open window into the partition's slices or commons, and every far-memory window. -/
def Dev.closePartWindows (d : Dev) (p : Nat) : Dev :=
  (List.range 1024).foldl (fun d w =>
    let x := d.win w
    let base := bitsOf x.d0 47 0
    let hit := match x.lc with
      | some lc => lc / 64 = p
      | none => base < 0x100000000000 || (base - 0x100200000000) / 2 ^ 25 / 2 = p
    if x.isOpen && hit then d.setWin w x.closed else d) d

end Sys2Proof.Machine
end

