-- ==== Sys2Proof/Machine/Contain.lean ====
section
/-! DEFINITION. Uncorrectable errors, containment, resets in progress, and the device reset up to first light (R166, R188, R230, R390, R440 to R443, R446, R449, R496). -/

namespace Sys2Proof.Machine

/-! ## The configuration block (Table 15-4) and power domains (R50, R51) -/

/-- A field of the configuration block in force. -/
def Dev.cfg (d : Dev) (off n : Nat) : Nat := leNat ((d.config.drop off).take n)

/-- The defect map fences a slot: its last FENCE or CLEAR entry is a FENCE (R367, R459). -/
def Dev.mapFenced (d : Dev) (pc : Nat) : Bool :=
  d.defects.foldl (fun f e => if e.unit.toNat = pc then (if e.kind = 1 then true else if e.kind = 7 then false else f) else f) false

/-- A domain that is on after a power-up: neither a fenced slot's nor disabled in the configuration block (R51). Domain 584 follows the loader. -/
def Dev.domEnabled (d : Dev) (dom : Nat) : Bool :=
  if dom < 544 then !d.mapFenced dom
  else if dom < 560 then true
  else if dom < 572 then bitOf (d.cfg 0x10 2) (dom - 560)
  else if dom < 580 then true
  else if dom < 582 then bitOf (d.cfg 0x12 1) (dom - 580)
  else if dom < 584 then bitOf (d.cfg 0x12 1) (2 * (dom - 582) + 2) || bitOf (d.cfg 0x12 1) (2 * (dom - 582) + 3)
  else false

/-- The device with every domain below 584 on or off by a test, and domain 584 as it was. -/
def Dev.setDoms (d : Dev) (on : Nat → Bool) : Dev :=
  (List.range 10).foldl (fun d w =>
    let v := (List.range 64).foldl (fun v i =>
      let dom := 64 * w + i
      if (if dom = 584 then d.domOn 584 else decide (dom < 584) && on dom) then v + 2 ^ i else v) 0
    d.setReg (F.DEV_PD_STATUS.base + 8 * w) 0 0 v) d

/-! ## Stopping the device (Tables 12-4 and 14-5) -/

/-- Freezes every powered cell for containment: only a reset ends it (R390, R446, R504). -/
def Dev.freezeAll (d : Dev) : Dev :=
  ((List.range 544).filter d.domOn).foldl (fun d pc => d.setFreeze pc (fun f => { f with containment := true })) d

/-- Cells freeze, everything else stops issuing, and every port that is up sends GOING_DOWN. -/
def Dev.halt (d : Dev) : Dev :=
  let d := d.freezeAll
  let d := d.upPorts.foldl Dev.goDown d
  { d with halted := true }

/-! ## Resets in progress (R441, R442, R449) -/

/-- A reset of a unit is in progress; for a partition, of that partition. -/
def Dev.resetting (d : Dev) (unit part : Nat) : Bool := d.resets.any (fun r => r.unit = unit && (unit != 3 || r.part = part))

/-- A device reset is in progress. -/
def Dev.deviceResetting (d : Dev) : Bool := d.resetting 4 0

/-- A partition is in reset. -/
def Dev.partResetting (d : Dev) (p : Nat) : Bool := d.resetting 3 p

/-- A far-memory channel is FAILED (R445). -/
def Dev.failedChannels (d : Dev) : List Nat := (List.range 32).filter (fun m => d.get F.FAR_STATUS_STATE m = 3)

/-- WDOG_RST_STATUS for the resets in progress (Table 14-13). -/
def Dev.showResets (d : Dev) : Dev :=
  let u := d.resets.foldl (fun m r => max m r.unit) 0
  let parts := (d.resets.filter (fun r => r.unit = 3)).foldl (fun m r => m ||| 2 ^ r.part) 0
  let st := if d.resets.isEmpty then (if d.failedChannels.isEmpty then 0 else 2) else 1
  let d := ((d.set F.WDOG_RST_STATUS_STATE st).set F.WDOG_RST_STATUS_UNIT u).set F.WDOG_RST_STATUS_PARTS parts
  match d.resets.find? (fun r => r.unit = u) with
  | some r => d.set F.WDOG_RST_STATUS_CAUSE r.cause
  | none => d

/-- The notice to the fabric manager that a partition or device reset starts: unit, cause, RESET_EPOCH and FLOG_TAINT (R449). DESIGN CHOICE, unsafe (log entry 82). -/
def Dev.resetNotice (d : Dev) (unit cause : Nat) : Dev :=
  if d.slolisUp && 3 ≤ unit then d.emit (.notice 1 [unit, cause, d.get F.WDOG_RST_STATUS_RESET_EPOCH, d.reg F.FLOG_TAINT.base] []) else d

/-- A reset starts: its RESET_START record, the status register and the notice; a partition or device reset counts as an interrupting failure (R424, R441, R449). -/
def Dev.beginReset (d : Dev) (unit part cause : Nat) : Dev :=
  let d := d.record 0x0200 unit 9 0 (if 3 ≤ unit then 2 else 0) cause part (d.get F.WDOG_RST_STATUS_RESET_EPOCH)
  let d := Dev.showResets { d with resets := d.resets ++ [⟨unit, part, cause, d.ns⟩] }
  let d := if 3 ≤ unit then { d with mgmt := { d.mgmt with interrupts := d.mgmt.interrupts ++ [d.ptpSec] } } else d
  d.resetNotice unit cause

/-- The counter of a unit's resets (Table 14-15). -/
def resetCounter : Nat → Fld
  | 1 => F.WDOG_RST_SLOLIS
  | 2 => F.WDOG_RST_OS
  | 3 => F.WDOG_RST_PART
  | _ => F.WDOG_RST_DEV

/-- A reset ends with a result: its RESET_DONE record, WDOG_RST_LAST and its counter (R441, Tables 14-7 and 14-14). -/
def Dev.endReset (d : Dev) (unit part result : Nat) : Dev :=
  match d.resets.find? (fun r => r.unit = unit && (unit != 3 || r.part = part)) with
  | none => d
  | some r =>
    let ms := (d.ns - r.startNs) / 1000000
    let d := Dev.showResets { d with resets := d.resets.filter (fun x => !(x.unit = unit && (unit != 3 || x.part = part))) }
    let failed := d.failedChannels.foldl (fun m c => m ||| 2 ^ c) 0
    let d := d.record 0x0201 unit 9 0 (if result = 1 then 2 else 0) ms result failed
    let d := d.setReg F.WDOG_RST_LAST.base 0 0
      (2 ^ 63 + unit * 2 ^ 60 + result * 2 ^ 56 + r.cause * 2 ^ 48 + r.part * 2 ^ 45 + ms % 2 ^ 32)
    d.count (resetCounter unit)

/-! ## The device reset (R440, R443, R446, R496, Table 14-5) -/

/-- Registers that a device reset leaves as they are: those of the always-on domain and of the mesh supply (Table 17-1), DEV_PD_STATUS, and those that Slolis writes back or loads from the configuration block (R443, R276). -/
def keptReg (key : Nat) : Bool :=
  let cls := key / 2 ^ 24 % 2 ^ 8
  let inst := key / 2 ^ 12 % 2 ^ 12
  let off := key % 2 ^ 12
  match cls with
  | 0 => off = 0x8F8 || (0x180 ≤ off && off < 0x1D0) || (0xA00 ≤ off && off < 0xA68) ||
      [0x100, 0x208, 0x210, 0x218, 0x300, 0x308].contains off
  | 2 => 0x900 ≤ off && off < 0x930
  | 6 => off = 0
  | 8 => inst = 0 && 0x010 ≤ off && off < 0x028
  | 9 => (0x008 ≤ off && off < 0x038) || (0x128 ≤ off && off < 0x158)
  | 13 => true
  | 14 => true
  | 15 => true
  | _ => false

/-- What a device reset leaves of a register: of ENG_CTL the fence of an engine and its redirection, until the boot test (R271). -/
def resetReg (e : Nat × Word) : Option (Nat × Word) :=
  if keptReg e.1 then some e
  else if e.1 / 2 ^ 24 % 2 ^ 8 = 4 && e.1 % 2 ^ 12 = 8 then
    let v := e.2 &&& 0xB000000000000000
    if v = 0 then none else some (e.1, v)
  else none

/-- What the health score keeps of a slot through a device reset: the history that Slolis dates by PTP time. -/
def SlotInfo.kept (i : SlotInfo) : SlotInfo :=
  { SlotInfo.reset with doubles := i.doubles, corrected := i.corrected, dayMean := i.dayMean, means := i.means }

/-- RESET_EPOCH and CHAN_EPOCH advance (R188, R230). -/
def Dev.bumpEpochs (d : Dev) : Dev :=
  (d.set F.WDOG_RST_STATUS_RESET_EPOCH (d.get F.WDOG_RST_STATUS_RESET_EPOCH + 1)).set F.DEV_CHAN_EPOCH_EPOCH (d.get F.DEV_CHAN_EPOCH_EPOCH + 1)

/-- The island is powered by the mesh supply, the always-on domain or the OS complex's own domain. -/
def islandKept : Island → Bool
  | .router _ => true
  | .osComplex => true
  | .alwaysOn => true
  | _ => false

/-- Everything that switched domains hold is lost, but for far memory (R440, R496). -/
def Dev.dropSwitched (d : Dev) : Dev :=
  { d with
    regs := d.regs.filterMap resetReg, latch := [], mem := d.mem.filter (fun c => c.1 < 0x100000000000), cells := [],
    sched := SchedState.reset, cSeq := [], holdSeen := [], cSent := [], cWait := [], wins := [], engs := [], remotes := [],
    scrubAt := [], net := [], links := [], osChans := [], osSeps := [], migrations := [],
    slots := d.slots.map (fun e => (e.1, e.2.kept)), windowOpen := false, suspects := [], snap := { SnapState.reset with shards := d.snap.shards },
    farTries := [], eths := [], pcieCfg := [], distSeen := [], distRun := none, distBad := false, bandOut := d.bandOut.filter islandKept }

/-- Domains come on, islands lock, the registers of R443 are in force, ports and channels start to train, and first light of every partition begins, which makes each PART_MAP_GEN read 1 (R34, R443, Table 14-5 steps 4 to 7). -/
def Dev.startDomains (d : Dev) : Dev :=
  let d := d.setDoms d.domEnabled
  let d := d.resetWindows
  let d := (d.set F.DEV_DIST_BASE_ERR 0).set F.DEV_FAR_SHARE_ERR 0
  let d := d.set F.DEV_BEAT_STATUS_MASTER
    (b2n (d.bit F.DEV_DOMAIN_ID_VALID && d.deviceId = d.get F.DEV_DOMAIN_ID_MASTER_ID))
  let d := (List.range 12).foldl (fun d n => if d.bit F.TL_CFG_EN n && d.domOn (560 + n) then d.startTraining n else d) d
  let d := (List.range 32).foldl (fun d m => d.set F.FAR_STATUS_STATE 1 m) d
  (List.range 8).foldl (fun d p => d.set F.PART_MAP_GEN_GEN 1 p) d

/-- Steps 3 to 7 of Table 14-5, up to the ends of training and first light, which have steps of their own. DEDUCED, unsafe (log entry 63). -/
def Dev.cycleDevice (d : Dev) : Dev := d.dropSwitched.startDomains

/-- Partition resets in progress give way to a device reset (R442). -/
def Dev.supersede (d : Dev) : Dev :=
  (d.resets.filter (fun r => r.unit = 3)).foldl (fun d r => d.endReset 3 r.part 2) d

/-- Starts a device reset with a cause of Table 14-3 (R441, R442, R446); one in progress absorbs the request. The device halts, Slolis informs the fabric manager, and the domains are cycled; the OS complex has its reset interrupt. DEDUCED, unsafe (log entry 63). -/
def Dev.startDeviceReset (d : Dev) (cause : Nat) : Dev :=
  if d.deviceResetting then d.count F.WDOG_RST_ABSORBED
  else
    let d := d.supersede.beginReset 4 0 cause
    let d := d.halt.emit (.notice 4 [1] [])
    let d := d.bumpEpochs.cycleDevice
    { d with resetWaits := false }

/-! ## Uncorrectable errors (R166, R390, R442) -/

/-- An error of a block whose domain is being reset is discarded, but for far memory (R442). -/
def Dev.inReset (d : Dev) (cls inst : Nat) : Bool :=
  match cls with
  | 2 => d.deviceResetting || d.partResetting (inst / 68)
  | 3 => d.deviceResetting || d.partResetting (inst / 2)
  | 4 => d.deviceResetting || d.partResetting (inst / 32)
  | 5 => false
  | _ => d.deviceResetting

/-- A far-memory row of an uncorrectable error is marked for repair (R390). -/
def Dev.markRow (d : Dev) (ch a : Nat) : Dev :=
  let (bank, row) := Config.farRow ch (a / 2 ^ 17)
  if d.spprMarks.contains (ch, bank, row) then d else { d with spprMarks := d.spprMarks ++ [(ch, bank, row)] }

/-- An uncorrectable W80 error (R166, R390): its FATAL record enters the log at once, the device halts, and Slolis starts the device reset; with Slolis away the reset waits for it. Several errors cause one reset. -/
def Dev.uncorrectable (d : Dev) (cls inst loc offset requester : Nat) : Dev :=
  if d.inReset cls inst then d
  else
    let d := d.record 0x0111 loc cls inst 4 offset requester
    let d := if cls = 5 then d.markRow inst offset else d
    if d.halted || d.deviceResetting then d
    else if d.slolisUp then d.startDeviceReset 5
    else { d.halt with resetWaits := true }

end Sys2Proof.Machine
end

