-- ==== Sys2Proof/Machine/Repair.lean ====
section
/-! DEFINITION. Suspects, destinations, the start of migrations and tests, fences and capacity loss (R34, R51, R321, R355 to R373). -/

namespace Sys2Proof.Machine

/-! ## Slots -/

/-- What is kept of a slot. -/
def Dev.slotInfo (d : Dev) (pc : Nat) : SlotInfo := SMap.read SlotInfo.reset d.slots pc

/-- The device with what is kept of a slot changed. -/
def Dev.modSlot (d : Dev) (pc : Nat) (f : SlotInfo → SlotInfo) : Dev :=
  { d with slots := SMap.write SlotInfo.reset d.slots pc (f (d.slotInfo pc)) }

/-- Physical row of a slot. -/
def rowOf (pc : Nat) : Nat := pc / 34

/-- Physical column of a slot. -/
def colOf (pc : Nat) : Nat := pc % 34

/-- The other row of a partition. -/
def partnerRow (r : Nat) : Nat := if r % 2 = 0 then r + 1 else r - 1

/-- The slots of a row, west to east. -/
def rowSlots (r : Nat) : List Nat := (List.range 34).map (fun c => r * 34 + c)

/-- Mesh hops between two slots. -/
def slotHops (a b : Nat) : Nat := (rowOf a - rowOf b) + (rowOf b - rowOf a) + (colOf a - colOf b) + (colOf b - colOf a)

/-- A per-slot field of BADGER_SLOTn (Table 11-24). -/
def Dev.slotFld (d : Dev) (f : Fld) (pc : Nat) : Nat := d.get (f.nth (colOf pc)) (1 + rowOf pc)

/-- The device with a per-slot field set. -/
def Dev.setSlotFld (d : Dev) (f : Fld) (pc v : Nat) : Dev := d.set (f.nth (colOf pc)) v (1 + rowOf pc)

/-- Free count F of a row (R371). -/
def Dev.rowFree (d : Dev) (r : Nat) : Nat :=
  ((rowSlots r).filter (fun pc => (d.hosted pc).isNone && d.slotState pc != 5)).length

/-- Spare count S of a partition (R371). -/
def Dev.spares (d : Dev) (p : Nat) : Nat := d.rowFree (2 * p) + d.rowFree (2 * p + 1)

/-- Stage of a row (Table 11-9): 0 TWO, 1 ONE, 2 BORROW, 3 NONE. -/
def Dev.stage (d : Dev) (r : Nat) : Nat :=
  let f := d.rowFree r
  if 2 ≤ f then 0 else if f = 1 then 1 else if 1 ≤ d.spares (r / 2) then 2 else 3

/-- A slot meets R357: it was vacated in an earlier period and at least 1,024 beats ago. -/
def Dev.rested (d : Dev) (pc : Nat) : Bool :=
  match (d.slotInfo pc).vacated with
  | none => true
  | some (per, beat) => decide (per < d.reg F.BADGER_PERIOD.base) && decide (beat + 1024 ≤ d.beat)

/-- A STANDBY slot that may host a logical cell. -/
def Dev.eligible (d : Dev) (pc : Nat) : Bool := d.slotState pc = 1 && d.domOn pc && d.rested pc

/-- A TESTING slot whose previous test passed, that may host a logical cell (R364). -/
def Dev.eligibleTesting (d : Dev) (pc : Nat) : Bool :=
  d.slotState pc = 2 && d.domOn pc && d.rested pc && (d.slotInfo pc).lastPassed

/-- The nearest of some slots, ties to the lower column (R356). -/
def nearestSlot (src : Nat) (l : List Nat) : Option Nat :=
  l.foldl (fun best pc => match best with
    | none => some pc
    | some b => if slotHops src pc < slotHops src b then some pc else some b) none

/-- The destination of a suspect, in the order of R364. -/
def Dev.suspectTarget (d : Dev) (src : Nat) : Option Nat :=
  let own := rowSlots (rowOf src)
  let other := rowSlots (partnerRow (rowOf src))
  (nearestSlot src (own.filter d.eligible)).orElse fun _ =>
  (nearestSlot src (other.filter d.eligible)).orElse fun _ =>
  (nearestSlot src (own.filter d.eligibleTesting)).orElse fun _ =>
  nearestSlot src (other.filter d.eligibleTesting)

/-! ## The maintenance window (R321) -/

/-- The present beat lies in a maintenance window. -/
def Dev.inWindow (d : Dev) : Bool :=
  match d.schedState with
  | 3 => 40832 ≤ d.reg F.SCHED_POS.base % 40960
  | 4 => false
  | 5 => false
  | _ => 40832 ≤ d.beat % 40960

/-- A migration of a row is under way. -/
def Dev.rowBusy (d : Dev) (r : Nat) : Bool := d.migrations.any (fun m => m.row == r && !m.waiting)

/-! ## Clearing a cell -/

/-- Registers of class 0x02 that describe the physical slot and stay with it through a migration (R122, and the register sections of chapters 04 to 07). -/
def physReg (off : Nat) : Bool := [0x418, 0x498, 0x518, 0x560, 0x568, 0x600, 0x700].contains off || 0x900 ≤ off

/-- A slot's cell cleared as in step 6 of Table 11-1: slice zero-filled, and all context, counter, channel, queue and array state with its registers at reset values; the registers of the physical slot stay. -/
def Dev.clearSlot (d : Dev) (pc : Nat) : Dev :=
  let d := d.zeroMem (sliceBase pc) sliceSize
  let d := { d with regs := d.regs.filter (fun e =>
    !(e.1 / 2 ^ 24 % 2 ^ 8 == 2 && e.1 / 2 ^ 12 % 2 ^ 12 == pc && !physReg (e.1 % 2 ^ 12))) }
  d.setCell pc { CellState.reset with freeze := { CellState.reset.freeze with containment := (d.cell pc).freeze.containment } }

/-! ## Tests -/

/-- A vacated slot's test starts (R359, R365): the slot is TESTING and its row shows the test. -/
def Dev.startTest (d : Dev) (pc : Nat) (suspect : Bool) : Dev :=
  let d := d.setSlotState pc 2
  let now := (d.reg F.BADGER_PERIOD.base, d.beat)
  let d := d.modSlot pc (fun i =>
    let t : SlotTest := ⟨1, suspect || i.suspect, false⟩
    { i with test := some t, suspect := false, vacated := some now })
  (d.set F.BADGER_ROW_STATE_TEST_PC pc (1 + rowOf pc)).set F.BADGER_ROW_STATE_TEST_STEP 1 (1 + rowOf pc)

/-- The result of a test is latched for its row (Table 11-23). -/
def Dev.latchTest (d : Dev) (pc result : Nat) (suspect : Bool) : Dev :=
  let r := 1 + rowOf pc
  let d := ((((d.set F.BADGER_ROW_LAST_VALID 1 r).set F.BADGER_ROW_LAST_SUSPECT (b2n suspect) r).set
    F.BADGER_ROW_LAST_RESULT result r).set F.BADGER_ROW_LAST_PC pc r).set F.BADGER_ROW_LAST_PERIOD (d.reg F.BADGER_PERIOD.base % 2 ^ 32) r
  if d.get F.BADGER_ROW_STATE_TEST_PC r = pc then
    (d.set F.BADGER_ROW_STATE_TEST_PC 0x3FF r).set F.BADGER_ROW_STATE_TEST_STEP 0 r
  else d

/-- A test is abandoned by R364: neither pass nor fail, and the previous result stands. -/
def Dev.abandonTest (d : Dev) (pc : Nat) : Dev :=
  let sus := ((d.slotInfo pc).test.map SlotTest.suspect).getD false
  (d.modSlot pc (fun i => { i with test := none })).latchTest pc 9 sus

/-! ## Migrations -/

/-- BADGER_ROW_STATE of a row for a migration's phase (Table 11-22). -/
def Dev.showMigration (d : Dev) (m : Migration) (phase : Nat) : Dev :=
  let r := 1 + m.row
  (((d.set F.BADGER_ROW_STATE_PHASE phase r).set F.BADGER_ROW_STATE_SRC_PC m.src r).set F.BADGER_ROW_STATE_DST_PC m.dst r).set
    F.BADGER_ROW_STATE_LC m.lc r

/-- SELECT and FREEZE of a migration (Table 11-4): the destination becomes TARGET, the entry MIGRATING, and the source freezes. -/
def Dev.startMigration (d : Dev) (lc src dst : Nat) (live : Bool) : Dev :=
  let d := if d.slotState dst = 2 then d.abandonTest dst else d
  let p := src / 68
  let d := d.bumpMapGen p
  let d := (d.setSlotState dst 4).setLmap lc 1 src
  let d := d.bumpMapGen p
  let m : Migration := ⟨rowOf src, lc, src, dst, live, false, .freeze⟩
  let d := ({ d with migrations := d.migrations ++ [m] }).showMigration m 2
  d.setFreeze src (fun f => { f with migration := true })

/-! ## Fences (R367) -/

/-- Entries of a defect-map half (R459). -/
def defectCap : Nat := 32764

/-- The entries still in force when the map is compacted (R459): fences that no CLEAR follows, strikes of the last 24 hours, the latest guard of a slot, and every repair. -/
def compactDefects (now : Nat) : List DefectEntry → List DefectEntry
  | [] => []
  | e :: es =>
    let keep := match e.kind.toNat with
      | 1 => !es.any (fun x => (x.kind = 1 || x.kind = 7) && x.unit = e.unit)
      | 4 => !es.any (fun x => x.kind = 4 && x.unit = e.unit)
      | 5 => decide (now < e.b.toNat + 86400)
      | 7 => false
      | _ => true
    if keep then e :: compactDefects now es else compactDefects now es

/-- A defect-map entry appended (Table 11-8); a full half is compacted into the other first (R459). -/
def Dev.addDefect (d : Dev) (kind unit a b : Nat) : Dev :=
  let l := if defectCap ≤ d.defects.length then compactDefects d.ptpSec d.defects else d.defects
  { d with defects := l ++ [⟨BitVec.ofNat 8 kind, BitVec.ofNat 16 unit, BitVec.ofNat 32 a, wOf b⟩] }

/-- A cell position's domain is off: its slice, its state and its registers are lost (R44, R497). -/
def Dev.cellOff (d : Dev) (pc : Nat) : Dev :=
  let d := (d.setDom pc false).zeroMem (sliceBase pc) sliceSize
  { d.resetRegs 2 pc 0 0x900 with cells := SMap.erase pc d.cells }

/-- What Slolis does for a fence: it switches the slot's domain off and adds a FENCE entry (R51, R367). -/
def Dev.fenceBySlolis (d : Dev) (pc result : Nat) : Dev :=
  (d.cellOff pc).addDefect 1 pc result d.ptpSec

/-- A slot is fenced (R367); without Slolis, the power-off and the entry wait (R448). -/
def Dev.fenceSlot (d : Dev) (pc result : Nat) : Dev :=
  let d := (d.setSlotState pc 5).modSlot pc (fun i => { i with test := none, suspect := false, lastPassed := false })
  let d := (d.count F.BADGER_FENCES 0).record 0x0182 result 8 (1 + rowOf pc) 2 pc
  let d := d.set (F.BADGER_SLOT_SCORE.nth (colOf pc)) 0 (1 + rowOf pc)
  if d.slolisUp then d.fenceBySlolis pc result
  else { d with fencePending := d.fencePending ++ [(pc, result)] }

/-! ## Capacity loss (R372) -/

/-- Closes every open channel of a cell (R227). -/
def Dev.closeChans (d : Dev) (pc : Nat) : Dev :=
  (List.range 64).foldl (fun d k => (d.closeChan (.cell pc) k).2) d

/-- Registers of a cell that count generations and epochs: CELL_CHAN_GEN and CELL_CQ_EPOCH. -/
def isEpochReg (off : Nat) : Bool := off = 0x710 || off = 0x808

/-- The registers of class 0x02 of one slot that a test of offsets selects. -/
def Dev.cellRegs (d : Dev) (pc : Nat) (sel : Nat → Bool) : SMap Word :=
  d.regs.filter (fun e => e.1 / 2 ^ 24 % 2 ^ 8 == 2 && e.1 / 2 ^ 12 % 2 ^ 12 == pc && sel (e.1 % 2 ^ 12))

/-- The cells of two slots lose their logical state (Table 11-10): channels closed, endpoints UNBOUND, queues CLOSED, contexts EMPTY, counters zero, slices zero-filled. Generations and last epochs of the first go on in the second slot, which hosts its cell from now on (R227, R236), and so do the freeze sources that hold every cell (R345, R504). DEDUCED, unsafe (log entry 62). -/
def Dev.dropLogical (d : Dev) (pc dst : Nat) : Dev :=
  let d := (d.closeChans pc).closeChans dst
  let gens := (d.cellRegs pc isEpochReg).map (fun e => (e.1 - pc * 2 ^ 12 + dst * 2 ^ 12, e.2))
  let f := { (d.cell pc).freeze with command := false, migration := false }
  let d := (d.clearSlot pc).clearSlot dst
  { d with regs := SMap.overlay gens d.regs }.modCell dst (fun s => { s with freeze := f, frozen := f.any })

/-- Capacity loss at logical cell X (Table 11-10): the highest cell in service of the partition is unhosted, X takes its slot without copying, and the shape shrinks. -/
def Dev.capacityLoss (d : Dev) (x : Nat) : Dev :=
  match d.hostOf x with
  | none => d
  | some slotX =>
    let p := x / 64
    let n := bitsOf (d.reg F.SCHED_SHAPE.base) (8 * p + 7) (8 * p)
    let y := 64 * p + (n - 1)
    let slotY := (d.hostOf y).getD slotX
    let d := { d with suspects := d.suspects.filter (fun l => l != x && l != y),
                      migrations := d.migrations.filter (fun m => m.lc != x && m.lc != y) }
    let d := d.dropLogical slotX slotY
    let d := d.bumpMapGen p
    let d := d.setLmap y 2 0
    let d := if x = y then d else d.setLmap x 0 slotY
    let d := d.startTest slotX true
    let d := d.setReg F.SCHED_SHAPE.base 0 0 (setBitsOf (d.reg F.SCHED_SHAPE.base) (8 * p + 7) (8 * p) (n - 1))
    let d := d.set F.BADGER_STATUS_CAP_LOSS 1
    let d := d.bumpMapGen p
    let d := d.record 0x0183 p 8 0 2 (d.reg F.SCHED_SHAPE.base)
    ((d.emit (.notice 2 [3, d.reg F.SCHED_SHAPE.base] [])).count F.BADGER_NOTICES)

/-! ## Suspects (R363, R364) -/

/-- A suspect's move starts if it can: outside a window of a RUNNING unit it waits for a hold, and inside a window for the row's patrol migration. Without an eligible slot the device loses capacity. -/
def Dev.moveSuspect (d : Dev) (lc : Nat) : Dev :=
  match d.hostOf lc with
  | none => { d with suspects := d.suspects.filter (fun l => l != lc) }
  | some src =>
    if d.migrating lc then
      -- the source of a migration under way: its vacated slot is tested as a suspect (R362)
      { d.modSlot src (fun i => { i with suspect := true }) with suspects := d.suspects.filter (fun l => l != lc) }
    else if d.rowBusy (rowOf src) then d
    else
      match d.suspectTarget src with
      | none =>
        if d.running then (if d.sched.hold.isSome then d else d.raiseHold 7 0xFF lc)
        else d.capacityLoss lc
      | some dst =>
        if d.running && !d.inWindow then (if d.sched.hold.isSome then d else d.raiseHold 7 0xFF lc)
        else
          let d := { d.modSlot src (fun i => { i with suspect := true }) with suspects := d.suspects.filter (fun l => l != lc) }
          d.startMigration lc src dst true

/-- Every waiting suspect that can move does so. -/
def Dev.serveSuspects (d : Dev) : Dev := d.suspects.foldl (fun d lc => d.moveSuspect lc) d

/-- A logical cell becomes a live-detected suspect (R363). -/
def Dev.makeSuspect (d : Dev) (lc : Nat) : Dev :=
  if d.suspects.contains lc then d
  else Dev.moveSuspect { d with suspects := d.suspects ++ [lc] } lc

/-- The cell in a slot becomes a suspect; a slot that hosts none is tested at once (R391). -/
def Dev.suspectSlot (d : Dev) (pc : Nat) : Dev :=
  match d.hosted pc with
  | some lc => d.makeSuspect lc
  | none => if d.slotState pc = 1 then d.startTest pc true else d

/-! ## Integrity faults (R382) -/

/-- The move of R382 after a RESIDUE or COMPUTE_INTEGRITY fault; the record's severity taints by R393 and a scheduled context has raised its hold. -/
def Dev.containIntegrity (d : Dev) (pc : Nat) : Dev := d.suspectSlot pc

end Sys2Proof.Machine
end

