-- ==== Sys2Proof/Machine/Flags.lean ====
section
/-! DEFINITION. Status that operations set: the W80 code and what a checked read does (R24, R25, R165, R166, R278, R390), and the arithmetic status of a cell (R83). -/

namespace Sys2Proof.Machine

/-! ## The W80 code -/

/-- The remainder by g(x) after one more coefficient, highest first (R24). -/
def w80Step (r : Nat) (bit : Bool) : Nat :=
  let top := bitOf r 13
  let s := (r * 2) % 2 ^ 14
  if top != bit then s ^^^ 0x377 else s

/-- The coefficients c[13:0] of a data word (R24). -/
def w80Rem (w : Nat) : Nat := (List.range 64).foldl (fun r i => w80Step r (bitOf w (63 - i))) 0

/-- Exclusive OR of the low n bits of a number. -/
def parity (n v : Nat) : Bool := (List.range n).foldl (fun p i => p != bitOf v i) false

/-- The 16-bit check value: c in bits 13 to 0, P in bit 14, Q in bit 15 (R24). DEDUCED, unsafe (log entry 12). -/
def w80Check (w : Nat) : Nat :=
  let c := w80Rem w
  let q := parity 64 w
  let p := q != parity 14 c
  c + (if p then 2 ^ 14 else 0) + (if q then 2 ^ 15 else 0)

/-- Number of flipped bits of an error pattern. -/
def flips (e : BitVec 80) : Nat := (List.range 80).foldl (fun n i => n + b2n (bitOf e.toNat i)) 0

/-- What the decoder makes of a word with an error pattern (R25). -/
inductive W80Result where
  | clean
  | corrected (double : Bool)
  | uncorrectable
  /-- Four or more flipped bits corrected to a wrong word. -/
  | wrong (v : Word)
  deriving DecidableEq, Repr

/-- Decoding by R25: one or two flipped bits are corrected, three are reported, and four or more are reported or corrected wrongly, as a free value says. DEDUCED, unsafe (log entry 12). -/
def w80Decode (draw : Nat) (stored : Word) (e : BitVec 80) : W80Result :=
  match flips e with
  | 0 => .clean
  | 1 => .corrected false
  | 2 => .corrected true
  | 3 => .uncorrectable
  | _ => match Config.w80Many draw stored e with
    | none => .uncorrectable
    | some v => .wrong v

/-! ## Where a storage address lies, for counting -/

/-- The block that counts and reports an error at a storage address: a slice by slot and offset, commons by hub, or a far-memory channel. -/
inductive ErrBlock where
  | slice (pc off : Nat)
  | commons (h off : Nat)
  | far (ch a : Nat)
  deriving DecidableEq, Repr

/-- The channel of a far-memory address (R274). -/
def farChannel (a : Nat) : Nat :=
  let g := a / 4096
  (List.range 6).foldl (fun m i => m ^^^ (g / 2 ^ (5 * i) % 32)) 0

/-- The block of a storage address. -/
def errBlock (a : Nat) : ErrBlock :=
  if 0x800000000000 ≤ a then .slice ((a - 0x800000000000) / 2 ^ 24) (a % 2 ^ 24)
  else if 0x100200000000 ≤ a then .commons ((a - 0x100200000000) / 2 ^ 25) (a % 2 ^ 25)
  else .far (farChannel a) a

/-- Class, instance, location code and offset of an error (Table 12-7). -/
def ErrBlock.source : ErrBlock → Nat × Nat × Nat × Nat
  | .slice pc off => (2, pc, if off < spadSize then 0 else 1, off)
  | .commons h off => (3, h, 3, off)
  | .far ch a => (5, ch, 4, a)

/-- Double-bit corrections of a slice within 24 hours; the fourth makes its cell a suspect (Table 11-6). -/
def Dev.noteDouble (d : Dev) (pc : Nat) : Dev :=
  let now := d.ptpSec
  let recent := ((d.slotInfo pc).doubles.filter (fun t => now < t + 86400)) ++ [now]
  let d := d.modSlot pc (fun i => { i with doubles := recent })
  if 4 ≤ recent.length then d.suspectSlot pc else d

/-- A correction in a far-memory row: a double-bit one, or the fourth within 24 hours, marks the row for repair, or is recorded where no repair is left (R279). DESIGN CHOICE, safe (log entry 17). -/
def Dev.noteRow (d : Dev) (ch a : Nat) (double : Bool) : Dev :=
  let (bank, row) := Config.farRow ch (a / 2 ^ 17)
  let now := d.ptpSec
  let old := d.rowErrors.filter (fun e => now < e.2.2.2 + 86400)
  let here := (old.filter (fun e => e.1 = ch && e.2.1 = bank && e.2.2.1 = row)).length + 1
  let d := { d with rowErrors := old ++ [(ch, bank, row, now)] }
  if !(double || 4 ≤ here) || d.spprMarks.contains (ch, bank, row) then d
  else if d.bit F.FAR_INFO_SPPR_CAP ch && d.get F.FAR_SPPR_LEFT ch != 0 then { d with spprMarks := d.spprMarks ++ [(ch, bank, row)] }
  else d.record 0x0193 0 5 ch 2 row bank

/-- Counting and latching of one correction (R165, R278). -/
def Dev.noteCorrection (d : Dev) (a : Nat) (double : Bool) : Dev :=
  let b := errBlock a
  let (cls, inst, loc, off) := b.source
  let d := match b with
    | .slice pc off =>
      let d := (((d.count F.SPAD_CORRECTED pc).set F.SPAD_ECC_LAST_VALID 1 pc).set F.SPAD_ECC_LAST_DOUBLE (b2n double) pc).set
        F.SPAD_ECC_LAST_OFFSET off pc
      d.modSlot pc (fun i => { i with ecc := i.ecc ++ [off] })
    | .commons h off =>
      (((d.count F.HUB_COMMONS_CORRECTED h).set F.HUB_COMMONS_ECC_LAST_VALID 1 h).set F.HUB_COMMONS_ECC_LAST_DOUBLE (b2n double) h).set
        F.HUB_COMMONS_ECC_LAST_OFFSET off h
    | .far ch a =>
      ((((d.count F.FAR_CORRECTED ch).set F.FAR_ECC_LAST_VALID 1 ch).set F.FAR_ECC_LAST_DOUBLE (b2n double) ch).set
        F.FAR_ECC_LAST_LGRANULE (a / 2 ^ 17) ch).set F.FAR_ECC_LAST_WORD (a % 4096 / 8) ch
  if double then
    let d := d.record 0x0110 loc cls inst 1 off
    match b with
    | .slice pc _ => d.noteDouble pc
    | .far ch a => d.noteRow ch a true
    | _ => d
  else match b with
    | .far ch a => d.noteRow ch a false
    | _ => d

/-- A read of words with the errors met (R165, R166): the device after counting, and whether the data was delivered. Wrong corrections stay in storage as the decoder delivered them. DEDUCED, unsafe (log entry 83). -/
def Dev.checkWords (d : Dev) (a requester : Nat) : Upsets → Dev × Bool
  | [] => (d, true)
  | (i, e) :: us =>
    let w := a / 8 * 8 + 8 * i
    match w80Decode d.freeCtr (wOf (d.loadNat w 8)) e with
    | .clean => d.checkWords a requester us
    | .corrected double => (d.noteCorrection w double).checkWords a requester us
    | .uncorrectable =>
      let (cls, inst, loc, off) := (errBlock w).source
      (d.uncorrectable cls inst loc off requester, false)
    | .wrong v =>
      let d := { d with freeCtr := d.freeCtr + 1 }
      ((d.storeNat w 8 v.toNat).noteCorrection w false).checkWords a requester us

/-! ## Arithmetic status (R83) -/

/-- The cell's sticky arithmetic status after an event. -/
def Dev.arith (d : Dev) (pc st : Nat) : Dev := if st = 0 then d else d.orReg F.CELL_ARITH_STATUS st pc

end Sys2Proof.Machine
end

