-- ==== Sys2Proof/Machine/Operands.lean ====
section
/-! DEFINITION. How a core instruction issues: the fields it may use, its operands, and its ways to end (R84 to R91, R93, R94, R100, R107, R115, R117). -/

namespace Sys2Proof.Machine

/-! ## Fields (R89 to R91) -/

/-- Which fields of format S an operation uses; for FL and IMM, the bits that may be set. Every other field or bit must be zero (R91). -/
structure UseS where
  xd : Bool
  xa : Bool
  xb : Bool
  fl : Nat
  imm : Nat
  deriving DecidableEq, Repr

/-- Bits of `v` outside a mask are zero. -/
def within (mask v : Nat) : Bool := v &&& mask = v

/-- Which fields of format V an operation uses. VB and XS follow the broadcast rule of R90 where `bc` is set: BX = 1 uses XS and not VB, BX = 0 uses VB and not XS. -/
structure UseV where
  vd : Bool
  va : Bool
  vb : Bool
  vc : Bool
  fmt : Bool
  xs : Bool
  bc : Bool
  cond : Bool
  iw : Bool
  imm : Nat
  deriving DecidableEq, Repr

end Sys2Proof.Machine

namespace Sys2Proof
open Sys2Proof.Machine

/-- No field that the operation does not use is nonzero. DEDUCED, unsafe (log entry 28). -/
def FmtS.ok (f : FmtS) (u : UseS) : Bool :=
  (u.xd || f.xd = 0) && (u.xa || f.xa = 0) && (u.xb || f.xb = 0) && within u.fl f.fl.toNat && within u.imm f.imm.toNat

/-- IMM sign-extended to 64 bits. -/
def FmtS.simm (f : FmtS) : Word := f.imm.signExtend 64

/-- No field that the operation does not use is nonzero, and no reserved bit (R90, R91). DEDUCED, unsafe (log entry 28). -/
def FmtV.ok (f : FmtV) (u : UseV) : Bool :=
  (u.vd || f.vd = 0) && (u.va || f.va = 0) && (u.vc || f.vc = 0) && (u.fmt || f.fmt = 0) &&
  (if u.bc then (if f.bx then f.vb = 0 else f.xs = 0) else !f.bx && (u.vb || f.vb = 0) && (u.xs || f.xs = 0)) &&
  (u.cond || f.cond = 0) && (if u.iw then f.iw.toNat ≤ 3 else f.iw = 0) && f.res = 0 && within u.imm f.imm16.toNat

/-- The registers of a format S word. -/
def FmtS.regs (f : FmtS) : List Nat := [f.xd.toNat, f.xa.toNat, f.xb.toNat]

end Sys2Proof

namespace Sys2Proof.Machine

/-! ## Scalar registers (R85) -/

/-- Scalar register r of a context; x0 reads as zero. -/
def CtxState.xr (x : CtxState) (r : Nat) : Word := if r = 0 then 0 else SMap.read 0 x.x r

/-- The context with a scalar register written; a write to x0 is discarded. -/
def CtxState.setX (x : CtxState) (r : Nat) (v : Word) : CtxState :=
  if r = 0 then x else { x with x := SMap.write 0 x.x r v }

/-! ## Issue -/

/-- How an instruction ends. -/
inductive CoreEnd where
  /-- It commits, and the context goes on at the next word. -/
  | next (d : Dev)
  /-- It commits and jumps. -/
  | jump (d : Dev) (target : Word)
  /-- It faults with a cause of Table 03-10 (R117). -/
  | fault (d : Dev) (cause : Nat)
  /-- It parks: it has not committed and executes again (R115). -/
  | park (d : Dev) (w : Wait)
  /-- It does not issue yet: it waits for a slab operation (R94), or the core is stopped. -/
  | stay (d : Dev)
  /-- It commits and its context leaves RUNNING by itself (END, YIELD). -/
  | leave (d : Dev)

/-- The next instruction word. -/
def CtxState.nextPc (x : CtxState) : Word := x.pc + 8

/-- One instruction committed (CELL_RETIRED, CSRR 5). -/
def Dev.retire (d : Dev) (pc c : Nat) : Dev :=
  (d.modCtx pc c (fun x => { x with retired := x.retired + 1 })).count F.CELL_RETIRED pc

/-- The context may issue: its cell is powered and not frozen, and the context is RUNNING. DEDUCED, unsafe (log entry 27). -/
def Dev.canIssue (d : Dev) (pc c : Nat) : Bool :=
  d.domOn pc && !d.isFrozen pc && (d.ctx pc c).phase = .running

/-- PC lies in the code range and is a multiple of 8 (R87). DEDUCED, unsafe (log entry 27). -/
def CtxState.fetchOk (x : CtxState) : Bool :=
  x.codeBase ≤ x.pc.toNat && x.pc.toNat < x.codeLimit && x.pc.toNat % 8 = 0

/-- Issues an instruction of a context: a context that cannot issue leaves the device as it is; a PC outside the code range faults FETCH_BOUND, an ill-formed word ILLEGAL_INSTR (R91, Table 03-10); otherwise the instruction's own end applies. -/
def Dev.issue (d : Dev) (pc c : Nat) (legal : Bool) (body : Dev → CoreEnd) : Dev :=
  if !d.canIssue pc c then d
  else if !(d.ctx pc c).fetchOk then d.fault pc c 0x02
  else if !legal then d.fault pc c 0x01
  else match body d with
    | .next d' => ((d'.modCtx pc c (fun x => { x with pc := x.nextPc })).retire pc c).reselect pc
    | .jump d' t => ((d'.modCtx pc c (fun x => { x with pc := t })).retire pc c).reselect pc
    | .fault d' cause => d'.fault pc c cause
    | .park d' w => ((d'.modCtx pc c (fun x => x.leave .parked (some w))).count F.CELL_PARKS pc).reselect pc
    | .stay d' => d'
    | .leave d' => (d'.retire pc c).reselect pc

/-! ## Slab operations in flight (R93, R94, R116) -/

/-- A slab register of a context waits for its write. -/
def Dev.slabPending (d : Dev) (pc c k : Nat) : Bool :=
  (d.cell pc).slabOps.any (fun o => o.ctx = c && o.dst = .slab k)

/-- A scalar register of a context waits for a VEXT. -/
def Dev.scalarPending (d : Dev) (pc c r : Nat) : Bool :=
  r != 0 && (d.cell pc).slabOps.any (fun o => o.ctx = c && o.dst = .scalar r)

/-- The context has a slab operation in flight. -/
def Dev.anyPending (d : Dev) (pc c : Nat) : Bool := (d.cell pc).slabOps.any (fun o => o.ctx = c)

/-- Some register of a list waits for a VEXT. -/
def Dev.scalarsPending (d : Dev) (pc c : Nat) (rs : List Nat) : Bool := rs.any (d.scalarPending pc c)

/-- Issues an instruction that reads or writes scalar registers only: it waits for a VEXT that writes one of them (R94). DEDUCED, unsafe (log entry 31). -/
def Dev.issueScalar (d : Dev) (pc c : Nat) (legal : Bool) (regs : List Nat) (body : Dev → CoreEnd) : Dev :=
  d.issue pc c legal (fun d => if d.scalarsPending pc c regs then .stay d else body d)

/-- Issues an instruction whose effect reaches beyond the context's registers: it waits until the context's earlier slab operations are written, so that their faults stay precise (R107, R117). DEDUCED, unsafe (log entry 31). -/
def Dev.issueOrdered (d : Dev) (pc c : Nat) (legal : Bool) (body : Dev → CoreEnd) : Dev :=
  d.issue pc c legal (fun d => if d.anyPending pc c then .stay d else body d)

/-- The result of a scalar operation goes to XD. -/
def Dev.writeX (d : Dev) (pc c r : Nat) (v : Word) : Dev := d.modCtx pc c (fun x => x.setX r v)

/-! ## Addresses of core accesses (R100) -/

/-- Where a core access may go: its own or another cell's scratchpad, commons, or far memory outside the OS carve-out (R5, R7, R9, R86, R276); none is an address fault. -/
def Dev.coreAddr (d : Dev) (a n : Nat) : Option Nat :=
  match d.place false a n with
  | .far s => if s < d.carve then none else some s
  | p => p.storage

end Sys2Proof.Machine
end

