-- ==== Sys2Proof/Machine/Engines.lean ====
section
/-! DEFINITION. Hub engines: work queues, submission, checks, starting, aborting and posting of items, suspect replay and fencing (R246 to R258, R268 to R271, R384 to R389, R437). -/

namespace Sys2Proof.Machine

/-! ## Far-memory traffic -/

/-- Data bytes of accesses of 64 B to far memory, by channel and class: 0 S, 1 U, 2 OS (Table 08-25, R275). -/
def Dev.farMoved (d : Dev) (cls a n : Nat) : Dev :=
  if n = 0 || d.get F.DEV_FAR_SIZE_SIZE < a + n then d
  else
    let f := [F.FAR_BYTES_S, F.FAR_BYTES_U, F.FAR_BYTES_OS].getD cls F.FAR_BYTES_U
    (List.range ((a + n - 1) / 4096 + 1 - a / 4096)).foldl (fun d k =>
      let g := a / 4096 + k
      let lo := Nat.max a (4096 * g) / 64
      let hi := (Nat.min (a + n) (4096 * g + 4096) + 63) / 64
      d.count f (farChannel (4096 * g)) 0 (64 * (hi - lo))) d

/-! ## Descriptors (Tables 08-2 and 08-5) -/

/-- A field of a descriptor. -/
def itF (b : List Byte) (off n : Nat) : Nat := leNat ((b.drop off).take n)

/-- A signed field of four bytes. -/
def itS (b : List Byte) (off : Nat) : Int := (BitVec.ofNat 32 (itF b off 4)).toInt

/-- Bytes [off, off + n) are zero. -/
def itZero (b : List Byte) (off n : Nat) : Bool := ((b.drop off).take n).all (fun x => x = 0)

/-- Operations of engines (Table 08-1). -/
inductive EngOp where
  | copy | copy3d | transpose | gather | scatter | reduce | topk | exp | log | rsqrt | erf | convert | generate
  | compress | decompress | crc64 | shake256
  deriving DecidableEq, Repr

/-- The operation of an OP code on the engine of an index (Table 08-5). -/
def engOp (idx op : Nat) : Option EngOp :=
  match idx, op with
  | 0, 1 => some .copy3d | 0, 2 => some .transpose
  | 1, 1 => some .gather | 1, 2 => some .scatter
  | 2, 1 => some .reduce | 2, 2 => some .topk
  | 3, 1 => some .exp | 3, 2 => some .log | 3, 3 => some .rsqrt | 3, 4 => some .erf
  | 4, 1 => some .convert
  | 5, 1 => some .generate
  | 6, 1 => some .compress | 6, 2 => some .decompress
  | 7, 1 => some .crc64 | 7, 2 => some .shake256
  | 8, 1 => some .copy | 9, 1 => some .copy | 10, 1 => some .copy | 11, 1 => some .copy
  | _, _ => none

/-- An address lies in the remote-window region. -/
def isRemote (a : Nat) : Bool := 0x200000000000 ≤ a && a < 0x300000000000

/-- The common fields follow Table 08-2. -/
def itCommonOk (op : EngOp) (b : List Byte) : Bool :=
  let fl := itF b 1 1
  fl % 4 + (if op = .reduce then 4 * (fl / 4 % 2) else 0) = fl && itZero b 3 1 && itF b 4 2 < 512 && itZero b 6 2 &&
  (!bitOf fl 0 || itF b 2 1 ≤ 191)

/-- Two destination bytes of a COPY3D coincide: some step (dp, dr) other than (0, 0) moves the row start by less than D0 (R259). -/
def copy3dClash (d0 d1 d2 : Nat) (t1 t2 : Int) : Bool :=
  (List.range d2).any (fun dp =>
    (List.range (2 * d1 - 1)).any (fun k =>
      let dr : Int := (k : Int) - ((d1 : Int) - 1)
      (dp != 0 || dr != 0) && decide (((dp : Int) * t2 + dr * t1).natAbs < d0)))

/-- The operation fields follow Table 08-5 and the rules of R257 to R267 that fail with BAD_DESC. -/
def itFieldsOk (op : EngOp) (b : List Byte) : Bool :=
  match op with
  | .copy =>
    let remote := isRemote (itF b 0x10 8) || isRemote (itF b 0x18 8)
    itF b 0x0C 4 != 0 && itZero b 0x2E 10 && !(isRemote (itF b 0x10 8) && isRemote (itF b 0x18 8)) && (remote || itZero b 0x20 14)
  | .copy3d =>
    itF b 0x0C 4 != 0 && itF b 0x20 2 != 0 && itF b 0x22 2 != 0 && itZero b 0x34 4 &&
    !copy3dClash (itF b 0x0C 4) (itF b 0x20 2) (itF b 0x22 2) (itS b 0x2C) (itS b 0x30)
  | .transpose => itF b 0x0C 1 ≤ 3 && itZero b 0x0D 3 && itF b 0x20 4 != 0 && itF b 0x24 4 != 0 && itZero b 0x30 8
  | .gather | .scatter =>
    itF b 0x0C 4 != 0 && itF b 0x0C 4 % 4 = 0 && itF b 0x28 4 != 0 && itF b 0x2C 4 != 0 && itZero b 0x34 4
  | .reduce =>
    itF b 0x0C 4 != 0 && 1 ≤ itF b 0x2C 2 && itF b 0x2C 2 ≤ 1024 && itF b 0x2E 1 ≤ 1 && itZero b 0x31 7 &&
    (!fmtIsMx (itF b 0x30 1) || itF b 0x0C 4 % 32 = 0)
  | .topk => itF b 0x0C 4 != 0 && 1 ≤ itF b 0x28 4 && itF b 0x28 4 ≤ Nat.min (itF b 0x0C 4) 4096 && itZero b 0x2D 11
  | .exp | .log | .rsqrt | .erf => itF b 0x0C 4 != 0 && itZero b 0x21 23
  | .convert => itF b 0x0C 4 != 0 && itZero b 0x2A 14 && (!fmtIsMx (itF b 0x29 1) || itF b 0x0C 4 % 32 = 0)
  | .generate => itF b 0x30 4 != 0 && itF b 0x34 1 ≤ 15 && itZero b 0x36 2
  | .compress | .decompress => itF b 0x0C 4 != 0 && itZero b 0x2C 12
  | .crc64 => itF b 0x28 2 = 8 && itF b 0x2A 1 ≤ 3 && itZero b 0x2B 13 && (itF b 0x2A 1 != 0 || itF b 0x20 8 = 0)
  | .shake256 =>
    1 ≤ itF b 0x28 2 && itF b 0x28 2 ≤ 256 && itF b 0x2A 1 ≤ 3 && itZero b 0x2B 13 && (itF b 0x2A 1 != 0 || itF b 0x20 8 = 0)

/-- The formats are permitted (FORMAT of Table 08-4, R53, R261 to R265). -/
def itFormatsOk (op : EngOp) (b : List Byte) : Bool :=
  match op with
  | .reduce =>
    let o := itF b 0x30 1
    if itF b 0x2E 1 = 1 then itF b 0x2F 1 = 0 && (o = 0 || o = 1 || o = 3 || o = 4)
    else (itF b 0x2F 1 = 0 || itF b 0x2F 1 = 0x0F) && fmtArrayOut o
  | .topk => itF b 0x2C 1 ≤ 1
  | .exp | .log | .rsqrt | .erf => itF b 0x20 1 ≤ 1
  | .convert => (itF b 0x28 1 ≤ 1 || itF b 0x28 1 = 0x0F) && fmtArrayOut (itF b 0x29 1)
  | .generate => itF b 0x35 1 ≤ 3
  | _ => true

/-! ## Ranges (R255, Table 08-26) -/

/-- Bytes of GENERATE's element (R265). -/
def genSize : Nat → Nat
  | 0 => 8 | 1 => 4 | 2 => 2 | _ => 1

/-- Byte offsets of the frames that lengths describe, each 8-byte aligned, with the span of all (R266). -/
def frameSpan (lens : List Nat) : List Nat × Nat :=
  let r := lens.foldl (fun (acc : List Nat × Nat) n => (acc.1 ++ [roundUp acc.2 8], roundUp acc.2 8 + n)) ([], 0)
  r

/-- A run of bytes from a device address; a computed address may be negative. -/
abbrev Run := Int × Nat

/-- The runs of a two-level loop. -/
def loopRuns (base : Int) (n2 : Nat) (s2 : Int) (n1 : Nat) (s1 : Int) (len : Nat) : List Run :=
  (List.range n2).flatMap (fun p => (List.range n1).map (fun r => (base + (p : Int) * s2 + (r : Int) * s1, len)))

/-- The storage bytes of a device range that an engine may read; zero bytes outside storage. -/
def Dev.peek (d : Dev) (a n : Nat) : List Byte :=
  match (d.place false a n).storage with
  | some st => d.load st n
  | none => List.replicate n 0

/-- Input and output ranges of an item. -/
def Dev.itRanges (d : Dev) (op : EngOp) (b : List Byte) : List Run × List Run :=
  let at' : Nat → Int := fun off => (itF b off 8 : Nat)
  match op with
  | .copy => ([(at' 0x10, itF b 0x0C 4)], [(at' 0x18, itF b 0x0C 4)])
  | .copy3d =>
    (loopRuns (at' 0x10) (itF b 0x22 2) (itS b 0x28) (itF b 0x20 2) (itS b 0x24) (itF b 0x0C 4),
     loopRuns (at' 0x18) (itF b 0x22 2) (itS b 0x30) (itF b 0x20 2) (itS b 0x2C) (itF b 0x0C 4))
  | .transpose =>
    let e := 2 ^ itF b 0x0C 1
    (loopRuns (at' 0x10) (itF b 0x20 4) (itS b 0x28) 1 0 (itF b 0x24 4 * e),
     loopRuns (at' 0x18) (itF b 0x24 4) (itS b 0x2C) 1 0 (itF b 0x20 4 * e))
  | .gather | .scatter =>
    let table := loopRuns (at' 0x10) (itF b 0x2C 4) (itS b 0x30) 1 0 (itF b 0x0C 4)
    let index := (at' 0x18, itF b 0x28 4 * 4)
    let data := (at' 0x20, itF b 0x28 4 * itF b 0x0C 4)
    if op = .gather then (index :: table, [data]) else ([index, data], table)
  | .reduce =>
    let n := itF b 0x0C 4
    let o := itF b 0x30 1
    (loopRuns (at' 0x10) (itF b 0x2C 2) (itF b 0x28 4 : Nat) 1 0 (packedSize (itF b 0x2F 1) n),
     (at' 0x18, packedSize o n) :: (if fmtIsMx o then [(at' 0x20, n / 32)] else []))
  | .topk =>
    ([(at' 0x10, packedSize (itF b 0x2C 1) (itF b 0x0C 4))],
     [(at' 0x18, packedSize (itF b 0x2C 1) (itF b 0x28 4)), (at' 0x20, 4 * itF b 0x28 4)])
  | .exp | .log | .rsqrt | .erf =>
    let n := packedSize (itF b 0x20 1) (itF b 0x0C 4)
    ([(at' 0x10, n)], [(at' 0x18, n)])
  | .convert =>
    let n := itF b 0x0C 4
    let o := itF b 0x29 1
    ([(at' 0x10, packedSize (itF b 0x28 1) n)],
     (at' 0x18, packedSize o n) :: (if fmtIsMx o then [(at' 0x20, n / 32)] else []))
  | .generate => ([], [(at' 0x28, itF b 0x30 4 * genSize (itF b 0x35 1))])
  | .compress =>
    ([(at' 0x10, itF b 0x0C 4)], [(at' 0x18, itF b 0x28 4), (at' 0x20, 4 * ceilDiv (itF b 0x0C 4) 65536)])
  | .decompress =>
    let n := itF b 0x0C 4
    let lens := (List.range n).map (fun i => leNat (d.peek (itF b 0x20 8 + 4 * i) 4))
    ([(at' 0x20, 4 * n), (at' 0x10, (frameSpan lens).2)], [(at' 0x18, itF b 0x28 4)])
  | .crc64 | .shake256 =>
    let mode := itF b 0x2A 1
    ((at' 0x10, itF b 0x0C 4) :: (if bitOf mode 0 then [(at' 0x20, 256)] else []),
     if bitOf mode 1 then [(at' 0x20, 256)] else [(at' 0x18, itF b 0x28 2)])

/-- Two runs share a byte. -/
def runsMeet (a b : Run) : Bool := a.2 != 0 && b.2 != 0 && decide (a.1 < b.1 + b.2) && decide (b.1 < a.1 + a.2)

/-- Two ranges share a byte. -/
def rangesMeet (a b : List Run) : Bool := a.any (fun x => b.any (runsMeet x))

/-- A run is one that R256 permits; `priv` for a producer OS or SNAPSHOT, `remote` for a COPY. -/
def Dev.runOk (d : Dev) (priv remote : Bool) (r : Run) : Bool :=
  r.2 = 0 ||
  (0 ≤ r.1 &&
    (let a := r.1.toNat
     match d.place false a r.2 with
     | .far s => priv || d.carve ≤ s
     | .slice _ _ _ => true
     | .commons _ _ => true
     | .pcie _ off => priv && decide (off + r.2 ≤ 2 ^ 42)
     | .remote dev off => remote && dev != d.deviceId && decide (off + r.2 ≤ 2 ^ 34)
     | _ => false))

/-- A failed end. -/
def failEnd (error : Nat) (detail : Nat := 0) : ItemEnd := ⟨5, error, detail, 0, 0⟩

/-- The checks of R254 and R256 on an item of an engine index: none, or the end of the item. A copy that both continues and saves a digest reads and writes STATE, which is no overlap of R256 (R385 keeps the loaded state). DEDUCED, unsafe (log entry 37). -/
def Dev.itCheck (d : Dev) (idx pkind : Nat) (b : List Byte) : Option ItemEnd :=
  match engOp idx (itF b 0 1) with
  | none => some (failEnd 1)
  | some op =>
    if !itCommonOk op b || !itFieldsOk op b then some (failEnd 1)
    else if !itFormatsOk op b then some (failEnd 4)
    else
      let (ins, outs) := d.itRanges op b
      let priv := pkind = 1 || pkind = 3
      if !(ins ++ outs).all (d.runOk priv (op = .copy)) then some (failEnd 2)
      else
        let ins' := if (op = .crc64 || op = .shake256) && itF b 0x2A 1 = 3 then ins.take 1 else ins
        if rangesMeet outs ins' then some (failEnd 3) else none

/-! ## Items -/

/-- The name of an item. -/
def EngItem.ref (i : EngItem) : Nat × Nat × Nat := (i.home, i.q, i.seq)

/-- The name of an item as a command gives it. -/
def refOf (it : ItemRef) : Nat × Nat × Nat := (it.eng, it.q, it.seq.toNat)

/-- Slot of a SEQ in its ring. -/
def Dev.slotOf (d : Dev) (e q seq : Nat) : Nat := seq % d.wqSlots e q

/-- Storage address of a slot. -/
def Dev.slotAddr (d : Dev) (e q slot : Nat) : Nat := d.wqBase e q + 64 * slot

/-- STATE of a slot used since ENABLE; 0 if it has held no descriptor. -/
def Dev.slotStatus (d : Dev) (e q slot : Nat) : Nat := SMap.read 0 (d.eng e).slots (q * 4096 + slot)

/-- The status word of an end (Table 08-3). -/
def statusWord (x : ItemEnd) (tooLate replayed : Bool) : Nat :=
  x.state * 2 ^ 60 + b2n tooLate * 2 ^ 59 + b2n replayed * 2 ^ 58 + x.error * 2 ^ 48 + x.detail * 2 ^ 40 + x.flags * 2 ^ 32 +
  x.result % 2 ^ 32

/-- The device with a slot's status word and STATE set. -/
def Dev.setSlot (d : Dev) (e q slot w : Nat) : Dev :=
  (d.storeNat (d.slotAddr e q slot + 0x38) 8 w).modEng e (fun s => { s with slots := SMap.write 0 s.slots (q * 4096 + slot) (w / 2 ^ 60) })

/-- Items of a queue that are accepted and not yet started, counted in PENDING. -/
def Dev.pendingOf (d : Dev) (e q : Nat) : Nat :=
  ((List.range (d.wqSlots e q)).filter (fun k => d.slotStatus e q k = 1)).length

/-- The device with PENDING of a queue brought up to date. -/
def Dev.showPending (d : Dev) (e q : Nat) : Dev := d.set F.ENG_WQ_PTR_PENDING (d.pendingOf e q) e (q + 1)

/-- The counter of items that end in a STATE (Table 08-19). -/
def endCounter : Nat → Fld
  | 3 => F.ENG_ITEMS_DONE
  | 4 => F.ENG_ITEMS_ABORTED
  | _ => F.ENG_ITEMS_FAILED

/-- Step 3 of R254: with DONE_EN set, DONE_CTR of DONE_LC is incremented; an UNHOSTED cell drops it with a record. -/
def Dev.doneInc (d : Dev) (e : Nat) (b : List Byte) : Dev :=
  if !bitOf (itF b 1 1) 0 || 191 < itF b 2 1 then d
  else match d.hostOf (itF b 4 2 % 512) with
    | some pc => d.addCounter pc (itF b 2 1) 1
    | none => d.record 0x0153 1 4 e 2 (itF b 4 2 % 512)

/-- Steps 2 and 3 of R254 for an item of the queue (h, q) that ends on engine e. -/
def Dev.postEnd (d : Dev) (e h q seq : Nat) (b : List Byte) (x : ItemEnd) (tooLate replayed : Bool) : Dev :=
  ((d.setSlot h q (d.slotOf h q seq) (statusWord x tooLate replayed)).count (endCounter x.state) e).doneInc e b

/-- Items in flight of a queue, wherever they run. -/
def Dev.flying (d : Dev) (h q : Nat) : List EngItem :=
  ((d.eng h).items ++ (d.eng (engPartner h)).items).filter (fun i => i.home = h && i.q = q)

/-- EN of a disabled queue clears when its last running item has ended; the ring is ordinary commons from then on (Table 08-16). -/
def Dev.settleQueue (d : Dev) (h q : Nat) : Dev :=
  if (d.eng h).disabling.contains q && (d.flying h q).isEmpty then
    ((d.set F.ENG_WQ_CFG_EN 0 h (q + 1)).modEng h (fun s =>
      { s with disabling := s.disabling.filter (· != q), slots := SMap.dropRange s.slots (q * 4096) (q * 4096 + 4096) })).showPending h q
  else d

/-! ## Starting items (R253, R270) -/

/-- NEXT of a queue, past items that were aborted while QUEUED (Table 08-6). -/
def Dev.skipAborted (d : Dev) (h q : Nat) : Nat → Dev
  | 0 => d
  | fuel + 1 =>
    let n := d.get F.ENG_WQ_PTR_NEXT h (q + 1)
    let k := d.slotOf h q n
    if d.wqOn h q && d.slotStatus h q k = 4 && d.loadNat (d.slotAddr h q k + 8) 4 = n && !(d.flying h q).any (fun i => i.seq = n) then
      (d.set F.ENG_WQ_PTR_NEXT (n + 1) h (q + 1)).skipAborted h q fuel
    else d

/-- The queues that an engine serves, in the numbers of R270: its own, and its partner's while it is SERVING and runs none of the partner's suspects. -/
def Dev.servedQueues (d : Dev) (e : Nat) : List (Nat × Nat × Nat) :=
  let own := (List.range 64).map (fun q => (q, e, q))
  let p := engPartner e
  if d.bit F.ENG_CTL_SERVING e && !(d.eng e).items.any (fun i => i.guest) then own ++ (List.range 64).map (fun q => (64 + q, p, q)) else own

/-- The descriptor of the item of SEQ NEXT, if it is QUEUED. -/
def Dev.headItem (d : Dev) (h q : Nat) : Option (List Byte) :=
  if !d.wqOn h q then none
  else
    let n := d.get F.ENG_WQ_PTR_NEXT h (q + 1)
    let k := d.slotOf h q n
    let b := d.load (d.slotAddr h q k) 64
    if d.slotStatus h q k = 1 && itF b 8 4 = n then some b else none

/-- A queue of CLASS S starts no item while the schedule unit is HELD (R345). -/
def Dev.queueHeld (d : Dev) (h q : Nat) : Bool := decide (d.get F.SCHED_STATUS_STATE = 4) && d.bit F.ENG_WQ_CFG_CLASS h (q + 1)

/-- An item may start: a held queue, its FENCE and the ranges of the items in flight do not hold it back (R253, R345). DEDUCED, unsafe (log entry 37). -/
def Dev.mayStart (d : Dev) (e h q : Nat) (b : List Byte) : Bool :=
  !d.queueHeld h q && (!bitOf (itF b 1 1) 1 || (d.flying h q).isEmpty) &&
  (match engOp (e % 16) (itF b 0 1) with
   | none => true
   | some op =>
     let outs := (d.itRanges op b).2
     (d.itCheck (e % 16) (d.get F.ENG_WQ_CFG_PKIND h (q + 1)) b).isSome ||
     (d.eng e).items.all (fun i =>
       match engOp (e % 16) (itF i.desc 0 1) with
       | none => true
       | some op' => let r := d.itRanges op' i.desc; !rangesMeet outs (r.1 ++ r.2)))

/-- The queue whose item starts next: highest PRIO, round robin among equals. -/
def Dev.nextQueue (d : Dev) (e : Nat) : Option (Nat × Nat × Nat × List Byte) :=
  let cands := (d.servedQueues e).filterMap (fun (x : Nat × Nat × Nat) =>
    match d.headItem x.2.1 x.2.2 with
    | some b => if d.mayStart e x.2.1 x.2.2 b then some (x.1, x.2.1, x.2.2, b) else none
    | none => none)
  let prio : Nat × Nat × Nat × List Byte → Nat := fun x => d.get F.ENG_WQ_CFG_PRIO x.2.1 (x.2.2.1 + 1)
  let top := cands.foldl (fun m x => Nat.max m (prio x)) 0
  let best := cands.filter (fun x => prio x = top)
  let last := (d.eng e).last
  match best.find? (fun x => last < x.1) with
  | some x => some x
  | none => best.head?

/-- An item starts: NEXT advances, its status is RUNNING, and its checks are made. -/
def Dev.startItem (d : Dev) (e k h q : Nat) (b : List Byte) : Dev :=
  let n := d.get F.ENG_WQ_PTR_NEXT h (q + 1)
  let slot := itF b 0x34 1 % 16
  let loaded := match engOp (e % 16) (itF b 0 1) with
    | some .crc64 => if bitOf (itF b 0x2A 1) 0 then d.peek (itF b 0x20 8) 256 else []
    | some .shake256 => if bitOf (itF b 0x2A 1) 0 then d.peek (itF b 0x20 8) 256 else []
    | _ => []
  let i : EngItem :=
    { home := h, q := q, seq := n, desc := b, keyLo := d.reg (F.ENG_SG_KEY_LO.base + 16 * slot) e,
      keyHi := d.reg (F.ENG_SG_KEY_HI.base + 16 * slot) e, loaded := loaded,
      ending := d.itCheck (e % 16) (d.get F.ENG_WQ_CFG_PKIND h (q + 1)) b, aborting := false, tooLate := false, replayed := false,
      guest := false, run := 0, issued := false, refused := none }
  let d := (d.set F.ENG_WQ_PTR_NEXT (n + 1) h (q + 1)).setSlot h q (d.slotOf h q n) (2 * 2 ^ 60)
  (d.modEng e (fun s => { s with items := s.items ++ [i], last := k })).showPending h q

/-- An engine may start items: it has stopped for nothing, and the device is not in thermal freeze (R492). -/
def Dev.engGoes (d : Dev) (e : Nat) : Bool :=
  engReal e && !d.halted && !d.bit F.DEV_PWR_STATUS_FREEZE && d.domOn (544 + e / 16) && !d.bit F.ENG_CTL_FENCED e && (d.eng e).replay.isNone

/-- Starts items while fewer than four are in flight. -/
def Dev.startItems (d : Dev) (e : Nat) : Nat → Dev
  | 0 => d
  | n + 1 =>
    if !d.engGoes e || 4 ≤ (d.eng e).items.length then d
    else
      let d := (d.servedQueues e).foldl (fun d (x : Nat × Nat × Nat) => d.skipAborted x.2.1 x.2.2 (d.wqSlots x.2.1 x.2.2)) d
      match d.nextQueue e with
      | none => d
      | some (k, h, q, b) => (d.startItem e k h q b).startItems e n

/-- The engine that serves a queue starts what it can. -/
def Dev.kickQueue (d : Dev) (h : Nat) : Dev :=
  if d.bit F.ENG_CTL_REDIRECTED h then d.startItems (engPartner h) 4 else d.startItems h 4

/-- Every engine starts what it can. -/
def Dev.kickEngines (d : Dev) : Dev := (List.range 256).foldl (fun d e => d.startItems e 4) d

/-! ## Queue configuration (R248, R249, Table 08-16) -/

/-- RESULT of ENG_WQ_CMD. -/
def Dev.wqResult (d : Dev) (e r : Nat) : Dev := d.set F.ENG_WQ_SEL_RESULT r e

/-- ENABLE of a queue: its result (R249). -/
def Dev.enableQueue (d : Dev) (e q : Nat) : Nat × Dev :=
  let size := d.get F.ENG_WQ_CFG_SIZE e (q + 1)
  let base := d.get F.ENG_WQ_CFG_BASE e (q + 1)
  let bytes := 64 * 2 ^ size
  if d.wqOn e q then (3, d)
  else if size < 4 || 12 < size || base % bytes ≠ 0 || 2 ^ 25 < base + bytes then (1, d)
  else if (d.ringAt (d.wqBase e q) bytes).isSome then (2, d)
  else
    (0, ((d.set F.ENG_WQ_CFG_EN 1 e (q + 1)).setReg F.ENG_WQ_PTR.base e (q + 1) 0).modEng e (fun s =>
      { s with slots := SMap.dropRange s.slots (q * 4096) (q * 4096 + 4096) }))

/-- Ends an item that is QUEUED in a slot ABORTED (R254, Table 08-6). -/
def Dev.abortQueued (d : Dev) (e q slot : Nat) : Dev :=
  let b := d.load (d.slotAddr e q slot) 64
  (((d.setSlot e q slot (statusWord ⟨4, 0, 0, 0, 0⟩ false false)).count F.ENG_ITEMS_ABORTED e).doneInc e b).showPending e q

/-- DISABLE of a queue (Table 08-16): QUEUED items end ABORTED, in SEQ order from NEXT. -/
def Dev.disableQueue (d : Dev) (e q : Nat) : Nat × Dev :=
  if !d.wqOn e q then (0, d)
  else
    let n := d.get F.ENG_WQ_PTR_NEXT e (q + 1)
    let d := (List.range (d.wqSlots e q)).foldl (fun d k =>
      let s := d.slotOf e q (n + k)
      if d.slotStatus e q s = 1 then d.abortQueued e q s else d) d
    (0, (d.modEng e (fun s => { s with disabling := s.disabling.filter (· != q) ++ [q] })).settleQueue e q)

/-- A command of ENG_WQ_CMD for the selected queue of an engine in a powered hub. -/
def Dev.wqCmd (d : Dev) (e : Nat) (k : Dev → Nat → Nat × Dev) : Dev :=
  if engReal e && d.domOn (544 + e / 16) then
    let r := k d (d.get F.ENG_WQ_SEL_Q e)
    r.2.wqResult e r.1
  else d

/-- WQ_ENABLE. -/
def execWqEnable (_m : Master) (e : EngInst) (s : State) : Host.Outcome State Fault Refusal :=
  s.run (fun d => d.wqCmd e (fun d q => d.enableQueue e q))

/-- WQ_DISABLE. -/
def execWqDisable (_m : Master) (e : EngInst) (s : State) : Host.Outcome State Fault Refusal :=
  s.run (fun d => d.wqCmd e (fun d q => d.disableQueue e q))

/-! ## Submission (R250 to R252) -/

/-- A whole line written into a ring by its producer: accepted and QUEUED, or refused (R251). -/
def Dev.submit (d : Dev) (e q a : Nat) (line : List Byte) : Dev :=
  let slot := (a - d.wqBase e q) / 64
  let seq := itF line 8 4
  let st := d.slotStatus e q slot
  let n := d.get F.ENG_WQ_PTR_NEXT e (q + 1)
  if st = 1 || st = 2 then d.ringRefused e q 3 seq
  else if d.wqSlots e q ≤ (seq + 2 ^ 32 - n) % 2 ^ 32 || d.slotOf e q seq ≠ slot then d.ringRefused e q 4 seq
  else if itF line 0x38 8 ≠ 0 then d.ringRefused e q 5 seq
  else (((d.store a line).setSlot e q slot (2 ^ 60)).showPending e q).kickQueue e

/-- The abort word in the status of a slot (R268, R269, R388, Table 08-6). -/
def Dev.abortSlot (d : Dev) (e q slot : Nat) : Dev :=
  match d.slotStatus e q slot with
  | 0 => d.ringRefused e q 7 0
  | 1 => (d.abortQueued e q slot).kickQueue e
  | 2 =>
    let mark : EngItem → EngItem := fun i =>
      if i.home = e && i.q = q && d.slotOf e q i.seq = slot then
        if i.ending.isSome || i.replayed then { i with tooLate := true } else { i with aborting := true }
      else i
    (d.modEng e (fun s => { s with items := s.items.map mark })).modEng (engPartner e) (fun s => { s with items := s.items.map mark })
  | _ => d.storeNat (d.slotAddr e q slot + 0x38) 8 (d.loadNat (d.slotAddr e q slot + 0x38) 8 ||| 2 ^ 59)

/-- The abort word of R268. -/
def abortPattern : Nat := 0xF000000000000000

/-- A write by an agent to commons: a submission or an abort word where it meets a ring, else a plain store (R250). -/
def Dev.agentStore (d : Dev) (who : Option Agent) (a : Nat) (bs : List Byte) : Dev :=
  match d.ringAt a bs.length with
  | none => d.store a bs
  | some (e, q) =>
    let r := d.ringReason e q who a bs.length
    let seq := if bs.length = 64 then itF bs 8 4 else 0
    if r ≠ 0 then d.ringRefused e q r seq
    else if bs.length = 64 && a % 64 = 0 then d.submit e q a bs
    else if bs.length = 8 && a % 64 = 0x38 && leNat bs = abortPattern then d.abortSlot e q ((a - d.wqBase e q) / 64)
    else d.ringRefused e q 2 seq

/-- WQ_SUBMIT: a 64-byte line written by an agent to a commons address; outside every enabled ring it is a store. -/
def execWqSubmit (who : Agent) (addr : Word) (line : BitVec 512) (s : State) : Host.Outcome State Fault Refusal :=
  s.run (fun d =>
    match d.place false addr.toNat 64 with
    | .commons _ a => d.agentStore (some who) a (leBytes 64 line.toNat)
    | _ => d)

/-- ABORT_WORD: the abort word written by an agent to a commons address. -/
def execAbortWord (who : Agent) (addr : Word) (s : State) : Host.Outcome State Fault Refusal :=
  s.run (fun d =>
    match d.place false addr.toNat 8 with
    | .commons _ a => d.agentStore (some who) a (leBytes 8 abortPattern)
    | _ => d)

/-! ## The end of an item (R254, R258, R268, R384) -/

/-- The engine that runs an item. -/
def Dev.runner (d : Dev) (r : Nat × Nat × Nat) : Option Nat :=
  let has := fun e => (d.eng e).items.any (fun i => i.ref = r)
  if has r.1 then some r.1 else if has (engPartner r.1) then some (engPartner r.1) else none

/-- An item in flight. -/
def Dev.item (d : Dev) (r : Nat × Nat × Nat) : Option (Nat × EngItem) :=
  match d.runner r with
  | none => none
  | some e => ((d.eng e).items.find? (fun i => i.ref = r)).map (fun i => (e, i))

/-- The device with an item changed. -/
def Dev.modItem (d : Dev) (r : Nat × Nat × Nat) (f : EngItem → EngItem) : Dev :=
  match d.runner r with
  | none => d
  | some e => d.modEng e (fun s => { s with items := s.items.map (fun i => if i.ref = r then f i else i) })

/-- The end of an item is fixed. -/
def Dev.endItem (d : Dev) (r : Nat × Nat × Nat) (x : ItemEnd) : Dev := d.modItem r (fun i => { i with ending := some x })

/-- An item is the one of its engine that may run: the engine replays nothing, or replays this one now (R385). -/
def Dev.mayRun (d : Dev) (e : Nat) (i : EngItem) : Bool :=
  !d.halted && d.domOn (544 + e / 16) &&
  (match (d.eng e).replay with
   | none => true
   | some r => !r.selfTest && r.todo.head? == some i.ref)

/-- Removes an item from its engine, posts its end if it has one, and lets its queue and the engine go on. -/
def Dev.postItem (d : Dev) (e : Nat) (i : EngItem) : Dev :=
  let d := d.modEng e (fun s => { s with items := s.items.filter (fun j => j.ref != i.ref) })
  match i.ending with
  | some x => (d.postEnd e i.home i.q i.seq i.desc x i.tooLate i.replayed).settleQueue i.home i.q
  | none => d.settleQueue i.home i.q

/-- ITEM_POST (R254, R384): an item whose end is fixed is posted, unless the engine replays it. DEDUCED, unsafe (log entry 84). -/
def execItemPost (it : ItemRef) (s : State) : Host.Outcome State Fault Refusal :=
  s.run (fun d =>
    match d.item (refOf it) with
    | some (e, i) =>
      if i.ending.isSome && (d.eng e).replay.isNone && !d.halted then (d.postItem e i).startItems e 4 else d
    | none => d)

/-- ITEM_ABORT_STOP (R268): an item that stops under an abort word, its final output write not committed, ends ABORTED. -/
def execItemAbortStop (it : ItemRef) (s : State) : Host.Outcome State Fault Refusal :=
  s.run (fun d =>
    match d.item (refOf it) with
    | some (e, i) =>
      if i.aborting && i.ending.isNone then
        (d.postItem e { i with ending := some ⟨4, 0, 0, 0, 0⟩ }).startItems e 4
      else d
    | none => d)

/-- Requests of an item's present run that await an answer. -/
def Dev.itemReqs (d : Dev) (i : EngItem) : List RemoteReq := d.remotes.filter (fun r => r.item = i.ref && r.run = i.run)

/-- REMOTE_TIMEOUT (R258): a remote item whose acknowledgements have not come in 4,096 beats ends FAILED. DEDUCED, unsafe (log entry 10). -/
def execRemoteTimeout (it : ItemRef) (s : State) : Host.Outcome State Fault Refusal :=
  s.run (fun d =>
    match d.item (refOf it) with
    | some (_, i) => if i.ending.isNone && !(d.itemReqs i).isEmpty then d.endItem i.ref (failEnd 9) else d
    | none => d)

/-! ## Fences and replay (R270, R271, R385 to R389, R437) -/

/-- A fence of an engine (R270, R271): its queues go to the partner; a pair that is fenced serves nothing and is recorded. -/
def Dev.fenceEngine (d : Dev) (e : Nat) : Dev :=
  let p := engPartner e
  let d := (d.set F.ENG_CTL_FENCED 1 e).set F.ENG_CTL_ISOLATE 0 e
  if d.bit F.ENG_CTL_FENCED p then
    ((((d.set F.ENG_CTL_REDIRECTED 0 e).set F.ENG_CTL_SERVING 0 e).set F.ENG_CTL_REDIRECTED 0 p).set F.ENG_CTL_SERVING 0 p).record
      0x0123 p 4 e 2
  else (d.set F.ENG_CTL_REDIRECTED 1 e).set F.ENG_CTL_SERVING 1 p

/-- A suspect goes to the partner to run there, or ends FAILED with ENGINE_INTEGRITY where the partner is fenced (R386, R387). -/
def Dev.toPartner (d : Dev) (e : Nat) (r : Nat × Nat × Nat) : Dev :=
  let p := engPartner e
  match (d.eng e).items.find? (fun i => i.ref = r) with
  | none => d
  | some i =>
    if d.bit F.ENG_CTL_FENCED p then d.postItem e { i with ending := some (failEnd 10) }
    else
      let j : EngItem := { i with ending := d.itCheck (p % 16) (d.get F.ENG_WQ_CFG_PKIND i.home (i.q + 1)) i.desc, guest := true,
                                  run := i.run + 1, issued := false, refused := none }
      (d.modEng e (fun s => { s with items := s.items.filter (fun k => k.ref != r) })).modEng p (fun s => { s with items := s.items ++ [j] })

/-- Posts a suspect with its re-run's result. -/
def Dev.postSuspect (d : Dev) (e : Nat) (r : Nat × Nat × Nat) : Dev :=
  match (d.eng e).items.find? (fun i => i.ref = r) with
  | some i => d.postItem e i
  | none => d

/-- The record of a guilty item (event 0x0121). -/
def Dev.recordGuilty (d : Dev) (e : Nat) (r : Nat × Nat × Nat) (suspects : Nat) : Dev :=
  d.record 0x0121 r.2.1 4 e 3 r.2.2
    (d.get F.ENG_WQ_CFG_PKIND r.1 (r.2.1 + 1) * 512 + d.get F.ENG_WQ_CFG_PLC r.1 (r.2.1 + 1)) suspects

/-- The outcome of a replay by Table 12-3; `test` is the self-test's result where it was run. -/
def Dev.replayOutcome (d : Dev) (e : Nat) (r : Replay) (test : Bool) : Dev :=
  let n := r.done.length
  let d := d.modEng e (fun s => { s with replay := none })
  let d := match r.repro with
    | [] =>
      let d := d.set F.ENG_CTL_ISOLATE 0 e
      (r.done.foldl (fun (d : Dev) x => d.postSuspect e x) d).record 0x0120 0 4 e 1 n
    | [g] =>
      let again := match (d.eng e).guiltyNs with
        | some t => decide (d.ns < t + 86400000000000)
        | none => false
      let d := (d.recordGuilty e g n).modEng e (fun s => { s with guiltyNs := some d.ns })
      if test && !again then
        let d := d.set F.ENG_CTL_ISOLATE 0 e
        (r.done.foldl (fun (d : Dev) x => if x = g then d else d.postSuspect e x) d).toPartner e g
      else
        let d := (d.fenceEngine e).record 0x0122 (engPartner e) 4 e 2 n 1
        r.done.foldl (fun d x => d.toPartner e x) d
    | _ =>
      let d := (d.fenceEngine e).record 0x0122 (engPartner e) 4 e 2 n r.repro.length
      r.done.foldl (fun d x => d.toPartner e x) d
  (d.startItems e 4).startItems (engPartner e) 4

/-- A re-run of the first suspect begins: its end is open again unless its checks fail (R385). DEDUCED, unsafe (log entry 38). -/
def Dev.beginRun (d : Dev) (e : Nat) : Dev :=
  match (d.eng e).replay with
  | some r =>
    match r.todo.head? with
    | some x =>
      d.modItem x (fun i => { i with ending := d.itCheck (e % 16) (d.get F.ENG_WQ_CFG_PKIND i.home (i.q + 1)) i.desc,
                                     run := i.run + 1, issued := false, refused := none })
    | none => d
  | none => d

/-- An indication at an engine (R385, R387): it ends the partner's suspects that run there, counts as reproducing in a re-run, or makes suspects of the items in flight and starts their replay. DEDUCED, unsafe (log entry 38). -/
def Dev.indicate (d : Dev) (e : Nat) : Dev :=
  let s := d.eng e
  match s.replay with
  | some r => if r.selfTest || r.todo.isEmpty then d else d.modEng e (fun s => { s with replay := some { r with hit := true } })
  | none =>
    let guests := s.items.filter (fun i => i.guest)
    let d := guests.foldl (fun d i => d.postItem e { i with ending := some (failEnd 10) }) d
    let sus := (d.eng e).items.filter (fun i => !(i.aborting && i.ending.isNone))
    if sus.isEmpty then d.startItems e 4
    else
      let d := (d.set F.ENG_CTL_ISOLATE 1 e).modEng e (fun s =>
        { s with items := s.items.map (fun i => if sus.any (fun j => j.ref == i.ref) then { i with replayed := true } else i),
                 replay := some ⟨sus.map EngItem.ref, [], false, [], false⟩ })
      d.beginRun e

/-- ENGINE_INDICATION. -/
def execEngineIndication (e : EngInst) (s : State) : Host.Outcome State Fault Refusal :=
  s.run (fun d => if engReal e && !d.halted then d.indicate e else d)

/-- A suspect's isolated re-run ends (R385); after the last, the self-test runs if any reproduced (R386). -/
def Dev.runEnds (d : Dev) (e : Nat) (recurred : Bool) : Dev :=
  match (d.eng e).replay with
  | none => d
  | some r =>
    match r.todo with
    | [] => d
    | x :: rest =>
      let d := d.count F.ENG_REPLAYS e
      let r' : Replay := ⟨rest, r.done ++ [x], false, if recurred || r.hit then r.repro ++ [x] else r.repro, false⟩
      if !rest.isEmpty then (d.modEng e (fun s => { s with replay := some r' })).beginRun e
      else if r'.repro.isEmpty then d.replayOutcome e r' true
      else d.modEng e (fun s => { s with replay := some { r' with selfTest := true } })

/-- REPLAY_RUN_END: the re-run of the present suspect has reached its end. -/
def execReplayRunEnd (e : EngInst) (recurred : Bool) (s : State) : Host.Outcome State Fault Refusal :=
  s.run (fun d =>
    match (d.eng e).replay with
    | some r =>
      match r.todo.head? with
      | some x => if (d.eng e).items.any (fun i => i.ref = x && i.ending.isSome) then d.runEnds e recurred else d
      | none => d
    | none => d)

/-- ENGINE_SELF_TEST_END (R386). -/
def execEngineSelfTestEnd (e : EngInst) (passed : Bool) (s : State) : Host.Outcome State Fault Refusal :=
  s.run (fun d =>
    match (d.eng e).replay with
    | some r => if r.selfTest then d.replayOutcome e r passed else d
    | none => d)

/-- ENG_STALL_TIMEOUT (R437): an item stalled for ENG_BEATS is an indication; a re-run that stalls reproduces. With ENG_BEATS 0 there is no limit. -/
def execEngStallTimeout (it : ItemRef) (s : State) : Host.Outcome State Fault Refusal :=
  s.run (fun d =>
    let limit := d.get F.WDOG_CFG_ENG_BEATS
    match d.item (refOf it) with
    | some (e, i) =>
      if limit = 0 || i.ending.isSome || i.aborting then d
      else match (d.eng e).replay with
        | some r => if !r.selfTest && r.todo.head? == some i.ref then d.runEnds e true else d
        | none => ((d.count F.WDOG_ENG_TIMEOUTS).record 0x0205 i.q 4 e 2 i.seq limit).indicate e
    | none => d)

/-! ## Resets (R280) -/

/-- An engine loses its queues, its items, without status, and its registers in a partition reset; a fence and its redirection stay until the boot test (R271, R280). -/
def Dev.dropEngine (d : Dev) (e : Nat) : Dev :=
  let d := { d with engs := SMap.write EngState.reset d.engs e EngState.reset, remotes := d.remotes.filter (fun r => r.eng != e) }
  { d with regs := d.regs.filterMap (fun x =>
    if x.1 / 2 ^ 24 % 2 ^ 8 == 4 && x.1 / 2 ^ 12 % 2 ^ 12 == e then (if x.1 % 2 ^ 12 = 8 then resetReg x else none) else some x) }

/-- The boot self-tests of some engines: a fenced one that passes returns to service, and redirections follow the fences that remain (R271). Whether a fenced engine passes is a free choice. -/
def Dev.engineTests (d : Dev) (es : List Nat) : Dev :=
  let d := es.foldl (fun (d : Dev) e =>
    if d.bit F.ENG_CTL_FENCED e then
      let (ok, d) := d.choose
      if ok then d.set F.ENG_CTL_FENCED 0 e else d
    else d) d
  es.foldl (fun (d : Dev) e =>
    let p := engPartner e
    (d.set F.ENG_CTL_REDIRECTED (b2n (d.bit F.ENG_CTL_FENCED e && !d.bit F.ENG_CTL_FENCED p)) e).set
      F.ENG_CTL_SERVING (b2n (!d.bit F.ENG_CTL_FENCED e && d.bit F.ENG_CTL_FENCED p)) e) d

/-! ## Stream keys (R265, Table 08-18) -/

/-- SG_KEY_COMMIT: a write to ENG_SG_KEYn_HI commits both halves. The value written to LO since stands beside the committed key as item 1 of its register. -/
def execSgKeyCommit (_m : Master) (e : EngInst) (n : Fin 16) (v : Word) (s : State) : Host.Outcome State Fault Refusal :=
  s.run (fun d =>
    if e.val % 16 = 5 && d.domOn (544 + e / 16) then
      (d.setReg (F.ENG_SG_KEY_LO.base + 16 * n) e 0 (d.reg (F.ENG_SG_KEY_LO.base + 16 * n) e 1)).setReg
        (F.ENG_SG_KEY_HI.base + 16 * n) e 0 v.toNat
    else d)

end Sys2Proof.Machine
end

