-- ==== Sys2Proof/Machine/CoreMem.lean ====
section
/-! DEFINITION. Memory access from the core, branches, streams and the simple instructions of class 0xB (R85, R87, R91, R100 to R107, R114, Table 03-4). -/

namespace Sys2Proof.Machine

/-! ## Streams (R104, R105) -/

/-- Position in a stream, in row order, of a device address that the stream covers. -/
def StreamDesc.posOf (s : StreamDesc) (a : Nat) : Option Nat :=
  let rel : Int := (a : Int) - s.base
  let r : Int := if s.rowStride = 0 then 0
    else if 0 < s.rowStride then rel / s.rowStride
    else (-rel + (-s.rowStride - 1)) / -s.rowStride
  let r := min (max r 0) (s.rows - 1 : Int)
  let col := rel - r * s.rowStride
  if 0 ≤ col && col < s.rowBytes then some (r.toNat * s.rowBytes + col.toNat) else none

/-- A committed access moves the read-ahead point of the streams that cover it (R105). -/
def CtxState.touch (x : CtxState) (a n : Nat) : CtxState :=
  { x with sds := x.sds.map (fun e => match e.2.posOf a with
    | some p => (e.1, { e.2 with pos := p + n, ahead := max e.2.ahead (p + n) })
    | none => e) }

/-- The descriptors of a context that may run ahead: the two lowest with RUNAHEAD, of read or read-write direction. -/
def CtxState.aheadSds (x : CtxState) : List Nat :=
  ((x.sds.filter (fun e => e.2.runahead && e.2.dir != 1)).map (fun e => e.1)).take 2

/-- The bytes from the first to the last that a descriptor covers: lowest address and end. -/
def StreamDesc.span (s : StreamDesc) : Int × Int :=
  let last := (s.rows - 1 : Int) * s.rowStride
  ((s.base : Int) + min 0 last, (s.base : Int) + max 0 last + s.rowBytes)

/-- A stream descriptor read from its 32 bytes (Table 03-5). -/
def streamOf (bs : List Byte) : StreamDesc :=
  let n := fun o k => leNat ((bs.drop o).take k)
  { base := n 0 8, rowBytes := n 8 4, rowStride := (BitVec.ofNat 32 (n 12 4)).toInt, rows := n 16 4, dir := n 20 1,
    fmt := n 21 1, runahead := bitOf (n 22 2) 0, pos := 0, ahead := 0 }

/-- The checks of R104 that fail with cause STREAM. -/
def Dev.streamOk (d : Dev) (pc : Nat) (bs : List Byte) : Bool :=
  let s := streamOf bs
  let n := fun o k => leNat ((bs.drop o).take k)
  let w : Int := windowBase ((d.hosted pc).getD 0)
  s.dir ≤ 2 && n 22 2 ≤ 1 && n 24 8 = 0 && 1 ≤ s.rows && s.rows ≤ 65536 && 1 ≤ s.rowBytes && s.rowBytes % 64 = 0 &&
  s.rowBytes ≤ 2 ^ 20 && s.base % 64 = 0 && s.rowStride % 64 = 0 && decide (w ≤ s.span.1) && decide (s.span.2 ≤ w + spadSize)

/-- SDECL: declares a stream descriptor from 32 bytes at XA (R104); reading them follows the address rules of R100 for a core access. -/
def Dev.sdecl (d : Dev) (pc c : Nat) (f : FmtS) : CoreEnd :=
  let a := ((d.ctx pc c).xr f.xa.toNat).toNat
  match d.coreAddr a 32 with
  | none => .fault d 0x03
  | some st =>
    let bs := d.load st 32
    if !d.streamOk pc bs then .fault d 0x08
    else if !fmtKnown (streamOf bs).fmt then .fault d 0x06
    else .next (d.modCtx pc c (fun x => { x with sds := SMap.insert (f.imm.toNat % 8) (streamOf bs) x.sds }))

/-- SDECL (R104). -/
def execSdecl (pc : Slot) (c : Ctx) (f : FmtS) (s : State) : Host.Outcome State Fault Refusal :=
  s.run (fun d => d.issueOrdered pc c (f.ok ⟨false, true, false, 0, 7⟩) (fun d => d.sdecl pc c f))

/-- SREL: the descriptor is no longer valid (R104). -/
def execSrel (pc : Slot) (c : Ctx) (f : FmtS) (s : State) : Host.Outcome State Fault Refusal :=
  s.run (fun d => d.issueOrdered pc c (f.ok ⟨false, false, false, 0, 7⟩) (fun d =>
    .next (d.modCtx pc c (fun x => { x with sds := SMap.erase (f.imm.toNat % 8) x.sds }))))

/-- RUNAHEAD_READ: the running context reads ahead to at most 4 KiB after its last committed access, within the descriptor (R105, R107); nothing else changes, and later stores invalidate what was read (R108). -/
def execRunaheadRead (pc : Slot) (c : Ctx) (sd : Fin 8) (s : State) : Host.Outcome State Fault Refusal :=
  s.run (fun d =>
    if d.canIssue pc c && (d.ctx pc c).aheadSds.contains sd.val then
      d.modCtx pc c (fun x => { x with sds := x.sds.map (fun e =>
        if e.1 = sd.val then (e.1, { e.2 with ahead := max e.2.ahead (min (e.2.rows * e.2.rowBytes) (e.2.pos + 4096)) }) else e) })
    else d)

/-! ## Loads and stores (R100 to R103, R165 to R167) -/

/-- The address of a load or store: XA + IMM, modulo 2^64. -/
def Dev.memAddr (d : Dev) (pc c : Nat) (f : FmtS) : Nat := ((d.ctx pc c).xr f.xa.toNat + f.simm).toNat

/-- Size of a scalar access. -/
def FmtSize (f : FmtS) : Nat := 2 ^ (f.fl.toNat % 4)

/-- Checks of a core access of n bytes (R100), then what it does at its storage address; a read whose word is uncorrectable delivers nothing and leaves the instruction uncommitted in a frozen cell (R166, R390). -/
def Dev.access (d : Dev) (a n : Nat) (k : Dev → Nat → CoreEnd) : CoreEnd :=
  if a % n ≠ 0 then .fault d 0x04
  else match d.coreAddr a n with
    | none => .fault d 0x03
    | some st => k (d.farMoved 1 st n) st

/-- The agent that a slot's core is (R250). -/
def Dev.coreAgent (d : Dev) (pc : Nat) : Option Agent := (d.hosted pc).map (fun lc => Agent.cell (Fin.ofNat 512 lc))

/-- A loaded value of n bytes, sign-extended on request. -/
def extendLoad (sign : Bool) (n v : Nat) : Word :=
  if sign then (match n with
    | 1 => (BitVec.ofNat 8 v).signExtend 64
    | 2 => (BitVec.ofNat 16 v).signExtend 64
    | 4 => (BitVec.ofNat 32 v).signExtend 64
    | _ => wOf v)
  else wOf v

/-- The x registers with eight values loaded from XD on. -/
def CtxState.setXs (x : CtxState) (r : Nat) : List Word → CtxState
  | [] => x
  | v :: vs => (x.setX r v).setXs (r + 1) vs

/-- LD: XD := memory[XA + IMM]. -/
def execLd (pc : Slot) (c : Ctx) (f : FmtS) (u : Upsets) (s : State) : Host.Outcome State Fault Refusal :=
  s.run (fun d => d.issueScalar pc c (f.ok ⟨true, true, false, 7, 0xFFFFFFFF⟩) f.regs (fun d =>
    let a := d.memAddr pc c f
    let n := FmtSize f
    d.access a n (fun d st =>
      let (d, ok) := d.checkWords st pc u
      if ok then
        .next (d.modCtx pc c (fun x => (x.setX f.xd.toNat (extendLoad (bitOf f.fl.toNat 2) n (d.loadNat st n))).touch a n))
      else .stay d)))

/-- ST: memory[XA + IMM] := XB. A store of fewer than 8 bytes reads its W80 word first (R167). -/
def execSt (pc : Slot) (c : Ctx) (f : FmtS) (u : Upsets) (s : State) : Host.Outcome State Fault Refusal :=
  s.run (fun d => d.issueOrdered pc c (f.ok ⟨false, true, true, 3, 0xFFFFFFFF⟩) (fun d =>
    let a := d.memAddr pc c f
    let n := FmtSize f
    d.access a n (fun d st =>
      let (d, ok) := if n < 8 then d.checkWords st pc u else (d, true)
      if ok then .next ((d.agentStore (d.coreAgent pc) st (leBytes n ((d.ctx pc c).xr f.xb.toNat).toNat)).modCtx pc c (fun x => x.touch a n))
      else .stay d)))

/-- LDM: 64 bytes at XA + IMM into XD to XD + 7, with XD 0, 8, 16 or 24. -/
def execLdm (pc : Slot) (c : Ctx) (f : FmtS) (u : Upsets) (s : State) : Host.Outcome State Fault Refusal :=
  s.run (fun d => d.issueScalar pc c (f.ok ⟨true, true, false, 0, 0xFFFFFFFF⟩ && f.xd.toNat % 8 = 0)
    (f.xa.toNat :: (List.range 8).map (fun i => f.xd.toNat + i)) (fun d =>
    let a := d.memAddr pc c f
    d.access a 64 (fun d st =>
      let (d, ok) := d.checkWords st pc u
      if ok then
        let vs := (List.range 8).map (fun i => wOf (d.loadNat (st + 8 * i) 8))
        .next (d.modCtx pc c (fun x => (x.setXs f.xd.toNat vs).touch a 64))
      else .stay d)))

/-- STM: XB to XB + 7 to 64 bytes at XA + IMM, with XB 0, 8, 16 or 24. It writes whole words, so it reads none and meets no error. -/
def execStm (pc : Slot) (c : Ctx) (f : FmtS) (_u : Upsets) (s : State) : Host.Outcome State Fault Refusal :=
  s.run (fun d => d.issueOrdered pc c (f.ok ⟨false, true, true, 0, 0xFFFFFFFF⟩ && f.xb.toNat % 8 = 0) (fun d =>
    let a := d.memAddr pc c f
    d.access a 64 (fun d st =>
      let x := d.ctx pc c
      let bs := (List.range 8).flatMap (fun i => leBytes 8 (x.xr (f.xb.toNat + i)).toNat)
      .next ((d.agentStore (d.coreAgent pc) st bs).modCtx pc c (fun x => x.touch a 64)))))

/-- FENCE: an instruction is one step here and its accesses are performed in it, so every earlier access is complete and visible when FENCE commits (R102, R103). -/
def execFence (pc : Slot) (c : Ctx) (f : FmtS) (s : State) : Host.Outcome State Fault Refusal :=
  s.run (fun d => d.issueOrdered pc c (f.ok ⟨false, false, false, 1, 0⟩) (fun d => .next d))

/-! ## Branches (Table 03-2, R106, R107) -/

/-- PC + IMM × 8, modulo 2^64. -/
def branchTarget (x : CtxState) (f : FmtS) : Word := x.pc + f.simm * 8

/-- What a mispredict does: it is counted, and the context's read-ahead is discarded. Whether the core predicted wrongly is a free choice (R106). DESIGN CHOICE, safe (log entry 30). -/
def Dev.predict (d : Dev) (pc c : Nat) : Dev :=
  let (miss, d) := d.choose
  if miss then (d.modCtx pc c CtxState.dropAhead).count F.CELL_MISPREDICTS pc else d

/-- A conditional branch. DESIGN CHOICE, safe (log entry 30). -/
def Dev.branch (d : Dev) (pc : Slot) (c : Ctx) (f : FmtS) (cond : Word → Word → Bool) : Dev :=
  d.issueScalar pc c (f.ok ⟨false, true, true, 0, 0xFFFFFFFF⟩) f.regs (fun d =>
    let x := d.ctx pc c
    let d := d.predict pc c
    if cond (x.xr f.xa.toNat) (x.xr f.xb.toNat) then .jump d (branchTarget x f) else .next d)

/-- BEQ: branches if XA = XB. -/
def execBeq (pc : Slot) (c : Ctx) (f : FmtS) (s : State) : Host.Outcome State Fault Refusal :=
  s.run (fun d => d.branch pc c f (fun a b => a == b))

/-- BNE: branches if XA ≠ XB. -/
def execBne (pc : Slot) (c : Ctx) (f : FmtS) (s : State) : Host.Outcome State Fault Refusal :=
  s.run (fun d => d.branch pc c f (fun a b => a != b))

/-- BLT: branches if XA < XB, signed. -/
def execBlt (pc : Slot) (c : Ctx) (f : FmtS) (s : State) : Host.Outcome State Fault Refusal :=
  s.run (fun d => d.branch pc c f (fun a b => a.slt b))

/-- BGE: branches if XA ≥ XB, signed. -/
def execBge (pc : Slot) (c : Ctx) (f : FmtS) (s : State) : Host.Outcome State Fault Refusal :=
  s.run (fun d => d.branch pc c f (fun a b => !a.slt b))

/-- BLTU: branches if XA < XB, unsigned. -/
def execBltu (pc : Slot) (c : Ctx) (f : FmtS) (s : State) : Host.Outcome State Fault Refusal :=
  s.run (fun d => d.branch pc c f (fun a b => a.ult b))

/-- BGEU: branches if XA ≥ XB, unsigned. -/
def execBgeu (pc : Slot) (c : Ctx) (f : FmtS) (s : State) : Host.Outcome State Fault Refusal :=
  s.run (fun d => d.branch pc c f (fun a b => !a.ult b))

/-- JAL: XD := PC + 8; PC := PC + IMM × 8. -/
def execJal (pc : Slot) (c : Ctx) (f : FmtS) (s : State) : Host.Outcome State Fault Refusal :=
  s.run (fun d => d.issueScalar pc c (f.ok ⟨true, false, false, 0, 0xFFFFFFFF⟩) f.regs (fun d =>
    let x := d.ctx pc c
    .jump ((d.predict pc c).writeX pc c f.xd.toNat x.nextPc) (branchTarget x f)))

/-- JALR: XD := PC + 8; PC := (XA + IMM) with bits [2:0] cleared. -/
def execJalr (pc : Slot) (c : Ctx) (f : FmtS) (s : State) : Host.Outcome State Fault Refusal :=
  s.run (fun d => d.issueScalar pc c (f.ok ⟨true, true, false, 0, 0xFFFFFFFF⟩) f.regs (fun d =>
    let x := d.ctx pc c
    .jump ((d.predict pc c).writeX pc c f.xd.toNat x.nextPc) ((x.xr f.xa.toNat + f.simm) &&& 0xFFFFFFFFFFFFFFF8)))

/-! ## Core values (Table 03-4), YIELD and NOP -/

/-- CSRR value IMM. -/
def Dev.coreValue (d : Dev) (pc c imm : Nat) : Option Nat :=
  match imm with
  | 0 => some c
  | 1 => some ((d.hosted pc).getD 0)
  | 2 => some d.deviceId
  | 3 => some d.beat
  | 4 => some d.cycle
  | 5 => some (d.ctx pc c).retired
  | 6 => some (d.reg F.CELL_ARITH_STATUS.base pc)
  | 7 => some 0xB0
  | _ => none

/-- CSRR: XD := core value IMM; any other IMM is illegal. CSRR 6 shows the operations written back (R83, R94). -/
def execCsrr (pc : Slot) (c : Ctx) (f : FmtS) (s : State) : Host.Outcome State Fault Refusal :=
  s.run (fun d => d.issueScalar pc c (f.ok ⟨true, false, false, 0, 0xFFFFFFFF⟩ && decide (f.imm.toNat ≤ 7)) f.regs (fun d =>
    .next (d.writeX pc c f.xd.toNat (wOf ((d.coreValue pc c f.imm.toNat).getD 0)))))

/-- YIELD: the context returns to READY, behind its peers (R114). -/
def execYieldCtx (pc : Slot) (c : Ctx) (f : FmtS) (s : State) : Host.Outcome State Fault Refusal :=
  s.run (fun d => d.issue pc c (f.ok ⟨false, false, false, 0, 0⟩) (fun d =>
    .leave (d.modCtx pc c (fun x => { x.leave .ready none with pc := x.nextPc }))))

/-- NOP: no effect. -/
def execNop (pc : Slot) (c : Ctx) (f : FmtS) (s : State) : Host.Outcome State Fault Refusal :=
  s.run (fun d => d.issue pc c (f.ok ⟨false, false, false, 0, 0⟩) (fun d => .next d))

end Sys2Proof.Machine
end

