-- ==== Sys2Proof/Machine/Slab.lean ====
section
/-! DEFINITION. Slab operations, classes 0x4 to 0x6 (R90, R91, R93 to R101, Tables 03-2 and 03-3). -/

namespace Sys2Proof.Machine

/-! ## Elements of a slab -/

/-- Bytes regrouped into n little-endian numbers of k bytes. -/
def elemsOf (k : Nat) : Nat → List Byte → List Nat
  | 0, _ => []
  | n + 1, bs => leNat (bs.take k) :: elemsOf k n (bs.drop k)

/-- Numbers laid out as little-endian elements of k bytes. -/
def bytesOf (k : Nat) (es : List Nat) : List Byte := es.flatMap (leBytes k)

/-- Elements in a slab at k bytes each (N of Table 03-2). -/
def slabN (k : Nat) : Nat := 4096 / k

/-- Slab register v of a context as elements of k bytes (R86). -/
def Dev.slabElems (d : Dev) (pc c v k : Nat) : List Nat := elemsOf k (slabN k) (d.load (slabAddr pc c v) 4096)

/-- Bytes of an FP32 or BF16 element. -/
def fmtK (fmt : Nat) : Nat := fmtBits fmt / 8

/-- The vector unit takes FP32 and BF16 (Table 03-2). -/
def vecFmt (f : FmtV) : Bool := f.fmt = 0 || f.fmt = 1

/-- Bytes of an integer element at IW. -/
def iwK (f : FmtV) : Nat := 2 ^ (f.iw.toNat % 4)

/-- Operand VB, or XS broadcast to every element with BX (R90). -/
def Dev.slabB (d : Dev) (pc c k : Nat) (f : FmtV) : List Nat :=
  if f.bx then List.replicate (slabN k) (((d.ctx pc c).xr f.xs.toNat).toNat % 2 ^ (8 * k))
  else d.slabElems pc c f.vb.toNat k

/-! ## Issue of a slab operation -/

/-- A slab operation enters the vector unit: its result and status are those of the operands at issue, and SLAB_OP_WRITEBACK writes them (R93). The unit is busy for 8 cycles. -/
def Dev.putSlab (d : Dev) (pc c : Nat) (dst : SlabDst) (r : List Byte × Nat) : CoreEnd :=
  let x := d.ctx pc c
  .next ((d.modCell pc (fun s => { s with slabOps := s.slabOps ++ [SlabOp.mk c x.pc dst r.1 r.2 x.x] })).count F.CELL_VEC_BUSY pc 0 8)

/-- Some slab register of a list waits for its write (R94). -/
def Dev.slabsPending (d : Dev) (pc c : Nat) (vs : List Nat) : Bool := vs.any (d.slabPending pc c)

/-- Issues a slab operation: ill-formed words are illegal, a FMT that the unit does not take is a format fault where the operation uses FMT (R53, R91), and it waits for earlier operations on the registers it names (R94). -/
def Dev.issueSlab (d : Dev) (pc : Slot) (c : Ctx) (f : FmtV) (u : UseV) (extra : Bool) (slabs : List Nat) (k : Dev → CoreEnd) : Dev :=
  d.issue pc c (f.ok u && extra) (fun d =>
    if u.fmt && !vecFmt f then .fault d 0x06
    else if d.slabsPending pc c slabs || d.scalarPending pc c f.xs.toNat then .stay d
    else k d)

/-- Slab registers that a two-operand form names. -/
def slabsAB (f : FmtV) : List Nat := f.vd.toNat :: f.va.toNat :: (if f.bx then [] else [f.vb.toNat])

/-! ## Floating point (R59, R60, R95) -/

/-- Element results with their statuses joined. -/
def joinVec (k : Nat) (rs : List (Nat × VecFlags)) : List Byte × Nat :=
  (bytesOf k (rs.map Prod.fst), (rs.foldl (fun v r => v.or r.2) VecFlags.clear).status)

/-- Fields of a floating-point form with VA and VB. -/
def useFp : UseV := ⟨true, true, true, false, true, true, true, false, false, 0⟩

/-- VD := VA op VB. -/
def Dev.slabFp (d : Dev) (pc : Slot) (c : Ctx) (f : FmtV) (op : Nat → Nat → Nat → Nat × VecFlags) : Dev :=
  d.issueSlab pc c f useFp true (slabsAB f) (fun d =>
    let k := fmtK f.fmt.toNat
    d.putSlab pc c (.slab f.vd.toNat) (joinVec k (List.zipWith (op f.fmt.toNat) (d.slabElems pc c f.va.toNat k) (d.slabB pc c k f))))

/-- VADD: VD := VA + VB. -/
def execVadd (pc : Slot) (c : Ctx) (f : FmtV) (s : State) : Host.Outcome State Fault Refusal :=
  s.run (fun d => d.slabFp pc c f vecAdd)

/-- VSUB: VD := VA - VB. -/
def execVsub (pc : Slot) (c : Ctx) (f : FmtV) (s : State) : Host.Outcome State Fault Refusal :=
  s.run (fun d => d.slabFp pc c f vecSub)

/-- VMUL: VD := VA × VB. -/
def execVmul (pc : Slot) (c : Ctx) (f : FmtV) (s : State) : Host.Outcome State Fault Refusal :=
  s.run (fun d => d.slabFp pc c f vecMul)

/-- VMIN: VD := the smaller of VA and VB (R95). -/
def execVmin (pc : Slot) (c : Ctx) (f : FmtV) (s : State) : Host.Outcome State Fault Refusal :=
  s.run (fun d => d.slabFp pc c f vecMin)

/-- VMAX: VD := the larger of VA and VB (R95). -/
def execVmax (pc : Slot) (c : Ctx) (f : FmtV) (s : State) : Host.Outcome State Fault Refusal :=
  s.run (fun d => d.slabFp pc c f vecMax)

/-- VFMA over three operands. -/
def fmaElems (f : Nat) : List Nat → List Nat → List Nat → List (Nat × VecFlags)
  | a :: as, b :: bs, c :: cs => vecFma f a b c :: fmaElems f as bs cs
  | _, _, _ => []

/-- VFMA: VD := VA × VB + VC, rounded once. -/
def execVfma (pc : Slot) (c : Ctx) (f : FmtV) (s : State) : Host.Outcome State Fault Refusal :=
  s.run (fun d => d.issueSlab pc c f { useFp with vc := true } true (f.vc.toNat :: slabsAB f) (fun d =>
    let k := fmtK f.fmt.toNat
    d.putSlab pc c (.slab f.vd.toNat)
      (joinVec k (fmaElems f.fmt.toNat (d.slabElems pc c f.va.toNat k) (d.slabB pc c k f) (d.slabElems pc c f.vc.toNat k)))))

/-- A mask element of k bytes. -/
def maskElem (k : Nat) (b : Bool) : Nat := if b then 2 ^ (8 * k) - 1 else 0

/-- VCMP: a mask of VA against VB under COND (R96). -/
def execVcmp (pc : Slot) (c : Ctx) (f : FmtV) (s : State) : Host.Outcome State Fault Refusal :=
  s.run (fun d => d.issueSlab pc c f { useFp with cond := true } (condOk true f.cond.toNat) (slabsAB f) (fun d =>
    let k := fmtK f.fmt.toNat
    let m := List.zipWith (fun a b => maskElem k (fpCompare f.cond.toNat (fpDecode f.fmt.toNat a) (fpDecode f.fmt.toNat b)))
      (d.slabElems pc c f.va.toNat k) (d.slabB pc c k f)
    d.putSlab pc c (.slab f.vd.toNat) (bytesOf k m, 0)))

/-- One level of the tree: adjacent pairs added and rounded (R97). -/
def sumLevel (f : Nat) : List Nat → List Nat × VecFlags
  | a :: b :: es =>
    let r := vecAdd f a b
    let (rs, v) := sumLevel f es
    (r.1 :: rs, r.2.or v)
  | es => (es, VecFlags.clear)

/-- The tree over 2^n elements. -/
def sumTree (f : Nat) : Nat → List Nat → Nat × VecFlags
  | 0, es => (es.headD 0, VecFlags.clear)
  | n + 1, es =>
    let (rs, v) := sumLevel f es
    let (r, w) := sumTree f n rs
    (r, v.or w)

/-- VSUM: the pairwise tree sum of VA in element 0 of VD, zeros elsewhere (R97). -/
def execVsum (pc : Slot) (c : Ctx) (f : FmtV) (s : State) : Host.Outcome State Fault Refusal :=
  s.run (fun d => d.issueSlab pc c f ⟨true, true, false, false, true, false, false, false, false, 0⟩ true [f.vd.toNat, f.va.toNat] (fun d =>
    let k := fmtK f.fmt.toNat
    let r := sumTree f.fmt.toNat (if k = 4 then 10 else 11) (d.slabElems pc c f.va.toNat k)
    d.putSlab pc c (.slab f.vd.toNat) (leBytes k r.1 ++ List.replicate (4096 - k) 0, r.2.status)))

/-! ## Integers at width IW -/

/-- Fields of an integer form with VA and VB. -/
def useInt : UseV := ⟨true, true, true, false, false, true, true, false, true, 0⟩

/-- VD := VA op VB at width IW, modulo 2^w; `op` takes w. -/
def Dev.slabInt (d : Dev) (pc : Slot) (c : Ctx) (f : FmtV) (op : Nat → Nat → Nat → Nat) : Dev :=
  d.issueSlab pc c f useInt true (slabsAB f) (fun d =>
    let k := iwK f
    let w := 8 * k
    d.putSlab pc c (.slab f.vd.toNat)
      (bytesOf k (List.zipWith (fun a b => op w a b % 2 ^ w) (d.slabElems pc c f.va.toNat k) (d.slabB pc c k f)), 0))

/-- VIADD: VD := VA + VB. -/
def execViadd (pc : Slot) (c : Ctx) (f : FmtV) (s : State) : Host.Outcome State Fault Refusal :=
  s.run (fun d => d.slabInt pc c f (fun _ a b => a + b))

/-- VISUB: VD := VA - VB. -/
def execVisub (pc : Slot) (c : Ctx) (f : FmtV) (s : State) : Host.Outcome State Fault Refusal :=
  s.run (fun d => d.slabInt pc c f (fun w a b => a + 2 ^ w - b))

/-- VIMUL: the low half of VA × VB. -/
def execVimul (pc : Slot) (c : Ctx) (f : FmtV) (s : State) : Host.Outcome State Fault Refusal :=
  s.run (fun d => d.slabInt pc c f (fun _ a b => a * b))

/-- VAND: VD := VA and VB. -/
def execVand (pc : Slot) (c : Ctx) (f : FmtV) (s : State) : Host.Outcome State Fault Refusal :=
  s.run (fun d => d.slabInt pc c f (fun _ a b => a &&& b))

/-- VOR: VD := VA or VB. -/
def execVor (pc : Slot) (c : Ctx) (f : FmtV) (s : State) : Host.Outcome State Fault Refusal :=
  s.run (fun d => d.slabInt pc c f (fun _ a b => a ||| b))

/-- VXOR: VD := VA xor VB. -/
def execVxor (pc : Slot) (c : Ctx) (f : FmtV) (s : State) : Host.Outcome State Fault Refusal :=
  s.run (fun d => d.slabInt pc c f (fun _ a b => a ^^^ b))

/-- VSHL: VD := VA shifted left by VB modulo w. -/
def execVshl (pc : Slot) (c : Ctx) (f : FmtV) (s : State) : Host.Outcome State Fault Refusal :=
  s.run (fun d => d.slabInt pc c f (fun w a b => a <<< (b % w)))

/-- VSHR: VD := VA shifted right logically by VB modulo w. -/
def execVshr (pc : Slot) (c : Ctx) (f : FmtV) (s : State) : Host.Outcome State Fault Refusal :=
  s.run (fun d => d.slabInt pc c f (fun w a b => a >>> (b % w)))

/-- VSRA: VD := VA shifted right arithmetically by VB modulo w. -/
def execVsra (pc : Slot) (c : Ctx) (f : FmtV) (s : State) : Host.Outcome State Fault Refusal :=
  s.run (fun d => d.slabInt pc c f (fun w a b => ((BitVec.ofNat w a).sshiftRight (b % w)).toNat))

/-- VICMP: a mask of VA against VB under COND (R96). -/
def execVicmp (pc : Slot) (c : Ctx) (f : FmtV) (s : State) : Host.Outcome State Fault Refusal :=
  s.run (fun d => d.issueSlab pc c f { useInt with cond := true } (condOk false f.cond.toNat) (slabsAB f) (fun d =>
    let k := iwK f
    let m := List.zipWith (fun a b => maskElem k (intCompare f.cond.toNat (8 * k) a b)) (d.slabElems pc c f.va.toNat k) (d.slabB pc c k f)
    d.putSlab pc c (.slab f.vd.toNat) (bytesOf k m, 0)))

/-! ## Class 0x5: select, permute, convert, extract, broadcast (width IW, R90; VCVT by FMT, R98) -/

/-- Selection by the top bit of VC. -/
def selElems (w : Nat) : List Nat → List Nat → List Nat → List Nat
  | a :: as, b :: bs, c :: cs => (if bitOf c (w - 1) then a else b) :: selElems w as bs cs
  | _, _, _ => []

/-- VSEL: VA[i] where the most significant bit of VC[i] is 1, else VB[i]. -/
def execVsel (pc : Slot) (c : Ctx) (f : FmtV) (s : State) : Host.Outcome State Fault Refusal :=
  s.run (fun d => d.issueSlab pc c f { useInt with vc := true } true (f.vc.toNat :: slabsAB f) (fun d =>
    let k := iwK f
    d.putSlab pc c (.slab f.vd.toNat)
      (bytesOf k (selElems (8 * k) (d.slabElems pc c f.va.toNat k) (d.slabB pc c k f) (d.slabElems pc c f.vc.toNat k)), 0)))

/-- Element i of VA. -/
def Dev.slabElem (d : Dev) (pc c v k i : Nat) : Nat := d.loadNat (slabAddr pc c v + k * i) k

/-- VPERM: VD[i] := VA[VB[i] mod N]. -/
def execVperm (pc : Slot) (c : Ctx) (f : FmtV) (s : State) : Host.Outcome State Fault Refusal :=
  s.run (fun d => d.issueSlab pc c f useInt true (slabsAB f) (fun d =>
    let k := iwK f
    d.putSlab pc c (.slab f.vd.toNat)
      (bytesOf k ((d.slabB pc c k f).map (fun i => d.slabElem pc c f.va.toNat k (i % slabN k))), 0)))

/-- VROT: VD[i] := VA[(i + IMM16) mod N]. -/
def execVrot (pc : Slot) (c : Ctx) (f : FmtV) (s : State) : Host.Outcome State Fault Refusal :=
  s.run (fun d => d.issueSlab pc c f ⟨true, true, false, false, false, false, false, false, true, 0xFFFF⟩ true [f.vd.toNat, f.va.toNat] (fun d =>
    let k := iwK f
    d.putSlab pc c (.slab f.vd.toNat)
      (bytesOf k ((List.range (slabN k)).map (fun i => d.slabElem pc c f.va.toNat k ((i + f.imm16.toNat) % slabN k))), 0)))

/-- VCVT: FMT BF16 narrows VA and VB to BF16; FMT FP32 widens half of VA, chosen by IMM16[0] (R98). -/
def execVcvt (pc : Slot) (c : Ctx) (f : FmtV) (s : State) : Host.Outcome State Fault Refusal :=
  s.run (fun d =>
    if f.fmt = 0 then
      d.issueSlab pc c f ⟨true, true, false, false, true, false, false, false, false, 1⟩ true [f.vd.toNat, f.va.toNat] (fun d =>
        let es := ((d.slabElems pc c f.va.toNat 2).drop (1024 * (f.imm16.toNat % 2))).take 1024
        d.putSlab pc c (.slab f.vd.toNat) (joinVec 4 (es.map (vecCvt 1 0))))
    else
      d.issueSlab pc c f useFp true (slabsAB f) (fun d =>
        d.putSlab pc c (.slab f.vd.toNat) (joinVec 2 ((d.slabElems pc c f.va.toNat 4 ++ d.slabB pc c 4 f).map (vecCvt 0 1)))))

/-- VEXT: XS := VA[IMM16 mod N], zero-extended. -/
def execVext (pc : Slot) (c : Ctx) (f : FmtV) (s : State) : Host.Outcome State Fault Refusal :=
  s.run (fun d => d.issueSlab pc c f ⟨false, true, false, false, false, true, false, false, true, 0xFFFF⟩ true [f.va.toNat] (fun d =>
    let k := iwK f
    d.putSlab pc c (.scalar f.xs.toNat) (leBytes 8 (d.slabElem pc c f.va.toNat k (f.imm16.toNat % slabN k)), 0)))

/-- VBCAST: every element of VD := XS[w - 1:0]. -/
def execVbcast (pc : Slot) (c : Ctx) (f : FmtV) (s : State) : Host.Outcome State Fault Refusal :=
  s.run (fun d => d.issueSlab pc c f ⟨true, false, false, false, false, true, false, false, true, 0⟩ true [f.vd.toNat] (fun d =>
    let k := iwK f
    d.putSlab pc c (.slab f.vd.toNat)
      (bytesOf k (List.replicate (slabN k) (((d.ctx pc c).xr f.xs.toNat).toNat % 2 ^ (8 * k))), 0)))

/-- VZERO: VD := 0. -/
def execVzero (pc : Slot) (c : Ctx) (f : FmtV) (s : State) : Host.Outcome State Fault Refusal :=
  s.run (fun d => d.issueSlab pc c f ⟨true, false, false, false, false, false, false, false, false, 0⟩ true [f.vd.toNat] (fun d =>
    d.putSlab pc c (.slab f.vd.toNat) (List.replicate 4096 0, 0)))

/-! ## Class 0x6: VLD and VST (R100, R101) -/

/-- XS + IMM16 × 256, with IMM16 signed. -/
def Dev.slabMemAddr (d : Dev) (pc c : Nat) (f : FmtV) : Nat :=
  ((d.ctx pc c).xr f.xs.toNat + f.imm16.signExtend 64 * 256).toNat

/-- Checks of R100 for 4 KiB of the own window, then what is done there. -/
def Dev.slabAccess (d : Dev) (pc a : Nat) (k : Nat → CoreEnd) : CoreEnd :=
  if a % 256 ≠ 0 then .fault d 0x04
  else match d.ownSpad pc a 4096 with
    | none => .fault d 0x05
    | some off => k (sliceBase pc + off)

/-- Fields of VLD and VST. -/
def useVmem : UseV := ⟨true, false, false, false, false, true, false, false, false, 0xFFFF⟩

/-- VLD: VD := 4 KiB at XS + IMM16 × 256. -/
def execVld (pc : Slot) (c : Ctx) (f : FmtV) (u : Upsets) (s : State) : Host.Outcome State Fault Refusal :=
  s.run (fun d => d.issueSlab pc c f useVmem true [f.vd.toNat] (fun d =>
    let a := d.slabMemAddr pc c f
    d.slabAccess pc a (fun st =>
      let (d, ok) := d.checkWords st pc u
      if ok then .next ((d.copyMem st (slabAddr pc c f.vd.toNat) 4096).modCtx pc c (fun x => x.touch a 4096))
      else .stay d)))

/-- VST: 4 KiB at XS + IMM16 × 256 := VD. It waits for earlier slab operations, so that no store follows a residue fault (R107, R117). -/
def execVst (pc : Slot) (c : Ctx) (f : FmtV) (u : Upsets) (s : State) : Host.Outcome State Fault Refusal :=
  s.run (fun d => d.issueSlab pc c f useVmem true [f.vd.toNat] (fun d =>
    if d.anyPending pc c then .stay d
    else
      let a := d.slabMemAddr pc c f
      d.slabAccess pc a (fun st =>
        let (d, ok) := d.checkWords (slabAddr pc c f.vd.toNat) pc u
        if ok then .next ((d.copyMem (slabAddr pc c f.vd.toNat) st 4096).modCtx pc c (fun x => x.touch a 4096))
        else .stay d)))

/-! ## Write-back (R93, R94, R99, R382) -/

/-- SLAB_OP_WRITEBACK: the oldest slab operation of the cell writes its destination and sets its status. On a residue mismatch nothing is written, the context faults with RESIDUE at that instruction, its later slab operations and scalar results are undone, and the cell becomes a suspect. -/
def execSlabOpWriteback (pc : Slot) (residueBad : Bool) (s : State) : Host.Outcome State Fault Refusal :=
  s.run (fun d =>
    match (d.cell pc).slabOps with
    | [] => d
    | o :: os =>
      if residueBad then
        let d := d.modCell pc (fun s => { s with slabOps := os.filter (fun p => p.ctx != o.ctx) })
        let d := d.modCtx pc o.ctx (fun x => { x with x := o.x })
        (d.faultAt pc o.ctx 0x0B o.pc).containIntegrity pc
      else
        let d := d.modCell pc (fun s => { s with slabOps := os })
        let d := d.arith pc o.status
        match o.dst with
        | .slab k => d.store (slabAddr pc o.ctx k) o.result
        | .scalar r => d.writeX pc o.ctx r (wOf (leNat o.result)))

end Sys2Proof.Machine
end

