-- ==== Sys2Proof/Machine/Tasks.lean ====
section
/-! DEFINITION. Binding, ending, killing and freezing tasks (R109 to R116, R120 to R123, R504, R509). -/

namespace Sys2Proof.Machine

/-! ## Binding (R109 to R111) -/

/-- A task descriptor from its 64 bytes (Table 03-6). -/
def taskOf (bs : List Byte) : TaskDesc :=
  let n := fun o k => leNat ((bs.drop o).take k)
  { entry := n 0 4, codeBase := n 4 4, codeLimit := n 8 4, prio := n 12 1 % 4, doneCtr := n 13 1, doneEn := bitOf (n 14 2) 0,
    args := (List.range 6).map (fun i => wOf (n (16 + 8 * i) 8)) }

/-- The checks of R109 on a descriptor's contents, for the context being bound. DEDUCED, unsafe (log entry 33). -/
def taskOk (c : Nat) (bs : List Byte) : Bool :=
  let t := taskOf bs
  let n := fun o k => leNat ((bs.drop o).take k)
  t.entry % 8 = 0 && t.codeBase % 64 = 0 && t.codeLimit % 64 = 0 && t.codeBase ≤ t.entry && t.entry < t.codeLimit &&
  t.codeBase < t.codeLimit && t.codeLimit ≤ spadSize && n 12 1 < 4 && n 14 2 < 2 && !(t.doneEn && foreignPrivate c t.doneCtr)

/-- A context cannot be bound: READY, RUNNING, PARKED, or in a task switch (R109, R111). -/
def CtxState.busy (x : CtxState) : Bool :=
  x.phase = .ready || x.phase = .running || x.phase = .parked || (match x.act with | .switching .. => true | _ => false)

/-- A bind of context c by a descriptor at a slice offset (none: outside the slice's scratchpad part), with its result code (Table 03-7): MIGRATING, then BUSY, then BAD_DESC; an accepted bind starts the task switch, and a refused one changes nothing. DEDUCED, unsafe (log entry 33). -/
def Dev.bind (d : Dev) (pc c : Nat) (desc : Option Nat) (sched : Option Nat) : Nat × Dev :=
  match d.hosted pc with
  | none => (4, d)
  | some lc =>
    if d.migrating lc then (3, d)
    else if (d.ctx pc c).busy then (1, d)
    else match desc with
      | none => (2, d)
      | some off =>
        let bs := d.spad pc off 64
        if off % 64 ≠ 0 || spadSize < off + 64 || !taskOk c bs then (2, d)
        else
          let id := (d.cell pc).nextBind
          let d := d.modCell pc (fun s => { s with nextBind := s.nextBind + 1 })
          let d := d.modCtx pc c (fun x => { x with act := .switching (taskOf bs) sched, bindId := id, sched := none })
          (0, d.count F.CELL_TASK_SWITCHES pc)

/-- BIND: binds the descriptor at device address XA to context XB; XD := the result (R109). XB above 31 is an illegal instruction. -/
def execBindTask (pc : Slot) (c : Ctx) (f : FmtS) (s : State) : Host.Outcome State Fault Refusal :=
  s.run (fun d => d.issueOrdered pc c (f.ok ⟨true, true, true, 0, 0⟩) (fun d =>
    let x := d.ctx pc c
    let t := (x.xr f.xb.toNat).toNat
    if 31 < t then .fault d 0x01
    else
      let (r, d) := d.bind pc t (d.ownSpad pc (x.xr f.xa.toNat).toNat 64) none
      .next (d.writeX pc c f.xd.toNat (wOf r))))

/-- TASK_SWITCH_DONE: the clear and the loads of R110 are complete, and the context is READY with START set (R193). -/
def execTaskSwitchDone (pc : Slot) (c : Ctx) (s : State) : Host.Outcome State Fault Refusal :=
  s.run (fun d =>
    match (d.ctx pc c).act with
    | .switching t sched =>
      let d := d.clearCtx pc c
      let d := d.modArr pc (fun a => { a with loadDone := SMap.erase c a.loadDone, drains := SMap.erase c a.drains })
      let d := d.modCtx pc c (fun x => { (CtxState.setXs { x with x := [] } 1 t.args) with
        phase := .ready, wait := none, pc := wOf t.entry, prio := t.prio, codeBase := t.codeBase, codeLimit := t.codeLimit,
        doneEn := t.doneEn, doneCtr := t.doneCtr, start := true, retired := 0, sched := sched, act := .idle })
      d.reselect pc
    | _ => d)

/-- KILL_CLEAR_DONE: the clear that follows a KILL is complete (R113). -/
def execKillClearDone (pc : Slot) (c : Ctx) (s : State) : Host.Outcome State Fault Refusal :=
  s.run (fun d => if (d.ctx pc c).act = .clearing then (d.clearCtx pc c).modCtx pc c (fun x => { x with act := .idle }) else d)

/-! ## END and the time slice -/

/-- END: with every earlier instruction complete, DONE_CTR is posted if DONE_EN is set, the descriptors are released, and the context is DONE (R104, R113). -/
def execEndTask (pc : Slot) (c : Ctx) (f : FmtS) (s : State) : Host.Outcome State Fault Refusal :=
  s.run (fun d => d.issueOrdered pc c (f.ok ⟨false, false, false, 0, 0⟩) (fun d =>
    let x := d.ctx pc c
    let d := d.modCtx pc c (fun x => { x.leave .done none with pc := x.nextPc, sds := [] })
    .leave (if x.doneEn then d.addCounter pc x.doneCtr 1 else d)))

/-- TIME_SLICE_EXPIRY: the running context returns to READY when a READY context of equal priority waits (R114). -/
def execTimeSliceExpiry (pc : Slot) (c : Ctx) (s : State) : Host.Outcome State Fault Refusal :=
  s.run (fun d =>
    let x := d.ctx pc c
    if x.phase = .running && !((d.cell pc).readyOf x.prio).isEmpty && !d.isFrozen pc then
      (d.modCtx pc c (fun x => x.leave .ready none)).reselect pc
    else d)

/-! ## CELL_CTX_CTL (R111, R123, R504, R509) -/

/-- CELL_CTX_CTL_STATUS after a command. -/
def Dev.ctlStatus (d : Dev) (pc cmd c result : Nat) : Dev :=
  ((d.set F.CELL_CTX_CTL_STATUS_CMD cmd pc).set F.CELL_CTX_CTL_STATUS_CTX c pc).set F.CELL_CTX_CTL_STATUS_RESULT result pc

/-- A command written to CELL_CTX_CTL of a powered slot, answered in the order of R509; `k` carries it out. -/
def Dev.ctxCtl (d : Dev) (pc cmd c : Nat) (k : Dev → Nat × Dev) : Dev :=
  if !d.domOn pc then d
  else match d.hosted pc with
    | none => d.ctlStatus pc cmd c 4
    | some lc =>
      if d.migrating lc then d.ctlStatus pc cmd c 3
      else
        let (r, d) := k d
        d.ctlStatus pc cmd c r

/-- CTX_BIND: a bind by slice offset. -/
def execCtxBind (_m : Master) (pc : Slot) (c : Ctx) (desc : BitVec 24) (s : State) : Host.Outcome State Fault Refusal :=
  s.run (fun d => d.ctxCtl pc 1 c (fun d => d.bind pc c (some desc.toNat) none))

/-- CTX_KILL: the context is EMPTY at once and its clear starts (R112, R113). -/
def execCtxKill (_m : Master) (pc : Slot) (c : Ctx) (s : State) : Host.Outcome State Fault Refusal :=
  s.run (fun d => d.ctxCtl pc 2 c (fun d => (0, d.kill pc c)))

/-- CTX_FREEZE: sets the COMMAND freeze source (R504). -/
def execCtxFreeze (_m : Master) (pc : Slot) (c : Ctx) (s : State) : Host.Outcome State Fault Refusal :=
  s.run (fun d => d.ctxCtl pc 3 c (fun d => (0, d.setFreeze pc (fun f => { f with command := true }))))

/-- CTX_THAW: clears the COMMAND freeze source; the cell thaws if it was the last (R504). -/
def execCtxThaw (_m : Master) (pc : Slot) (c : Ctx) (s : State) : Host.Outcome State Fault Refusal :=
  s.run (fun d => d.ctxCtl pc 4 c (fun d => (0, d.setFreeze pc (fun f => { f with command := false }))))

/-- CELL_FREEZE_DONE: issue has stopped on every context of a cell that a freeze source holds, its slab operations have finished, and the cell reports FROZEN (R120). -/
def execCellFreezeDone (pc : Slot) (s : State) : Host.Outcome State Fault Refusal :=
  s.run (fun d => if d.isFrozen pc && (d.cell pc).slabOps.isEmpty then d.modCell pc (fun s => { s with frozen := true }) else d)

end Sys2Proof.Machine
end

