-- ==== Sys2Proof/Machine/Sync.lean ====
section
/-! DEFINITION. Sync counters: class 0x8, alignment entries, and debug access (R189 to R204). -/

namespace Sys2Proof.Machine

/-! ## Debug authorization (R14, R468) -/

/-- The holder number of a master. -/
def masterHolder : Master → Nat
  | .os => 0
  | .slolis => 1

/-- A grant is active that a master holds and whose scope has a bit of R468. -/
def Dev.dbgScope (d : Dev) (m : Master) (bit : Nat) : Bool :=
  d.bit F.SEC_DEBUG_ACTIVE && d.get F.SEC_DEBUG_HOLDER = masterHolder m && bitOf (d.get F.SEC_DEBUG_SCOPE) bit

/-- A master's write to a DBG field is authorized: the active grant is its own and has scope DBG_REG. DEDUCED, unsafe (log entry 81). -/
def Dev.dbgOk (d : Dev) (m : Master) : Bool := d.dbgScope m 0

/-- The record of a refused write to a DBG field (R14, event 0x0140). DEDUCED, unsafe (log entry 81). -/
def Dev.dbgRefused (d : Dev) (m : Master) (cls inst off : Nat) : Dev := d.record 0x0140 off cls inst 0 (masterHolder m)

/-! ## Committing (R193) -/

/-- An instruction of class 0x8 other than SSET, or of class 0x9 or 0xA, clears START when it commits. -/
def Dev.clearStart (d : Dev) (pc c : Nat) : Dev := d.modCtx pc c (fun x => { x with start := false })

/-- The instruction commits with a value in XD. -/
def Dev.commitSync (d : Dev) (pc c xd : Nat) (v : Nat) : CoreEnd := .next ((d.writeX pc c xd (wOf v)).clearStart pc c)

/-- Counter IMM[7:0]. -/
def ctrOf (f : FmtS) : Nat := f.imm.toNat % 256

/-- Issues a local counter instruction: another context's private counter faults COUNTER_ACCESS (R88). -/
def Dev.issueCtr (d : Dev) (pc : Slot) (c : Ctx) (f : FmtS) (u : UseS) (k : Dev → CoreEnd) : Dev :=
  d.issueOrdered pc c (f.ok u) (fun d => if foreignPrivate c (ctrOf f) then .fault d 0x07 else k d)

/-! ## Class 0x8 (Table 06-1) -/

/-- SADD: counter := counter + XA, saturating; XD := the value before (R190, R192, R195). Earlier stores are visible by then (R102). -/
def execSadd (pc : Slot) (c : Ctx) (f : FmtS) (s : State) : Host.Outcome State Fault Refusal :=
  s.run (fun d => d.issueCtr pc c f ⟨true, true, false, 0, 0xFF⟩ (fun d =>
    let old := d.counter pc (ctrOf f)
    (d.addCounter pc (ctrOf f) ((d.ctx pc c).xr f.xa.toNat).toNat).commitSync pc c f.xd.toNat old))

/-- A remote addition as a packet: the body is the counter (4 B), 4 zero bytes and the addend (8 B) (R191). -/
def saddPkt (dev lc src n amount : Nat) : PktSpec :=
  uPkt 0x0C dev (unitCell lc) (unitCell src) [] (leBytes 4 n ++ leBytes 4 0 ++ leBytes 8 amount)

/-- SADD with REMOTE: the addition is sent to a shared counter of a hosted logical cell of this device; XD := 0 (R191). DEDUCED, unsafe (log entry 34). -/
def execSaddRemote (pc : Slot) (c : Ctx) (f : FmtS) (s : State) : Host.Outcome State Fault Refusal :=
  s.run (fun d => d.issueOrdered pc c (f.ok ⟨true, true, true, 1, 0xFF⟩ && f.fl = 1) (fun d =>
    let x := d.ctx pc c
    let lc := (x.xr f.xb.toNat).toNat % 512
    if 191 < ctrOf f || (d.hostOf lc).isNone then .fault d 0x07
    else
      (d.send (saddPkt d.deviceId lc ((d.hosted pc).getD 0) (ctrOf f) (x.xr f.xa.toNat).toNat)).commitSync pc c f.xd.toNat 0))

/-- An enabled alignment entry names a counter (R199). -/
def Dev.aligned (d : Dev) (pc n : Nat) : Bool :=
  (List.range 16).any (fun k =>
    d.bit (F.CELL_SYNC_ALIGN_EN.nth k) pc && d.get (F.CELL_SYNC_ALIGN_COUNTER.nth k) pc = n)

/-- SSET: counter := XA, only while START is set, no context is parked on the counter and no enabled alignment entry names it; XD := the value before (R193). -/
def execSset (pc : Slot) (c : Ctx) (f : FmtS) (s : State) : Host.Outcome State Fault Refusal :=
  s.run (fun d => d.issueCtr pc c f ⟨true, true, false, 0, 0xFF⟩ (fun d =>
    let n := ctrOf f
    let x := d.ctx pc c
    if !x.start || !((d.cell pc).waiters n).isEmpty || d.aligned pc n then .fault d 0x07
    else .next ((d.putCounter pc n (x.xr f.xa.toNat).toNat).writeX pc c f.xd.toNat (wOf (d.counter pc n)))))

/-- SWAIT: with the counter at XA or above, XD := the counter; else the context parks with WAIT 0 (R196). -/
def execSwait (pc : Slot) (c : Ctx) (f : FmtS) (s : State) : Host.Outcome State Fault Refusal :=
  s.run (fun d => d.issueCtr pc c f ⟨true, true, false, 0, 0xFF⟩ (fun d =>
    let v := d.counter pc (ctrOf f)
    let t := ((d.ctx pc c).xr f.xa.toNat).toNat
    if t ≤ v then d.commitSync pc c f.xd.toNat v else .park d (.counter (ctrOf f) t)))

/-- SREAD: XD := the counter, with no ordering (R194). -/
def execSread (pc : Slot) (c : Ctx) (f : FmtS) (s : State) : Host.Outcome State Fault Refusal :=
  s.run (fun d => d.issueCtr pc c f ⟨true, false, false, 0, 0xFF⟩ (fun d =>
    d.commitSync pc c f.xd.toNat (d.counter pc (ctrOf f))))

/-! ## Alignment entries (R199 to R202) -/

/-- A write to an alignment entry: with EN it sets the counter to BASE, or leaves EN clear when the counter is private or another enabled entry names it (R200). -/
def Dev.writeAlign (d : Dev) (pc k v : Nat) : Dev :=
  let n := bitsOf v 61 54
  let clash := (List.range 16).any (fun j =>
    j != k && d.bit (F.CELL_SYNC_ALIGN_EN.nth j) pc && d.get (F.CELL_SYNC_ALIGN_COUNTER.nth j) pc = n)
  let ok := bitOf v 63 && decide (n ≤ 191) && !clash
  let w := setBitsOf (setBitsOf v 53 48 0) 63 63 (b2n ok)
  let d := d.setReg (F.CELL_SYNC_ALIGN.base + 8 * k) pc 0 w
  if ok then d.putCounter pc n (bitsOf v 47 32) else d

/-- ALIGN_ENTRY_WRITE (R200). -/
def execAlignEntryWrite (_m : Master) (pc : Slot) (n : Fin 16) (v : Word) (s : State) : Host.Outcome State Fault Refusal :=
  s.run (fun d => if d.domOn pc then d.writeAlign pc n v.toNat else d)

/-- Re-alignment of one entry (R201, R202). -/
def Dev.realignEntry (d : Dev) (pc k : Nat) : Dev :=
  if !d.bit (F.CELL_SYNC_ALIGN_EN.nth k) pc then d
  else
    let n := d.get (F.CELL_SYNC_ALIGN_COUNTER.nth k) pc
    let base := d.get (F.CELL_SYNC_ALIGN_BASE.nth k) pc
    let expect := d.get (F.CELL_SYNC_ALIGN_EXPECT.nth k) pc
    let role := d.get (F.CELL_SYNC_ALIGN_ROLE.nth k) pc
    let delta := (d.counter pc n + 2 ^ 64 - base) % 2 ^ 64
    let ws := (d.cell pc).waiters n
    let name := match ws with
      | [] => d.noCtx
      | c :: _ => ctxName d.deviceId ((d.hosted pc).getD 0) c (d.ctx pc c).pc.toNat
    let w := b2n (!ws.isEmpty)
    let d := if delta ≠ expect || w = 1 then
        let d := d.recordCtx 0x0130 k 2 pc 2 name delta expect (n + role * 2 ^ 8 + w * 2 ^ 9)
        let d := ((d.set F.CELL_SYNC_DRIFT_LAST_VALID 1 pc).set F.CELL_SYNC_DRIFT_LAST_WAITER w pc).set F.CELL_SYNC_DRIFT_LAST_ENTRY k pc
        (d.set F.CELL_SYNC_DRIFT_LAST_DELTA (delta % 2 ^ 32) pc).count F.CELL_SYNC_DRIFTS pc
      else d
    let d := ws.foldl (fun d c => d.fault pc c 0x07) d
    d.putCounter pc n base

/-- Re-alignment of a cell, in entry order (R201). -/
def Dev.realign (d : Dev) (pc : Nat) : Dev := (List.range 16).foldl (fun d k => d.realignEntry pc k) d

/-! ## Debug access (R203, R204) -/

/-- SYNC_VALUE_WRITE: sets the selected counter with debug authorization, on a slot that hosts a logical cell that is not MIGRATING; RESULT says which condition fails first (R203, R204). -/
def execSyncValueWrite (m : Master) (pc : Slot) (v : Word) (s : State) : Host.Outcome State Fault Refusal :=
  s.run (fun d =>
    let n := d.get F.CELL_SYNC_SEL_CTR pc
    if !d.domOn pc then d
    else if !d.dbgOk m then (d.dbgRefused m 2 pc 0x608).set F.CELL_SYNC_SEL_RESULT 1 pc
    else match d.hosted pc with
      | none => d.set F.CELL_SYNC_SEL_RESULT 3 pc
      | some lc =>
        if d.migrating lc then d.set F.CELL_SYNC_SEL_RESULT 2 pc
        else
          let old := d.counter pc n
          let d := (d.record 0x0132 n 2 pc 0 old v.toNat).count F.CELL_SYNC_DBG_WRITES pc
          (d.putCounter pc n v.toNat).set F.CELL_SYNC_SEL_RESULT 0 pc)

end Sys2Proof.Machine
end

