-- ==== Sys2Proof/Machine/Array.lean ====
section
/-! DEFINITION. The array: configuration images, planes, launches, matrix products with their tile check, and drains (R124, R128 to R132, R139 to R158, R436, R505). -/

namespace Sys2Proof.Machine

/-! ## Images (R129, R130, R132) -/

/-- n bytes of an image at an offset, as a number. -/
def imgN (img : List Byte) (off n : Nat) : Nat := leNat ((img.drop off).take n)

/-- IMAGE_ID of an image. -/
def imgId (img : List Byte) : Nat := imgN img 2 2

/-- The image is a DATAFLOW image. -/
def imgDataflow (img : List Byte) : Bool := imgN img 8 1 = 1

/-- A_FMT, B_FMT and OUT_FMT of a MATMUL image. -/
def imgFmts (img : List Byte) : Nat × Nat × Nat := (imgN img 9 1, imgN img 10 1, imgN img 11 1)

/-- Header fields in range (Table 04-1), given the bytes of the header. -/
def headerOk (img : List Byte) : Bool :=
  let size := imgN img 4 4
  imgN img 0 2 = 1 && 1 ≤ imgId img && size % 64 = 0 && imgN img 16 240 = 0 &&
  (if imgN img 8 1 = 0 then
     size = 256 && fmtArrayIn (imgN img 9 1) && fmtArrayIn (imgN img 10 1) && fmtArrayOut (imgN img 11 1)
   else imgN img 8 1 = 1 && 78400 ≤ size && size ≤ 98304 && imgN img 9 3 = 0)

/-- The CRC of an image: of all its bytes with the field as zero. -/
def imgCrc (img : List Byte) : Nat := crc32c (img.take 12 ++ [0, 0, 0, 0] ++ img.drop 16)

/-- A lane record (Table 04-2). -/
structure LaneRec where
  op : Nat
  ins : List Nat
  outs : Nat
  fa : Nat
  fb : Nat
  fo : Nat
  pass : Nat
  count : Nat
  const : Nat
  routeT : Nat
  routeF : Nat
  tabStart : Nat
  tabLen : Nat
  res : Nat
  deriving DecidableEq, Repr

/-- The record of logical lane i = 33s + l. -/
def laneRec (img : List Byte) (i : Nat) : LaneRec :=
  let r := (img.drop (0x100 + 64 * i)).take 64
  let n := fun o k => imgN r o k
  ⟨n 0 1, [n 1 1, n 2 1, n 3 1], n 4 1, n 5 1, n 6 1, n 7 1, n 8 2, n 12 4, n 16 8, n 24 2, n 26 2, n 28 2, n 30 2, n 10 2 + n 32 32⟩

/-- Output side to which a lane passes words that arrive at a side (0 N, 1 E, 2 S, 3 W); none where it does not. -/
def LaneRec.passTo (r : LaneRec) (side : Nat) : Option Nat :=
  match bitsOf r.pass (3 * side + 2) (3 * side) with
  | 0 => none
  | k => some (k - 1)

/-- Formats that an operation reads: of operand A, and of operand B. -/
def LaneRec.reads (r : LaneRec) : Bool × Bool :=
  match r.op with
  | 2 | 3 | 4 | 5 | 6 | 8 => (true, true)
  | 7 => (true, false)
  | _ => (false, false)

/-- Sides that a lane sends words out of: its result's, then those of its pass-throughs. -/
def LaneRec.sends (r : LaneRec) : List Nat :=
  (if r.op = 0 then [] else (List.range 4).filter (bitOf r.outs)) ++ (List.range 4).filterMap r.passTo

/-- A lane record is well-formed (R132). -/
def LaneRec.ok (r : LaneRec) (s tableWords : Nat) : Bool :=
  r.op ≤ 0x0A && r.ins.all (fun i => decide (i ≤ 4)) && r.outs ≤ 15 && r.res = 0 && r.pass / 2 ^ 12 = 0 &&
  (List.range 4).all (fun k => decide (bitsOf r.pass (3 * k + 2) (3 * k) ≤ 4)) &&
  (r.fa ≤ 8 || r.fa = 15) && (r.fb ≤ 8 || r.fb = 15) &&
  (!r.reads.1 || (1 ≤ r.fa && r.fa ≤ 8)) && (!r.reads.2 || (1 ≤ r.fb && r.fb ≤ 8)) &&
  [0x00, 0x01, 0x03, 0x04, 0x0F].contains r.fo && r.routeT ≤ 15 && r.routeF ≤ 15 &&
  (r.op != 2 || 1 ≤ r.count) && (r.op != 10 || (1 ≤ r.tabLen && r.tabStart + r.tabLen ≤ tableWords)) &&
  r.sends.Nodup && !(s = 0 && r.sends.contains 0) && !(s = 32 && r.sends.contains 2)

/-- A steering record (Table 04-4). -/
structure SteerRec where
  mode : Nat
  dataDepth : Nat
  tokenDepth : Nat
  dataSrc : Nat
  tokenSrc : Nat
  credit : Nat
  routes : List Nat
  res : Nat
  deriving DecidableEq, Repr

/-- The record of steering unit u. -/
def steerRec (img : List Byte) (u : Nat) : SteerRec :=
  let r := (img.drop (0x11140 + 128 * u)).take 128
  let n := fun o k => imgN r o k
  ⟨n 0 1, n 1 1, n 2 1, n 3 1, n 4 1, n 5 1, (List.range 15).map (fun i => n (8 + 2 * i) 2), n 6 2 + n 0x26 90⟩

/-- Where an input of a steering unit comes from: an end-lane output, numbered 2s west and 2s + 1 east, or a stream port. -/
inductive SteerSrc where
  | edge (e : Nat)
  | port (n : Nat)
  deriving DecidableEq, Repr

/-- The source that a DATA_SRC or TOKEN_SRC names for unit u; none beyond the first or last strip. -/
def steerSrc (u src : Nat) : Option SteerSrc :=
  match src % 4 with
  | 0 => some (.edge u)
  | 1 => if 2 ≤ u then some (.edge (u - 2)) else none
  | 2 => if u + 2 ≤ 65 then some (.edge (u + 2)) else none
  | _ => some (.port (bitsOf src 6 4))

/-- Sources that a unit uses. -/
def SteerRec.sources (r : SteerRec) (u : Nat) : List (Option SteerSrc) :=
  match r.mode with
  | 0 => []
  | 1 => [steerSrc u r.dataSrc]
  | _ => [steerSrc u r.dataSrc, steerSrc u r.tokenSrc]

/-- The ROUTE entries in use: the first in PASS mode, all in STEER mode. -/
def SteerRec.used (r : SteerRec) : List Nat :=
  match r.mode with
  | 0 => []
  | 1 => r.routes.take 1
  | _ => r.routes

/-- Output ports that the routes of a unit name, each once. -/
def SteerRec.outPorts (r : SteerRec) : List Nat :=
  ((r.used.filter (fun x => x % 4 = 2)).map (fun x => bitsOf x 6 4)).dedup

/-- A steering record is well-formed (R132). -/
def SteerRec.ok (r : SteerRec) (u : Nat) : Bool :=
  r.mode ≤ 2 && r.res = 0 && within 0x73 r.dataSrc && within 0x73 r.tokenSrc && r.routes.all (within 0x73) &&
  (r.mode = 0 || (1 ≤ r.dataDepth && r.dataDepth ≤ 64)) &&
  (r.mode != 2 || (1 ≤ r.tokenDepth && r.tokenDepth ≤ 64 && r.credit ≤ r.tokenDepth)) &&
  (r.sources u).all Option.isSome

/-- The records of all steering units. -/
def steerRecs (img : List Byte) : List (Nat × SteerRec) := (List.range 66).map (fun u => (u, steerRec img u))

/-- Input ports of a DATAFLOW image. -/
def imgInPorts (img : List Byte) : List Nat :=
  ((steerRecs img).flatMap (fun e => e.2.sources e.1)).filterMap (fun s => match s with
    | some (.port n) => some n
    | _ => none)

/-- Output ports of a DATAFLOW image, once for each unit that names them. -/
def imgOutPorts (img : List Byte) : List Nat := (steerRecs img).flatMap (fun e => e.2.outPorts)

/-- The checks of R132 on a DATAFLOW image beyond its header. -/
def dataflowOk (img : List Byte) : Bool :=
  let words := (imgN img 4 4 - 0x13240) / 8
  let units := steerRecs img
  (List.range 1089).all (fun i => (laneRec img i).ok (i / 33) words) && units.all (fun e => e.2.ok e.1) &&
  (units.flatMap (fun e => e.2.sources e.1)).Nodup && (imgOutPorts img).Nodup

/-- The image at a device address: its bytes, or none if the load fails with BAD_IMAGE (R129, R132). -/
def Dev.readImage (d : Dev) (pc a : Nat) : Option (List Byte) :=
  if a % 64 ≠ 0 then none
  else match d.ownSpad pc a 256 with
    | none => none
    | some off =>
      let size := d.spadNat pc (off + 4) 4
      if headerOk (d.spad pc off 256) && decide (off + size ≤ spadSize) then
        let img := d.spad pc off size
        if imgN img 12 4 = imgCrc img && (!imgDataflow img || dataflowOk img) then some img else none
      else none

/-! ## Planes -/

/-- The plane that is not active. -/
def ArrayState.shadow (a : ArrayState) : Nat := if a.active then 0 else 1

/-- The active plane. -/
def ArrayState.activePlane (a : ArrayState) : Nat := if a.active then 1 else 0

/-- Bytes of a plane. -/
def ArrayState.plane (a : ArrayState) (n : Nat) : List Byte := if n = 0 then a.plane0 else a.plane1

/-- The array with a plane's bytes set. -/
def ArrayState.setPlane (a : ArrayState) (n : Nat) (img : List Byte) : ArrayState :=
  if n = 0 then { a with plane0 := img } else { a with plane1 := img }

/-- The array of a cell. -/
def Dev.arr (d : Dev) (pc : Nat) : ArrayState := (d.cell pc).arr

/-- STATE of a plane (Table 04-12): 0 EMPTY, 1 LOADING, 2 VALID, 3 INVALID. -/
def Dev.planeState (d : Dev) (pc n : Nat) : Nat := d.get (F.CELL_ARR_PLANE_STATE.nth n) pc

/-- A plane is VALID and holds an image. -/
def Dev.planeHolds (d : Dev) (pc n id : Nat) : Bool :=
  d.planeState pc n = 2 && d.get (F.CELL_ARR_PLANE_IMAGE_ID.nth n) pc = id

/-- The plane that a launch of an image uses: the active one where it holds the image, else the shadow plane (R143). -/
def Dev.planeOf (d : Dev) (pc id : Nat) : Option Nat :=
  let a := d.arr pc
  if d.planeHolds pc a.activePlane id then some a.activePlane
  else if d.planeHolds pc a.shadow id then some a.shadow
  else none

/-- The shadow plane holds the image of the pending launch (R140). -/
def Dev.shadowHeld (d : Dev) (pc : Nat) : Bool :=
  match (d.arr pc).pend with
  | some l => d.planeHolds pc (d.arr pc).shadow l.imageId
  | none => false

/-- The word CELL_ARR_STATUS shows (Table 04-11). DEDUCED, unsafe (log entry 80). -/
def Dev.arrStatus (d : Dev) (pc : Nat) : Nat :=
  let a := d.arr pc
  (match a.run with
   | some l => l.desc.handle * 2 ^ 32 + 2 ^ 31 + l.desc.ctx * 2 ^ 26 + b2n (l.drain.isSome && !l.held) * 2 ^ 18 + b2n l.held * 2 ^ 17
   | none => 0) +
  (match a.pend with
   | some l => 2 ^ 25 + l.ctx * 2 ^ 20
   | none => 0) + b2n a.active * 2 ^ 19

/-! ## Format S of class 0xA -/

/-- Fields of an array instruction (Table 04-6); `fl` is the mask of FL. -/
def useArr (fl : Nat) : UseS := ⟨true, true, false, fl, 0⟩

/-- XA of an instruction. -/
def Dev.xaOf (d : Dev) (pc c : Nat) (f : FmtS) : Nat := ((d.ctx pc c).xr f.xa.toNat).toNat

/-! ## ALOAD (R139, R140) -/

/-- ALOAD: a context that has not asked yet joins the loads that wait, in order of issue, and parks; it commits with its load's result when it runs again. -/
def Dev.aload (d : Dev) (pc c : Nat) (f : FmtS) : CoreEnd :=
  let a := d.arr pc
  match SMap.find c a.loadDone with
  | some r => (d.modArr pc (fun a => { a with loadDone := SMap.erase c a.loadDone })).commitSync pc c f.xd.toNat r
  | none =>
    if a.load.any (fun l => l.ctx = c) || a.loadWait.any (fun l => l.ctx = c) then .park d .plane
    else .park (d.modArr pc (fun a => { a with loadWait := a.loadWait ++ [⟨c, d.xaOf pc c f⟩] })) .plane

/-- ALOAD (R140). -/
def execAload (pc : Slot) (c : Ctx) (f : FmtS) (s : State) : Host.Outcome State Fault Refusal :=
  s.run (fun d => d.issueOrdered pc c (f.ok (useArr 0)) (fun d => d.aload pc c f))

/-- ALOAD_START (R140): the load that has waited longest starts once no other runs and the shadow plane does not hold the pending launch's image; a frozen array starts none. -/
def Dev.aloadStart (d : Dev) (pc : Nat) : Dev :=
  let a := d.arr pc
  if !d.domOn pc || d.isFrozen pc || a.load.isSome || d.shadowHeld pc then d
  else match a.loadWait with
    | [] => d
    | l :: ls =>
      (d.modArr pc (fun a => { a with load := some l, loadWait := ls })).setReg (F.CELL_ARR_PLANE.base + 8 * a.shadow) pc 0 (1 * 2 ^ 18)

/-- ALOAD_START. -/
def execAloadStart (pc : Slot) (s : State) : Host.Outcome State Fault Refusal := s.run (fun d => d.aloadStart pc)

/-- ALOAD_DONE (R132, R139): the shadow plane becomes VALID with the image, or INVALID with result BAD_IMAGE, and the contexts that wait for a plane run again. -/
def Dev.aloadDone (d : Dev) (pc : Nat) : Dev :=
  let a := d.arr pc
  match a.load with
  | none => d
  | some l =>
    let reg := F.CELL_ARR_PLANE.base + 8 * a.shadow
    let fin := fun (d : Dev) (r : Nat) => (d.modArr pc (fun a => { a with
      load := none, loadDone := if l.ctx < 32 then SMap.insert l.ctx r a.loadDone else a.loadDone })).wakePlane pc
    match d.readImage pc l.addr with
    | some img =>
      fin ((d.modArr pc (fun a => a.setPlane a.shadow img)).setReg reg pc 0 (2 * 2 ^ 18 + b2n (imgDataflow img) * 2 ^ 16 + imgId img)) 0
    | none => fin ((d.modArr pc (fun a => a.setPlane a.shadow [])).setReg reg pc 0 (3 * 2 ^ 18)) 1

/-- ALOAD_DONE. -/
def execAloadDone (pc : Slot) (s : State) : Host.Outcome State Fault Refusal := s.run (fun d => d.aloadDone pc)

/-! ## ALAUNCH (R141, R142, R147, R148) -/

/-- Rows and bytes of a row that a launch addresses in a port's stream, whether it writes, and the format its descriptor must name; none asks for no format. -/
structure PortNeed where
  port : Nat
  rows : Nat
  bytes : Nat
  write : Bool
  fmt : Option Nat
  deriving DecidableEq, Repr

/-- The ports of a MATMUL launch (R147, R148). -/
def matmulPorts (fa fb fo m n k : Nat) (seed : Bool) : List PortNeed :=
  [⟨0, m, packedSize fa k, false, some fa⟩, ⟨1, k, packedSize fb n, false, some fb⟩, ⟨2, m, packedSize fo n, true, some fo⟩] ++
  (if fmtIsMx fa then [⟨3, m, k / 32, false, some fa⟩] else []) ++
  (if fmtIsMx fb then [⟨4, k / 32, n, false, some fb⟩] else []) ++
  (if fmtIsMx fo then [⟨5, m, n / 32, true, some fo⟩] else []) ++
  (if seed then [⟨6, m, 26 * n, false, some 0x0F⟩] else [])

/-- The ports of a DATAFLOW launch: every row of the stream bound to each. -/
def dataflowPorts (img : List Byte) (sd : Nat → Option StreamDesc) : List PortNeed :=
  let need := fun (w : Bool) (p : Nat) =>
    let s := sd p
    PortNeed.mk p ((s.map StreamDesc.rows).getD 0) ((s.map StreamDesc.rowBytes).getD 0) w none
  (imgInPorts img).map (need false) ++ (imgOutPorts img).map (need true)

/-- A descriptor serves a port's need. -/
def PortNeed.served (p : PortNeed) (s : StreamDesc) : Bool :=
  (if p.write then s.dir = 1 || s.dir = 2 else s.dir = 0 || s.dir = 2) && p.rows ≤ s.rows && p.bytes ≤ s.rowBytes &&
  (match p.fmt with | some f => s.fmt = f | none => true)

/-- First address of row i of a stream. -/
def StreamDesc.rowAt (s : StreamDesc) (i : Nat) : Int := (s.base : Int) + (i : Int) * s.rowStride

/-- Addresses from the first to after the last byte addressed in each row of a port's stream. -/
def PortNeed.spans (p : PortNeed) (s : StreamDesc) : List (Int × Int) :=
  (List.range p.rows).map (fun i => (s.rowAt i, s.rowAt i + p.bytes))

/-- Two spans share a byte. -/
def spansMeet (a b : Int × Int) : Bool := decide (a.1 < b.2) && decide (b.1 < a.2)

/-- A launch descriptor (Table 04-7): the 64 bytes at XA. -/
structure LaunchWords where
  imageId : Nat
  doneCtr : Nat
  tileCtr : Nat
  flags : Nat
  ports : List Nat
  m : Nat
  n : Nat
  k : Nat
  res : Nat
  deriving DecidableEq, Repr

/-- The fields of a launch descriptor. -/
def launchWords (b : List Byte) : LaunchWords :=
  let n := fun o k => imgN b o k
  ⟨n 0 2, n 2 1, n 3 1, n 4 2, (List.range 8).map (fun i => n (8 + i) 1), n 16 4, n 20 4, n 24 4, n 6 2 + n 28 4 + n 40 24⟩

/-- The stream descriptors that a launch binds, by port; none if a PORT byte is out of range or names no declared descriptor. -/
def boundPorts (x : CtxState) (w : LaunchWords) : Option (SMap StreamDesc) :=
  (List.range 8).foldr (fun p acc =>
    let b := w.ports.getD p 0
    match acc with
    | none => none
    | some m =>
      if b &&& 0x78 ≠ 0 then none
      else if bitOf b 7 then (SMap.find (b % 8) x.sds).map (fun s => (p, s) :: m)
      else some m) (some [])

/-- M, N and K by R141. -/
def dimsOk (dataflow : Bool) (fa fb fo : Nat) (w : LaunchWords) : Bool :=
  if dataflow then w.m = 0 && w.n = 0 && w.k = 0
  else
    [w.m, w.n, w.k].all (fun v => decide (1 ≤ v) && decide (v ≤ 65536)) &&
    (!(fmtIsMx fa || fmtIsMx fb) || w.k % 32 = 0) && (!(fmtIsFp6 fa || fmtIsFp6 fb) || w.k % 4 = 0) && (!fmtIsMx fo || w.n % 32 = 0)

/-- The checks of R141: the streams that the launch binds, or none for BAD_LAUNCH. -/
def Dev.checkLaunch (d : Dev) (pc c : Nat) (w : LaunchWords) : Option (SMap StreamDesc) :=
  match d.planeOf pc w.imageId with
  | none => none
  | some p =>
    let img := (d.arr pc).plane p
    let df := imgDataflow img
    let (fa, fb, fo) := imgFmts img
    if w.res ≠ 0 || 4 ≤ w.flags || (df && bitOf w.flags 0) || !dimsOk df fa fb fo w || foreignPrivate c w.doneCtr ||
       (bitOf w.flags 1 && foreignPrivate c w.tileCtr) then none
    else match boundPorts (d.ctx pc c) w with
      | none => none
      | some sds =>
        let needs := if df then dataflowPorts img (fun p => SMap.find p sds)
          else matmulPorts fa fb fo w.m w.n w.k (bitOf w.flags 0)
        let served := needs.all (fun p => match SMap.find p.port sds with
          | some s => p.served s
          | none => false)
        let others := sds.all (fun e => needs.any (fun p => p.port = e.1))
        let spans := fun (wr : Bool) => (needs.filter (fun p => p.write = wr)).flatMap (fun p => match SMap.find p.port sds with
          | some s => p.spans s
          | none => [])
        let apart := (spans true).all (fun o => (spans false).all (fun i => !spansMeet o i))
        if served && others && apart then some sds else none

/-- CELL_ARR_FAULT latches a protocol fault or BAD_LAUNCH, or sets LOST (R137). -/
def Dev.latchArrFault (d : Dev) (pc kind unit lane ta tb : Nat) : Dev :=
  if d.bit F.CELL_ARR_FAULT_VALID pc then d.set F.CELL_ARR_FAULT_LOST 1 pc
  else
    d.setReg F.CELL_ARR_FAULT.base pc 0
      (b2n (d.bit F.CELL_ARR_FAULT_LOST pc) * 2 ^ 62 + 2 ^ 63 + kind * 2 ^ 48 + unit * 2 ^ 40 + lane * 2 ^ 29 + ta * 2 ^ 8 + tb)

/-- ALAUNCH: parks while a launch is pending or a plane loads, then reads and checks the descriptor and queues the launch, or faults with ARRAY. -/
def Dev.alaunch (d : Dev) (pc c : Nat) (f : FmtS) : CoreEnd :=
  let a := d.arr pc
  let x := d.ctx pc c
  let addr := d.xaOf pc c f
  if a.pend.isSome || d.planeState pc 0 = 1 || d.planeState pc 1 = 1 then .park d .plane
  else match d.coreAddr addr 64 with
    | none => .fault d 0x03
    | some st =>
      let w := launchWords (d.load st 64)
      match d.checkLaunch pc c w with
      | none => .fault (d.latchArrFault pc 7 0xFF 0 0 0) 0x0A
      | some sds =>
        let l : LaunchDesc := { handle := a.nextHandle, ctx := c, bindId := x.bindId, sched := x.sched, pc := x.pc, imageId := w.imageId, doneCtr := w.doneCtr, tileCtr := w.tileCtr, seed := bitOf w.flags 0, tileEn := bitOf w.flags 1, ports := sds, m := w.m, n := w.n, k := w.k, statusAddr := addr + 0x20 }
        (d.modArr pc (fun a => { a with pend := some l, nextHandle := (a.nextHandle + 1) % 2 ^ 32 })).commitSync pc c f.xd.toNat l.handle

/-- ALAUNCH (R141). -/
def execAlaunch (pc : Slot) (c : Ctx) (f : FmtS) (s : State) : Host.Outcome State Fault Refusal :=
  s.run (fun d => d.issueOrdered pc c (f.ok (useArr 0)) (fun d => d.alaunch pc c f))

/-! ## ASTAT and ADRAIN (R145, R146) -/

/-- Status word of a running launch, or of one that ends in a state. -/
def Launch.status (l : Launch) (st : Nat) : Nat := launchStatus l.desc.handle st l.inexact l.retried l.ovf l.under

/-- The status word that ASTAT returns, and whether the launch has not ended. -/
def ArrayState.statusOf (a : ArrayState) (h : Nat) : Nat × Bool :=
  match a.run.filter (fun l => l.desc.handle = h), a.pend.filter (fun l => l.handle = h), (a.ended.reverse.find? (fun e => e.handle = h)) with
  | some l, _, _ => (l.status 1, true)
  | none, some _, _ => (launchStatus h 0 false false false false, true)
  | none, none, some e => (e.status, false)
  | none, none, none => (launchStatus h 7 false false false false, false)

/-- ASTAT (R145). -/
def execAstat (pc : Slot) (c : Ctx) (f : FmtS) (s : State) : Host.Outcome State Fault Refusal :=
  s.run (fun d => d.issueOrdered pc c (f.ok (useArr 1)) (fun d =>
    let h := d.xaOf pc c f % 2 ^ 32
    let (w, live) := (d.arr pc).statusOf h
    if bitOf f.fl.toNat 0 && live then .park d (.launchEnd h)
    else d.commitSync pc c f.xd.toNat w))

/-- ADRAIN: a pending launch is removed, a running one drained, and one that has ended or has written its last output is left as it is. -/
def Dev.adrain (d : Dev) (pc c : Nat) (f : FmtS) : CoreEnd :=
  let a := d.arr pc
  let h := d.xaOf pc c f % 2 ^ 32
  let fin := fun (d : Dev) (v : Nat) =>
    (d.modArr pc (fun a => { a with drains := SMap.erase c a.drains })).commitSync pc c f.xd.toNat v
  let own := fun (l : LaunchDesc) => l.handle = h && l.ctx = c
  let asked := SMap.find c a.drains = some h
  match a.run.filter (fun l => own l.desc), a.pend.filter own, a.ended.reverse.find? (fun e => e.handle = h && e.ctx = c) with
  | some l, _, _ =>
    if asked then .park d (.launchEnd h)
    else if l.committed then fin d 1
    else .park ((d.abortLaunches pc c .adrain (some h)).modArr pc (fun a => { a with drains := SMap.insert c h a.drains })) (.launchEnd h)
  | none, some _, _ => fin (d.abortLaunches pc c .adrain (some h)) 0
  | none, none, some _ => fin d (if asked then 0 else 1)
  | none, none, none => fin d (if asked then 0 else 2)

/-- ADRAIN (R146). -/
def execAdrain (pc : Slot) (c : Ctx) (f : FmtS) (s : State) : Host.Outcome State Fault Refusal :=
  s.run (fun d => d.issueOrdered pc c (f.ok (useArr 0)) (fun d => d.adrain pc c f))

/-! ## LAUNCH_START (R128, R136, R143) -/

/-- Credit tokens that a unit holds at launch start: ANY set, ROUTE 0 (R136). -/
def creditToken : AWord := ⟨true, 0, 0x10⟩

/-- The steering units at launch start. -/
def startUnits (img : List Byte) : SMap UnitState :=
  (steerRecs img).filterMap (fun e => if e.2.mode = 2 && 1 ≤ e.2.credit then some (e.1, ⟨[], List.replicate e.2.credit creditToken⟩) else none)

/-- A launch at its start. -/
def startLaunch (l : LaunchDesc) (img : List Byte) : Launch :=
  { desc := l, dataflow := imgDataflow img, tile := 0, repeating := none, inexact := false, retried := false, under := false,
    ovf := false, portPos := [], lanes := [], units := if imgDataflow img then startUnits img else [], edges := [], ending := none,
    drain := none, held := false }

/-- LAUNCH_START: the pending launch starts when none runs, on the active plane where that holds its image, else after a swap; a frozen array starts none (R143, R157). -/
def Dev.launchStart (d : Dev) (pc : Nat) : Dev :=
  let a := d.arr pc
  match a.run, a.pend with
  | none, some l =>
    if !d.domOn pc || d.isFrozen pc then d
    else
      let act := if d.planeHolds pc a.activePlane l.imageId then a.active else !a.active
      let img := a.plane (if act then 1 else 0)
      ((d.modArr pc (fun a => { a with active := act, pend := none, run := some (startLaunch l img) })).count F.CELL_ARR_LAUNCHES pc).wakePlane pc
  | _, _ => d

/-- LAUNCH_START. -/
def execLaunchStart (pc : Slot) (s : State) : Host.Outcome State Fault Refusal := s.run (fun d => d.launchStart pc)

/-! ## Operands of a tile (R148, R149) -/

/-- Storage address of byte b of row i of a stream: the descriptor names the own window, whose slice is the slot's. -/
def streamAddr (pc : Nat) (s : StreamDesc) (i b : Nat) : Nat := sliceBase pc + ((s.rowAt i) % (2 ^ 24 : Int)).toNat + b

/-- Element e of row i of a stream in a format. -/
def Dev.portElem (d : Dev) (pc : Nat) (s : StreamDesc) (f i e : Nat) : Nat :=
  packedAt f e (fun b => Memory.byte d.mem (streamAddr pc s i b))

/-- The value of an element, scaled by its block's byte in an MX format. -/
def operand (f bits scale : Nat) : Fp := if fmtIsMx f then fpScale (fpDecode f bits) scale else fpDecode f bits

/-- An operand of an MX format, or the zero that fills a tile beyond the matrix. -/
def zeroOperand : Fp := .fin false 0 0

/-- The stream at a port of a launch. -/
def LaunchDesc.port (l : LaunchDesc) (p : Nat) : StreamDesc := (SMap.find p l.ports).getD ⟨0, 0, 0, 0, 0, 0, false, 0, 0⟩

/-- Operand (i, k) of A. -/
def Dev.elemA (d : Dev) (pc : Nat) (l : LaunchDesc) (f i k : Nat) : Fp :=
  if i < l.m then operand f (d.portElem pc (l.port 0) f i k) (d.portElem pc (l.port 3) 0x08 i (k / 32)) else zeroOperand

/-- Operand (k, j) of B. -/
def Dev.elemB (d : Dev) (pc : Nat) (l : LaunchDesc) (f k j : Nat) : Fp :=
  if j < l.n then operand f (d.portElem pc (l.port 1) f k j) (d.portElem pc (l.port 4) 0x08 (k / 32) j) else zeroOperand

/-- The seed of C(i, j). -/
def Dev.elemSeed (d : Dev) (pc : Nat) (l : LaunchDesc) (i j : Nat) : Ea :=
  if l.seed && decide (i < l.m) && decide (j < l.n) then
    Ea.ofValue (leNat ((List.range 26).map (fun b => Memory.byte d.mem (streamAddr pc (l.port 6) i (26 * j + b)))))
  else Ea.zero

/-! ## A tile's accumulators (R149, R150) -/

/-- Values added position by position. -/
def sumFps : List (List Fp) → List Fp
  | [] => []
  | [r] => r
  | r :: rs => List.zipWith fpAdd r (sumFps rs)

/-- Rows with their exact sum as one more row: the operands of the checksum strip and column (R150). -/
def withSum (rows : List (List Fp)) : List (List Fp) := rows ++ [sumFps rows]

/-- Sum of accumulators (R64). -/
def eaSum (l : List Ea) : Ea := l.foldl Ea.addEa Ea.zero

/-- Products of a row of A with a column of B on a start value. -/
def dotEa (a : Ea) : List Fp → List Fp → Ea
  | x :: xs, y :: ys => dotEa (a.addProduct x y) xs ys
  | _, _ => a

/-- An accumulator with bits of its value flipped. -/
def Ea.flip (a : Ea) (e : BitVec 208) : Ea :=
  if e = 0 then a else { a with sum := ((BitVec.ofInt 208 a.sum) ^^^ e).toInt }

/-- Errors in lane (s, l) of a tile. -/
def TileErrAt (e : TileErr) (s l : Nat) : BitVec 208 :=
  (e.lanes.filter (fun x => x.1 = s && x.2.1 = l)).foldl (fun a x => a ^^^ x.2.2) 0

/-- The 33 × 33 accumulators of the tile at (i0, j0), the checksum strip and column last. -/
def Dev.tileGrid (d : Dev) (pc : Nat) (l : LaunchDesc) (fa fb i0 j0 : Nat) (e : TileErr) : List (List Ea) :=
  let as := withSum ((List.range 32).map (fun s => (List.range l.k).map (fun k => d.elemA pc l fa (i0 + s) k)))
  let bs := withSum ((List.range 32).map (fun c => (List.range l.k).map (fun k => d.elemB pc l fb k (j0 + c))))
  let seed := fun (s c : Nat) => d.elemSeed pc l (i0 + s) (j0 + c)
  let seeds := fun (s c : Nat) =>
    if s < 32 && c < 32 then seed s c
    else if c < 32 then eaSum ((List.range 32).map (fun s => seed s c))
    else if s < 32 then eaSum ((List.range 32).map (fun c => seed s c))
    else eaSum ((List.range 1024).map (fun i => seed (i / 32) (i % 32)))
  as.mapIdx (fun s a => bs.mapIdx (fun c b => (dotEa (seeds s c) a b).flip (TileErrAt e s c)))

/-! ## The comparator (R151, R152) -/

/-- Either flag of an accumulator. -/
def Ea.flagged (a : Ea) : Bool := a.overflow || a.under

/-- One step of FP32 at a magnitude, in units of 2^-149. -/
def fp32Step (bits : Nat) : Nat := 2 ^ (Nat.max (bitsOf bits 30 23) 1 - 1)

/-- A finite FP32 value in units of 2^-149. -/
def fp32Int (bits : Nat) : Int :=
  match fpDecode 0 bits with
  | .fin neg m e => fpInt neg m e (-149)
  | _ => 0

/-- The tolerance of R152: the difference is at most 33 × K × 2^-112 plus one step at the larger magnitude. -/
def withinBound (k a b : Nat) : Bool :=
  let x := fp32Int a
  let y := fp32Int b
  (x - y).natAbs ≤ 33 * k * 2 ^ 37 + fp32Step (if x.natAbs < y.natAbs then b else a)

/-- One comparison: equal values without flags; else FP32 values, with the tolerance where only UNDERFLOW_INEXACT is set. -/
def eaAgree (k : Nat) (rounded tolerant : Bool) (p : Ea × Ea) : Bool :=
  if rounded then
    let a := (p.1.round 0).1
    let b := (p.2.round 0).1
    a = b || (tolerant && withinBound k a b)
  else p.1.value = p.2.value

/-- Bits of a list of Bools, the first lowest. -/
def maskOf : List Bool → Nat
  | [] => 0
  | b :: bs => b2n b + 2 * maskOf bs

/-- Outcome of a tile's check: failed rows and columns, and whether R152 applied. -/
structure TileCheck where
  rows : Nat
  cols : Nat
  inexact : Bool
  deriving DecidableEq, Repr

/-- Lane (s, l) of a grid. -/
def gridAt (g : List (List Ea)) (s l : Nat) : Ea := (g.getD s []).getD l Ea.zero

/-- The 66 comparisons of R151, by R73 and R152. -/
def checkTile (k : Nat) (g : List (List Ea)) (e : TileErr) : TileCheck :=
  let r := List.range 32
  let rows := r.map (fun s => (eaSum (r.map (fun l => gridAt g s l)), gridAt g s 32)) ++
    [(eaSum (r.map (fun l => gridAt g 32 l)), gridAt g 32 32)]
  let cols := r.map (fun l => (eaSum (r.map (fun s => gridAt g s l)), gridAt g 32 l)) ++
    [(eaSum (r.map (fun s => gridAt g s 32)), gridAt g 32 32)]
  let all := g.flatten ++ (rows ++ cols).map Prod.fst
  let rounded := all.any Ea.flagged
  let tolerant := rounded && !all.any Ea.overflow
  let bad := fun (l : List (Ea × Ea)) => maskOf (l.map (fun p => !eaAgree k rounded tolerant p))
  ⟨bad rows ^^^ e.rows.toNat, bad cols ^^^ e.cols.toNat, rounded⟩

/-- Every comparison agreed. -/
def TileCheck.passed (t : TileCheck) : Bool := t.rows = 0 && t.cols = 0

/-! ## Writing a tile (R154) -/

/-- Status bits of EAs that a tile writes, joined: NONFINITE_IN is set with the operands that an EA consumed. -/
def nonfiniteIn (fs : List (List Fp)) : Nat := if fs.any (fun r => r.any (fun v => !v.isFin)) then stNonfinite else 0

/-- Stores row s of a tile in OUT_FMT, with its status. -/
def Dev.writeTileRow (d : Dev) (pc : Nat) (l : LaunchDesc) (fo i j0 : Nat) (es : List Ea) : Dev × Nat :=
  let c := l.port 2
  let a := streamAddr pc c i (packedSize fo j0)
  if fo = 0x0F then (d.store a (es.flatMap Ea.bytes), es.foldl (fun s e => s ||| e.status) 0)
  else if fmtIsMx fo then
    let (sc, els, st) := mxRound fo es
    ((d.store a (packElems fo els)).store (streamAddr pc (l.port 5) i (j0 / 32)) [BitVec.ofNat 8 sc], st)
  else
    let rs := es.map (Ea.round fo)
    (d.store a (packElems fo (rs.map Prod.fst)), rs.foldl (fun s r => s ||| r.2) 0)

/-- Stores the rows of a tile that lie in C. -/
def Dev.writeTile (d : Dev) (pc : Nat) (l : LaunchDesc) (fo i0 j0 : Nat) (g : List (List Ea)) : Dev × Nat :=
  (List.range (min 32 (l.m - i0))).foldl (fun acc s =>
    let r := acc.1.writeTileRow pc l fo (i0 + s) j0 (((g.getD s []).take (min 32 (l.n - j0))))
    (r.1, acc.2 ||| r.2)) (d, 0)

/-! ## TILE_CHECK and TILE_REPEAT_DONE (R151 to R154) -/

/-- Columns of tiles. -/
def LaunchDesc.tileCols (l : LaunchDesc) : Nat := ceilDiv l.n 32

/-- Tiles of a launch. -/
def LaunchDesc.tiles (l : LaunchDesc) : Nat := ceilDiv l.m 32 * l.tileCols

/-- Origin of tile t, in row-major order. -/
def LaunchDesc.tileAt (l : LaunchDesc) (t : Nat) : Nat × Nat := (t / l.tileCols * 32, t % l.tileCols * 32)

/-- The device with the running launch changed. -/
def Dev.modRun (d : Dev) (pc : Nat) (f : Launch → Launch) : Dev := d.modArr pc (fun a => { a with run := a.run.map f })

/-- The launch's last output is written: it will end DONE unless it is being aborted. -/
def Launch.finish (l : Launch) : Launch :=
  if l.drain = none || l.drain = some .freeze then { l with ending := some 2 } else l

/-- A tile that passed is written, its status joined to the launch's and the cell's, and TILE_CTR posted (R154). -/
def Dev.passTile (d : Dev) (pc : Nat) (l : Launch) (fo : Nat) (g : List (List Ea)) (t : TileCheck) (retried : Bool) : Dev :=
  let (i0, j0) := l.desc.tileAt l.tile
  let (d, st) := d.writeTile pc l.desc fo i0 j0 g
  let d := (d.arith pc st).count F.CELL_ARR_TILES pc
  let l' := { l with tile := l.tile + 1, repeating := none, inexact := l.inexact || t.inexact, retried := l.retried || retried, ovf := l.ovf || bitOf st 1, under := l.under || bitOf st 0 }
  let d := d.modRun pc (fun _ => if l.desc.tiles ≤ l.tile + 1 then l'.finish else l')
  if l.desc.tileEn then d.addCounter pc l.desc.tileCtr 1 else d

/-- CELL_ARR_CHECK with its masks (Tables 04-14, 04-15). -/
def Dev.latchCheck (d : Dev) (pc handle : Nat) (t : TileCheck) (failed lost : Bool) : Dev :=
  ((d.setReg F.CELL_ARR_CHECK.base pc 0
    (2 ^ 63 + b2n lost * 2 ^ 62 + b2n failed * 2 ^ 61 + b2n t.inexact * 2 ^ 60 + handle)).setReg F.CELL_ARR_CHECK_ROWS.base pc 0
      t.rows).setReg F.CELL_ARR_CHECK_COLS.base pc 0 t.cols

/-- The formats of the running launch. -/
def Dev.runFmts (d : Dev) (pc : Nat) : Nat × Nat × Nat := imgFmts ((d.arr pc).plane (d.arr pc).activePlane)

/-- Accumulators, check and consumed operands of the present tile; the operands' non-finite values set NONFINITE_IN. -/
def Dev.runTile (d : Dev) (pc : Nat) (l : Launch) (e : TileErr) : Dev × List (List Ea) × TileCheck :=
  let (fa, fb, _) := d.runFmts pc
  let (i0, j0) := l.desc.tileAt l.tile
  let g := d.tileGrid pc l.desc fa fb i0 j0 e
  let ops := nonfiniteIn ((List.range 32).map (fun s => (List.range l.desc.k).map (fun k => d.elemA pc l.desc fa (i0 + s) k))) |||
    nonfiniteIn ((List.range 32).map (fun c => (List.range l.desc.k).map (fun k => d.elemB pc l.desc fb k (j0 + c))))
  (d.arith pc ops, g, checkTile l.desc.k g e)

/-- The running MATMUL launch, where a tile of it can end: it is not held and has tiles left. -/
def Dev.matmulRun (d : Dev) (pc : Nat) : Option Launch :=
  (d.arr pc).run.filter (fun l => !l.dataflow && !l.held && l.ending.isNone && decide (l.tile < l.desc.tiles) && d.domOn pc)

/-- TILE_CHECK: the present tile is checked; it is written if it passes, else its mismatch is latched and the tile repeats (R153). -/
def Dev.tileCheck (d : Dev) (pc : Nat) (e : TileErr) : Dev :=
  match d.matmulRun pc with
  | none => d
  | some l =>
    if l.repeating.isSome then d
    else
      let (d, g, t) := d.runTile pc l e
      let d := if t.inexact then d.count F.CELL_ARR_INEXACT_CHECKS pc else d
      if t.passed then d.passTile pc l (d.runFmts pc).2.2 g t false
      else
        let d := d.modRun pc (fun l => { l with repeating := some ⟨t.rows, t.cols, t.inexact⟩ })
        if d.bit F.CELL_ARR_CHECK_VALID pc then d.set F.CELL_ARR_CHECK_LOST 1 pc
        else d.latchCheck pc l.desc.handle t false (d.bit F.CELL_ARR_CHECK_LOST pc)

/-- TILE_CHECK. -/
def execTileCheck (pc : Slot) (e : TileErr) (s : State) : Host.Outcome State Fault Refusal := s.run (fun d => d.tileCheck pc e)

/-- The latched mismatch is the first mismatch of this tile: its handle and masks. -/
def Dev.latchIsTile (d : Dev) (pc handle : Nat) (m : Mismatch) : Bool :=
  d.get F.CELL_ARR_CHECK_HANDLE pc = handle && d.reg F.CELL_ARR_CHECK_ROWS.base pc = m.rows &&
  d.reg F.CELL_ARR_CHECK_COLS.base pc = m.cols && !d.bit F.CELL_ARR_CHECK_RETRY_FAILED pc

/-- Adds the retry that a tile passed to what the patrol keeps of the slot (Table 11-6). -/
def Dev.noteRetry (d : Dev) (pc : Nat) : Dev :=
  let n := (d.slotInfo pc).retries + 1
  let d := d.modSlot pc (fun i => { i with retries := n })
  if 4 ≤ n then d.suspectSlot pc else d

/-- TILE_REPEAT_DONE: a repeat that passes is written and counted, and recorded as corrected; one that fails again ends the launch FAILED, faults its context with COMPUTE_INTEGRITY and makes the cell a suspect (R153, R382, R505). -/
def Dev.tileRepeatDone (d : Dev) (pc : Nat) (e : TileErr) : Dev :=
  match d.matmulRun pc with
  | none => d
  | some l =>
    match l.repeating with
    | none => d
    | some m =>
      let (d, g, t) := d.runTile pc l e
      let d := if t.inexact && !m.inexact then d.count F.CELL_ARR_INEXACT_CHECKS pc else d
      if t.passed then
        let d := (d.passTile pc l (d.runFmts pc).2.2 g t true).count F.CELL_ARR_TILE_RETRIES pc
        (d.record 0x0102 0 2 pc 1 m.rows m.cols l.desc.handle).noteRetry pc
      else
        let other := d.bit F.CELL_ARR_CHECK_VALID pc && !d.latchIsTile pc l.desc.handle m
        let d := d.latchCheck pc l.desc.handle t true (d.bit F.CELL_ARR_CHECK_LOST pc || other)
        let d := d.modRun pc (fun l => { l with repeating := none, inexact := l.inexact || t.inexact, ending := some 4 })
        (d.arrayFault pc l.desc 0x0C t.rows t.cols l.desc.handle).containIntegrity pc

/-- TILE_REPEAT_DONE. -/
def execTileRepeatDone (pc : Slot) (e : TileErr) (s : State) : Host.Outcome State Fault Refusal := s.run (fun d => d.tileRepeatDone pc e)

/-! ## Ends and drains (R144, R155, R156, R436) -/

/-- The running launch leaves the array with an end state. -/
def Dev.endRun (d : Dev) (pc : Nat) (l : Launch) (st : Nat) : Dev :=
  (d.modArr pc (fun a => { a with run := none })).endLaunch pc l.desc (l.status st)

/-- LAUNCH_END: a launch whose end is decided writes STATUS and posts DONE_CTR (R144). -/
def Dev.launchEnd (d : Dev) (pc : Nat) : Dev :=
  match (d.arr pc).run with
  | none => d
  | some l =>
    match l.ending with
    | none => d
    | some st => if !d.domOn pc || (l.drain.isSome && l.drain != some .freeze) then d else d.endRun pc l st

/-- LAUNCH_END. -/
def execLaunchEnd (pc : Slot) (s : State) : Host.Outcome State Fault Refusal := s.run (fun d => d.launchEnd pc)

/-- DRAIN_DONE: nothing can move any more. Drained for freeze, the state is held; for any other cause it is discarded and the launch is to end ABORTED, or FAULTED after a protocol fault (R155, R156). -/
def Dev.drainDone (d : Dev) (pc : Nat) : Dev :=
  match (d.arr pc).run with
  | none => d
  | some l =>
    match l.drain with
    | none => d
    | some .freeze => if l.held || l.ending.isSome then d else (d.modRun pc (fun l => { l with held := true })).count F.CELL_ARR_DRAINS pc
    | some _ =>
      (d.modRun pc (fun l => { l with drain := none, held := false, repeating := none, lanes := [], units := [], edges := [], portPos := [], ending := l.ending.orElse (fun _ => some 3) })).count
        F.CELL_ARR_DRAINS pc

/-- DRAIN_DONE. -/
def execDrainDone (pc : Slot) (s : State) : Host.Outcome State Fault Refusal := s.run (fun d => d.drainDone pc)

/-- The code of a drain's cause in a DRAIN_TIMEOUT record. -/
def DrainCause.code : DrainCause → Nat
  | .freeze => 0
  | .adrain => 1
  | .kill => 2
  | .fault => 2

/-- DRAIN_TIMEOUT: the array clears itself by force (R436). -/
def Dev.drainTimeout (d : Dev) (pc : Nat) : Dev :=
  match (d.arr pc).run with
  | none => d
  | some l =>
    match l.drain, l.held with
    | some cause, false =>
      let d := (d.setReg F.CELL_ARR_PLANE.base pc 0 0).setReg (F.CELL_ARR_PLANE.base + 8) pc 0 0
      let pend := (d.arr pc).pend
      let d := d.modArr pc (fun a => { a with load := none, pend := none, plane0 := [], plane1 := [] })
      let d := ((d.count F.WDOG_DRAIN_TIMEOUTS).record 0x0204 cause.code 2 pc 2 l.desc.handle).endRun pc l 5
      let d := match pend with
        | some p => d.endLaunch pc p (launchStatus p.handle 3 false false false false)
        | none => d
      (d.arrayFault pc l.desc 0x0D).count F.WDOG_PROGRESS_FAULTS
    | _, _ => d

/-- DRAIN_TIMEOUT. -/
def execDrainTimeout (pc : Slot) (s : State) : Host.Outcome State Fault Refusal := s.run (fun d => d.drainTimeout pc)

end Sys2Proof.Machine
end

