-- ==== Sys2Proof/Machine/Queues.lean ====
section
/-! DEFINITION. Combining queues and contributions: the shared operations (R234 to R242, R66 to R76, R83). -/

namespace Sys2Proof.Machine

/-! ## State of a queue (Table 07-21) -/

/-- STATE: 0 CLOSED, 1 OPEN, 2 POSTING, 3 DONE, 4 FAILED. -/
def Dev.cqState (d : Dev) (pc q : Nat) : Nat := d.get F.CELL_CQ_STATE_STATE pc (q + 1)

/-- The device with a queue's STATE set. -/
def Dev.setCqState (d : Dev) (pc q st : Nat) : Dev := d.set F.CELL_CQ_STATE_STATE st pc (q + 1)

/-- A queue's contents. -/
def Dev.cq (d : Dev) (pc q : Nat) : CqState := SMap.read CqState.reset (d.cell pc).cqs q

/-- The device with a queue's contents changed. -/
def Dev.modCq (d : Dev) (pc q : Nat) (f : CqState → CqState) : Dev :=
  d.modCell pc (fun s => { s with cqs := SMap.write CqState.reset s.cqs q (f (SMap.read CqState.reset s.cqs q)) })

/-- The queue was opened in ranked mode. -/
def Dev.cqRanked (d : Dev) (pc q : Nat) : Bool := d.get F.CELL_CQ_STATE_MODE pc (q + 1) = 1

/-- Store bytes of a queue (R234). -/
def cqBytes (ranked : Bool) (count window : Nat) : Nat :=
  roundUp (if ranked then 4 * count * (window + 1) else 26 * count) 64

/-- Bytes of the combining store. -/
def cqStore : Nat := 262144

/-- A queue fails (Table 07-9, event 0x0152): its sums are discarded. -/
def Dev.failCq (d : Dev) (pc q why : Nat) : Dev :=
  ((d.setCqState pc q 4).modCq pc q (fun c => { c with ea := [], acc := [], ranks := [], complete := [], held := [], sending := [] })).record
    0x0152 q 2 pc 2 why

/-! ## Opening and closing (R235, R236) -/

/-- A field of a queue open descriptor (Table 07-6). -/
def cqField (bs : List Byte) (o n : Nat) : Nat := leNat ((bs.drop o).take n)

/-- An open descriptor follows Table 07-6. -/
def cqDescOk (bs : List Byte) : Bool :=
  let f := cqField bs
  let ranked := f 0 1 = 1
  let fmt := f 1 1
  let count := f 8 4
  let toSep := f 2 1 = 1
  f 0 1 ≤ 1 && (if ranked then fmt = 0 || fmt = 1 || fmt = 3 || fmt = 4 else fmtArrayOut fmt) && f 2 1 ≤ 1 &&
  (if toSep then f 3 1 ≤ 59 else f 3 1 = 0) && f 4 1 ≤ 191 && (if ranked then 1 ≤ f 5 1 && f 5 1 ≤ 64 else f 5 1 = 0) &&
  1 ≤ f 6 2 && f 6 2 ≤ 1024 && 1 ≤ count && (!fmtIsMx fmt || count % 32 = 0) && f 0x14 4 % 64 = 0 &&
  decide (f 0x14 4 + cqBytes ranked count (f 5 1) ≤ cqStore) &&
  (if toSep then f 0x18 4 = 0 && f 0x1C 4 = 0
   else decide (f 0x18 4 + packedSize fmt count ≤ spadSize) &&
     (if fmtIsMx fmt then decide (f 0x1C 4 + count / 32 ≤ spadSize) else f 0x1C 4 = 0)) &&
  f 0x20 2 ≤ 1 && (bs.drop 0x22).all (fun b => b = 0)

/-- The store range of a descriptor overlaps that of another queue that is not CLOSED. -/
def Dev.cqInUse (d : Dev) (pc q off size : Nat) : Bool :=
  (List.range 8).any (fun k =>
    k != q && d.cqState pc k != 0 &&
      (let c := d.cq pc k
       decide (off < c.storeOff + cqBytes (d.cqRanked pc k) c.count c.window) && decide (c.storeOff < off + size)))

/-- An open that does not wait, of a well-formed descriptor: 0 OK, 1 IN_USE, 2 BAD_EPOCH. An accepted open clears the queue and opens it at the descriptor's EPOCH and SEQ. -/
def Dev.openCq (d : Dev) (pc q : Nat) (bs : List Byte) : Nat × Dev :=
  let f := cqField bs
  let ranked := f 0 1 = 1
  if d.cqInUse pc q (f 0x14 4) (cqBytes ranked (f 8 4) (f 5 1)) then (1, d)
  else if d.get F.CELL_CQ_EPOCH_USED pc (q + 1) = 1 && !newer32 (f 0x0C 4) (d.get F.CELL_CQ_EPOCH_EPOCH pc (q + 1)) then (2, d)
  else
    let c : CqState := { CqState.reset with
      outFmt := f 1 1, toSep := f 2 1 = 1, destSep := f 3 1, postCtr := f 4 1, window := f 5 1, ncontrib := f 6 2, count := f 8 4,
      storeOff := f 0x14 4, outOff := f 0x18 4, outScaleOff := f 0x1C 4, rearm := bitOf (f 0x20 2) 0 }
    let d := d.modCq pc q (fun _ => c)
    let d := ((d.setReg F.CELL_CQ_STATE.base pc (q + 1) 0).setCqState pc q 1).set F.CELL_CQ_STATE_MODE (b2n ranked) pc (q + 1)
    let d := d.set F.CELL_CQ_STATE_SEQ (f 0x10 4) pc (q + 1)
    (0, (d.set F.CELL_CQ_EPOCH_USED 1 pc (q + 1)).set F.CELL_CQ_EPOCH_EPOCH (f 0x0C 4) pc (q + 1))

/-- A close that does not wait: 0 OK, 1 NOT_OPEN. The last epoch stands. -/
def Dev.closeCq (d : Dev) (pc q : Nat) : Nat × Dev :=
  if d.cqState pc q = 0 then (1, d)
  else (0, (d.setReg F.CELL_CQ_STATE.base pc (q + 1) 0).modCq pc q (fun _ => CqState.reset))

/-- RESULT of CELL_CHAN_CMD for a slot's last command (Table 07-11). -/
def Dev.chanResult (d : Dev) (pc r : Nat) : Dev := d.set F.CELL_CHAN_SEL_RESULT r pc

/-- A queue command of CELL_CHAN_CMD or of a setup record once no post is under way: RESULT BAD_DESC, IN_USE, BAD_EPOCH, NOT_OPEN or OK. -/
def Dev.cqCommand (d : Dev) (pc q : Nat) (open' : Option Nat) : Nat × Dev :=
  match open' with
  | some off =>
    let bs := d.spad pc off 64
    if off % 64 ≠ 0 || spadSize < off + 64 || !cqDescOk bs then (1, d)
    else match d.openCq pc q bs with
      | (0, d) => (0, d)
      | (1, d) => (5, d)
      | (_, d) => (4, d)
  | none =>
    match d.closeCq pc q with
    | (0, d) => (0, d)
    | (_, d) => (3, d)

/-! ## Rounding and posting (R69 to R76, R241) -/

/-- Chunks of 32. -/
def blocks32 {α : Type} : Nat → List α → List (List α)
  | 0, _ => []
  | n + 1, l => l.take 32 :: blocks32 n (l.drop 32)

/-- Result elements, scales and status of an exact queue. -/
def postExact (c : CqState) : List Byte × List Byte × Nat :=
  let es := (List.range c.count).map (fun i => SMap.read Ea.zero c.ea i)
  let st := if c.under then stUnder else 0
  if c.outFmt = 0x0F then (es.flatMap Ea.bytes, [], es.foldl (fun s e => s ||| e.status) st)
  else if fmtIsMx c.outFmt then
    let bl := (blocks32 (c.count / 32) es).map (mxRound c.outFmt)
    (packElems c.outFmt (bl.flatMap (fun b => b.2.1)), bl.flatMap (fun b => leBytes 1 b.1), bl.foldl (fun s b => s ||| b.2.2) st)
  else
    let rs := es.map (Ea.round c.outFmt)
    (packElems c.outFmt (rs.map Prod.fst), [], rs.foldl (fun s r => s ||| r.2) st)

/-- Result elements, scales and status of a ranked queue. -/
def postRanked (c : CqState) : List Byte × List Byte × Nat :=
  let vs := (List.range c.count).map (fun i => SMap.read 0 c.acc i)
  let rs := vs.map (rankedRound c.outFmt)
  (packElems c.outFmt (rs.map Prod.fst), [], rs.foldl (fun s r => s ||| r.2) c.status)

/-- Tries to send the result of a queue with DEST 1 (R222, R241): it goes, it waits, or the queue fails. -/
def Dev.trySendCq (d : Dev) (pc q : Nat) : Dev :=
  let c := d.cq pc q
  if c.sending.isEmpty then d
  else match d.sendCheck (.cell pc) c.destSep c.sending.length (d.outFree pc) with
    | .status _ => d.failCq pc q 2
    | .wait _ _ => d
    | .go =>
      let (items, d) := d.placeMessage (.cell pc) c.destSep c.sending
      (d.modCell pc (fun s => { s with outbox := s.outbox ++ items })).modCq pc q (fun c => { c with sending := [] })

/-- All ranks are complete: the queue is POSTING, rounds its elements and writes or sends the result (R241 steps 1 and 2). -/
def Dev.postCq (d : Dev) (pc q : Nat) : Dev :=
  let c := d.cq pc q
  let (es, sc, st) := if d.cqRanked pc q then postRanked c else postExact c
  let d := d.setCqState pc q 2
  let d := d.modCq pc q (fun c => { c with status := st })
  if c.toSep then (d.modCq pc q (fun c => { c with sending := es ++ sc })).trySendCq pc q
  else (d.store (sliceBase pc + c.outOff) es).store (sliceBase pc + c.outScaleOff) sc

/-- Wakes the contexts parked on a queue's post (R235, R236). -/
def Dev.wakeQueue (d : Dev) (pc q : Nat) : Dev :=
  (d.modCell pc (fun s => (List.range 32).foldl (fun s c =>
    if (s.ctx c).phase = .parked && (s.ctx c).wait = some (.queue 1 q) then s.setCtx c (s.ctx c).wake else s) s)).reselect pc

/-- Queue commands that waited for the end of a post are carried out. -/
def Dev.cqWaiting (d : Dev) (pc q : Nat) : Dev :=
  let mine := (d.cell pc).cqWait.filter (fun w => w.1 = q)
  let d := d.modCell pc (fun s => { s with cqWait := s.cqWait.filter (fun w => w.1 != q) })
  mine.foldl (fun d w =>
    let (r, d) := d.cqCommand pc q w.2
    d.chanResult pc r) d

/-- A post ends (R241 steps 3 to 5): status bits, the post, and DONE or the next round. -/
def Dev.finishPost (d : Dev) (pc q : Nat) : Dev :=
  let c := d.cq pc q
  let d := (d.arith pc c.status).count F.CELL_CQ_POSTS pc (q + 1)
  let d := d.addCounter pc c.postCtr 1
  let d := if c.rearm then
      let d := d.modCq pc q (fun c => { c with ea := [], acc := [], ranks := [], complete := [], held := [], under := false, status := 0 })
      let seq := d.get F.CELL_CQ_STATE_SEQ pc (q + 1)
      (((d.setCqState pc q 1).set F.CELL_CQ_STATE_SEQ ((seq + 1) % 2 ^ 32) pc (q + 1)).set F.CELL_CQ_STATE_RECEIVED 0 pc (q + 1)).set
        F.CELL_CQ_STATE_NEXT 0 pc (q + 1)
    else d.setCqState pc q 3
  (d.cqWaiting pc q).wakeQueue pc q

/-! ## Arrival of a contribution (R238 to R240) -/

/-- What a contribution's packets say of it. -/
structure ContribHead where
  ranked : Bool
  under : Bool
  rank : Nat
  epoch : Nat
  seq : Nat
  count : Nat
  deriving DecidableEq, Repr

/-- The checks of Table 07-8, in order: the device after counting a discard, and whether the contribution is accepted. DEDUCED, unsafe (log entry 36). -/
def Dev.checkContrib (d : Dev) (pc q : Nat) (h : ContribHead) : Dev × Bool :=
  let st := d.cqState pc q
  let c := d.cq pc q
  let seq := d.get F.CELL_CQ_STATE_SEQ pc (q + 1)
  let cnt := fun (f : Fld) => d.count f pc (q + 1)
  let rej := fun (d : Dev) (k : Nat) => d.record 0x0151 k 2 pc 2 h.rank h.epoch h.seq
  if st ≠ 1 && st ≠ 2 then (cnt F.CELL_CQ_STALE, false)
  else if h.epoch ≠ d.get F.CELL_CQ_EPOCH_EPOCH pc (q + 1) then (cnt F.CELL_CQ_STALE, false)
  else if h.ranked ≠ d.cqRanked pc q || h.count ≠ c.count then (rej (cnt F.CELL_CQ_REJECTS) 3, false)
  else if c.ncontrib ≤ h.rank then (rej (cnt F.CELL_CQ_REJECTS) 4, false)
  else if newer32 h.seq seq then (rej (cnt F.CELL_CQ_EARLY) 5, false)
  else if h.seq ≠ seq then (cnt F.CELL_CQ_STALE, false)
  else if (SMap.find h.rank c.ranks).isSome then (cnt F.CELL_CQ_DUPS, false)
  else (d, true)

/-- A complete contribution of an exact queue is added (R239). -/
def Dev.addExact (d : Dev) (pc q rank : Nat) (bytes : List Byte) : Dev :=
  d.modCq pc q (fun c =>
    let vals := (List.range c.count).map (fun i => Ea.ofValue (leNat ((bytes.drop (26 * i)).take 26)))
    let es := (List.range c.count).zip vals
    { c with ea := es.foldl (fun m e => SMap.insert e.1 ((SMap.read Ea.zero m e.1).addEa e.2) m) c.ea,
             complete := c.complete ++ [rank] })

/-- One fold of a ranked queue: rank 0 is copied, a later rank added (R240). -/
def foldRank (c : CqState) (rank : Nat) (vals : List Nat) : CqState :=
  let es := (List.range c.count).zip vals
  if rank = 0 then { c with acc := es.foldl (fun m e => SMap.write 0 m e.1 e.2) c.acc, complete := c.complete ++ [0] }
  else
    let rs := es.map (fun e => (e.1, rankedAdd (SMap.read 0 c.acc e.1) e.2))
    { c with acc := rs.foldl (fun m r => SMap.write 0 m r.1 r.2.1) c.acc, status := rs.foldl (fun s r => s ||| r.2.2) c.status,
             complete := c.complete ++ [rank] }

/-- Folds the ranks whose turn has come, NEXT advancing (R240). -/
def Dev.foldReady (d : Dev) (pc q : Nat) : Nat → Dev
  | 0 => d
  | n + 1 =>
    let next := d.get F.CELL_CQ_STATE_NEXT pc (q + 1)
    match SMap.find next (d.cq pc q).held with
    | none => d
    | some vals =>
      let d := d.modCq pc q (fun c => { foldRank c next vals with held := SMap.erase next c.held })
      (d.set F.CELL_CQ_STATE_NEXT (next + 1) pc (q + 1)).foldReady pc q n

/-- Bytes that pieces hold together. -/
def piecesLen (ps : List (Nat × List Byte)) : Nat := ps.foldl (fun n (p : Nat × List Byte) => n + p.2.length) 0

/-- Bytes put together from pieces by offset. -/
def joinPieces (n : Nat) (ps : List (Nat × List Byte)) : List Byte :=
  (ps.foldl (fun (m : List (Nat × Byte)) p => Memory.write m p.1 p.2) []) |> (fun m => Memory.read m 0 n)

/-- A contribution is complete: it is added, or held for its turn; the last rank starts the post (R239 to R241). -/
def Dev.contribDone (d : Dev) (pc q rank size : Nat) : Dev :=
  let c := d.cq pc q
  let bytes := joinPieces size ((SMap.find rank c.ranks).getD [])
  let d := if d.cqRanked pc q then
      (d.modCq pc q (fun c => { c with held := SMap.insert rank (elemsOf 4 c.count bytes) c.held })).foldReady pc q (c.window + 1)
    else d.addExact pc q rank bytes
  if (d.cq pc q).complete.length = c.ncontrib then d.postCq pc q else d

/-- A packet of a contribution reaches its queue: byte offset and bytes. The checks are made when its first packet arrives, and a discarded contribution is counted once, with the packet of offset 0; a rank beyond the window fails the queue (R238 to R240). DEDUCED, unsafe (log entry 36). -/
def Dev.contribArrives (d : Dev) (pc q : Nat) (h : ContribHead) (off : Nat) (bs : List Byte) : Dev :=
  let c := d.cq pc q
  let size := h.count * (if h.ranked then 4 else 26)
  let under := fun (d : Dev) => if h.under then d.modCq pc q (fun c => { c with under := true }) else d
  let under' := (SMap.find h.rank c.ranks)
  let partial' := match under' with
    | some ps => decide (piecesLen ps < size) && d.cqState pc q = 1 &&
        decide (h.epoch = d.get F.CELL_CQ_EPOCH_EPOCH pc (q + 1)) && decide (h.seq = d.get F.CELL_CQ_STATE_SEQ pc (q + 1)) &&
        decide (h.count = c.count) && !(ps.any (fun p => p.1 = off))
    | none => false
  if partial' then
    let d := (under d).modCq pc q (fun c => { c with ranks := SMap.insert h.rank ((SMap.find h.rank c.ranks).getD [] ++ [(off, bs)]) c.ranks })
    let got := piecesLen ((SMap.find h.rank (d.cq pc q).ranks).getD [])
    if got = size then d.contribDone pc q h.rank size else d
  else
    let (d', ok) := d.checkContrib pc q h
    if !ok then (if off = 0 then d' else d)
    else if h.ranked && decide (d.get F.CELL_CQ_STATE_NEXT pc (q + 1) + c.window ≤ h.rank) then d.failCq pc q 1
    else
      let d := (under d).modCq pc q (fun c => { c with ranks := SMap.insert h.rank [(off, bs)] c.ranks })
      let d := d.set F.CELL_CQ_STATE_RECEIVED (d.cq pc q).ranks.length pc (q + 1)
      let d := d.count F.CELL_CQ_CONTRIB pc (q + 1)
      if bs.length = size then d.contribDone pc q h.rank size else d

end Sys2Proof.Machine
end

