-- ==== Sys2Proof/Machine/Channels.lean ====
section
/-! DEFINITION. Class 0x9, the channel commands of cells and of the OS complex, and the outbox (R207 to R245, R506, R509). -/

namespace Sys2Proof.Machine

/-! ## CSEND, CPEEK, CADV (Table 07-2) -/

/-- A send descriptor's checks (R222): SRC and LEN, or none where CSEND faults CHANNEL. -/
def Dev.sendDesc (d : Dev) (pc a : Nat) : Option (Nat × Nat) :=
  match d.ownSpad pc a 16 with
  | none => none
  | some off =>
    let src := d.spadNat pc off 8
    let len := d.spadNat pc (off + 8) 4
    if a % 16 ≠ 0 || d.spadNat pc (off + 12) 4 ≠ 0 || len = 0 then none
    else match d.ownSpad pc src len with
      | none => none
      | some o => some (o, len)

/-- CSEND: sends a message on endpoint IMM[5:0]; XD := status (R222). -/
def execCsend (pc : Slot) (c : Ctx) (f : FmtS) (s : State) : Host.Outcome State Fault Refusal :=
  s.run (fun d => d.issueOrdered pc c (f.ok ⟨true, true, false, 1, 0x3F⟩) (fun d =>
    let k := f.imm.toNat % 64
    let xd := f.xd.toNat
    match d.sendDesc pc ((d.ctx pc c).xr f.xa.toNat).toNat with
    | none => .fault d 0x09
    | some (src, len) =>
      match d.sendCheck (.cell pc) k len (d.outFree pc) with
      | .status code => d.commitSync pc c xd code
      | .wait units bytes => if bitOf f.fl.toNat 0 then .park d (.credit k units bytes) else d.commitSync pc c xd 2
      | .go =>
        let (items, d) := d.placeMessage (.cell pc) k (d.spad pc src len)
        (d.modCell pc (fun s => { s with outbox := s.outbox ++ items })).commitSync pc c xd 0))

/-- The near-memory unit is the reader of a channel (R173, R226). -/
def Dev.nmReads (d : Dev) (pc k : Nat) : Bool := d.bit F.SPAD_NM_CTL_EN pc && d.get F.SPAD_NM_CTL_CHAN pc = k

/-- CPEEK: the head word of channel IMM[5:0], or a status (R224, R226). -/
def execCpeek (pc : Slot) (c : Ctx) (f : FmtS) (s : State) : Host.Outcome State Fault Refusal :=
  s.run (fun d => d.issueOrdered pc c (f.ok ⟨true, false, false, 1, 0x3F⟩) (fun d =>
    let k := f.imm.toNat % 64
    let xd := f.xd.toNat
    if d.nmReads pc k then d.commitSync pc c xd 7
    else if !d.chanOpen (.cell pc) k then d.commitSync pc c xd 1
    else if d.hasHead (.cell pc) k then
      let off := d.get F.CELL_CHAN_RING_BASE pc (k + 1) + d.chanRd (.cell pc) k + 16
      d.commitSync pc c xd (2 ^ 63 + d.headLen (.cell pc) k * 2 ^ 24 + off)
    else if bitOf f.fl.toNat 0 then .park d (.receive k)
    else d.commitSync pc c xd 5))

/-- CADV: frees the head message of channel IMM[5:0] if XA is its payload offset (R225, R226). -/
def execCadv (pc : Slot) (c : Ctx) (f : FmtS) (s : State) : Host.Outcome State Fault Refusal :=
  s.run (fun d => d.issueOrdered pc c (f.ok ⟨true, true, false, 0, 0x3F⟩) (fun d =>
    let k := f.imm.toNat % 64
    let xd := f.xd.toNat
    if d.nmReads pc k then d.commitSync pc c xd 7
    else if !d.chanOpen (.cell pc) k then d.commitSync pc c xd 1
    else if !d.hasHead (.cell pc) k then d.commitSync pc c xd 5
    else if ((d.ctx pc c).xr f.xa.toNat).toNat ≠ d.get F.CELL_CHAN_RING_BASE pc (k + 1) + d.chanRd (.cell pc) k + 16 then
      d.commitSync pc c xd 6
    else (d.advance (.cell pc) k).commitSync pc c xd 0))

/-! ## CQADD (R235 to R237) -/

/-- Fields of CQADD with a given FL. -/
def useCqadd (xa : Bool) : UseS := ⟨true, xa, false, 3, 7⟩

/-- A contribution descriptor follows Table 07-7, its source lies in the scratchpad, and DONE_CTR is not another context's (R237). -/
def contribDescOk (c : Nat) (bs : List Byte) : Bool :=
  let f := cqField bs
  let size := if f 5 1 = 0x0F then 26 else 4
  f 0 2 < 1024 && f 2 2 < 512 && f 4 1 ≤ 1 && (f 5 1 = 0 || (f 5 1 = 0x0F && f 4 1 = 0)) && 1 ≤ f 0x14 4 &&
  decide (f 0x10 4 + f 0x14 4 * size ≤ spadSize) && f 0x19 1 ≤ 3 && f 0x1A 6 = 0 &&
  !(bitOf (f 0x19 1) 0 && foreignPrivate c (f 0x18 1))

/-- CQADD contribute: commits a contribution to queue IMM[2:0] of the target (R237). -/
def execCqaddContribute (pc : Slot) (c : Ctx) (f : FmtS) (s : State) : Host.Outcome State Fault Refusal :=
  s.run (fun d => d.issueOrdered pc c (f.ok (useCqadd true) && f.fl = 0) (fun d =>
    let a := ((d.ctx pc c).xr f.xa.toNat).toNat
    let xd := f.xd.toNat
    match d.ownSpad pc a 32 with
    | none => .fault d 0x09
    | some off =>
      let bs := d.spad pc off 32
      let g := cqField bs
      if a % 32 ≠ 0 || !contribDescOk c bs then .fault d 0x09
      else if g 0 2 = d.deviceId && (d.hostOf (g 2 2)).isNone then d.commitSync pc c xd 11
      else if d.outFree pc < 1024 then .park d (.queue 0 (f.imm.toNat % 8))
      else
        let job : ContribJob :=
          { dstDev := g 0 2, dstLc := g 2 2, queue := f.imm.toNat % 8, ranked := g 4 1 = 1, srcFmt := g 5 1, rank := g 6 2,
            epoch := g 8 4, seq := g 0x0C 4, src := g 0x10 4, count := g 0x14 4, inexact := bitOf (g 0x19 1) 1,
            doneCtr := g 0x18 1, doneEn := bitOf (g 0x19 1) 0, pos := 0 }
        (d.modCell pc (fun s => { s with contribs := s.contribs ++ [job] })).commitSync pc c xd 0))

/-- CQADD open: opens queue IMM[2:0] from the descriptor at XA (R235). -/
def execCqaddOpen (pc : Slot) (c : Ctx) (f : FmtS) (s : State) : Host.Outcome State Fault Refusal :=
  s.run (fun d => d.issueOrdered pc c (f.ok (useCqadd true) && f.fl = 1) (fun d =>
    let a := ((d.ctx pc c).xr f.xa.toNat).toNat
    let q := f.imm.toNat % 8
    match d.ownSpad pc a 64 with
    | none => .fault d 0x09
    | some off =>
      if a % 64 ≠ 0 || !cqDescOk (d.spad pc off 64) then .fault d 0x09
      else if d.cqState pc q = 2 then .park d (.queue 1 q)
      else match d.openCq pc q (d.spad pc off 64) with
        | (0, d) => d.commitSync pc c f.xd.toNat 0
        | (1, d) => d.commitSync pc c f.xd.toNat 9
        | (_, d) => d.commitSync pc c f.xd.toNat 8))

/-- CQADD close: closes queue IMM[2:0] (R236). -/
def execCqaddClose (pc : Slot) (c : Ctx) (f : FmtS) (s : State) : Host.Outcome State Fault Refusal :=
  s.run (fun d => d.issueOrdered pc c (f.ok (useCqadd false) && f.fl = 2) (fun d =>
    let q := f.imm.toNat % 8
    if d.cqState pc q = 2 then .park d (.queue 1 q)
    else match d.closeCq pc q with
      | (0, d) => d.commitSync pc c f.xd.toNat 0
      | (_, d) => d.commitSync pc c f.xd.toNat 10))

/-! ## CELL_CHAN_CMD (R209 to R212, R227, R235, R236, R509) -/

/-- A command 1 to 6 written to CELL_CHAN_CMD of a powered slot (R509): NO_CELL, MIGRATING, or its own result. -/
def Dev.chanCmd (d : Dev) (pc : Nat) (k : Dev → Nat × Dev) : Dev :=
  if !d.domOn pc then d
  else match d.hosted pc with
    | none => d.chanResult pc 7
    | some lc =>
      if d.migrating lc then d.chanResult pc 6
      else
        let (r, d) := k d
        d.chanResult pc r

/-- CHAN_OPEN: opens the selected channel (R210). -/
def execChanOpen (_m : Master) (pc : Slot) (s : State) : Host.Outcome State Fault Refusal :=
  s.run (fun d => d.chanCmd pc (fun d => d.openChan (.cell pc) (d.get F.CELL_CHAN_SEL_CHAN pc)))

/-- CHAN_CLOSE: closes the selected channel (R227). -/
def execChanClose (_m : Master) (pc : Slot) (s : State) : Host.Outcome State Fault Refusal :=
  s.run (fun d => d.chanCmd pc (fun d => d.closeChan (.cell pc) (d.get F.CELL_CHAN_SEL_CHAN pc)))

/-- SEP_BIND: binds the selected endpoint (R211, R231). -/
def execSepBind (_m : Master) (pc : Slot) (s : State) : Host.Outcome State Fault Refusal :=
  s.run (fun d => d.chanCmd pc (fun d => d.bindSep (.cell pc) (d.get F.CELL_CHAN_SEL_SEP pc)))

/-- SEP_UNBIND: unbinds the selected endpoint (R212). -/
def execSepUnbind (_m : Master) (pc : Slot) (s : State) : Host.Outcome State Fault Refusal :=
  s.run (fun d => d.chanCmd pc (fun d => (0, (d.unbindSep (.cell pc) (d.get F.CELL_CHAN_SEL_SEP pc)).wakeSenders pc)))

/-- A queue command: it waits out a post of the selected queue (R235, R236), else it is carried out. -/
def Dev.cqCmd (d : Dev) (pc : Nat) (w : Option Nat) : Dev :=
  let q := d.get F.CELL_CHAN_SEL_CQ pc
  if d.domOn pc && (match d.hosted pc with | some lc => !d.migrating lc | none => false) && d.cqState pc q = 2 then
    d.modCell pc (fun s => { s with cqWait := s.cqWait ++ [(q, w)] })
  else d.chanCmd pc (fun d => d.cqCommand pc q w)

/-- QUEUE_OPEN: opens the selected queue from a descriptor by slice offset (R235). -/
def execQueueOpen (_m : Master) (pc : Slot) (desc : BitVec 24) (s : State) : Host.Outcome State Fault Refusal :=
  s.run (fun d => d.cqCmd pc (some desc.toNat))

/-- QUEUE_CLOSE: closes the selected queue (R236). -/
def execQueueClose (_m : Master) (pc : Slot) (s : State) : Host.Outcome State Fault Refusal :=
  s.run (fun d => d.cqCmd pc none)

/-- The owner and number of an endpoint. -/
def epOwner : EpRef → Owner × Nat
  | .cell pc sep => (.cell pc, sep)
  | .os sep => (.os, sep)
  | .slolis => (.os, 256)

/-- Slolis's reply endpoint could not join: EN is cleared and ERR set (R469). -/
def Dev.mboxJoinFailed (d : Dev) (o : Owner) (k : Nat) : Dev :=
  if o = .os && k = 256 && d.sepState .os 256 = 4 then ((d.set F.MBOX_CFG_EN 0).set F.MBOX_STATUS_ERR 1) else d

/-- JOIN_TIMEOUT: a BINDING endpoint that no reply reached in 1,024 beats fails with UNREACHABLE (R211, R232). DEDUCED, unsafe (log entry 10). -/
def execJoinTimeout (ep : EpRef) (s : State) : Host.Outcome State Fault Refusal :=
  s.run (fun d =>
    let (o, k) := epOwner ep
    if d.sepState o k = 1 then ((d.setSepState o k 4 4).wakeOwner o).mboxJoinFailed o k else d)

/-! ## The outbox (R223, R237, R330, R506) -/

/-- A CONTRIB entry of the running job's image names a contribution packet (R330). -/
def inWindowEntry (lc : Nat) (i : OutItem) (t : TransferEntry) : Bool :=
  t.contrib && t.lc % 512 = lc && t.sep = i.sep && t.dstDev % 1024 = i.dstDev && t.dstLc % 512 = i.unit

/-- A contribution packet waits for a transfer window, while the job runs, is held or resumes (R330, R345). -/
def Dev.waitsWindow (d : Dev) (pc : Nat) (i : OutItem) : Bool :=
  decide (3 ≤ d.schedState ∧ d.schedState ≤ 5) && (List.range (d.sectionCount 1)).any (fun e => inWindowEntry ((d.hosted pc).getD 0) i (d.transfer e))

/-- OUTBOX_RELEASE: item i leaves the outbox for the mesh as U: a record of a CLASS U endpoint that is the oldest of its endpoint, or a contribution packet that no window claims (R223, R330). Its bytes free outbox space and may wake senders. -/
def execOutboxRelease (pc : Slot) (i : Nat) (s : State) : Host.Outcome State Fault Refusal :=
  s.run (fun d =>
    let box := (d.cell pc).outbox
    match box[i]? with
    | none => d
    | some it =>
      let first := !(box.take i).any (fun j => !j.contrib && j.sep = it.sep)
      if if it.contrib then d.waitsWindow pc it else it.sched || !first then d
      else
        let d := d.modCell pc (fun s => { s with outbox := s.outbox.eraseIdx i })
        (d.sendItem (d.ownerUnit (.cell pc)) it it.sent (itemBytes it) 1 0).wakeSenders pc)

/-- Elements in one packet of a contribution. -/
def contribStep (j : ContribJob) : Nat := min (j.count - j.pos) (if j.ranked then 62 else 9)

/-- The bytes of n elements of a contribution from its position, and the status of the EAs that the cell reads or forms (R66, R68, R83). -/
def Dev.contribBytes (d : Dev) (pc : Nat) (j : ContribJob) (n : Nat) : List Byte × Nat :=
  if j.ranked then (d.spad pc (j.src + 4 * j.pos) (4 * n), 0)
  else if j.srcFmt = 0x0F then
    let es := (List.range n).map (fun i => Ea.ofValue (d.spadNat pc (j.src + 26 * (j.pos + i)) 26))
    (d.spad pc (j.src + 26 * j.pos) (26 * n), es.foldl (fun s e => s ||| e.status) 0)
  else
    let vs := (List.range n).map (fun i => fpDecode 0 (d.spadNat pc (j.src + 4 * (j.pos + i)) 4))
    let es := vs.map Ea.zero.addFp
    (es.flatMap Ea.bytes, es.foldl (fun s e => s ||| e.status) (if vs.all Fp.isFin then 0 else stNonfinite))

/-- CONTRIB_SEND: the cell reads the next elements of its oldest contribution and forms a packet, as outbox space allows; with the source read, DONE_CTR is posted (R237, R506). The packet's extension holds queue, mode and flags, then RANK, EPOCH and SEQ. -/
def execContribSend (pc : Slot) (s : State) : Host.Outcome State Fault Refusal :=
  s.run (fun d =>
    match (d.cell pc).contribs with
    | [] => d
    | j :: js =>
      let n := contribStep j
      let size := if j.ranked then 4 else 26
      if d.outFree pc < n * size then d
      else
        let (bs, st) := d.contribBytes pc j n
        let d := d.arith pc st
        let ext := leBytes 4 (j.queue + b2n j.ranked * 2 ^ 8 + b2n (bitOf st 0 || j.inexact) * 2 ^ 16) ++ leBytes 4 j.rank ++
          leBytes 4 j.epoch ++ leBytes 4 j.seq
        let it : OutItem :=
          { contrib := true, sep := j.queue, seq := j.count, off := size * j.pos, head := ext, body := bs, sent := 0,
            space := bs.length, dstDev := j.dstDev, unit := unitCell j.dstLc, chan := 0, sched := false, mcast := false, hops := 0, own := false }
        let last := j.pos + n = j.count
        let d := d.modCell pc (fun s => { s with outbox := s.outbox ++ [it], contribs := if last then js else { j with pos := j.pos + n } :: js })
        if last && j.doneEn then d.addCounter pc j.doneCtr 1 else d)

/-- QUEUE_POST_DONE: a post ends; a result that still waits for credits is tried again (R241). -/
def execQueuePostDone (pc : Slot) (q : Fin 8) (s : State) : Host.Outcome State Fault Refusal :=
  s.run (fun d =>
    if d.cqState pc q ≠ 2 then d
    else
      let d := d.trySendCq pc q
      if d.cqState pc q = 2 && (d.cq pc q).sending.isEmpty then d.finishPost pc q
      else if d.cqState pc q = 4 then (d.cqWaiting pc q).wakeQueue pc q
      else d)

/-! ## The OS complex's channels (R244, R245) -/

/-- RESULT of DEV_OSCH_CMD. -/
def osResult (r : Nat × Dev) : Dev := r.2.set F.DEV_OSCH_SEL_RESULT r.1

/-- OSCH_OPEN: opens the selected OS channel. -/
def execOschOpen (_m : Master) (s : State) : Host.Outcome State Fault Refusal :=
  s.runMain (fun d => osResult (d.openChan .os (d.get F.DEV_OSCH_SEL_CHAN)))

/-- OSCH_CLOSE: closes the selected OS channel. -/
def execOschClose (_m : Master) (s : State) : Host.Outcome State Fault Refusal :=
  s.runMain (fun d => osResult (d.closeChan .os (d.get F.DEV_OSCH_SEL_CHAN)))

/-- OSEP_BIND: binds the selected OS endpoint. -/
def execOsepBind (_m : Master) (s : State) : Host.Outcome State Fault Refusal :=
  s.runMain (fun d => osResult (d.bindSep .os (d.get F.DEV_OSCH_SEL_SEP)))

/-- OSEP_UNBIND: unbinds the selected OS endpoint. -/
def execOsepUnbind (_m : Master) (s : State) : Host.Outcome State Fault Refusal :=
  s.runMain (fun d => osResult (0, d.unbindSep .os (d.get F.DEV_OSCH_SEL_SEP)))

/-- OSCH_ADV: frees the head record of the selected OS channel; EMPTY with none, NOT_OPEN on a closed channel. -/
def execOschAdv (_m : Master) (s : State) : Host.Outcome State Fault Refusal :=
  s.runMain (fun d =>
    let k := d.get F.DEV_OSCH_SEL_CHAN
    osResult (if d.hasHead .os k then (0, d.advance .os k) else if d.chanOpen .os k then (9, d) else (3, d)))

/-- Sends a message on an OS endpoint at once: its status (Table 07-4); what would wait returns NO_CREDIT (R244). DEDUCED, unsafe (log entry 35). -/
def Dev.osSend (d : Dev) (k : Nat) (msg : List Byte) : Nat × Dev :=
  match d.sendCheck .os k msg.length outboxSize with
  | .status code => (code, d)
  | .wait _ _ => (2, d)
  | .go =>
    let (items, d) := d.placeMessage .os k msg
    (0, items.foldl (fun d i => d.sendItem (d.sepUnit .os k) i 0 (itemBytes i) 1 0) d)

/-- OSCH_SEND: sends the message that a descriptor in the carve-out names. A descriptor that breaks Table 07-3 or R214 in LEN 0, or lies outside the carve-out, sends nothing and returns TOO_BIG. -/
def execOschSend (_m : Master) (v : Word) (s : State) : Host.Outcome State Fault Refusal :=
  s.runMain (fun d =>
    let k := bitsOf v.toNat 63 56
    let a := bitsOf v.toNat 47 4 * 16
    let src := d.loadNat a 8
    let len := d.loadNat (a + 8) 4
    let (r, d) := if !d.inCarve a 16 || len = 0 || !d.inCarve src len then (3, d)
      else d.osSend k (d.load src len)
    d.set F.DEV_OSCH_SEL_SEND_RESULT r)

end Sys2Proof.Machine
end

