-- ==== Sys2Proof/Machine/Control.lean ====
section
/-! DEFINITION. Plain writes and reads of control-space registers: access codes, banks, and the conditions on writes that the register tables state (R8 to R17, R334, R497, R498). -/

namespace Sys2Proof.Machine

/-! ## Addresses (R8, R9) -/

/-- Class, instance and offset of a control-space access; none where R9 does not decode it. -/
def ctlDecode (addr size : Nat) : Option (Nat × Nat × Nat) :=
  if size = 8 && addr % 8 = 0 && decide (0x180000000000 ≤ addr) && decide (addr < 0x180010000000) then
    let a := addr - 0x180000000000
    some (a / 2 ^ 24, a / 2 ^ 12 % 2 ^ 12, a % 2 ^ 12)
  else none

/-- An always-on register of Table 17-1. -/
def alwaysOnReg (cls inst off : Nat) : Bool :=
  match cls with
  | 0 => off = 0x8F8 || (0xA00 ≤ off && off ≤ 0xA60)
  | 8 => inst = 0 && 0x010 ≤ off && off ≤ 0x020
  | 9 => (0x008 ≤ off && off ≤ 0x030) || (0x128 ≤ off && off ≤ 0x150)
  | 13 => true
  | 14 => true
  | 15 => true
  | _ => false

/-- The register's block is powered and not in reset (R497): always-on registers always; class 0x01, the router counters and the device-wide blocks with the mesh supply; the rest with their domains. -/
def Dev.blockOn (d : Dev) (cls inst off : Nat) : Bool :=
  if alwaysOnReg cls inst off then true
  else if !d.power.mainUp then false
  else match cls with
  | 2 => (0x900 ≤ off && off < 0x930) || (d.domOn inst && !d.inReset 2 inst)
  | 3 => d.domOn (544 + inst) && !d.inReset 3 inst
  | 4 => d.domOn (544 + inst / 16) && !d.inReset 4 inst
  | 5 => d.domOn (572 + inst / 4) && !d.deviceResetting && !d.partResetting (inst / 4)
  | 6 => d.domOn (560 + inst)
  | 11 => d.domOn (582 + inst / 2)
  | 12 => d.domOn (580 + inst)
  | _ => true

/-! ## Banks (R182, R498, and the SEL registers) -/

/-- The item that a banked register shows: the selected one plus 1, or the master's copy. -/
def Dev.bankItem (d : Dev) (b : RegBank) (inst : Nat) (m : Master) : Nat :=
  match b with
  | .none => 0
  | .chan => d.get F.CELL_CHAN_SEL_CHAN inst + 1
  | .sep => d.get F.CELL_CHAN_SEL_SEP inst + 1
  | .cq => d.get F.CELL_CHAN_SEL_CQ inst + 1
  | .imbal => d.get F.CELL_ARR_IMBAL_SEL_UNIT inst + 1
  | .osch => d.get F.DEV_OSCH_SEL_CHAN + 1
  | .osep => d.get F.DEV_OSCH_SEL_SEP + 1
  | .wq => d.get F.ENG_WQ_SEL_Q inst + 1
  | .master => match m with | .os => 1 | .slolis => 2

/-! ## Writes (R12, R16, R17) -/

/-- A register's value after a write: RW bits take the written value, W1C bits written 1 clear, others stay. -/
def maskWrite (rw w1c old v : Nat) : Nat := ((old &&& (2 ^ 64 - 1 - rw)) ||| (v &&& rw)) &&& (2 ^ 64 - 1 - (v &&& w1c))

/-- The bits of a register that a write of a value may set in the present state: all RW bits but where the register's table makes writes ignored. `sched` is true for the schedule unit's own writes. -/
def Dev.rwNow (d : Dev) (m : Master) (sched : Bool) (r : RegSpec) (inst item v : Nat) : Nat :=
  let os := decide (m = .os) && !sched
  match r.cls, r.off with
  | 0, 0x808 => if bitOf (d.reg F.DEV_OSCH_RING.base 0 item) 63 then 0 else r.rw
  | 0, 0xA00 => if os then 0 else r.rw
  | 0, 0xA10 => if os then 0 else r.rw
  | 2, 0x708 => if bitOf (d.reg F.CELL_CHAN_RING.base inst item) 63 then 0 else r.rw
  | 2, 0x740 => if !sched && bitOf v 61 then r.rw &&& (2 ^ 64 - 1 - 2 ^ 61) else r.rw
  | 4, 0x018 => if bitOf (d.reg F.ENG_WQ_CFG.base inst item) 63 then 0
      else if !sched && bitOf v 62 then r.rw &&& (2 ^ 64 - 1 - 2 ^ 62) else r.rw
  | 7, 0x030 => if d.schedState = 0 then r.rw else 0
  | 8, 0x018 => if os then r.rw &&& (2 ^ 64 - 1 - 2 ^ 63 - 0xFFFF00000000) else r.rw
  | 9, 0x008 => if os then 0 else r.rw
  | 10, off =>
    if [0x010, 0x018, 0x078].contains off || (0x100 ≤ off && off < 0x200) then (if d.get F.SNAP_STATUS_STATE = 0 then r.rw else 0) else r.rw
  | 12, 0x800 => if bitOf (SMap.read EthState.reset d.eths inst).status 2 then 0 else r.rw
  | 15, 0x000 => if d.bit F.MBOX_CFG_EN then 2 ^ 63 else r.rw
  | _, _ => r.rw

/-- Field values outside their range read back clamped (R437, Tables 08-10, 14-8, 14-9, 16-7, 16-9). -/
def Dev.clampReg (d : Dev) (cls off v : Nat) : Nat :=
  match cls, off with
  | 0, 0xA00 =>
    let t := max 70 (min 100 (bitsOf v 47 40))
    let p := min (bitsOf v 31 16) (d.cfg 0x0E 2)
    let w := min (bitsOf v 15 0) (d.cfg 0x0C 2)
    setBitsOf (setBitsOf (setBitsOf v 47 40 t) 31 16 p) 15 0 w
  | 0, 0xA10 => setBitsOf v 31 0 (min (bitsOf v 31 0) 60000)
  | 0, 0x218 => setBitsOf v 7 0 (min (bitsOf v 7 0) 168)
  | 9, 0x000 =>
    let b := bitsOf v 63 48
    setBitsOf v 63 48 (if b = 0 then 0 else max 4352 b)
  | 9, 0x008 => setBitsOf v 15 0 (max 100 (min 60000 (bitsOf v 15 0)))
  | _, _ => v

/-- A plain write to a register (R12). Bits that need debug authorization (R14) are no plain write's to set. The low half of a stream key waits as item 1 until the high half is written (R265). -/
def Dev.writePlain (d : Dev) (m : Master) (sched : Bool) (cls inst off v : Nat) : Dev :=
  match findReg cls inst off with
  | none => d
  | some r =>
    if instAbsent cls inst || !d.blockOn cls inst off then d
    else
      let item := d.bankItem r.bank inst m
      let base := cls * 2 ^ 24 + off
      let old := d.reg base inst item
      let rw := d.rwNow m sched r inst item v
      let item := if cls = 4 && 0x200 ≤ off && off % 16 = 0 then 1 else item
      d.setReg base inst item (d.clampReg cls off (maskWrite (rw &&& (2 ^ 64 - 1 - r.dbg)) r.w1c old v))

end Sys2Proof.Machine
end

