-- ==== Sys2Proof/Machine/Digest.lean ====
section
/-! DEFINITION. Digests: the CRC-64 of the NVM Express specification and SHAKE256 of FIPS 202 (R267). -/

namespace Sys2Proof.Machine

/-! ## CRC-64 -/

/-- One bit of the reflected register; the polynomial 0xAD93_D235_94C9_3659 reflected. -/
def crc64Bit (c : Nat) : Nat := if c % 2 = 1 then (c / 2) ^^^ 0x9A6C9329AC4BC9B5 else c / 2

/-- One byte into the register. -/
def crc64Byte (c : Nat) (b : Byte) : Nat := (List.range 8).foldl (fun c _ => crc64Bit c) (c ^^^ b.toNat)

/-- The register before the first byte. -/
def crc64Init : Nat := 0xFFFFFFFFFFFFFFFF

/-- Bytes into the register. -/
def crc64Run (c : Nat) (bs : List Byte) : Nat := bs.foldl crc64Byte c

/-- The result of a register. -/
def crc64Final (c : Nat) : Nat := c ^^^ 0xFFFFFFFFFFFFFFFF

/-! ## Keccak-f[1600] -/

/-- A lane by x + 5y. -/
def lane (a : List Word) (x y : Nat) : Word := a.getD (x % 5 + 5 * (y % 5)) 0

/-- Theta. -/
def kTheta (a : List Word) : List Word :=
  let c := (List.range 5).map (fun x => lane a x 0 ^^^ lane a x 1 ^^^ lane a x 2 ^^^ lane a x 3 ^^^ lane a x 4)
  let dd := (List.range 5).map (fun x => c.getD ((x + 4) % 5) 0 ^^^ (c.getD ((x + 1) % 5) 0).rotateLeft 1)
  (List.range 25).map (fun i => a.getD i 0 ^^^ dd.getD (i % 5) 0)

/-- Rotation of each lane in Rho, by x + 5y. -/
def kRotations : List Nat :=
  [0, 1, 62, 28, 27, 36, 44, 6, 55, 20, 3, 10, 43, 25, 39, 41, 45, 15, 21, 8, 18, 2, 61, 56, 14]

/-- Rho and Pi: lane (x, y) of the result is lane (x + 3y, x), rotated. -/
def kRhoPi (a : List Word) : List Word :=
  (List.range 25).map (fun i =>
    let x := i % 5
    let y := i / 5
    let j := (x + 3 * y) % 5 + 5 * x
    (a.getD j 0).rotateLeft (kRotations.getD j 0))

/-- Chi. -/
def kChi (a : List Word) : List Word :=
  (List.range 25).map (fun i =>
    let x := i % 5
    let y := i / 5
    lane a x y ^^^ (~~~ lane a (x + 1) y &&& lane a (x + 2) y))

/-- Round constants. -/
def kConsts : List Word :=
  [0x0000000000000001, 0x0000000000008082, 0x800000000000808A, 0x8000000080008000, 0x000000000000808B, 0x0000000080000001,
   0x8000000080008081, 0x8000000000008009, 0x000000000000008A, 0x0000000000000088, 0x0000000080008009, 0x000000008000000A,
   0x000000008000808B, 0x800000000000008B, 0x8000000000008089, 0x8000000000008003, 0x8000000000008002, 0x8000000000000080,
   0x000000000000800A, 0x800000008000000A, 0x8000000080008081, 0x8000000000008080, 0x0000000080000001, 0x8000000080008008]

/-- One round. -/
def kRound (a : List Word) (rc : Word) : List Word :=
  match kChi (kRhoPi (kTheta a)) with
  | [] => []
  | l :: ls => (l ^^^ rc) :: ls

/-- The permutation. -/
def keccakF (a : List Word) : List Word := kConsts.foldl kRound a

/-! ## SHAKE256 -/

/-- Bytes per block. -/
def shakeRate : Nat := 136

/-- A sponge: 200 bytes of state and the bytes absorbed into the present block. -/
structure Sponge where
  bytes : List Byte
  pos : Nat
  deriving DecidableEq, Repr

/-- The empty sponge. -/
def Sponge.start : Sponge := ⟨List.replicate 200 0, 0⟩

/-- The permutation on bytes. -/
def spongeF (bs : List Byte) : List Byte :=
  (keccakF ((List.range 25).map (fun i => wOf (leNat ((bs.drop (8 * i)).take 8))))).flatMap (fun w => leBytes 8 w.toNat)

/-- A byte exclusive-ored into position i of a list. -/
def xorAt (bs : List Byte) (i : Nat) (b : Byte) : List Byte := bs.set i (bs.getD i 0 ^^^ b)

/-- One byte absorbed. -/
def Sponge.absorb (s : Sponge) (b : Byte) : Sponge :=
  let bs := xorAt s.bytes s.pos b
  if s.pos + 1 = shakeRate then ⟨spongeF bs, 0⟩ else ⟨bs, s.pos + 1⟩

/-- Bytes absorbed. -/
def Sponge.absorbAll (s : Sponge) (bs : List Byte) : Sponge := bs.foldl Sponge.absorb s

/-- Output blocks of a finished sponge. -/
def squeeze : Nat → List Byte → List Byte
  | 0, _ => []
  | n + 1, bs => bs.take shakeRate ++ squeeze n (spongeF bs)

/-- The first n output bytes: padding 1111, then 10*1. -/
def Sponge.finish (s : Sponge) (n : Nat) : List Byte :=
  let bs := xorAt (xorAt s.bytes s.pos 0x1F) (shakeRate - 1) 0x80
  (squeeze (n / shakeRate + 1) (spongeF bs)).take n

/-- SHAKE256 of bytes. -/
def shake256 (bs : List Byte) (n : Nat) : List Byte := (Sponge.start.absorbAll bs).finish n

/-! ## Saved states (R267) -/

/-- The 256 bytes of a saved state: the model's bytes combined with the stepping's layout. DESIGN CHOICE, safe (log entry 15). -/
def maskState (bs : List Byte) : List Byte :=
  (List.range 256).map (fun i => bs.getD i 0 ^^^ Config.saveMask i)

/-- A sponge as it is saved. -/
def Sponge.save (s : Sponge) : List Byte := maskState (s.bytes ++ [BitVec.ofNat 8 s.pos])

/-- A sponge as it is loaded. -/
def Sponge.ofSaved (bs : List Byte) : Sponge :=
  let b := maskState bs
  ⟨b.take 200, (b.getD 200 0).toNat % shakeRate⟩

end Sys2Proof.Machine
end

