-- ==== Sys2Proof/Machine/Functions.lean ====
section
/-! DEFINITION. The elementary functions of the transcendental engine, each rounded once from a fixed-point value of 2^-320 (R263), and the stream generator (R80, R81). -/

namespace Sys2Proof.Machine

/-! ## Fixed-point values in units of 2^-320 -/

/-- Fraction bits of a working value: far more than any FP32 or BF16 result can need to round correctly. -/
def wk : Nat := 320

/-- One in working units. -/
def wkOne : Nat := 2 ^ wk

/-- Product of two working values. -/
def wkMul (a b : Nat) : Nat := a * b / wkOne

/-- Terms k, k + 1, ... of sum z^(2i+1) / (2i+1), alternating on request; `p` is the power z^(2i+1). -/
def atanSeries (alt : Bool) (z2 : Nat) : Nat → Nat → Nat → Int → Int
  | 0, _, _, acc => acc
  | n + 1, i, p, acc =>
    let t : Int := (p / (2 * i + 1) : Nat)
    atanSeries alt z2 n (i + 1) (wkMul p z2) (if alt && i % 2 = 1 then acc - t else acc + t)

/-- The artanh of a working value below 1/2. -/
def wkAtanh (z : Nat) : Nat := (atanSeries false (wkMul z z) 200 0 z 0).toNat

/-- The arctan of 1/n. -/
def wkAtanInv (n : Nat) : Nat := let z := wkOne / n; (atanSeries true (wkMul z z) 200 0 z 0).toNat

/-- ln 2, as twice the artanh of 1/3. -/
def wkLn2 : Nat := 2 * wkAtanh (wkOne / 3)

/-- Pi, by Machin's formula. -/
def wkPi : Nat := 4 * (4 * wkAtanInv 5 - wkAtanInv 239)

/-- Bits of an integer square root, from bit n - 1 down. -/
def sqrtBits (v : Nat) : Nat → Nat → Nat
  | 0, r => r
  | n + 1, r => let c := r + 2 ^ n; sqrtBits v n (if c * c ≤ v then c else r)

/-- The integer square root of a value below 4^n. -/
def isqrt (n v : Nat) : Nat := sqrtBits v n 0

/-- The Taylor sum of exp, from term p of index i. -/
def expSeries (x : Nat) : Nat → Nat → Nat → Nat → Nat
  | 0, _, _, acc => acc
  | n + 1, i, p, acc => expSeries x n (i + 1) (wkMul p x / (i + 1)) (acc + p)

/-- The sum of (-1)^i x^(2i+1) / (i! (2i+1)); `p` is x^(2i+1) / i!. -/
def erfSeries (x2 : Nat) : Nat → Nat → Nat → Int → Int
  | 0, _, _, acc => acc
  | n + 1, i, p, acc =>
    let t : Int := (p / (2 * i + 1) : Nat)
    erfSeries x2 n (i + 1) (wkMul p x2 / (i + 1)) (if i % 2 = 1 then acc - t else acc + t)

/-! ## The functions (R263) -/

/-- A magnitude m times 2^e in working units, for e of -320 or above. -/
def wkOf (m : Nat) (e : Int) : Nat := if e + wk < 0 then m / 2 ^ (-(e + wk)).toNat else m * 2 ^ (e + wk).toNat

/-- A result with its OVERFLOW, INVALID as status bits of an item: encoding and flags (bit 1 OVERFLOW, bit 6 INVALID). -/
abbrev FnResult := Nat × Nat

/-- A finite result value rounded to the format. -/
def fnRound (f : Nat) (neg : Bool) (m : Nat) (e : Int) : FnResult :=
  let r := fpRoundFin f .toInf neg m e
  (r.1, if r.2 then 2 else 0)

/-- The encoding of an infinity. -/
def fnInf (f : Nat) (neg : Bool) : Nat := (if neg then fmtSignBit f else 0) + fmtMaxBits f + 1

/-- A canonical NaN from an input below zero. -/
def fnInvalid (f : Nat) : FnResult := (fmtNan f, 64)

/-- e^x of a finite x other than zero. Beyond 256 in magnitude the result is infinity or rounds to zero. -/
def expFin (f : Nat) (neg : Bool) (m : Nat) (e : Int) : FnResult :=
  let big := decide ((8 : Int) ≤ (Nat.log2 m : Nat) + e)
  if big then (if neg then (0, 0) else (fnInf f false, 2))
  else
    let x := wkOf m e
    let k := x / wkLn2
    let k' : Int := if neg then -((k : Int) + 1) else k
    let r := if neg then (k + 1) * wkLn2 - x else x - k * wkLn2
    fnRound f false (expSeries r 90 0 wkOne 0) (k' - wk)

/-- EXP. DESIGN CHOICE, unsafe (log entry 13). -/
def fnExp (f a : Nat) : FnResult :=
  match fpDecode f a with
  | .nan => (fmtNan f, 0)
  | .inf neg => (if neg then 0 else fnInf f false, 0)
  | .fin neg m e => if m = 0 then fnRound f false 1 0 else expFin f neg m e

/-- ln of a positive magnitude m times 2^e: sign and working value. -/
def lnFin (m : Nat) (e : Int) : Int :=
  let k : Int := (Nat.log2 m : Nat) + e
  let y := m * 2 ^ (wk - Nat.log2 m)
  let z := (y - wkOne) * wkOne / (y + wkOne)
  k * (wkLn2 : Nat) + (2 * wkAtanh z : Nat)

/-- LOG. DESIGN CHOICE, unsafe (log entry 13). -/
def fnLog (f a : Nat) : FnResult :=
  match fpDecode f a with
  | .nan => (fmtNan f, 0)
  | .inf neg => if neg then fnInvalid f else (fnInf f false, 0)
  | .fin neg m e =>
    if m = 0 then (fnInf f true, 0)
    else if neg then fnInvalid f
    else
      let v := lnFin m e
      if v = 0 then (0, 0) else fnRound f (decide (v < 0)) v.natAbs (-(wk : Int))

/-- 1 / sqrt(m × 2^e), with a sticky bit below an inexact root. -/
def rsqrtFin (f m : Nat) (e : Int) : FnResult :=
  let m' := if e % 2 = 0 then m else 2 * m
  let e' := if e % 2 = 0 then e else e - 1
  let n := 2 ^ 160
  let q := isqrt 100 (n / m')
  let v := 2 * q + (if q * q * m' = n then 0 else 1)
  fnRound f false v (-81 - e' / 2)

/-- RSQRT. -/
def fnRsqrt (f a : Nat) : FnResult :=
  match fpDecode f a with
  | .nan => (fmtNan f, 0)
  | .inf neg => if neg then fnInvalid f else (0, 0)
  | .fin neg m e => if m = 0 then (fnInf f neg, 0) else if neg then fnInvalid f else rsqrtFin f m e

/-- ERF: from 8 on in magnitude the value rounds to 1. -/
def fnErf (f a : Nat) : FnResult :=
  match fpDecode f a with
  | .nan => (fmtNan f, 0)
  | .inf neg => fnRound f neg 1 0
  | .fin neg m e =>
    if m = 0 then (if neg then fmtSignBit f else 0, 0)
    else if (3 : Int) ≤ (Nat.log2 m : Nat) + e then fnRound f neg 1 0
    else
      let x := wkOf m e
      let s := (erfSeries (wkMul x x) 420 0 x 0).toNat
      let c := 2 * wkOne * wkOne / isqrt 340 (wkPi * wkOne)
      fnRound f neg (wkMul s c) (-(wk : Int))

/-! ## The stream generator -/

/-- mix of R80. -/
def sgMix (x : Word) : Word :=
  let x := x ^^^ (x >>> 31)
  let x := x * 0xA3B195E26C4FD0C7
  let x := x ^^^ (x >>> 29)
  let x := x * 0xC59D1F837A26E4B5
  x ^^^ (x >>> 32)

/-- stream_word of R80. -/
def streamWord (k0 k1 step sample e : Word) : Word :=
  let h := sgMix (k0 ^^^ step)
  let h := sgMix (h + k1)
  let h := sgMix (h ^^^ sample)
  sgMix (h + e * 0xD1F46B0A93C527E9)

/-- Element of a word by KIND (Table 02-9): RAW, UNIFORM_FP32, UNIFORM_BF16, BERNOULLI. -/
def streamElem (kind t : Nat) (w : Word) : List Byte :=
  match kind with
  | 0 => leBytes 8 w.toNat
  | 1 => leBytes 4 (fpRoundFin 0 .toInf false (w.toNat / 2 ^ 40) (-24)).1
  | 2 => leBytes 2 (fpRoundFin 1 .toInf false (w.toNat / 2 ^ 56) (-8)).1
  | _ => [if w.toNat / 2 ^ 32 < t then 1 else 0]

end Sys2Proof.Machine
end

