-- ==== Sys2Proof/Machine/EngOps.lean ====
section
/-! DEFINITION. What the engines' operations compute and write (R257 to R267, R507, R508). -/

namespace Sys2Proof.Machine

/-! ## Operands and outputs -/

/-- Bytes that an engine reads: storage, or a PCIe aperture, whose data the device outside supplies. -/
def Dev.fetch (d : Dev) (a n : Nat) : List Byte × Dev :=
  match d.place false a n with
  | .pcie p off =>
    let d := d.emit (.pcie p false off n [])
    ((List.range n).map (fun i => BitVec.ofNat 8 (Config.freeWord (d.freeCtr + i)).toNat), { d with freeCtr := d.freeCtr + n })
  | p => (match p.storage with
    | some st => d.load st n
    | none => List.replicate n 0, d)

/-- Bytes that an engine writes. Enabled rings refuse its lines (R250). -/
def Dev.deposit (d : Dev) (a : Nat) (bs : List Byte) : Dev :=
  if bs.isEmpty then d
  else match d.place false a bs.length with
    | .pcie p off => d.emit (.pcie p true off bs.length bs)
    | p => match p.storage with
      | some st =>
        if (d.ringAt st bs.length).isNone then d.store st bs
        else
          let first := st / 64
          (List.range ((st + bs.length - 1) / 64 + 1 - first)).foldl (fun d k =>
            let lo := Nat.max st (64 * (first + k))
            let hi := Nat.min (st + bs.length) (64 * (first + k) + 64)
            d.plainStore none lo ((bs.drop (lo - st)).take (hi - lo))) d
      | none => d

/-- A computed address as a number. -/
def runAddr (base : Nat) (off : Int) : Nat := ((base : Int) + off).toNat

/-- The bits of FLAGS of a status word for arithmetic status (Table 08-3, R507). -/
def itFlags (st : Nat) : Nat :=
  b2n (bitOf st 0) + 2 * b2n (bitOf st 1 || bitOf st 6) + 4 * b2n (bitOf st 5) + 8 * b2n (bitOf st 4) + 16 * b2n (bitOf st 3) +
  32 * b2n (bitOf st 2) + 64 * b2n (bitOf st 7)

/-- A done end. -/
def doneEnd (result : Nat) (flags : Nat := 0) : ItemEnd := ⟨3, 0, 0, flags, result⟩

/-- n packed elements from bytes. -/
def unpackElems (f n : Nat) (bs : List Byte) : List Nat := (List.range n).map (fun i => packedAt f i (fun k => bs.getD k 0))

/-! ## Layout and gather/scatter (R259, R260) -/

/-- Rows copied one by one, the runs of a source to the runs of a destination. -/
def Dev.copyRuns (d : Dev) (src dst : List Run) : Dev :=
  (src.zip dst).foldl (fun d x => let r := d.fetch x.1.1.toNat x.1.2; r.2.deposit x.2.1.toNat r.1) d

/-- COPY of bytes that lie on the device (R257). -/
def Dev.opCopy (d : Dev) (b : List Byte) : Dev × ItemEnd :=
  let n := itF b 0x0C 4
  let src := itF b 0x10 8
  let dst := itF b 0x18 8
  let d := match (d.place false src n).storage, (d.place false dst n).storage with
    | some s, some t => if (d.ringAt t n).isNone then d.copyMem s t n else d.deposit dst (d.load s n)
    | _, _ => let r := d.fetch src n; r.2.deposit dst r.1
  (d, doneEnd n)

/-- COPY3D. -/
def Dev.opCopy3d (d : Dev) (b : List Byte) : Dev × ItemEnd :=
  let r := d.itRanges .copy3d b
  (d.copyRuns r.1 r.2, doneEnd (itF b 0x0C 4 * itF b 0x20 2 * itF b 0x22 2))

/-- TRANSPOSE. -/
def Dev.opTranspose (d : Dev) (b : List Byte) : Dev × ItemEnd :=
  let e : Nat := 2 ^ itF b 0x0C 1
  let rows := itF b 0x20 4
  let cols := itF b 0x24 4
  let d := (List.range rows).foldl (fun d r =>
    (List.range cols).foldl (fun d c =>
      let x := d.fetch (runAddr (itF b 0x10 8) ((r : Int) * itS b 0x28 + c * e)) e
      x.2.deposit (runAddr (itF b 0x18 8) ((c : Int) * itS b 0x2C + r * e)) x.1) d) d
  (d, doneEnd (rows * cols * e))

/-- GATHER or SCATTER from row n on, with w bytes written so far; an index at or beyond NROWS ends it, and padding that SCATTER skips writes nothing (R260). -/
def Dev.rowsFrom (d : Dev) (scatter : Bool) (b : List Byte) : Nat → Nat → Nat → Dev × ItemEnd
  | 0, _, w => (d, doneEnd w)
  | fuel + 1, n, w =>
    let rb := itF b 0x0C 4
    let ix := d.fetch (itF b 0x18 8 + 4 * n) 4
    let d := ix.2
    let i := leNat ix.1
    let data := itF b 0x20 8 + n * rb
    let row := runAddr (itF b 0x10 8) ((i : Int) * itS b 0x30)
    if i = 0xFFFFFFFF then
      if scatter then d.rowsFrom scatter b fuel (n + 1) w else (d.deposit data (List.replicate rb 0)).rowsFrom scatter b fuel (n + 1) (w + rb)
    else if itF b 0x2C 4 ≤ i then (d, { failEnd 6 with result := w })
    else
      let x := if scatter then d.fetch data rb else d.fetch row rb
      (x.2.deposit (if scatter then row else data) x.1).rowsFrom scatter b fuel (n + 1) (w + rb)

/-! ## Reduction (R261, R262) -/

/-- The vectors of a REDUCE. -/
def Dev.reduceRows (d : Dev) (b : List Byte) : List (List Byte) × Dev :=
  let n := packedSize (itF b 0x2F 1) (itF b 0x0C 4)
  (List.range (itF b 0x2C 2)).foldl (fun acc r =>
    let x := acc.2.fetch (itF b 0x10 8 + r * itF b 0x28 4) n
    (acc.1 ++ [x.1], x.2)) ([], d)

/-- The EA of one element of an engine's source, and whether it was NaN or infinite (R66, R67). -/
def eaOf (fmt : Nat) (bits : Nat) : Ea × Bool :=
  if fmt = 0x0F then (Ea.ofValue bits, false)
  else let v := fpDecode fmt bits; (Ea.zero.addFp v, !v.isFin)

/-- A queue as the reduction and conversion engines round it: an exact sum of each element, or a ranked fold (R74 to R77). -/
def reduceExact (fmt out count : Nat) (under : Bool) (rows : List (List Nat)) : List Byte × List Byte × Nat :=
  let zero := List.replicate count (Ea.zero, false)
  let sums := rows.foldl (fun acc row => List.zipWith (fun (a : Ea × Bool) v => let e := eaOf fmt v; (a.1.addEa e.1, a.2 || e.2)) acc row) zero
  let c : CqState := { CqState.reset with outFmt := out, count := count, under := under,
                                          ea := ((List.range count).zip (sums.map Prod.fst)) }
  let r := postExact c
  (r.1, r.2.1, r.2.2 ||| (if sums.any Prod.snd then stNonfinite else 0))

/-- A ranked fold, posted in an output format. -/
def reduceRanked (out count : Nat) (rows : List (List Nat)) : List Byte × List Byte × Nat :=
  let c : CqState := { CqState.reset with outFmt := out, count := count }
  let c := ((List.range rows.length).zip rows).foldl (fun c x => foldRank c x.1 x.2) c
  postRanked c

/-- Writes a result and its scales. -/
def Dev.putResult (d : Dev) (dst scale : Nat) (r : List Byte × List Byte × Nat) : Dev × ItemEnd :=
  ((d.deposit dst r.1).deposit scale r.2.1, doneEnd (r.1.length + r.2.1.length) (itFlags r.2.2))

/-- REDUCE. -/
def Dev.opReduce (d : Dev) (b : List Byte) : Dev × ItemEnd :=
  let count := itF b 0x0C 4
  let fmt := itF b 0x2F 1
  let out := itF b 0x30 1
  let (raw, d) := d.reduceRows b
  let rows := raw.map (unpackElems fmt count)
  let r := if itF b 0x2E 1 = 1 then reduceRanked out count rows else reduceExact fmt out count (bitOf (itF b 1 1) 2) rows
  d.putResult (itF b 0x18 8) (itF b 0x20 8) r

/-- The rank of an element in the total order of R262, as a number: NaN lowest, then by value with -0 below +0. -/
def topKey (f v : Nat) : Nat :=
  let s := fmtSignBit f
  if (fpDecode f v).isNan then 0
  else if v < s then s + v + 1 else 2 * s - v

/-- Inserts an element into a descending list, after equal keys. -/
def topInsert (x : Nat × Nat × Nat) : List (Nat × Nat × Nat) → List (Nat × Nat × Nat)
  | [] => [x]
  | y :: ys => if y.1 < x.1 then x :: y :: ys else y :: topInsert x ys

/-- TOPK. -/
def Dev.opTopk (d : Dev) (b : List Byte) : Dev × ItemEnd :=
  let f := itF b 0x2C 1
  let n := itF b 0x0C 4
  let k := itF b 0x28 4
  let x := d.fetch (itF b 0x10 8) (packedSize f n)
  let vs := unpackElems f n x.1
  let top := (((List.range n).zip vs).foldl (fun l e => (topInsert (topKey f e.2, e.1, e.2) l).take k) [])
  let d := x.2.deposit (itF b 0x18 8) (packElems f (top.map (fun t => t.2.2)))
  (d.deposit (itF b 0x20 8) (bytesOf 4 (top.map (fun t => t.2.1))), doneEnd k)

/-! ## Transcendental, conversion and stream (R263 to R265) -/

/-- A function of every element. -/
def Dev.opFunction (d : Dev) (b : List Byte) (fn : Nat → Nat → FnResult) : Dev × ItemEnd :=
  let f := itF b 0x20 1
  let n := itF b 0x0C 4
  let x := d.fetch (itF b 0x10 8) (packedSize f n)
  let rs := (unpackElems f n x.1).map (fn f)
  (x.2.deposit (itF b 0x18 8) (packElems f (rs.map Prod.fst)),
   doneEnd (packedSize f n) (rs.foldl (fun s r => s ||| r.2) 0))

/-- CONVERT. -/
def Dev.opConvert (d : Dev) (b : List Byte) : Dev × ItemEnd :=
  let n := itF b 0x0C 4
  let f := itF b 0x28 1
  let x := d.fetch (itF b 0x10 8) (packedSize f n)
  let r := reduceExact f (itF b 0x29 1) n false [unpackElems f n x.1]
  x.2.putResult (itF b 0x18 8) (itF b 0x20 8) r

/-- GENERATE. -/
def Dev.opGenerate (d : Dev) (i : EngItem) : Dev × ItemEnd :=
  let b := i.desc
  let n := itF b 0x30 4
  let kind := itF b 0x35 1
  let bs := (List.range n).flatMap (fun k =>
    streamElem kind (itF b 0x0C 4)
      (streamWord (wOf i.keyLo) (wOf i.keyHi) (wOf (itF b 0x10 8)) (wOf (itF b 0x18 8)) (wOf (itF b 0x20 8 + k))))
  (d.deposit (itF b 0x28 8) bs, doneEnd bs.length)

/-! ## Compression (R266) -/

/-- Bytes of a chunk. -/
def chunkSize : Nat := 65536

/-- COMPRESS from chunk i on: frames packed from DST at `off`. A frame that leaves CAP ends it, earlier frames written. -/
def Dev.compressFrom (d : Dev) (b : List Byte) : Nat → Nat → Nat → Dev × ItemEnd
  | 0, _, off => (d, doneEnd off)
  | fuel + 1, i, off =>
    let x := d.fetch (itF b 0x10 8 + chunkSize * i) (Nat.min chunkSize (itF b 0x0C 4 - chunkSize * i))
    let frame := Config.zstdEncode x.1
    let at' := roundUp off 8
    if itF b 0x28 4 < at' + frame.length then (x.2, { failEnd 7 with result := off })
    else
      let d := x.2.deposit (itF b 0x18 8 + off) (List.replicate (at' - off) 0 ++ frame)
      (d.deposit (itF b 0x20 8 + 4 * i) (leBytes 4 frame.length)).compressFrom b fuel (i + 1) (at' + frame.length)

/-- DECOMPRESS from frame i on, at span offset `off`. A frame that fails to decode, or yields a wrong length, is CORRUPT. -/
def Dev.decompressFrom (d : Dev) (b : List Byte) : Nat → Nat → Nat → Nat → Dev × ItemEnd
  | 0, _, _, outLen => (d, doneEnd outLen)
  | fuel + 1, i, off, outLen =>
    let l := d.fetch (itF b 0x20 8 + 4 * i) 4
    let n := leNat l.1
    let at' := roundUp off 8
    let x := l.2.fetch (itF b 0x10 8 + at') n
    match Config.zstdDecode x.1 with
    | none => (x.2, { failEnd 8 with result := outLen })
    | some out =>
      let lenOk := if fuel = 0 then 1 ≤ out.length && out.length ≤ chunkSize else out.length = chunkSize
      if !lenOk then (x.2, { failEnd 8 with result := outLen })
      else if itF b 0x28 4 < outLen + out.length then (x.2, { failEnd 7 with result := outLen })
      else (x.2.deposit (itF b 0x18 8 + chunkSize * i) out).decompressFrom b fuel (i + 1) (at' + n) (outLen + out.length)

/-! ## Integrity (R267) -/

/-- CRC64. -/
def Dev.opCrc64 (d : Dev) (i : EngItem) : Dev × ItemEnd :=
  let b := i.desc
  let mode := itF b 0x2A 1
  let x := d.fetch (itF b 0x10 8) (itF b 0x0C 4)
  let start := if bitOf mode 0 then leNat ((maskState i.loaded).take 8) else crc64Init
  let c := crc64Run start x.1
  if bitOf mode 1 then (x.2.deposit (itF b 0x20 8) (maskState (leBytes 8 c)), doneEnd 256)
  else (x.2.deposit (itF b 0x18 8) (leBytes 8 (crc64Final c)), doneEnd 8)

/-- SHAKE256. -/
def Dev.opShake256 (d : Dev) (i : EngItem) : Dev × ItemEnd :=
  let b := i.desc
  let mode := itF b 0x2A 1
  let x := d.fetch (itF b 0x10 8) (itF b 0x0C 4)
  let s := (if bitOf mode 0 then Sponge.ofSaved i.loaded else Sponge.start).absorbAll x.1
  if bitOf mode 1 then (x.2.deposit (itF b 0x20 8) s.save, doneEnd 256)
  else (x.2.deposit (itF b 0x18 8) (s.finish (itF b 0x28 2)), doneEnd (itF b 0x28 2))

/-! ## Performing an item -/

/-- A range of the item lies in the window of a cell that has become UNHOSTED (R508). -/
def Dev.lostCell (d : Dev) (op : EngOp) (b : List Byte) : Bool :=
  let r := d.itRanges op b
  (r.1 ++ r.2).any (fun x => x.2 != 0 && d.place false x.1.toNat x.2 == .nowhere)

/-- Bytes of an item's ranges, with those in far memory counted for its queue's class. -/
def Dev.countTraffic (d : Dev) (e : Nat) (i : EngItem) (op : EngOp) (x : ItemEnd) : Dev :=
  let r := d.itRanges op i.desc
  let cls := if d.bit F.ENG_WQ_CFG_CLASS i.home (i.q + 1) then 0 else 1
  let total : List Run → Nat := fun l => l.foldl (fun n y => n + y.2) 0
  let d := (d.count F.ENG_BYTES_IN e 0 (total r.1)).count F.ENG_BYTES_OUT e 0 (if x.state = 3 then total r.2 else x.result)
  (r.1 ++ r.2).foldl (fun d y => d.farMoved cls y.1.toNat y.2) d

/-- What an operation does, on-device copies included. -/
def Dev.perform (d : Dev) (op : EngOp) (i : EngItem) : Dev × ItemEnd :=
  let b := i.desc
  match op with
  | .copy => d.opCopy b
  | .copy3d => d.opCopy3d b
  | .transpose => d.opTranspose b
  | .gather => d.rowsFrom false b (itF b 0x28 4) 0 0
  | .scatter => d.rowsFrom true b (itF b 0x28 4) 0 0
  | .reduce => d.opReduce b
  | .topk => d.opTopk b
  | .exp => d.opFunction b fnExp
  | .log => d.opFunction b fnLog
  | .rsqrt => d.opFunction b fnRsqrt
  | .erf => d.opFunction b fnErf
  | .convert => d.opConvert b
  | .generate => d.opGenerate i
  | .compress => d.compressFrom b (ceilDiv (itF b 0x0C 4) chunkSize) 0 0
  | .decompress => d.decompressFrom b (itF b 0x0C 4) 0 0 0
  | .crc64 => d.opCrc64 i
  | .shake256 => d.opShake256 i

/-- The extension that names a window (Table 09-3). -/
def windowExt (off win gen key : Nat) : List Byte := leBytes 8 off ++ leBytes 2 win ++ leBytes 2 0 ++ leBytes 4 gen ++ leBytes 8 key

/-- A put or get of a mover: packets of at most 256 B, each remembered until it is answered (R257, R285). -/
def Dev.startRemote (d : Dev) (e : Nat) (i : EngItem) : Dev :=
  let b := i.desc
  let n := itF b 0x0C 4
  let put := isRemote (itF b 0x18 8)
  let far := if put then itF b 0x18 8 else itF b 0x10 8
  let dev := (far - 0x200000000000) / 2 ^ 34
  let d := (List.range (ceilDiv n 256)).foldl (fun d k =>
    let off := 256 * k
    let len := Nat.min 256 (n - off)
    let ext := windowExt (far % 2 ^ 34 + off) (itF b 0x2C 2) (itF b 0x28 4) (itF b 0x20 8)
    let req : RemoteReq := { eng := e, item := i.ref, run := i.run, dev := dev, write := put, off := off, len := len }
    let d := { d with remotes := d.remotes ++ [req] }
    if put then
      let x := d.fetch (itF b 0x10 8 + off) len
      x.2.send (uPkt 0x01 dev unitOs (unitHub (e / 16)) ext x.1)
    else d.send { uPkt 0x02 dev unitOs (unitHub (e / 16)) ext [] with len := len }) d
  d.modItem i.ref (fun i => { i with issued := true })

/-- An item runs its operation: the write of its last output fixes its end; a put or get ends with its answers. -/
def Dev.runItem (d : Dev) (r : Nat × Nat × Nat) (op : EngOp) : Dev :=
  match d.item r with
  | none => d
  | some (e, i) =>
    if engOp (e % 16) (itF i.desc 0 1) ≠ some op || i.ending.isSome || i.aborting || i.issued || !d.mayRun e i then d
    else if d.lostCell op i.desc then d.endItem r (failEnd 2)
    else if op = .copy && (isRemote (itF i.desc 0x10 8) || isRemote (itF i.desc 0x18 8)) then d.startRemote e i
    else
      let x := d.perform op i
      (x.1.countTraffic e i op x.2).endItem r x.2

/-- COPY. -/
def execDmaCopy (it : ItemRef) (s : State) : Host.Outcome State Fault Refusal := s.run (fun d => d.runItem (refOf it) .copy)
/-- COPY3D. -/
def execCopy3d (it : ItemRef) (s : State) : Host.Outcome State Fault Refusal := s.run (fun d => d.runItem (refOf it) .copy3d)
/-- TRANSPOSE. -/
def execTranspose (it : ItemRef) (s : State) : Host.Outcome State Fault Refusal := s.run (fun d => d.runItem (refOf it) .transpose)
/-- GATHER. -/
def execGather (it : ItemRef) (s : State) : Host.Outcome State Fault Refusal := s.run (fun d => d.runItem (refOf it) .gather)
/-- SCATTER. -/
def execScatter (it : ItemRef) (s : State) : Host.Outcome State Fault Refusal := s.run (fun d => d.runItem (refOf it) .scatter)
/-- REDUCE. -/
def execReduce (it : ItemRef) (s : State) : Host.Outcome State Fault Refusal := s.run (fun d => d.runItem (refOf it) .reduce)
/-- TOPK. -/
def execTopk (it : ItemRef) (s : State) : Host.Outcome State Fault Refusal := s.run (fun d => d.runItem (refOf it) .topk)
/-- EXP. -/
def execExpOp (it : ItemRef) (s : State) : Host.Outcome State Fault Refusal := s.run (fun d => d.runItem (refOf it) .exp)
/-- LOG. -/
def execLogOp (it : ItemRef) (s : State) : Host.Outcome State Fault Refusal := s.run (fun d => d.runItem (refOf it) .log)
/-- RSQRT. -/
def execRsqrt (it : ItemRef) (s : State) : Host.Outcome State Fault Refusal := s.run (fun d => d.runItem (refOf it) .rsqrt)
/-- ERF. -/
def execErfOp (it : ItemRef) (s : State) : Host.Outcome State Fault Refusal := s.run (fun d => d.runItem (refOf it) .erf)
/-- CONVERT. -/
def execConvert (it : ItemRef) (s : State) : Host.Outcome State Fault Refusal := s.run (fun d => d.runItem (refOf it) .convert)
/-- GENERATE. -/
def execGenerate (it : ItemRef) (s : State) : Host.Outcome State Fault Refusal := s.run (fun d => d.runItem (refOf it) .generate)
/-- COMPRESS. -/
def execCompress (it : ItemRef) (s : State) : Host.Outcome State Fault Refusal := s.run (fun d => d.runItem (refOf it) .compress)
/-- DECOMPRESS. -/
def execDecompress (it : ItemRef) (s : State) : Host.Outcome State Fault Refusal := s.run (fun d => d.runItem (refOf it) .decompress)
/-- CRC64. -/
def execCrc64 (it : ItemRef) (s : State) : Host.Outcome State Fault Refusal := s.run (fun d => d.runItem (refOf it) .crc64)
/-- SHAKE256. -/
def execShake256 (it : ItemRef) (s : State) : Host.Outcome State Fault Refusal := s.run (fun d => d.runItem (refOf it) .shake256)

end Sys2Proof.Machine
end

