-- ==== Sys2Proof/Machine/Spad.lean ====
section
/-! DEFINITION. The slice: the near-memory unit and the promotion of narrow requests (R165, R170, R173 to R180). -/

namespace Sys2Proof.Machine

/-! ## Commands (Table 05-4) -/

/-- A field of a near-memory command. -/
def nmF (b : List Byte) (off n : Nat) : Nat := leNat ((b.drop off).take n)

/-- OP of a command. -/
def nmOp (b : List Byte) : Nat := nmF b 0 1

/-- Element size E of a command. -/
def nmE (b : List Byte) : Nat := 2 ^ nmF b 1 1

/-- The command's operation is of set B. -/
def nmSetB (b : List Byte) : Bool := nmOp b = 0x11 || nmOp b = 0x12

/-- No reserved OP, value or field (BAD_CMD of Table 05-5). -/
def nmFieldsOk (b : List Byte) : Bool :=
  let z := fun (off n : Nat) => nmF b off n = 0
  [0x01, 0x02, 0x11, 0x12].contains (nmOp b) && nmF b 2 1 ≤ 191 && z 3 1 && z 0x2C 4 && z 0x38 8 &&
  (if nmSetB b then
     nmF b 1 1 ≤ 3 && z 0x0C 4 && z 0x10 8 && 1 ≤ nmF b 0x18 4 &&
     (if nmOp b = 0x12 then decide (1 ≤ nmF b 0x20 4) else z 0x20 4 && z 0x24 4)
   else
     z 1 1 && nmF b 0x0C 4 % 64 = 0 && 64 ≤ nmF b 0x0C 4 && z 0x18 4 && z 0x1C 4 && z 0x20 4 && z 0x24 4 &&
     (if nmOp b = 0x01 then z 8 4 else z 0x10 8))

/-- Bytes from DST to after the last byte written. -/
def nmDstSpan (b : List Byte) : Nat :=
  match nmOp b with
  | 0x11 => nmF b 0x18 4 * nmE b
  | 0x12 => (nmF b 0x20 4 - 1) * nmF b 0x24 4 + nmF b 0x18 4 * nmE b
  | _ => nmF b 0x0C 4

/-- Bytes from SRC to after the last byte read. -/
def nmSrcSpan (b : List Byte) : Nat :=
  match nmOp b with
  | 0x01 => 0
  | 0x11 => (nmF b 0x18 4 - 1) * nmF b 0x1C 4 + nmE b
  | 0x12 => (nmF b 0x18 4 - 1) * nmF b 0x1C 4 + nmF b 0x20 4 * nmE b
  | _ => nmF b 0x0C 4

/-- STATUS_OFF names 16 aligned bytes of the scratchpad (R177). -/
def nmStatusOk (b : List Byte) : Bool := nmF b 0x28 4 ≤ 0xAFFFF0 && nmF b 0x28 4 % 16 = 0

/-- Inside the scratchpad, aligned, and of a shape that R176 takes (RANGE of Table 05-5). -/
def nmRangeOk (b : List Byte) : Bool :=
  let dst := nmF b 4 4
  let src := nmF b 8 4
  let count := nmF b 0x18 4
  let stride := nmF b 0x1C 4
  let e := nmE b
  let al := if nmSetB b then e else 64
  nmStatusOk b && dst % al = 0 && src % al = 0 && dst + nmDstSpan b ≤ spadSize && src + nmSrcSpan b ≤ spadSize &&
  (match nmOp b with
   | 0x11 => count * e % 64 = 0 && stride != 0 && stride % e = 0
   | 0x12 =>
     count * e % 64 = 0 && nmF b 0x24 4 % 64 = 0 && count * e ≤ nmF b 0x24 4 && nmF b 0x20 4 * e ≤ stride && stride % e = 0
   | _ => true)

/-- Source and destination share a byte range (OVERLAP of Table 05-5). -/
def nmOverlap (b : List Byte) : Bool :=
  let dst := nmF b 4 4
  let src := nmF b 8 4
  0 < nmSrcSpan b && dst < src + nmSrcSpan b && src < dst + nmDstSpan b

/-- The first applicable result of Table 05-5 for a message of a length, with the current set. -/
def nmResult (len : Nat) (setB : Bool) (b : List Byte) : Nat :=
  if len ≠ 64 || !nmFieldsOk b then 1
  else if !nmRangeOk b then 2
  else if nmSetB b != setB then 3
  else if nmOverlap b then 4
  else 0

/-! ## The unit -/

/-- A switch of the operation set is under way. -/
def Dev.switching (d : Dev) (pc : Nat) : Bool := d.bit F.SPAD_OPSET_SWITCHING pc

/-- A requested set other than the current one starts a switch while the unit is between commands (R179). -/
def Dev.opsetNext (d : Dev) (pc : Nat) : Dev :=
  if (d.cell pc).nm.isNone && d.get F.SPAD_OPSET_REQ pc != d.get F.SPAD_OPSET_CUR pc then d.set F.SPAD_OPSET_SWITCHING 1 pc else d

/-- NM_COMMAND_START: the unit takes the message at the head of its channel, returns its units, and checks it (R173, R176, R177). DEDUCED, unsafe (log entry 47). -/
def Dev.nmStart (d : Dev) (pc : Nat) : Dev :=
  let k := d.get F.SPAD_NM_CTL_CHAN pc
  let o := Owner.cell pc
  if !d.domOn pc || d.isFrozen pc || !d.bit F.SPAD_NM_CTL_EN pc || (d.cell pc).nm.isSome || d.switching pc || !d.hasHead o k then d
  else
    let len := d.headLen o k
    let b := d.load (d.ringBase o k + d.chanRd o k + 16) 64
    let r := nmResult len (d.bit F.SPAD_OPSET_CUR pc) b
    let d := (d.modCell pc (fun s => { s with nm := some ⟨b, r, false⟩ })).set F.SPAD_NM_STATUS_BUSY 1 pc
    d.advance o k

/-- NM_COMMAND_START. -/
def execNmCommandStart (pc : Slot) (s : State) : Host.Outcome State Fault Refusal := s.run (fun d => d.nmStart pc)

/-- The command under way performs its operation, if it passed its checks, has the given OP and is not held. DEDUCED, unsafe (log entry 47). -/
def Dev.nmPerform (d : Dev) (pc op : Nat) (f : Dev → List Byte → Dev) : Dev :=
  match (d.cell pc).nm with
  | none => d
  | some c =>
    if c.result ≠ 0 || c.performed || nmOp c.bytes ≠ op || d.isFrozen pc || !d.domOn pc then d
    else (f d c.bytes).modCell pc (fun s => { s with nm := some { c with performed := true } })

/-- FILL: LEN bytes at DST := PATTERN, repeated (R175). -/
def Dev.nmFill (d : Dev) (pc : Nat) (b : List Byte) : Dev :=
  let p := (b.drop 0x10).take 8
  d.store (sliceBase pc + nmF b 4 4) ((List.replicate (nmF b 0x0C 4 / 8) p).flatten)

/-- FILL. -/
def execNmFill (pc : Slot) (s : State) : Host.Outcome State Fault Refusal :=
  s.run (fun d => d.nmPerform pc 0x01 (fun d b => d.nmFill pc b))

/-- COPY: LEN bytes at DST := LEN bytes at SRC (R175). -/
def execNmCopy (pc : Slot) (s : State) : Host.Outcome State Fault Refusal :=
  s.run (fun d => d.nmPerform pc 0x02 (fun d b =>
    d.copyMem (sliceBase pc + nmF b 8 4) (sliceBase pc + nmF b 4 4) (nmF b 0x0C 4)))

/-- STRIDED: COUNT elements gathered at a stride (R175). -/
def execNmStrided (pc : Slot) (s : State) : Host.Outcome State Fault Refusal :=
  s.run (fun d => d.nmPerform pc 0x11 (fun d b =>
    let e := nmE b
    (List.range (nmF b 0x18 4)).foldl (fun d n =>
      d.copyMem (sliceBase pc + nmF b 8 4 + n * nmF b 0x1C 4) (sliceBase pc + nmF b 4 4 + n * e) e) d))

/-- TRANSPOSE: element (r, c) goes to (c, r) (R175). -/
def execNmTranspose (pc : Slot) (s : State) : Host.Outcome State Fault Refusal :=
  s.run (fun d => d.nmPerform pc 0x12 (fun d b =>
    let e := nmE b
    let cols := nmF b 0x20 4
    (List.range (nmF b 0x18 4 * cols)).foldl (fun d i =>
      let r := i / cols
      let c := i % cols
      d.copyMem (sliceBase pc + nmF b 8 4 + r * nmF b 0x1C 4 + c * e) (sliceBase pc + nmF b 4 4 + c * nmF b 0x24 4 + r * e) e) d))

/-- NM_COMMAND_END: the status is written and DONE_CTR posted, or neither where R177 says so; a switch that waits starts (R177, R179). -/
def Dev.nmEnd (d : Dev) (pc : Nat) : Dev :=
  match (d.cell pc).nm with
  | none => d
  | some c =>
    if (c.result = 0 && !c.performed) || d.isFrozen pc || !d.domOn pc then d
    else
      let b := c.bytes
      let ctr := nmF b 2 1
      let d := d.modCell pc (fun s => { s with nm := none })
      let d := ((d.set F.SPAD_NM_STATUS_BUSY 0 pc).set F.SPAD_NM_STATUS_LAST_OP (nmOp b) pc).set F.SPAD_NM_STATUS_LAST_RESULT c.result pc
      let d := d.count F.SPAD_NM_CMDS pc
      let d := if c.result = 0 then d else d.count F.SPAD_NM_REFUSED pc
      let d :=
        if nmStatusOk b then
          let d := d.store (sliceBase pc + nmF b 0x28 4) ((b.drop 0x30).take 8 ++ leBytes 8 c.result)
          if ctr ≤ 191 then d.addCounter pc ctr 1 else d
        else d.record 0x0143 (nmOp b) 2 pc 0 (nmF b 0x30 8)
      d.opsetNext pc

/-- NM_COMMAND_END. -/
def execNmCommandEnd (pc : Slot) (s : State) : Host.Outcome State Fault Refusal := s.run (fun d => d.nmEnd pc)

/-- A write of SPAD_NM_CTL in a powered slot: one that changes CHAN while EN reads 1 is ignored (R174). -/
def Dev.writeNmCtl (d : Dev) (pc v : Nat) : Dev :=
  let chan := bitsOf v 5 0
  if !d.domOn pc || (d.bit F.SPAD_NM_CTL_EN pc && chan != d.get F.SPAD_NM_CTL_CHAN pc) then d
  else (d.set F.SPAD_NM_CTL_EN (bitsOf v 63 63) pc).set F.SPAD_NM_CTL_CHAN chan pc

/-- SPAD_NM_CTL_WRITE: a write that changes CHAN while EN reads 1 is ignored (R174). -/
def execSpadNmCtlWrite (_m : Master) (pc : Slot) (v : Word) (s : State) : Host.Outcome State Fault Refusal :=
  s.run (fun d => d.writeNmCtl pc v.toNat)

/-- A write of SPAD_OPSET.REQ in a powered slot (R179). -/
def Dev.writeOpset (d : Dev) (pc req : Nat) : Dev :=
  if !d.domOn pc then d
  else
    let d := d.set F.SPAD_OPSET_REQ req pc
    if d.switching pc then d else d.opsetNext pc

/-- OPSET_SWITCH: a write of REQ; a set other than the current one starts a switch, at once if the unit is between commands and no switch is under way (R179). -/
def execOpsetSwitch (_m : Master) (pc : Slot) (v : Word) (s : State) : Host.Outcome State Fault Refusal :=
  s.run (fun d => d.writeOpset pc (v.toNat % 2))

/-- OPSET_SWITCH_END: CUR changes to the set of the switch, and a further switch starts if REQ differs (R179). -/
def execOpsetSwitchEnd (pc : Slot) (s : State) : Host.Outcome State Fault Refusal :=
  s.run (fun d =>
    if d.domOn pc && d.switching pc then
      ((d.set F.SPAD_OPSET_CUR (1 - d.get F.SPAD_OPSET_CUR pc) pc).set F.SPAD_OPSET_SWITCHING 0 pc).opsetNext pc
    else d)

/-! ## Requests and corrections -/

/-- NARROW_PROMOTE: a narrow request that has been queued for 64 cycles is promoted (R170). -/
def execNarrowPromote (pc : Slot) (_write : Bool) (s : State) : Host.Outcome State Fault Refusal :=
  s.run (fun d => if d.domOn pc then (d.count F.SPAD_NARROW_PROMOTED pc).count F.SPAD_NARROW_WAIT pc 0 64 else d)

/-- ECC_WRITEBACK: the line corrected longest ago is written back; a write of correct data changes no byte (R165). -/
def execEccWriteback (pc : Slot) (s : State) : Host.Outcome State Fault Refusal :=
  s.run (fun d => if d.domOn pc then d.modSlot pc (fun i => { i with ecc := i.ecc.drop 1 }) else d)

end Sys2Proof.Machine
end

