-- ==== Sys2Proof/Machine/Windows.lean ====
section
/-! DEFINITION. Remote windows (R181 to R188). -/

namespace Sys2Proof.Machine

/-- The register copies of a master (R182): item 1 the OS's, item 2 Slolis's. -/
def masterItem : Master → Nat
  | .os => 1
  | .slolis => 2

/-- The range [a, a + n) lies within one region that R183 permits. -/
def Dev.winRangeOk (d : Dev) (a n : Nat) : Bool :=
  (d.carve ≤ a && a + n ≤ d.get F.DEV_FAR_SIZE_SIZE) ||
  (0x100000000000 ≤ a && a < 0x100200000000 && a % 2 ^ 24 + n ≤ spadSize) ||
  (0x100200000000 ≤ a && a < 0x100220000000 && a % 2 ^ 25 + n ≤ 2 ^ 25)

/-- The checks of R183 on a staged entry that fail with BAD_DESC. -/
def Dev.winDescOk (d : Dev) (x : Window) : Bool :=
  let base := bitsOf x.d0 47 0
  let len := bitsOf x.d1 34 0
  let mode := bitsOf x.d0 61 60
  x.key != 0 && bitsOf x.d0 63 62 != 0 && base % 64 = 0 && len % 64 = 0 && 64 ≤ len && len ≤ 2 ^ 34 && mode != 3 &&
  (mode != 1 || bitsOf x.d2 9 0 ≤ bitsOf x.d2 25 16) && d.winRangeOk base len

/-- The status of a window command in its master's copy (Table 05-17). -/
def Dev.winStatus (d : Dev) (m : Master) (w cmd result : Nat) (busy : Bool) : Dev :=
  d.setReg F.DEV_WIN_STATUS.base 0 (masterItem m)
    ((d.win w).gen % 2 ^ 32 * 2 ^ 32 + b2n busy * 2 ^ 31 + cmd * 2 ^ 28 + w * 2 ^ 16 + result)

/-- A window command of a master, ignored while its copy is BUSY (R182). DEDUCED, unsafe (log entry 48). -/
def Dev.winCmd (d : Dev) (m : Master) (f : Dev → Dev) : Dev :=
  if d.bit F.DEV_WIN_STATUS_BUSY 0 (masterItem m) then d else f d

/-- WIN_OPEN (R183): GEN advances and the window is OPEN, or the command fails. -/
def execWinOpen (m : Master) (win : Fin 1024) (s : State) : Host.Outcome State Fault Refusal :=
  s.runMain (fun d => d.winCmd m (fun d =>
    let i := masterItem m
    let x := d.win win
    let y : Window := { x with d0 := d.reg F.DEV_WIN_D0.base 0 i, d1 := d.reg F.DEV_WIN_D1.base 0 i, d2 := d.reg F.DEV_WIN_D2.base 0 i, key := d.reg F.DEV_WIN_D3.base 0 i }
    if x.isOpen then d.winStatus m win 1 2 false
    else if !d.winDescOk y then d.winStatus m win 1 1 false
    else (d.setWin win { y with gen := (x.gen + 1) % 2 ^ 32, isOpen := true, closing := false }).winStatus m win 1 0 false))

/-- WIN_CLOSE (R184): new packets are refused from now on, and the command is busy until the accepted ones are done. -/
def execWinClose (m : Master) (win : Fin 1024) (s : State) : Host.Outcome State Fault Refusal :=
  s.runMain (fun d => d.winCmd m (fun d =>
    let x := d.win win
    if !x.isOpen || x.closing then d.winStatus m win 2 3 false
    else (d.setWin win { x with closing := true }).winStatus m win 2 0 true))

/-- WIN_CLOSE_DONE (R184). -/
def execWinCloseDone (m : Master) (win : Fin 1024) (s : State) : Host.Outcome State Fault Refusal :=
  s.runMain (fun d =>
    let x := d.win win
    let i := masterItem m
    if d.bit F.DEV_WIN_STATUS_BUSY 0 i && d.get F.DEV_WIN_STATUS_WIN 0 i = win then
      (if x.closing then d.setWin win x.closed else d).winStatus m win 2 0 false
    else d)

/-- WIN_READ (R182): D0 to D2 are loaded from the entry. -/
def execWinRead (m : Master) (win : Fin 1024) (s : State) : Host.Outcome State Fault Refusal :=
  s.runMain (fun d => d.winCmd m (fun d =>
    let i := masterItem m
    let x := d.win win
    let d := ((d.setReg F.DEV_WIN_D0.base 0 i x.d0).setReg F.DEV_WIN_D1.base 0 i x.d1).setReg F.DEV_WIN_D2.base 0 i x.d2
    d.winStatus m win 3 0 false))

/-! ## Checks on inbound packets (R185, R186) -/

/-- A device is in a window's peer set. -/
def Window.peer (x : Window) (src : Nat) : Bool :=
  match bitsOf x.d0 61 60 with
  | 0 => true
  | 1 => bitsOf x.d2 9 0 ≤ src && src ≤ bitsOf x.d2 25 16
  | _ => (List.range (bitsOf x.d2 63 62 + 1)).any (fun i => bitsOf x.d2 (16 * i + 9) (16 * i) = src)

/-- The reason code of the first failing check of Table 05-6; 0 when the packet passes. DEDUCED, unsafe (log entry 48). -/
def Dev.winCheck (d : Dev) (w gen src key : Nat) (write : Bool) (off len : Nat) : Nat :=
  let x := d.win w
  if !x.isOpen || x.closing then 1
  else if gen ≠ x.gen then 2
  else if !x.peer src then 3
  else if key ≠ x.key then 4
  else if !bitOf x.d0 (if write then 63 else 62) then 5
  else if bitsOf x.d1 34 0 < off + len then 6
  else match x.lc with
    | some lc => if (d.hostOf lc).isNone then 7 else 0
    | none => 0

/-- A refused packet is counted, latched and recorded (R185). -/
def Dev.winDeny (d : Dev) (w src reason : Nat) : Dev :=
  ((d.count F.DEV_WIN_DENIED).setReg F.DEV_WIN_LAST_DENIAL.base 0 0 (2 ^ 63 + reason * 2 ^ 32 + w * 2 ^ 16 + src)).record 0x0141 reason 0 0 0 w src

/-- Storage address of an offset in a window that passed its checks. -/
def Dev.winAddr (d : Dev) (w off len : Nat) : Option Nat := (d.place false (bitsOf (d.win w).d0 47 0 + off) len).storage

end Sys2Proof.Machine
end

