-- ==== Sys2Proof/Machine/Mesh.lean ====
section
/-! DEFINITION. The mesh and the way through a Thernolink port: flits, routing, forwarding of stale packets, and packets as slots (R281 to R294, R297 to R300, R308 to R310). -/

namespace Sys2Proof.Machine

/-! ## Packets as bytes and flits (R284) -/

/-- All bytes of a packet: header with its mutable bytes, extension, payload, trailer. -/
def pktAll (p : Packet) : List Byte :=
  (pktBytes p).take 14 ++ leBytes 2 p.loc.toNat ++ p.ext ++ p.payload ++ leBytes 4 p.crc.toNat

/-- Flits of a packet of n bytes in all. -/
def flitsOf (n : Nat) : Nat := ceilDiv n 64

/-- Flits of a packet. -/
def pktFlits (p : Packet) : Nat := flitsOf (20 + p.ext.length + p.payload.length)

/-- Bytes of the extension of a packet that has crossed a link (Table 09-3): a remote access names a window. -/
def extBytes : Nat → Nat
  | 0x01 => 24
  | 0x02 => 24
  | 0x06 => 8
  | 0x0B => 16
  | _ => 0

/-- Payload bytes of a packet: LEN, but none for a READ_REQ. -/
def payBytes (typ len : Nat) : Nat := if typ = 0x02 then 0 else len

/-- Bytes of a packet whose first slot is given. -/
def wireBytes (first : List Byte) : Nat :=
  let typ := leNat (first.take 1)
  20 + extBytes typ + payBytes typ (leNat ((first.drop 2).take 2))

/-- A number of n bytes at an offset. -/
def leAt (b : List Byte) (o n : Nat) : Nat := leNat ((b.drop o).take n)

/-- The packet that wire bytes spell. -/
def pktOfBytes (b : List Byte) : Packet :=
  let typ := leAt b 0 1
  let e := extBytes typ
  let n := payBytes typ (leAt b 2 2)
  { typ := BitVec.ofNat 8 typ, ctl := BitVec.ofNat 8 (leAt b 1 1), len := BitVec.ofNat 16 (leAt b 2 2),
    dstDev := BitVec.ofNat 16 (leAt b 4 2), dstUnit := BitVec.ofNat 16 (leAt b 6 2), srcDev := BitVec.ofNat 16 (leAt b 8 2),
    srcUnit := BitVec.ofNat 16 (leAt b 10 2), route := BitVec.ofNat 16 (leAt b 12 2), loc := BitVec.ofNat 16 (leAt b 14 2),
    ext := (b.drop 16).take e, payload := (b.drop (16 + e)).take n, crc := BitVec.ofNat 32 (leAt b (16 + e + n) 4) }

/-- Bytes cut into 64-byte slots, zero-filled. -/
def slotsOfBytes : Nat → List Byte → List (BitVec 512)
  | 0, _ => []
  | n + 1, b => BitVec.ofNat 512 (leNat (b.take 64)) :: slotsOfBytes n (b.drop 64)

/-- The bytes of slots. -/
def bytesOfSlots (l : List (BitVec 512)) : List Byte := l.flatMap (fun s => leBytes 64 s.toNat)

/-! ## Positions and routes (R290, R291) -/

/-- The router one step from another: 0 N, 1 E, 2 S, 3 W. -/
def stepTo (node side : Nat) : Nat :=
  match side with
  | 0 => node - 34
  | 1 => node + 1
  | 2 => node + 34
  | _ => node - 1

/-- The input at the next router by which a flit sent out of a side arrives. -/
def inputOf (side : Nat) : Nat := (side + 2) % 4

/-- The productive outputs toward a router: along the row, then along the column. -/
def productive (node dst : Nat) : List Nat :=
  let c := node % 34
  let c' := dst % 34
  let r := node / 34
  let r' := dst / 34
  (if c < c' then [1] else if c' < c then [3] else []) ++ (if r < r' then [2] else if r' < r then [0] else [])

/-- The dimension-order output (R290): row first, or column first with COLFIRST. -/
def dimOrder (node dst : Nat) (colFirst : Bool) : Option Nat :=
  let l := productive node dst
  if colFirst then l.getLast? else l.head?

/-- The virtual channel of a flight: 0 S, 1 UA, 2 UE. -/
def flightVc (p : Packet) : Nat := if pktClass p = 0 then 0 else if pktEscape p then 2 else 1

/-- Buffers in flits of a virtual channel at a mesh input (Table 09-1). -/
def meshBuffer (vc : Nat) : Nat := [16, 10, 5].getD vc 0

/-- Free flits of a virtual channel at a router's input. -/
def Dev.meshRoom (d : Dev) (node dir vc : Nat) : Nat :=
  meshBuffer vc - (d.net.filter (fun f => f.node = node && f.dir = dir && flightVc f.pkt = vc)).foldl (fun n f => n + pktFlits f.pkt) 0

/-- Fox at a router: the productive output with the most free UA flits that has room for the whole packet; the row on a tie. -/
def Dev.foxOutput (d : Dev) (node dst flits : Nat) : Option Nat :=
  (productive node dst).foldl (fun best o =>
    let room := d.meshRoom (stepTo node o) (inputOf o) 1
    if room < flits then best
    else match best with
      | none => some o
      | some b => if d.meshRoom (stepTo node b) (inputOf b) 1 < room then some o else best) none

/-- The output and virtual channel that a packet takes at a router; none where it waits (R290, R291). An S packet longer than the buffer moves into an empty one. DEDUCED, unsafe (log entry 41). -/
def Dev.route (d : Dev) (node : Nat) (p : Packet) : Option (Nat × Nat) :=
  let dst := dpcRouter node (pktDpc p)
  let n := pktFlits p
  let fits := fun (o vc : Nat) => min n (meshBuffer vc) ≤ d.meshRoom (stepTo node o) (inputOf o) vc
  if pktClass p = 0 then
    match dimOrder node dst (bitOf p.route.toNat 12) with
    | some o => if fits o 0 then some (o, 0) else none
    | none => none
  else if pktEscape p then
    match dimOrder node dst false with
    | some o => if fits o 2 then some (o, 2) else none
    | none => none
  else match d.foxOutput node dst n with
    | some o => some (o, 1)
    | none =>
      match dimOrder node dst false with
      | some o => if fits o 2 then some (o, 2) else none
      | none => none

/-! ## Out through a port (R297 to R300, R308 to R310) -/

/-- Slots of the replay buffer (R299). -/
def replaySize : Nat := 2048

/-- Sends a packet's slots on a virtual channel of a port: sequence numbers, replay buffer, credits and counts. -/
def Dev.transmit (d : Dev) (n vc : Nat) (p : Packet) : Dev :=
  let slots := slotsOfBytes (pktFlits p) (pktAll p)
  let l := d.link n
  let vcf : Fin 4 := if vc = 0 then 0 else if vc = 1 then 1 else 2
  let items := slots.mapIdx (fun i b => ((l.txNext + i) % 2 ^ 32, decide (i + 1 = slots.length), LinkSlot.mk vcf false b))
  let cost := if vc = 0 then slots.length else 1
  let d := d.modLink n (fun l => { l with txNext := (l.txNext + slots.length) % 2 ^ 32, replay := l.replay ++ items, used := SMap.insert vc (SMap.read 0 l.used vc + cost) l.used })
  let d := items.foldl (fun d i => d.emit (.slot n i.1 i.2.2)) d
  if vc = 0 then d.count F.TL_TX_S n 0 slots.length else d.count F.TL_TX_U n 0 slots.length

/-- The packet continues around the ring it arrived on: it came in by the opposite port of the same dimension (R310). -/
def Dev.onRing (d : Dev) (via : Option Nat) (n : Nat) : Bool :=
  match via with
  | some m => d.get F.TL_CFG_DIM m = d.get F.TL_CFG_DIM n && d.get F.TL_CFG_DIR m != d.get F.TL_CFG_DIR n
  | none => false

/-- What a packet at its port's router does. -/
inductive PortStep where
  /-- It leaves on a virtual channel. -/
  | leave (vc : Nat)
  /-- It waits; `bubble` where R310 holds it back. -/
  | wait (bubble : Bool)
  /-- It turns to another DPC. -/
  | turn (p : Packet)
  deriving DecidableEq, Repr

/-- A packet at the router of port n (R304, R308 to R310). -/
def Dev.atPort (d : Dev) (n : Nat) (f : Flight) : PortStep :=
  let p := f.pkt
  let k := pktFlits p
  let room := k + (d.link n).replay.length ≤ replaySize
  if pktClass p = 0 then
    (if d.get F.TL_LINK_STATUS_STATE n = 3 && room && decide (min k (linkBuffers 0) ≤ d.linkRoom n 0) then .leave 0 else .wait false)
  else if !pktEscape p && d.portUp n && room && decide (1 ≤ d.linkRoom n 1) then .leave 1
  else
    let ue := fun (m : Nat) =>
      if m = n then
        (let need := if pktMcast p || (pktEscape p && d.onRing f.via n) then 1 else 2
         if d.portUp n && room && decide (need ≤ d.linkRoom n 2) then .leave 2 else .wait (d.portUp n))
      else PortStep.turn (pktSetLoc p (560 + m) (pktHops p) true false)
    if pktEscape p || pktMcast p then ue n
    else match d.uPort (p.dstDev.toNat % 1024) with
      | some (m, false) => if m = n then .wait false else .turn (pktSetLoc p (560 + m) (pktHops p) false false)
      | some (m, true) => ue m
      | none => .wait false

/-! ## PACKET_HOP -/

/-- A flit's words with their errors (R287): corrections are counted at the router, an uncorrectable word starts the containment of R390 and the packet is lost, and a wrong correction spoils the packet. -/
def Dev.hopWords (d : Dev) (node : Nat) (p : Packet) : Upsets → Dev × Option Packet
  | [] => (d, some p)
  | (i, e) :: us =>
    match w80Decode d.freeCtr (wOf (leAt (pktAll p) (8 * i) 8)) e with
    | .clean => d.hopWords node p us
    | .corrected double =>
      let d := d.count F.CELL_RTR_CORRECTED node
      (if double then d.record 0x0110 5 2 node 1 0 else d).hopWords node p us
    | .uncorrectable => (d.uncorrectable 2 node 5 0 (pktDpc p), none)
    | .wrong _ => Dev.hopWords ({ d with freeCtr := d.freeCtr + 1 }.count F.CELL_RTR_CORRECTED node) node { p with crc := p.crc ^^^ 1 } us

/-- The device with the flight at a position of the net replaced, moved to the end as the latest to arrive, or removed. -/
def Dev.setFlight (d : Dev) (i : Nat) (f : Option Flight) : Dev :=
  { d with net := d.net.eraseIdx i ++ f.toList }

/-- A packet for a logical cell at a slot that no longer hosts it (R292): DPC becomes the hosting slot with FWD set; none where the slot hosts it, or nothing does. -/
def Dev.forward (d : Dev) (node : Nat) (p : Packet) : Option Packet :=
  let u := p.dstUnit.toNat
  if p.dstDev.toNat % 1024 = d.deviceId && !pktMcast p && u / 2 ^ 14 % 4 = 0 && pktDpc p = node then
    match d.hostOf (u % 512) with
    | some pc => if pc = node then none else some (pktSetLoc p pc (pktHops p) (pktEscape p) true)
    | none => none
  else none

/-- The router step of one packet: out through its port, forwarded from a vacated slot, or one link on; a packet at its unit's router waits for its delivery. -/
def Dev.hopFrom (d : Dev) (i : Nat) (f : Flight) : Dev :=
  let p := if pktDpc f.pkt < 560 && !pktMcast f.pkt && f.pkt.dstDev.toNat % 1024 != d.deviceId then d.aim f.node f.pkt else f.pkt
  let dpc := pktDpc p
  let f := { f with pkt := p }
  if pktMcast p && pktHops p != 0 && f.via.isNone && (d.mcastPort p).isNone then d.setFlight i none
  else if f.node = dpcRouter f.node dpc then
    (if 560 ≤ dpc && dpc < 572 then
       match d.atPort (dpc - 560) f with
       | .leave vc => if d.islandOut (.port (Fin.ofNat 12 (dpc - 560))) then d else (d.setFlight i none).transmit (dpc - 560) vc p
       | .wait bubble => if bubble then d.count F.TL_BUBBLE_WAIT (dpc - 560) else d
       | .turn p' => d.setFlight i (some { f with pkt := p' })
     else match d.forward f.node p with
       | some p' => (d.setFlight i (some { f with pkt := p' })).count F.CELL_RTR_FORWARDED f.node
       | none => d)
  else match d.route f.node p with
    | none => d
    | some (o, vc) =>
      if d.islandOut (.router (Fin.ofNat 544 (stepTo f.node o))) then d else
      let p' := if vc = 2 && !pktEscape p then pktSetLoc p dpc (pktHops p) true (bitOf p.loc.toNat 15) else p
      let d := d.count F.CELL_RTR_FLITS f.node 0 (pktFlits p)
      let d := if vc = 2 && !pktEscape p then d.count F.CELL_RTR_ESCAPE f.node else d
      d.setFlight i (some { f with pkt := p', node := stepTo f.node o, dir := inputOf o })

/-- Of S packets whose heads want one output at once, the one that is served: the first input in the order N, E, S, W, local (R283). -/
def Dev.firstHead (d : Dev) (i : Nat) (rivals : List Nat) : Nat :=
  rivals.foldl (fun b j =>
    match d.net[b]?, d.net[j]? with
    | some x, some y => if y.dir < x.dir then j else b
    | _, _ => b) i

/-- Rivals of an S packet: S packets at its router that want its output. -/
def Dev.realRivals (d : Dev) (i : Nat) (rivals : List Nat) : List Nat :=
  match d.net[i]? with
  | some f =>
    let want := fun (g : Flight) => dimOrder g.node (dpcRouter g.node (pktDpc g.pkt)) (bitOf g.pkt.route.toNat 12)
    if pktClass f.pkt = 0 then
      rivals.filter (fun j => match d.net[j]? with
        | some g => j != i && g.node = f.node && pktClass g.pkt = 0 && want g = want f
        | none => false)
    else []
  | none => []

/-- A packet waits for the handshake of its router's island, or of its source's island that it has not left yet (R49). -/
def Dev.flightOut (d : Dev) (f : Flight) : Bool :=
  d.islandOut (.router (Fin.ofNat 544 f.node)) || (f.dir = 4 && f.via.isNone && d.unitOut f.pkt.srcUnit.toNat)

/-- PACKET_HOP: packet i of the net takes its next step; `rivals` are S packets whose heads reach the same output with it, and `u` the errors on the link (R283, R291, R292). DEDUCED, unsafe (log entry 41). -/
def Dev.packetHop (d : Dev) (i : Nat) (rivals : List Nat) (u : Upsets) : Dev :=
  match d.net[i]? with
  | none => d
  | some f =>
    let rs := d.realRivals i rivals
    let d := if rs.isEmpty then d
      else (d.count F.CELL_RTR_S_CONFLICT f.node).record 0x0163 0 2 f.node 0 (leNat ((pktAll f.pkt).take 8))
    let w := d.firstHead i rs
    match d.net[w]? with
    | none => d
    | some g =>
      if d.flightOut g then d else
      let (d, p) := d.hopWords g.node g.pkt u
      match p with
      | none => d.setFlight w none
      | some p => d.hopFrom w { g with pkt := p }

/-- PACKET_HOP. -/
def execPacketHop (i : Nat) (rivals : List Nat) (u : Upsets) (s : State) : Host.Outcome State Fault Refusal :=
  s.run (fun d => d.packetHop i rivals u)

end Sys2Proof.Machine
end

