-- ==== Sys2Proof/Machine/Tree.lean ====
section
/-! DEFINITION. The marker tree: parents, children, and C flits sent along it (R314, R323, R339, Table 10-10, Table 13-5). -/

namespace Sys2Proof.Machine

/-- This device is the beat master. -/
def Dev.isMaster (d : Dev) : Bool := d.bit F.DEV_BEAT_STATUS_MASTER

/-- The master's id. -/
def Dev.masterId (d : Dev) : Nat := d.get F.DEV_DOMAIN_ID_MASTER_ID

/-- The number P of devices of the domain (R305). -/
def Dev.domainSize (d : Dev) : Nat := (List.range 6).foldl (fun n k => n * d.ringSize k) 1

/-- The dimension and direction in which a device's parent lies: the highest dimension in which it differs from the master, one step the shorter way, minus on a tie (R314). -/
def Dev.parentStep (d : Dev) (id : Nat) : Option (Nat × Bool) :=
  match (d.openDims id d.masterId).getLast? with
  | none => none
  | some k => some (k, decide (d.ringHops id d.masterId k true < d.ringHops id d.masterId k false))

/-- The parent of a device. -/
def Dev.parentOf (d : Dev) (id : Nat) : Option Nat := (d.parentStep id).map (fun s => d.neighbour id s.1 s.2)

/-- The lowest-numbered UP port of a bond group. -/
def Dev.upMember (d : Dev) (k : Nat) (plus : Bool) : Option Nat := (d.bondGroup k plus).find? d.portUp

/-- The port toward the parent. -/
def Dev.parentPort (d : Dev) : Option Nat := (d.parentStep d.deviceId).bind (fun s => d.upMember s.1 s.2)

/-- The port toward the neighbour in the other direction of the same dimension (R317). -/
def Dev.altPort (d : Dev) : Option Nat := (d.parentStep d.deviceId).bind (fun s => d.upMember s.1 (!s.2))

/-- The neighbour at a port's other end. -/
def Dev.portPeer (d : Dev) (n : Nat) : Nat := d.neighbour d.deviceId (d.get F.TL_CFG_DIM n) (d.get F.TL_CFG_DIR n = 1)

/-- The UP ports whose neighbour has this device as its parent. -/
def Dev.childPorts (d : Dev) : List Nat := d.upPorts.filter (fun n => d.parentOf (d.portPeer n) = some d.deviceId)

/-- The devices whose parent this device is, over its UP ports. -/
def Dev.children (d : Dev) : List Nat := (d.childPorts.map d.portPeer).eraseDups

/-- A C flit goes toward the master; without a parent port it is not sent. -/
def Dev.sendUp (d : Dev) (f : CFlit) : Dev :=
  match d.parentPort with
  | some n => d.sendC n f
  | none => d

/-- A C flit goes down the tree. -/
def Dev.sendDown (d : Dev) (f : CFlit) : Dev := d.sendCs d.childPorts f

/-- A received C flit with HOPS one more, as it is forwarded. -/
def hopped (f : CFlit) : CFlit :=
  mkCFlit f.typ.toNat ((f.hops.toNat + 1) % 256) f.origin.toNat f.seq.toNat f.beat.toNat f.body

/-- A field of a C flit's body, by its offset in the flit. -/
def cField (f : CFlit) (off n : Nat) : Nat := leNat ((f.body.drop (off - 16)).take n)

/-- A received C flit of a TYPE counts on an UP port if its CRC is right. -/
def Dev.cFlitIn (d : Dev) (n : Nat) (typ : Nat) (f : CFlit) : Bool := d.portUp n && f.typ.toNat = typ && cFlitOk f

/-- A C flit of a TYPE by this device, with its next SEQ. -/
def Dev.ownFlit (d : Dev) (typ beat : Nat) (body : List Byte) : CFlit × Dev :=
  let (seq, d) := d.nextCSeq typ
  (mkCFlit typ 0 d.deviceId seq beat body, d)

/-- A NOTICE of this device. -/
def Dev.notice (d : Dev) (body : List Byte) : CFlit × Dev := d.ownFlit 0x12 d.beat body

/-- A NOTICE of a kind arrived on a port. -/
def Dev.noticeIn (d : Dev) (n kind : Nat) (f : CFlit) : Bool := d.cFlitIn n 0x12 f && cField f 0x10 1 = kind

/-- Forwards a NOTICE toward the master unchanged but for HOPS (R323). -/
def Dev.forwardUp (d : Dev) (f : CFlit) : Dev := d.sendUp (hopped f)

end Sys2Proof.Machine
end

