-- ==== Sys2Proof/Machine/Links.lean ====
section
/-! DEFINITION. Thernolink ports: codewords, control flits, replay, credits, link states and the domain identity (R296 to R307, R315, Table 09-5). -/

namespace Sys2Proof.Machine

/-- Link loss with a cause of Table 12-7 (R302): 1 control flits, 2 replays, 3 GOING_DOWN, 4 lane lock. -/
def Dev.linkLoss (d : Dev) (n cause : Nat) : Dev :=
  if d.portUp n then
    let lost := (d.link n).packets
    let d := ((d.dropLink n).setPortState n 6).count F.TL_LINK_DOWNS n
    (d.record 0x0160 cause 6 n 2 lost).raiseHold 5 n
  else d

/-! ## Codewords (R298) -/

/-- The port's router, and the input by which its packets enter. -/
def portEntry (n : Nat) : Nat × Nat := (dpcRouter 0 (560 + n), if n < 6 then 0 else 2)

/-- A whole packet enters the die from a port: ESCAPE clears, and its target on this die is set. A multicast packet stays at the port's router until its delivery. -/
def Dev.enterDie (d : Dev) (n : Nat) (p : Packet) : Dev :=
  let (r, dir) := portEntry n
  let p := pktSetLoc p 0 (pktHops p) false false
  let p := if pktMcast p then pktSetLoc p r (pktHops p) false false else d.aim r p
  { d with net := d.net ++ [Flight.mk p r dir (some n)] }

/-- A data slot in sequence: C slots carry flits that have steps of their own; S and U slots fill packets (R298, R300). -/
def Dev.acceptSlot (d : Dev) (n : Nat) (s : LinkSlot) : Dev :=
  let d := d.modLink n (fun l => { l with rxNext := (l.rxNext + 1) % 2 ^ 32 })
  if s.idle then d
  else
    let vc := s.vc.val
    let free := fun (d : Dev) (k : Nat) => d.modLink n (fun l => { l with freed := SMap.insert vc ((SMap.read 0 l.freed vc + k) % 2 ^ 16) l.freed })
    if vc = 3 then free (d.count F.TL_RX_C n) 1
    else
      let d := if vc = 0 then d.count F.TL_RX_S n else d.count F.TL_RX_U n
      let part := SMap.read [] (d.link n).parts vc ++ [s.bytes]
      let need := wireBytes (bytesOfSlots (part.take 1))
      if part.length < flitsOf need then d.modLink n (fun l => { l with parts := SMap.insert vc part l.parts })
      else
        let d := d.modLink n (fun l => { l with parts := SMap.erase vc l.parts })
        (free d (if vc = 0 then part.length else 1)).enterDie n (pktOfBytes ((bytesOfSlots part).take need))

/-- Slots of a decoded codeword from a sequence number on: those that come in sequence are accepted, the others discarded; a slot beyond the expected one calls for a NAK. -/
def Dev.takeSlots (d : Dev) (n : Nat) : Nat → List LinkSlot → Dev
  | _, [] => d
  | seq, s :: ss =>
    let d := if seq % 2 ^ 32 = (d.link n).rxNext then (d.modLink n (fun l => { l with nak := false })).acceptSlot n s
      else if newer32 seq (d.link n).rxNext then d.modLink n (fun l => { l with nak := true })
      else d
    d.takeSlots n (seq + 1) ss

/-- CODEWORD_RX (R296, R298): counts, the FEC mode in which the peer decodes, and the data slots of a port that carries data. DEDUCED, unsafe (log entry 43). -/
def Dev.codewordRx (d : Dev) (n : Nat) (cw : Codeword) : Dev :=
  if d.portState n = 0 || d.portState n = 6 then d
  else
    let d := d.count F.TL_CW_RX n
    if cw.decodes then
      let d := (d.count F.TL_SYM_CORRECTED n 0 cw.corrected).set F.TL_LINK_STATUS_FEC_CUR (b2n cw.robust) n
      if d.portUp n then d.takeSlots n cw.first.toNat cw.slots else d
    else
      let d := d.count F.TL_CW_UNCORR n
      if d.portUp n then d.modLink n (fun l => { l with nak := true }) else d

/-- CODEWORD_RX. -/
def execCodewordRx (n : Port) (cw : Codeword) (s : State) : Host.Outcome State Fault Refusal := s.run (fun d => d.codewordRx n cw)

/-! ## Control flits (R297 to R303, R315) -/

/-- WHY of a control flit: what differs from the port's own configuration (R303). -/
def Dev.flitWhy (d : Dev) (n : Nat) (f : LinkFlit) : Nat :=
  b2n (bitsOf f.sender.toNat 9 0 != d.get F.TL_CFG_NEIGH_ID n) + 2 * b2n (bitsOf f.sender.toNat 13 10 != d.get F.TL_CFG_NEIGH_PORT n) +
  4 * b2n (bitsOf f.master.toNat 9 0 != d.get F.DEV_DOMAIN_ID_MASTER_ID) + 8 * b2n (f.shape.toNat != d.reg F.DEV_DOMAIN_SHAPE.base) +
  16 * b2n (bitsOf f.flags.toNat 3 3 != d.get F.TL_CFG_FEC n)

/-- Entry into MISMATCH: what was seen is latched, and one record made; leaving UP raises a hold (R303, Table 10-12). -/
def Dev.enterMismatch (d : Dev) (n why : Nat) (f : LinkFlit) : Dev :=
  let was := d.portState n
  let seen := 2 ^ 63 + bitsOf f.master.toNat 9 0 * 2 ^ 14 + bitsOf f.sender.toNat 13 0
  let d := ((d.setPortState n 5).set F.TL_LINK_STATUS_WHY why n).modLink n (fun l => { l with good := 0 })
  let d := (d.setReg F.TL_IDENT_SEEN.base n 0 seen).setReg F.TL_SHAPE_SEEN.base n 0 f.shape.toNat
  let d := d.record 0x0161 why 6 n 2 seen f.shape.toNat
  if was = 3 then d.raiseHold 5 n else d

/-- Credits returned for a class by a cumulative count; a return beyond what is used is discarded (R19, R300). -/
def LinkState.credit (l : LinkState) (cls count : Nat) : LinkState :=
  let delta := (count + 2 ^ 16 - SMap.read 0 l.peer cls) % 2 ^ 16
  let used := SMap.read 0 l.used cls
  if delta ≤ used then { l with used := SMap.insert cls (used - delta) l.used, peer := SMap.insert cls count l.peer } else l

/-- An acknowledgement frees the slots before it (R299). -/
def LinkState.acked (l : LinkState) (ack : Nat) : LinkState :=
  { l with replay := l.replay.filter (fun r => !older32 r.1 ack),
           resend := l.resend.filter (fun s => !older32 s ack) }

/-- A delay sample enters the filter over 256 control flits (R315). -/
def LinkState.delaySample (l : LinkState) (arrival : Nat) (f : LinkFlit) : LinkState :=
  let s := (arrival - bitsOf f.tEcho.toNat 47 0 - f.tHold.toNat) / 2
  let l := if f.tEcho = 0 then l
    else if l.delayN < 256 then { l with delaySum := l.delaySum + s, delayN := l.delayN + 1 }
    else { l with delaySum := l.delaySum - l.delaySum / 256 + s }
  { l with lastTx := bitsOf f.tTx.toNat 47 0, lastAt := arrival }

/-- A NAK starts a replay from NAK_SEQ, unless that sequence is already being resent; more than 64 replays in a beat lose the link (R299, R302). DEDUCED, unsafe (log entry 43). -/
def Dev.nakArrives (d : Dev) (n seq : Nat) : Dev :=
  let l := d.link n
  let again := match l.resend with
    | some s => !older32 seq s
    | none => false
  if again then d
  else
    let d := (d.modLink n (fun l => { l with resend := some seq, replays := l.replays + 1 })).count F.TL_REPLAYS n
    if 64 < (d.link n).replays then d.linkLoss n 2
    else (l.replay.filter (fun r => !older32 r.1 seq)).foldl (fun d r => d.emit (.slot n r.1 r.2.2)) d

/-- A matching control flit (R301, R303): in IDENT and MISMATCH the sixteenth in a row brings the port up; in UP and HALF it brings credits, acknowledgements and a NAK. -/
def Dev.flitMatches (d : Dev) (n : Nat) (f : LinkFlit) : Dev :=
  let half := d.get F.TL_LINK_STATUS_LANES n != 0xFF || bitOf f.flags.toNat 1
  if d.portUp n then
    let d := d.modLink n (fun l => ((List.range 4).foldl (fun l c => l.credit c (bitsOf f.credits.toNat (16 * c + 15) (16 * c))) l).acked f.ack.toNat)
    let d := if half && d.portState n = 3 then (d.setPortState n 4).raiseHold 5 n else d
    if bitOf f.flags.toNat 0 then d.nakArrives n f.nakSeq.toNat else d
  else
    let good := (d.link n).good + 1
    if good < 16 then d.modLink n (fun l => { l with good := good })
    else
      let d := d.modLink n (fun l => { l with good := 16, rxNext := f.firstSeq.toNat })
      (d.setPortState n (if half then 4 else 3)).set F.TL_LINK_STATUS_WHY 0 n

/-- LINK_CONTROL_FLIT: one that fails its CRC is discarded; GOING_DOWN loses the link; a mismatch moves the port to MISMATCH (R298, R302, R303). -/
def Dev.linkControlFlit (d : Dev) (n : Nat) (f : LinkFlit) (arrival : Nat) : Dev :=
  let st := d.portState n
  if f.crc.toNat != crc32c (linkFlitFront f) || !(st = 2 || st = 3 || st = 4 || st = 5) then d
  else if bitOf f.flags.toNat 2 then d.linkLoss n 3
  else
    let d := d.modLink n (fun l => l.delaySample arrival f)
    let l := d.link n
    let d := if l.delayN = 0 then d else d.set F.TL_LINK_STATUS_DELAY (l.delaySum / l.delayN) n
    let why := d.flitWhy n f
    if why = 0 then d.flitMatches n f
    else if st = 5 then (d.set F.TL_LINK_STATUS_WHY why n).modLink n (fun l => { l with good := 0 })
    else d.enterMismatch n why f

/-- LINK_CONTROL_FLIT. -/
def execLinkControlFlit (n : Port) (f : LinkFlit) (arrival : Nat) (s : State) : Host.Outcome State Fault Refusal :=
  s.run (fun d => d.linkControlFlit n f arrival)

/-- LINK_CONTROL_FLIT_TX: slot 0 of a super-frame, from IDENT on, and the last one of a port that goes down (R297, R301). -/
def execLinkControlFlitTx (n : Port) (now : Nat) (s : State) : Host.Outcome State Fault Refusal :=
  s.run (fun d =>
    let st := d.portState n
    if st = 2 || st = 3 || st = 4 || st = 5 || (d.link n).goingDown then
      (d.emit (.linkFlit n (d.controlFlit n now))).modLink n (fun l => { l with goingDown := false })
    else d)

/-- CONTROL_FLIT_TIMEOUT: no good control flit for 8 super-frames (R302). -/
def execControlFlitTimeout (n : Port) (s : State) : Host.Outcome State Fault Refusal := s.run (fun d => d.linkLoss n 1)

/-- LANE_LOCK_LOSS: the lanes lose lock (R302). -/
def execLaneLockLoss (n : Port) (s : State) : Host.Outcome State Fault Refusal := s.run (fun d => d.linkLoss n 4)

/-! ## Enabling and training (R301, R307) -/

/-- The fields of TL_CFG other than EN, from a written value. -/
def Dev.writeTlCfg (d : Dev) (n v : Nat) : Dev :=
  d.setReg F.TL_CFG.base n 0 (setBitsOf (bitsOf v 63 44 * 2 ^ 44) 63 63 (d.get F.TL_CFG_EN n))

/-- The checks of R307 on a port that is to be enabled. -/
def Dev.tlCfgOk (d : Dev) (n : Nat) : Bool :=
  let k := d.get F.TL_CFG_DIM n
  let plus := d.bit F.TL_CFG_DIR n
  d.bit F.DEV_DOMAIN_ID_VALID && k ≤ 5 && 2 ≤ d.ringSize k && d.get F.TL_CFG_NEIGH_ID n = d.neighbour d.deviceId k plus &&
  ((d.bondGroup k plus).filter (fun m => m != n)).length < 2

/-- TL_ENABLE: a port that is not enabled takes the written fields and is checked; it trains, or CFG_ERR is set and EN stays 0. -/
def Dev.tlEnable (d : Dev) (n v : Nat) : Dev :=
  if d.bit F.TL_CFG_EN n || !d.domOn (560 + n) then d
  else
    let d := d.writeTlCfg n v
    if d.tlCfgOk n then (d.set F.TL_CFG_EN 1 n).startTraining n else d.set F.TL_LINK_STATUS_CFG_ERR 1 n

/-- TL_ENABLE (R307). -/
def execTlEnable (_m : Master) (n : Port) (v : Word) (s : State) : Host.Outcome State Fault Refusal := s.run (fun d => d.tlEnable n v.toNat)

/-- TL_DISABLE: an enabled port is DISABLED, its other fields left as they are; a port that is not enabled takes the written fields (R301, Table 09-9). -/
def Dev.tlDisable (d : Dev) (n v : Nat) : Dev :=
  if !d.domOn (560 + n) then d
  else if d.bit F.TL_CFG_EN n then
    let d := (d.dropLink n).set F.TL_CFG_EN 0 n
    ((d.setPortState n 0).set F.TL_LINK_STATUS_LANES 0 n).modLink n (fun _ => LinkState.reset)
  else d.writeTlCfg n v

/-- TL_DISABLE. -/
def execTlDisable (_m : Master) (n : Port) (v : Word) (s : State) : Host.Outcome State Fault Refusal := s.run (fun d => d.tlDisable n v.toNat)

/-- TL_CMD RETRAIN: the link goes down with GOING_DOWN, and trains again (R301, Table 09-13); leaving UP raises a hold. -/
def Dev.tlRetrain (d : Dev) (n : Nat) : Dev :=
  let st := d.portState n
  if st = 0 || !d.domOn (560 + n) then d
  else if st = 2 || st = 3 || st = 4 || st = 5 then
    let d := (d.dropLink n).modLink n (fun l => { l with goingDown := true })
    let d := d.emit (.linkFlit n (d.controlFlit n (d.link n).lastAt))
    let d := d.startTraining n
    if st = 3 then d.raiseHold 5 n else d
  else d.startTraining n

/-- TL_RETRAIN. -/
def execTlRetrain (_m : Master) (n : Port) (s : State) : Host.Outcome State Fault Refusal := s.run (fun d => d.tlRetrain n)

/-- TRAINING_DONE: all lanes, or one half after its attempts, train, and the port enters IDENT (R301). -/
def execTrainingDone (n : Port) (lowHalf : Bool) (highHalf : Bool) (s : State) : Host.Outcome State Fault Refusal :=
  s.run (fun d =>
    if d.portState n = 1 && (lowHalf || highHalf) then
      (d.setPortState n 2).set F.TL_LINK_STATUS_LANES (15 * b2n lowHalf + 240 * b2n highHalf) n
    else d)

/-- TRAINING_TIMEOUT: no half trains within 50 ms (R301). -/
def execTrainingTimeout (n : Port) (s : State) : Host.Outcome State Fault Refusal :=
  s.run (fun d => if d.portState n = 1 then d.setPortState n 6 else d)

/-- RETRAIN_TIMER: a port in DOWN trains again after 10 ms (R301). -/
def execRetrainTimer (n : Port) (s : State) : Host.Outcome State Fault Refusal :=
  s.run (fun d => if d.portState n = 6 then d.startTraining n else d)

/-! ## Identity (R305) -/

/-- The conditions of R305. -/
def Dev.identityOk (d : Dev) : Bool :=
  d.domainSize ≤ 1024 && d.deviceId < d.domainSize && d.get F.DEV_DOMAIN_ID_MASTER_ID < d.domainSize &&
  (List.range 6).foldl (fun n k => n + d.ringSize k / 2) 0 ≤ 32

/-- DOMAIN_IDENTITY_WRITE: DEV_DOMAIN_SHAPE or DEV_DOMAIN_ID takes the value unless a port is enabled; VALID or ERR says whether the identity passes. -/
def Dev.identityWrite (d : Dev) (shape : Bool) (v : Nat) : Dev :=
  if !d.power.mainUp || (List.range 12).any (fun n => d.bit F.TL_CFG_EN n) then d
  else
    let d := if shape then d.setReg F.DEV_DOMAIN_SHAPE.base 0 0 (bitsOf v 59 0)
      else (d.set F.DEV_DOMAIN_ID_MASTER_ID (bitsOf v 25 16)).set F.DEV_DOMAIN_ID_DEVICE_ID (bitsOf v 9 0)
    let ok := d.identityOk
    let d := (d.set F.DEV_DOMAIN_ID_VALID (b2n ok)).set F.DEV_DOMAIN_ID_ERR (b2n (!ok))
    d.set F.DEV_BEAT_STATUS_MASTER (b2n (ok && d.deviceId = d.get F.DEV_DOMAIN_ID_MASTER_ID))

/-- DOMAIN_IDENTITY_WRITE (R305). -/
def execDomainIdentityWrite (_m : Master) (shape : Bool) (v : Word) (s : State) : Host.Outcome State Fault Refusal :=
  s.run (fun d => d.identityWrite shape v.toNat)

end Sys2Proof.Machine
end

