-- ==== Sys2Proof/Machine/Deliver.lean ====
section
/-! DEFINITION. Packets that reach their unit: the trailer check, remote accesses and their answers, records, credits, joins, notices, contributions and counter additions (R185, R191, R211, R217, R221, R228, R229, R233, R238, R257, R258, R284, R286, R292, R383, R444). -/

namespace Sys2Proof.Machine

/-! ## Common to every delivery -/

/-- Source device of a packet. -/
def pktSrc (p : Packet) : Nat := p.srcDev.toNat % 1024

/-- Kind of the destination unit (Table 09-2). -/
def pktKind (p : Packet) : Nat := p.dstUnit.toNat / 2 ^ 14

/-- A field of the payload. -/
def payAt (p : Packet) (o n : Nat) : Nat := leAt p.payload o n

/-- A field of the extension. -/
def extAt (p : Packet) (o n : Nat) : Nat := leAt p.ext o n

/-- A packet that fails its trailer check is discarded, counted where it entered the device, and recorded (R286, R392). DEDUCED, unsafe (log entry 40). -/
def Dev.badTrailer (d : Dev) (p : Packet) (inPort : Option Port) : Dev :=
  let h := pktAll p
  let d0 := leNat (h.take 8)
  let d1 := leNat ((h.drop 8).take 8)
  match inPort with
  | some n => (d.count F.TL_E2E_CRC n).record 0x0112 p.typ.toNat 6 n 3 d0 d1
  | none =>
    let r := dpcRouter 0 ((d.unitDpc p.dstUnit.toNat).getD (pktDpc p))
    (d.count F.CELL_RTR_E2E_CRC r).record 0x0112 p.typ.toNat 2 r 3 d0 d1

/-- What every delivery does first: the packet leaves the mesh and its trailer is checked; a packet of another type, or for another device, is not delivered here, and one for an island that withholds its handshakes waits (R49). DEDUCED, unsafe (log entry 40). -/
def Dev.deliver (d : Dev) (typ : Nat) (p : Packet) (inPort : Option Port) (k : Dev → Dev) : Dev :=
  if p.typ.toNat ≠ typ || d.unitOut p.dstUnit.toNat then d
  else
    let d := d.landed p
    if !pktCrcOk p then d.badTrailer p inPort
    else if !pktMcast p && p.dstDev.toNat % 1024 ≠ d.deviceId then d
    else k d

/-- A refusal with a reason of Table 05-6 goes to the packet's source (R258, R292). -/
def Dev.refuse (d : Dev) (p : Packet) (reason : Nat) : Dev :=
  d.send (uPkt 0x05 (pktSrc p) p.srcUnit.toNat p.dstUnit.toNat [] (leBytes 1 reason))

/-- A packet for a logical cell reaches its slot; one for an UNHOSTED cell, or a cell of a partition in reset, is refused with reason 7 (R292, R444). -/
def Dev.atCell (d : Dev) (p : Packet) (k : Dev → Nat → Dev) : Dev :=
  let lc := p.dstUnit.toNat % 512
  if d.partResetting (lc / 64) then d.refuse p 7
  else match d.hostOf lc with
    | some pc => k d pc
    | none => d.refuse p 7

/-- The owner of channels and endpoints that a packet names: a cell, the OS complex, or Slolis's reply endpoint as endpoint 256. -/
def Dev.atOwner (d : Dev) (p : Packet) (k : Dev → Owner → Bool → Dev) : Dev :=
  match pktKind p with
  | 0 => d.atCell p (fun d pc => k d (.cell pc) false)
  | 2 => k d .os false
  | 3 => k d .os true
  | _ => d

/-- The logical cell that a packet comes from; 0 for other units. -/
def pktSrcLc (p : Packet) : Nat := if p.srcUnit.toNat / 2 ^ 14 = 0 then p.srcUnit.toNat % 512 else 0

/-! ## Remote accesses (R185, R257, R258) -/

/-- The agent on this device that makes an access without a window; an engine is none (R250). -/
def pktAgent (p : Packet) : Option Agent :=
  match p.srcUnit.toNat / 2 ^ 14 with
  | 0 => some (.cell (Fin.ofNat 512 (p.srcUnit.toNat % 512)))
  | 2 => some .os
  | 3 => some .slolis
  | _ => none

/-- Where a WRITE or READ_REQ lands: a storage address, with the agent that writes; or the refusal. A packet with a window extension is checked by R185; one with an address comes from this device, and an address without storage is refused as an address fault. -/
def Dev.landing (d : Dev) (p : Packet) (write : Bool) (len : Nat) : Dev × Option (Nat × Option Agent) :=
  if p.ext.length = 24 then
    let w := extAt p 8 2 % 1024
    let reason := d.winCheck w (extAt p 12 4) (pktSrc p) (extAt p 16 8) write (extAt p 0 8 % 2 ^ 34) len
    if reason ≠ 0 then ((d.winDeny w (pktSrc p) reason).refuse p reason, none)
    else match d.winAddr w (extAt p 0 8 % 2 ^ 34) len with
      | some a => (d, some (a, some (.remote (BitVec.ofNat 10 (pktSrc p)))))
      | none => (d.refuse p 7, none)
  else if pktSrc p ≠ d.deviceId then (d.refuse p 1, none)
  else match (d.place false (extAt p 0 8) len).storage with
    | some a => (d, some (a, pktAgent p))
    | none => (d.refuse p 7, none)

/-- WRITE: the payload is stored and acknowledged; rings of work queues refuse what their rules refuse (R250, R284). -/
def execWritePkt (p : Packet) (inPort : Option Port) (s : State) : Host.Outcome State Fault Refusal :=
  s.run (fun d => d.deliver 0x01 p inPort (fun d =>
    match d.landing p true p.payload.length with
    | (d, none) => d
    | (d, some (a, who)) =>
      ((d.farMoved 1 a p.payload.length).agentStore who a p.payload).send (uPkt 0x04 (pktSrc p) p.srcUnit.toNat p.dstUnit.toNat [] [])))

/-- READ_REQ: LEN bytes are read and returned (R284). -/
def execReadReqPkt (p : Packet) (inPort : Option Port) (s : State) : Host.Outcome State Fault Refusal :=
  s.run (fun d => d.deliver 0x02 p inPort (fun d =>
    match d.landing p false p.len.toNat with
    | (d, none) => d
    | (d, some (a, _)) =>
      (d.farMoved 1 a p.len.toNat).send (uPkt 0x03 (pktSrc p) p.srcUnit.toNat p.dstUnit.toNat [] (d.load a p.len.toNat))))

/-- The oldest request that an answer at a hub can be for, and the device without it. DESIGN CHOICE, unsafe (log entry 39). -/
def Dev.takeReq (d : Dev) (p : Packet) (sel : RemoteReq → Bool) : Option (RemoteReq × Dev) :=
  let mine := fun (r : RemoteReq) => pktKind p = 1 && r.eng / 16 = p.dstUnit.toNat % 16 && r.dev = pktSrc p && sel r
  match d.remotes.find? mine with
  | none => none
  | some r => some (r, { d with remotes := d.remotes.eraseP mine })

/-- The item of an answered request, if it still runs the run that asked. -/
def Dev.reqItem (d : Dev) (r : RemoteReq) : Option (Nat × EngItem) :=
  match d.item r.item with
  | some (e, i) => if i.run = r.run && i.ending.isNone then some (e, i) else none
  | none => none

/-- With every packet of a put or get answered, the item ends: DONE, or FAILED with WINDOW and the first refusal's reason (R257, R258). DESIGN CHOICE, unsafe (log entry 39). -/
def Dev.settleRemote (d : Dev) (r : RemoteReq) : Dev :=
  match d.reqItem r with
  | none => d
  | some (e, i) =>
    if !(d.itemReqs i).isEmpty then d
    else match i.refused with
      | some reason => d.endItem i.ref (failEnd 5 reason)
      | none =>
        let x := doneEnd (itF i.desc 0x0C 4)
        (d.countTraffic e i .copy x).endItem i.ref x

/-- READ_RESP: data of a get is written at its place in the destination (R257). -/
def execReadRespPkt (p : Packet) (inPort : Option Port) (s : State) : Host.Outcome State Fault Refusal :=
  s.run (fun d => d.deliver 0x03 p inPort (fun d =>
    match d.takeReq p (fun r => !r.write) with
    | none => d
    | some (r, d) =>
      match d.reqItem r with
      | none => d
      | some (_, i) => (d.deposit (itF i.desc 0x18 8 + r.off) (p.payload.take r.len)).settleRemote r))

/-- WRITE_ACK: a packet of a put is written at its owner (R257). -/
def execWriteAckPkt (p : Packet) (inPort : Option Port) (s : State) : Host.Outcome State Fault Refusal :=
  s.run (fun d => d.deliver 0x04 p inPort (fun d =>
    match d.takeReq p (fun r => r.write) with
    | none => d
    | some (r, d) => d.settleRemote r))

/-- REFUSE: the mover remembers the first refusal, waits for what is outstanding, and the item ends (R258). -/
def execRefusePkt (p : Packet) (inPort : Option Port) (s : State) : Host.Outcome State Fault Refusal :=
  s.run (fun d => d.deliver 0x05 p inPort (fun d =>
    match d.takeReq p (fun _ => true) with
    | none => d
    | some (r, d) =>
      match d.reqItem r with
      | none => d
      | some (_, i) =>
        let d := d.modItem i.ref (fun i => { i with refused := i.refused.orElse (fun _ => some (payAt p 0 1)) })
        d.settleRemote r))

/-! ## Records (R217, R228, R231, R233, R444) -/

/-- A record piece reaches a channel of an owner. -/
def Dev.recordAt' (d : Dev) (o : Owner) (k : Nat) (mc : Bool) (p : Packet) : Dev :=
  d.recvPiece o k mc (p.payload.take 16) (extAt p 0 4 % 2 ^ 24) (payAt p 16 4) (p.payload.drop 20)

/-- The slots of this device that are members of a multicast record: those whose channel records its source. -/
def Dev.members (d : Dev) (k src : Nat) : List Nat :=
  ((List.range 512).filter (fun lc => !d.partResetting (lc / 64))).filterMap (fun lc =>
    match d.hostOf lc with
    | some pc => if d.chanOpen (.cell pc) k && d.chanSource (.cell pc) k = some src then some pc else none
    | none => none)

/-- A multicast record goes on along its ring through the first member of its bond group that is UP, with one hop fewer; with none UP it goes no further (R231, R233). -/
def Dev.ringOn (d : Dev) (p : Packet) (inPort : Option Port) : Dev :=
  if pktHops p ≤ 1 then d
  else match d.mcastPort p with
    | none => d
    | some n =>
      let via := inPort.map Fin.val
      let r := match via with
        | some m => dpcRouter 0 (560 + m)
        | none => 0
      { d with net := d.net ++ [Flight.mk (pktSetLoc p (560 + n) (pktHops p - 1) false false) r 4 via] }

/-- RECORD: a record of one target, or a multicast record for this device's members and for the next device of its ring. A record for a cell of a partition in reset is answered with a close notice that carries its GEN. -/
def execRecordPkt (p : Packet) (inPort : Option Port) (s : State) : Host.Outcome State Fault Refusal :=
  s.run (fun d => d.deliver 0x06 p inPort (fun d =>
    let k := extAt p 0 4 / 2 ^ 24
    let src := payAt p 12 4
    if pktMcast p then
      ((d.members k src).foldl (fun d pc => d.recordAt' (.cell pc) k true p) d).ringOn p inPort
    else if pktKind p = 0 && d.partResetting (p.dstUnit.toNat % 512 / 64) then
      d.send (uPkt 0x0A (bitsOf src 29 20) (sourceUnit src) p.dstUnit.toNat []
        (leBytes 2 (bitsOf src 7 0) ++ leBytes 2 k ++ leBytes 4 (payAt p 0 4)))
    else d.atOwner p (fun d o _ => d.recordAt' o k false p)))

/-! ## Credits, joins and notices (R211, R220, R221, R229) -/

/-- CREDIT: endpoint, channel, GEN and cumulative count. -/
def execCreditPkt (p : Packet) (inPort : Option Port) (s : State) : Host.Outcome State Fault Refusal :=
  s.run (fun d => d.deliver 0x07 p inPort (fun d => d.atOwner p (fun d o aon =>
    d.creditArrives o (if aon then 256 else payAt p 0 2) (pktSrc p) (pktSrcLc p) (payAt p 4 4) (payAt p 8 4))))

/-- JOIN: channel and SOURCE. -/
def execJoinPkt (p : Packet) (inPort : Option Port) (s : State) : Host.Outcome State Fault Refusal :=
  s.run (fun d => d.deliver 0x08 p inPort (fun d => d.atOwner p (fun d o aon =>
    if aon then d else d.joinArrives o (payAt p 0 2 % (match o with | .os => 256 | .cell _ => 64)) (payAt p 4 4))))

/-- JOIN_REPLY: endpoint, result, ring size code and GEN. -/
def execJoinReplyPkt (p : Packet) (inPort : Option Port) (s : State) : Host.Outcome State Fault Refusal :=
  s.run (fun d => d.deliver 0x09 p inPort (fun d => d.atOwner p (fun d o aon =>
    let k := if aon then 256 else payAt p 0 2
    (d.joinReply o k (pktSrc p) (pktSrcLc p) (payAt p 2 1) (payAt p 3 1) (payAt p 4 4)).mboxJoinFailed o k)))

/-- CLOSE_NOTICE: endpoint, channel and GEN. -/
def execCloseNoticePkt (p : Packet) (inPort : Option Port) (s : State) : Host.Outcome State Fault Refusal :=
  s.run (fun d => d.deliver 0x0A p inPort (fun d => d.atOwner p (fun d o aon =>
    d.noticeArrives o (if aon then 256 else payAt p 0 2) (pktSrc p) (pktSrcLc p) (payAt p 4 4))))

/-! ## Contributions and counter additions (R191, R237, R238, R383) -/

/-- A residue mismatch in the combining unit: the queue is FAILED from OPEN or POSTING with its sums discarded, and the cell becomes a suspect (R383). DEDUCED, unsafe (log entry 83). -/
def Dev.cqResidue (d : Dev) (pc q : Nat) : Dev :=
  let st := d.cqState pc q
  if st ≠ 1 && st ≠ 2 then d
  else
    let d := (d.setCqState pc q 4).modCq pc q
      (fun c => { c with ea := [], acc := [], ranks := [], complete := [], held := [], sending := [] })
    let d := (d.record 0x0113 q 2 pc 3 (d.get F.CELL_CQ_EPOCH_EPOCH pc (q + 1)) (d.get F.CELL_CQ_STATE_SEQ pc (q + 1))).cqWaiting pc q
    (d.wakeQueue pc q).suspectSlot pc

/-- CONTRIB: a packet of a contribution reaches its queue; `residueBad` says that the unit meets a residue mismatch in this queue as the packet arrives. One for an UNHOSTED cell is dropped and recorded (R237). -/
def execContribPkt (p : Packet) (inPort : Option Port) (residueBad : Bool) (s : State) : Host.Outcome State Fault Refusal :=
  s.run (fun d => d.deliver 0x0B p inPort (fun d =>
    let lc := p.dstUnit.toNat % 512
    let w := extAt p 0 4
    let q := w % 8
    let h : ContribHead := { ranked := bitOf w 8, under := bitOf w 16, rank := extAt p 4 4, epoch := extAt p 8 4, seq := extAt p 12 4, count := payAt p 0 4 }
    if pktKind p ≠ 0 then d
    else if d.partResetting (lc / 64) then d.refuse p 7
    else match d.hostOf lc with
      | none => d.record 0x0153 0 2 (pktDpc p) 2 lc
      | some pc =>
        if residueBad then d.cqResidue pc q
        else d.contribArrives pc q h (payAt p 4 4) (p.payload.drop 8)))

/-- SADD: a remote addition to a shared counter of a cell of this device, applied once (R191). DEDUCED, unsafe (log entry 34). -/
def execSaddPacket (p : Packet) (inPort : Option Port) (s : State) : Host.Outcome State Fault Refusal :=
  s.run (fun d => d.deliver 0x0C p inPort (fun d =>
    if pktKind p ≠ 0 || pktSrc p ≠ d.deviceId || 191 < payAt p 0 4 then d
    else d.atCell p (fun d pc => d.addCounter pc (payAt p 0 4) (payAt p 8 8))))

end Sys2Proof.Machine
end

