-- ==== Sys2Proof/Machine/SnapOps.lean ====
section
/-! DEFINITION. Squirrel: the selector, flips, outcomes, superblocks, requests to drives, the proposed interval and the agreement of steps (R406 to R427). -/

namespace Sys2Proof.Machine

/-- The device with Squirrel's state changed. -/
def Dev.modSnap (d : Dev) (f : SnapState → SnapState) : Dev := { d with snap := f d.snap }

/-- STATE of Squirrel (Table 13-12): 0 IDLE, 1 ARMED, 2 DRAINING, 3 COMMITTING, 4 RESTORING, 5 BUDDY. -/
def Dev.snapState (d : Dev) : Nat := d.get F.SNAP_STATUS_STATE

/-- Squirrel is armed. -/
def Dev.snapArmed (d : Dev) : Bool := 1 ≤ d.snapState && d.snapState ≤ 3

/-- RESULT of Squirrel. -/
def Dev.snapResult (d : Dev) (r : Nat) : Dev := d.set F.SNAP_STATUS_RESULT r

/-- STATE of Squirrel set. -/
def Dev.setSnapState (d : Dev) (s : Nat) : Dev := d.set F.SNAP_STATUS_STATE s

/-- SCHED_STEP. -/
def Dev.step (d : Dev) : Nat := d.reg F.SCHED_STEP.base

/-! ## The selector (R409, R410) -/

/-- RD and WR for the present step: across the step after a flip they differ. -/
def Dev.selector (d : Dev) : Nat × Nat :=
  let l := d.get F.SNAP_STATUS_LIVE
  if d.snap.selT ≠ 0 && d.step = d.snap.selT + 1 then (1 - l, l) else (l, l)

/-- Writes the selector word into every cell of the loaded image's target shape (R409). -/
def Dev.writeSelectors (d : Dev) : Dev :=
  let (rd, wr) := d.selector
  let d := d.modSnap (fun s => { s with rd := rd, wr := wr })
  let shape := d.imgShape d.sched.base
  let v := d.snap.snaps % 2 ^ 32 * 2 ^ 32 + 2 * wr + rd
  ((List.range 512).filter (inShape shape)).foldl (fun d lc =>
    match d.hostOf lc with
    | some pc => d.storeNat (sliceBase pc + d.get F.SNAP_CFG_SEL_OFF) 8 v
    | none => d) d

/-- Updates the selector while Squirrel is armed and an image is loaded; a disarmed Squirrel leaves it as it was (R409, R427). -/
def Dev.updateSelectors (d : Dev) : Dev := if d.snapArmed && d.sched.loaded then d.writeSelectors else d

/-! ## Drives and their areas (R419 to R422) -/

/-- The enabled drives, in order. -/
def Dev.drives (d : Dev) : List Nat := (List.range 8).filter (fun n => bitOf (d.get F.SNAP_CFG_DRIVE_EN) n)

/-- SLOT_LBAS (R420). -/
def Dev.slotLbas (d : Dev) : Nat :=
  let counts := d.drives.map (fun n => d.get (F.SNAP_DRIVE_COUNT_LBA.nth n 32))
  let least := counts.foldl min (counts.headD 0)
  (least - 2) / d.get F.SNAP_CFG_SLOTS / 256 * 256

/-- Slots that snapshots use: with buddy mode the last slot holds shards (Table 13-15). -/
def Dev.snapSlots (d : Dev) : Nat := d.get F.SNAP_CFG_SLOTS - b2n (d.bit F.SNAP_BUDDY_EN)

/-- Bytes of a slot's data space. -/
def Dev.slotBytes (d : Dev) : Nat := d.slotLbas * 4096 * d.drives.length

/-- STATE of a drive (Table 13-18): 0 ABSENT, 1 READY, 2 BUSY, 3 FAILED. -/
def Dev.setDrive (d : Dev) (n st : Nat) : Dev := d.set (F.SNAP_DRIVE_LINK_STATE.nth n 32) st

/-- A slot of the current superblock. -/
def Dev.snapSlot (d : Dev) (k : Nat) : SnapSlot := SMap.read SnapSlot.empty d.snap.slots k

/-- The device with a slot of the superblock set. -/
def Dev.setSnapSlot (d : Dev) (k : Nat) (x : SnapSlot) : Dev :=
  d.modSnap (fun s => { s with slots := SMap.write SnapSlot.empty s.slots k x })

/-- The slot of the next snapshot: the lowest EMPTY or WRITING one, else the one with the oldest committed step (R421). -/
def Dev.pickSlot (d : Dev) : Nat :=
  let ks := List.range d.snapSlots
  match ks.find? (fun k => (d.snapSlot k).state ≠ 2) with
  | some k => k
  | none => (ks.foldl (fun (b : Option Nat) k => match b with
      | none => some k
      | some j => if (d.snapSlot k).step < (d.snapSlot j).step then some k else some j) none).getD 0

/-- The bytes of a slot's entry in a superblock. -/
def slotEntry (x : SnapSlot) : List Byte :=
  leBytes 8 x.step ++ leBytes 1 x.state ++ leBytes 1 (b2n x.tainted) ++ leBytes 6 0 ++ leBytes 8 x.moff ++ leBytes 8 x.mlen ++
    padTo 32 x.digest

/-- The superblock for the drive at a position of the enabled drives (Table 13-7). -/
def Dev.superblock (d : Dev) (i : Nat) : List Byte :=
  let front := "KMGSQSB1".toList.map (fun c => BitVec.ofNat 8 c.toNat)
  let head := front ++ leBytes 2 1 ++ leBytes 2 d.deviceId ++ leBytes 1 d.drives.length ++ leBytes 1 (d.get F.SNAP_CFG_SLOTS) ++
    leBytes 1 i ++ leBytes 1 0 ++ leBytes 8 d.snap.sbGen ++ leBytes 8 d.slotLbas ++
    (List.range 7).flatMap (fun k => slotEntry (d.snapSlot k))
  let body := padTo 0xFF8 head
  body ++ leBytes 8 (crc64Final (crc64Run crc64Init body))

/-- A range of storage takes contents that the spec does not state: free values. -/
def Dev.scribble (d : Dev) (a n : Nat) : Dev :=
  let k := (n + 7) / 8
  let bs := ((List.range k).flatMap (fun i => leBytes 8 (Config.freeWord (d.freeCtr + i)).toNat)).take n
  { d.store a bs with freeCtr := d.freeCtr + k }

/-- Device address of a hub's staging area (Table 13-15). -/
def Dev.staging (d : Dev) (h : Nat) : Nat := 0x100200000000 + h * 2 ^ 25 + d.get F.SNAP_CFG_STAGE * 2 ^ 20

/-- A request to a drive: 0 Flush, 1 Write, 2 Read, and 257 for a Write with FUA; blocks count from the start of the drive's area. The drive is BUSY until its requests complete; its queues, in the first 32 KiB of its hub's staging area, take entries (R419). -/
def Dev.nvme (d : Dev) (drive opcode lba blocks off : Nat) (bytes : List Byte) : Dev :=
  let d := d.modSnap (fun s => { s with reqs := s.reqs ++ [⟨drive, opcode, lba, blocks, off⟩] })
  let d := if opcode % 256 = 1 then d.count F.SNAP_BYTES_WRITTEN 0 0 (4096 * blocks) else d
  let d := d.scribble (d.staging drive) 0x8000
  (d.emit (.nvme drive opcode (d.get (F.SNAP_DRIVE_START_LBA.nth drive 32) + lba) blocks bytes)).setDrive drive 2

/-- Writes the superblock at the next SB_GEN to every drive, in the block that its parity selects, with FUA (R418, R422). -/
def Dev.writeSuperblocks (d : Dev) : Dev :=
  let d := d.modSnap (fun s => { s with sbGen := s.sbGen + 1 })
  d.drives.mapIdx (fun i n => (i, n)) |>.foldl (fun d e => d.nvme e.2 257 (d.snap.sbGen % 2) 1 0 (d.superblock e.1)) d

/-- Drive and block, from the start of the area, of byte o of a slot's data space (R420). -/
def Dev.spaceAt (d : Dev) (slot o : Nat) : Nat × Nat :=
  let u := o / 2 ^ 20
  let n := d.drives.length
  (d.drives.getD (u % n) 0, 2 + slot * d.slotLbas + u / n * 256 + o / 4096 % 256)

/-- Requests over [o, o + len) of a slot's data space, by stripe units: opcode 1 writes bytes, 2 reads. -/
def Dev.spaceReqs (d : Dev) (opcode slot o : Nat) (bytes : List Byte) (len : Nat) : Dev :=
  let first := o / 2 ^ 20
  let last := (o + len + 2 ^ 20 - 1) / 2 ^ 20
  (List.range (last - first)).foldl (fun d i =>
    let a := max o ((first + i) * 2 ^ 20)
    let b := min (o + len) ((first + i + 1) * 2 ^ 20)
    let (n, lba) := d.spaceAt slot a
    let blocks := (a % 4096 + (b - a) + 4095) / 4096
    d.nvme n opcode lba blocks (a / 4096 * 4096) (if opcode = 1 then padTo (4096 * blocks) ((bytes.drop (a - o)).take (b - a)) else [])) d

/-! ## Proposals (R423 to R425) -/

/-- Mean wall time of a step over the starts kept, in ns; zero with fewer than two (R423). -/
def meanStep (starts : List Nat) : Nat :=
  match starts with
  | a :: rest =>
    match rest.getLast? with
    | some b => (a - b) / rest.length
    | none => 0
  | [] => 0

/-- Least number whose square is at least q. -/
def ceilSqrt (q : Nat) : Nat := let r := Nat.sqrt q; if r * r = q then r else r + 1

/-- Powered-on seconds within the last 30 days, and interrupting failures in that time (R424). DEDUCED, unsafe (log entry 73). -/
def Dev.observed (d : Dev) : Nat × Nat :=
  let on := (d.ns - d.mgmt.bootNs) / 1000000000
  (min 2592000 on, (d.mgmt.interrupts.filter (fun t => d.ptpSec ≤ t + 2592000)).length)

/-- The blended mean time between failures in seconds, as numerator and denominator (R424). -/
def Dev.mtbf (d : Dev) : Nat × Nat :=
  let (obs, n) := d.observed
  let ownDen := (n + 1) * d.domainSize
  let dom := d.get F.SNAP_MDOM_V
  let w := d.get F.SNAP_CFG_W
  if dom = 0 then (obs, ownDen)
  else if obs < 604800 then (dom, 1)
  else (w * obs + (256 - w) * dom * ownDen, 256 * ownDen)

/-- Sum of the plan's lengths. -/
def Dev.planBytes (d : Dev) : Nat := d.snap.plan.foldl (fun n r => n + r.len) 0

/-- C, D and Z as R423 has them: until the first commit, C is 1 ms and D and Z come from the plan at RATE_PCT of 2.18 TB/s. -/
def Dev.measures (d : Dev) : Nat × Nat × Nat :=
  if d.snap.written = 0 then
    let b := d.planBytes
    (1000000, b * 100 / (2180 * max 1 (d.get F.SNAP_CFG_RATE_PCT)), b)
  else (d.snap.cost, d.snap.drainNs, d.snap.written)

/-- Bytes of one shard (R431). -/
def shardBytes (z : Nat) : Nat := roundUp (ceilDiv z 8) (2 ^ 20)

/-- The proposal in steps (R425): the least n with n·t at least each of √(2CM), D and B; 1 while t is not measured. DEDUCED, unsafe (log entry 73). -/
def Dev.proposal (d : Dev) : Nat :=
  let t := meanStep d.snap.starts
  if t = 0 then 1
  else
    let (c, drain, z) := d.measures
    let (mn, md) := d.mtbf
    let z' := z + (if d.bit F.SNAP_BUDDY_EN then 10 * shardBytes z else 0)
    let budget := d.get F.SNAP_BUDGET_V
    let n1 := ceilSqrt (ceilDiv (2 * c * mn * 1000000000) (md * t * t))
    let n2 := ceilDiv drain t
    let n3 := if budget = 0 then 0 else ceilDiv (86400 * z') (budget * t)
    max 1 (max n1 (max n2 n3))

/-- SNAP_MEAS and SNAP_MEAS2 from the measurements (Table 13-16). -/
def Dev.showMeasures (d : Dev) : Dev :=
  let (c, drain, _) := d.measures
  let (obs, n) := d.observed
  let d := d.setReg F.SNAP_MEAS.base 0 0 (c / 1000000 % 2 ^ 32 * 2 ^ 32 + drain / 1000000 % 2 ^ 32)
  d.setReg F.SNAP_MEAS2.base 0 0 (obs / ((n + 1) * d.domainSize) % 2 ^ 32 * 2 ^ 32 + meanStep d.snap.starts / 1000 % 2 ^ 32)

/-- The proposals that the master still counts, its own included while it is armed (R412). -/
def Dev.freshProposals (d : Dev) : List Nat :=
  (d.snap.proposals.filter (fun e => d.beat ≤ e.2.2 + 262144)).map (fun e => e.2.1) ++
    (if d.snapArmed then [bitsOf (d.reg F.SNAP_INTERVAL.base) 63 32] else [])

/-- The domain interval at the master (R412); none with no fresh proposal. -/
def Dev.domainInterval (d : Dev) : Option Nat :=
  match d.freshProposals with
  | [] => none
  | l =>
    let lim := d.reg F.SNAP_LIMITS.base
    some (min (bitsOf lim 63 32) (max (bitsOf lim 31 0) (l.foldl max 0)))

/-- The master's DOMAIN field follows the proposals. -/
def Dev.showInterval (d : Dev) : Dev :=
  if d.isMaster then
    match d.domainInterval with
    | some n => d.setReg F.SNAP_INTERVAL.base 0 0 (setBitsOf (d.reg F.SNAP_INTERVAL.base) 31 0 n)
    | none => d
  else d

/-- Computes the proposal of an armed device and sends it when it has changed, or in any case with `always` (R412). -/
def Dev.propose (d : Dev) (always : Bool) : Dev :=
  if !d.snapArmed then d
  else
    let d := d.showMeasures
    let p := min d.proposal (2 ^ 32 - 1)
    let old := bitsOf (d.reg F.SNAP_INTERVAL.base) 63 32
    let d := d.setReg F.SNAP_INTERVAL.base 0 0 (setBitsOf (d.reg F.SNAP_INTERVAL.base) 63 32 p)
    let d := d.showInterval
    if (always || p ≠ old) && !d.isMaster then
      let (f, d) := d.notice (leBytes 1 2 ++ leBytes 3 0 ++ leBytes 4 p)
      d.sendUp f
    else d

/-! ## Outcomes and announcements (R413 to R415) -/

/-- PENDING and SNAP_NEXT cleared. -/
def Dev.clearNext (d : Dev) : Dev := (d.set F.SNAP_STATUS_PENDING 0).setReg F.SNAP_NEXT.base 0 0 0

/-- SNAP_STEP as the master sends it: INTERVAL and T (Table 13-5). -/
def Dev.sendSnapStep (d : Dev) : Dev :=
  let (f, d) := d.notice (leBytes 1 3 ++ leBytes 3 0 ++ leBytes 4 (bitsOf (d.reg F.SNAP_INTERVAL.base) 31 0) ++ leBytes 8 d.snap.announced)
  d.sendDown f

/-- The body of a SNAP_DONE: STATUS at 0x12 and T at 0x18. -/
def doneBody (status t : Nat) : List Byte := leBytes 1 4 ++ leBytes 1 0 ++ leBytes 1 status ++ leBytes 5 0 ++ leBytes 8 t

/-- A SNAP_DONE leaves: toward the master, or into the master's own count; it is repeated until a later T (R413, R415). -/
def Dev.sendDone (d : Dev) (status t : Nat) : Dev :=
  let d := d.modSnap (fun s => { s with doneMsg := some (status, t) })
  if d.isMaster then
    if t = d.snap.announced && !d.snap.doneFrom.contains d.deviceId then
      d.modSnap (fun s => { s with doneFrom := s.doneFrom ++ [d.deviceId] })
    else d
  else
    let (f, d) := d.notice (doneBody status t)
    d.sendUp f

/-- A device skips T (R414). -/
def Dev.skipSnap (d : Dev) (t : Nat) : Dev :=
  ((d.record 0x01A1 0 10 0 0 t d.step).count F.SNAP_SKIPPED).sendDone 2 t

/-- An announcement of T reaches a device (R414): an armed, idle one whose step is at most T takes it; one that is draining or committing, or beyond T, skips it; a repeat is ignored. A device that is not armed and not beyond T does nothing. A later T ends the repeats of SNAP_DONE (R415). -/
def Dev.announceArrives (d : Dev) (t interval : Nat) : Dev :=
  let d := d.setReg F.SNAP_INTERVAL.base 0 0 (setBitsOf (d.reg F.SNAP_INTERVAL.base) 31 0 interval)
  let d := d.modSnap (fun s => { s with doneMsg := s.doneMsg.filter (fun m => decide (t ≤ m.2)) })
  if t ≤ d.snap.acted then d
  else if d.snapState = 1 && d.step ≤ t then
    ((d.modSnap (fun s => { s with acted := t })).setReg F.SNAP_NEXT.base 0 0 t).set F.SNAP_STATUS_PENDING 1
  else if (2 ≤ d.snapState && d.snapState ≤ 3) || decide (t < d.step) then (d.modSnap (fun s => { s with acted := t })).skipSnap t
  else d

/-- The master announces the next T (R413): the larger of the previous T + N and its own step + 2. -/
def Dev.announce (d : Dev) : Dev :=
  match d.domainInterval with
  | none => d
  | some n =>
    let t := max (d.snap.announced + n) (d.step + 2)
    let d := d.showInterval
    let d := d.modSnap (fun s => { s with announced := t, announcedBeat := d.beat, doneFrom := [] })
    d.sendSnapStep.announceArrives t n

/-- Announces the first T of a job once the master's step reaches 1, or the next once every device's SNAP_DONE is in (R413). -/
def Dev.announceCheck (d : Dev) : Dev :=
  if !d.isMaster then d
  else if d.snap.announced = 0 then (if d.running && 1 ≤ d.step then d.announce else d)
  else if d.domainSize ≤ d.snap.doneFrom.length then d.announce
  else d

/-- What a snapshot in progress kept is dropped. -/
def Dev.dropSnap (d : Dev) : Dev :=
  d.modSnap (fun s => { s with
    stage := .none, reqs := [], read := [], works := [], segs := [], chunks := [], used := 0, space := [], manifest := [], drainStarts := [] })

/-- A snapshot ends with a failure (R426): SNAP_FAILED with the result and a drive or hub, SNAP_DONE FAILED, and Squirrel armed again or disarmed. -/
def Dev.failSnap (d : Dev) (result unit : Nat) (disarm : Bool) : Dev :=
  let t := d.snap.t
  let d := ((d.record 0x01A0 result 10 0 2 t unit).count F.SNAP_FAILED).snapResult result
  let d := d.dropSnap.setSnapState (if disarm then 0 else 1)
  let d := if disarm then d.clearNext else d
  d.sendDone 1 t

/-- A snapshot is cancelled by a RESUME to step T or less (Table 13-9): before its flip or during the drain; the buffer that was live stays live. -/
def Dev.cancelSnap (d : Dev) (t : Nat) : Dev :=
  let flipped := 2 ≤ d.snapState && d.snapState ≤ 3
  let d := if flipped then (d.set F.SNAP_STATUS_LIVE (1 - d.get F.SNAP_STATUS_LIVE)).modSnap (fun s => { s with selT := 0 }) else d
  let d := (d.record 0x01A2 0 10 0 0 t d.step).count F.SNAP_FAILED
  let d := if flipped then (d.dropSnap.setSnapState 1).snapResult 10 else d
  d.clearNext.sendDone 3 t

/-- The outcome of an accepted RESUME for a snapshot that is announced or in progress (R426), with SCHED_STEP restored. -/
def Dev.snapResumed (d : Dev) : Dev :=
  let next := d.reg F.SNAP_NEXT.base
  let d := if d.bit F.SNAP_STATUS_PENDING && d.step ≤ next then d.cancelSnap next
    else if 2 ≤ d.snapState && d.snapState ≤ 3 && d.step ≤ d.snap.t then d.cancelSnap d.snap.t
    else d
  d.updateSelectors

/-! ## The flip (R410, R421, R422) -/

/-- The drain starts at the flip: buffer L is frozen, what the manifest says of the flip is latched, a slot is taken and marked WRITING. -/
def Dev.flip (d : Dev) : Dev :=
  let t := d.reg F.SNAP_NEXT.base
  let l := d.get F.SNAP_STATUS_LIVE
  let d := d.clearNext.set F.SNAP_STATUS_LIVE (1 - l)
  let base0 := match d.snap.plan.find? (fun r => r.id = 0) with
    | some r => if l = 0 then r.base0 else r.base1
    | none => 0
  let slot := d.pickSlot
  let tb := meanStep d.snap.starts
  let d := d.modSnap (fun s => { s with
    buf := l, selT := t, snaps := s.snaps + 1, t := t, tainted := d.bit F.FLOG_TAINT_VALID, flipBeat := d.beat, flipPtp := d.ptpWord,
    flipNs := d.ns, shape := d.reg F.SCHED_SHAPE.base, imageId := d.img d.sched.base 8 8, sample := d.loadNat base0 8, slot := slot,
    stage := .data, works := [], segs := [], chunks := [], used := 0, space := [], manifest := [], tBefore := tb, drainStarts := [] })
  let d := d.setSnapSlot slot { SnapSlot.empty with step := t, state := 1, tainted := d.snap.tainted }
  (d.setSnapState 2).writeSuperblocks

/-- SCHED_STEP increased (R409, R410, R423): the start is timed, an armed Squirrel flips at T + 1, and the selector is written. -/
def Dev.stepStarts (d : Dev) : Dev :=
  let d := d.modSnap (fun s => { s with
    starts := (d.ns :: s.starts).take 65, drainStarts := if s.stage = .data then d.ns :: s.drainStarts else s.drainStarts })
  let d := if d.snapState = 1 && d.bit F.SNAP_STATUS_PENDING && d.step = d.reg F.SNAP_NEXT.base + 1 then d.flip else d
  d.updateSelectors.propose false

/-- A job starts: the selector is RD = WR = 0, and steps are agreed anew (R409, R413). -/
def Dev.snapJobStarts (d : Dev) : Dev :=
  let d := d.set F.SNAP_STATUS_LIVE 0
  let d := d.modSnap (fun s => { s with snaps := 0, selT := 0, announced := 0, doneFrom := [], acted := 0, starts := [] })
  d.updateSelectors

/-- A job ends by UNLOAD (R426): no further flip occurs. -/
def Dev.snapJobEnds (d : Dev) : Dev := d.clearNext.modSnap (fun s => { s with announced := 0, doneFrom := [] })

end Sys2Proof.Machine
end

