-- ==== Sys2Proof/Machine/Trust.lean ====
section
/-! DEFINITION. Signature blocks and measurements (R463, R464). -/

namespace Sys2Proof.Machine

/-- ASCII text as bytes. -/
def ascii (s : String) : List Byte := s.toList.map (fun c => BitVec.ofNat 8 c.toNat)

/-- A little-endian number of n bytes at an offset of a block; zero beyond its end. -/
def blockNat (b : List Byte) (off n : Nat) : Nat := leNat ((b.drop off).take n)

/-- Bytes of a block. -/
def blockBytes (b : List Byte) (off n : Nat) : List Byte := (b.drop off).take n

/-- Bytes of a signature block. -/
def sigBlockSize : Nat := 29952

/-- The first 32 bytes of SHAKE256, as identifiers and digests use it. -/
def shake32 (b : List Byte) : List Byte := shake256 b 32

/-- The fields of a signature block are as in Table 15-7. -/
def sigFieldsOk (role : Nat) (b : List Byte) : Bool :=
  b.length = sigBlockSize && blockBytes b 0 8 = ascii "KMGSIG01" && blockNat b 8 2 = 1 && blockNat b 10 1 = 1 && blockNat b 11 1 = role &&
  (blockBytes b 0x50 48).all (fun x => x = 0) && (blockBytes b 0x74E0 32).all (fun x => x = 0) &&
  (role != 4 || blockNat b 12 4 = 0)

/-- The check of R464 that a signature block fails first, as the record of Table 15-11 numbers them: 1 format, 2 digest, 3 key, 4 signature; 0 when it verifies. -/
def sigCheck (role : Nat) (b digest : List Byte) (keys : List (List Byte)) : Nat :=
  if !sigFieldsOk role b then 1
  else if blockBytes b 0x30 32 ≠ digest then 2
  else match keys.find? (fun k => shake32 k = blockBytes b 0x10 32) with
    | none => 3
    | some k => if Config.slhVerify k (b.take 0x80) (blockBytes b 0x80 29792) then 0 else 4

/-- Keys of the owner key list with a ROLES bit. -/
def Dev.ownerKeysOf (d : Dev) (roleBit : Nat) : List (List Byte) :=
  (d.mgmt.flash.ownerKeys.filter (fun k => bitOf k.2.toNat roleBit)).map Prod.fst

/-- A failed check is recorded and counted (R464, Table 15-11). -/
def Dev.sigFailed (d : Dev) (role why : Nat) (b : List Byte) : Dev :=
  (d.record 0x0212 role 14 0 2 (blockNat b 0x10 8) (blockNat b 12 4) why).count F.SEC_SIG_FAILED

/-- Verifies a signature block: the check it fails (0 none), and the device with the outcome counted or recorded. -/
def Dev.verifySig (d : Dev) (role : Nat) (b digest : List Byte) (keys : List (List Byte)) : Nat × Dev :=
  let why := sigCheck role b digest keys
  (why, if why = 0 then d.count F.SEC_SIG_VERIFIED else d.sigFailed role why b)

/-- A measurement register. -/
def Dev.measReg (d : Dev) (i : Nat) : List Byte := SMap.read (List.replicate 32 0) d.mgmt.meas i

/-- The device with Slolis's firmware state changed. -/
def Dev.modMgmt (d : Dev) (f : Mgmt → Mgmt) : Dev := { d with mgmt := f d.mgmt }

/-- Extends a measurement register with a 32-byte digest, and appends to the log (R463). -/
def Dev.extendM (d : Dev) (i : Nat) (digest keyId : List Byte) (svn : Nat) : Dev :=
  let v := shake32 (d.measReg i ++ digest)
  d.modMgmt (fun m => { m with meas := SMap.insert i v m.meas, measLog := m.measLog ++ [MeasEntry.mk i digest keyId svn] })

/-- A measurement register back at zero. -/
def Dev.clearM (d : Dev) (i : Nat) : Dev := d.modMgmt (fun m => { m with meas := SMap.erase i m.meas })

end Sys2Proof.Machine
end

