-- ==== Sys2Proof/Machine/Load.lean ====
section
/-! DEFINITION. Loading, arming, resuming and unloading a job (R326 to R340, R347 to R350). -/

namespace Sys2Proof.Machine

/-! ## The checks on an image (Table 10-9, BAD_IMAGE) -/

/-- The number of image bytes that a header may declare at most. -/
def imageMax : Nat := 2 ^ 28

/-- No two neighbours of a list fall. -/
def rising (l : List Nat) : Bool := (l.zip (l.drop 1)).all (fun x => decide (x.1 ≤ x.2))

/-- Bytes of storage are zero. -/
def Dev.zeroAt (d : Dev) (a n : Nat) : Bool := d.loadNat a n = 0

/-- Positions [a, b) meet a maintenance window (R321, Table 10-8). DEDUCED, unsafe (log entry 52). -/
def meetsWindow (a b : Nat) : Bool := a < b && 40832 < a % 40960 + (b - a)

/-- Record sizes of the sections (Table 10-2). -/
def recordSize (i : Nat) : Nat := [16, 32, 32, 16, 16, 16, 16, 4].getD i 16

/-- The header fields other than sections (Table 10-1). -/
def Dev.headerOk (d : Dev) (base : Nat) : Bool :=
  let f := d.img base
  let size := f 0x10 8
  let len := f 0x30 8
  let ls := f 0x38 4
  f 0 2 = 1 && f 2 2 < 1024 && f 4 2 < 1024 && 1 ≤ f 6 1 && f 6 1 ≤ 100 && f 7 1 < 2 && size % 64 = 0 && size ≤ imageMax && 0x100 ≤ size &&
  base + size ≤ d.get F.DEV_FAR_SIZE_SIZE && (List.range 8).all (fun p => decide (bitsOf (f 0x18 8) (8 * p + 7) (8 * p) ≤ 64)) &&
  len % 1024 = 0 && 1024 ≤ len && len ≤ 2 ^ 32 &&
  (if f 7 1 = 1 then ls % 40960 = 0 && decide (ls < len) && (len - ls) % 40960 = 0 else ls = 0) &&
  f 0x3C 4 % 8 = 0 && f 0x3C 4 + 8 ≤ spadSize && f 0xE8 8 = 0 && f 0xF0 8 = 0 && f 0xF8 8 = 0

/-- A section lies inside SIZE at a 64-byte-aligned offset (R327). -/
def Dev.sectionOk (d : Dev) (base i : Nat) : Bool :=
  let s := d.section base i
  s.1 % 64 = 0 && s.1 + recordSize i * s.2 ≤ d.img base 0x10 8 && d.zeroAt (base + 0x4C + 16 * i) 4

/-- Every record of a section passes a check. -/
def Dev.eachRecord (d : Dev) (base i : Nat) (ok : Nat → Bool) : Bool := (List.range (d.section base i).2).all ok

/-- A field of every record of a section, in order. -/
def Dev.column (d : Dev) (base i : Nat) (f : Nat → Nat) : List Nat := (List.range (d.section base i).2).map f

/-- A task entry (Table 10-3). -/
def taskEntryOk (len : Nat) (t : TaskEntry) : Bool :=
  t.start < t.deadline && t.deadline ≤ len && !meetsWindow t.start t.deadline && t.lc < 512 && t.ctx < 32 && t.flags < 4

/-- No two entries of one context overlap. -/
def tasksApart : List TaskEntry → Bool
  | [] => true
  | t :: ts => ts.all (fun u => !(t.lc = u.lc && t.ctx = u.ctx) || t.deadline ≤ u.start || u.deadline ≤ t.start) && tasksApart ts

/-- TASKS. -/
def Dev.tasksOk (d : Dev) (base : Nat) : Bool :=
  let len := d.img base 0x30 8
  d.eachRecord base 0 (fun i => taskEntryOk len (d.taskEntry base i)) &&
  rising (d.column base 0 (fun i => let t := d.taskEntry base i; t.start * 512 + t.lc)) &&
  tasksApart ((List.range (d.section base 0).2).map (d.taskEntry base))

/-- The collectives with an ID. -/
def Dev.collsOf (d : Dev) (base id : Nat) : List (Nat × Nat × Nat) :=
  ((List.range (d.section base 2).2).map (d.collective base)).filter (fun c => c.1 = id)

/-- The window of a transfer entry, in the base schedule or in a variant (R329, R331). -/
def Dev.transferOk (d : Dev) (base : Nat) (t : TransferEntry) : Bool :=
  1 ≤ t.len && t.len ≤ 1024 && t.start + t.len ≤ d.img base 0x30 8 && !meetsWindow t.start (t.start + t.len) &&
  (t.port ≤ 11 || t.port = 0xFF) &&
  (d.collsOf base t.coll).all (fun c => decide (c.2.1 ≤ t.start) && decide (t.start + t.len ≤ c.2.2))

/-- The fields of a transfer entry that no override changes (Table 10-4). -/
def Dev.transferFieldsOk (d : Dev) (base i : Nat) : Bool :=
  let a := d.recordAt base 1 32 i
  let t := d.baseTransfer base i
  d.loadNat (a + 6) 1 ≤ 1 && d.loadNat (a + 11) 1 ≤ 1 && t.lc < 512 && (if t.contrib then t.sep ≤ 7 else t.sep ≤ 63) &&
  d.zeroAt (a + 14) 2 && t.dstDev < 1024 && t.dstLc < 512 && 1 ≤ t.bytes && d.zeroAt (a + 26) 6

/-- TRANSFERS. -/
def Dev.transfersOk (d : Dev) (base : Nat) : Bool :=
  d.eachRecord base 1 (fun i => d.transferFieldsOk base i && d.transferOk base (d.baseTransfer base i)) &&
  rising (d.column base 1 (fun i => (d.baseTransfer base i).start))

/-- COLLECTIVES (Table 10-5). -/
def Dev.collectivesOk (d : Dev) (base : Nat) : Bool :=
  d.eachRecord base 2 (fun i =>
    let a := d.recordAt base 2 32 i
    let c := d.collective base i
    c.1 ≤ 65534 && 1 ≤ d.loadNat (a + 2) 1 && d.loadNat (a + 2) 1 ≤ 4 && d.loadNat (a + 3) 1 ≤ 1 && c.2.1 < c.2.2 &&
    c.2.2 ≤ d.img base 0x30 8 && d.zeroAt (a + 14) 2 && d.zeroAt (a + 24) 8) &&
  rising (d.column base 2 (fun i => (d.collective base i).2.1))

/-- RESUME (R333): record 0 lies at 0. -/
def Dev.resumesOk (d : Dev) (base : Nat) : Bool :=
  let colls := (List.range (d.section base 2).2).map (d.collective base)
  1 ≤ (d.section base 3).2 && (d.resumePoint base 0).1 = 0 &&
  d.eachRecord base 3 (fun i =>
    let r := d.resumePoint base i
    r.1 % 1024 = 0 && r.1 < d.img base 0x30 8 && colls.all (fun c => !(c.2.1 < r.1 && r.1 < c.2.2)) &&
    r.2.1 + r.2.2 ≤ (d.section base 6).2 && d.zeroAt (d.recordAt base 3 16 i + 12) 4) &&
  rising (d.column base 3 (fun i => (d.resumePoint base i).1))

/-- VARIANTS and OVERRIDES (Table 10-6), with the entries that they put in force. -/
def Dev.variantsOk (d : Dev) (base : Nat) : Bool :=
  d.eachRecord base 4 (fun i =>
    let a := d.recordAt base 4 16 i
    d.loadNat a 2 < 1024 && d.loadNat (a + 2) 1 ≤ 11 && d.zeroAt (a + 3) 1 && d.zeroAt (a + 12) 4 &&
    d.loadNat (a + 4) 4 + d.loadNat (a + 8) 4 ≤ (d.section base 5).2 &&
    (d.overrides base (i + 1)).all (fun o =>
      o.entry < (d.section base 1).2 && (o.disable || d.transferOk base (d.transferIn base (i + 1) o.entry)))) &&
  d.eachRecord base 5 (fun i => let a := d.recordAt base 5 16 i; d.loadNat (a + 13) 1 < 2 && d.zeroAt (a + 14) 2)

/-- SETUP records are of a kind and phase of Table 10-7. -/
def Dev.setupsOk (d : Dev) (base : Nat) : Bool :=
  d.eachRecord base 6 (fun i =>
    let r := d.setupRec base i
    1 ≤ r.kind && r.kind ≤ 3 && r.phase ≤ 1 && d.zeroAt (d.recordAt base 6 16 i + 6) 2)

/-- STEPS. -/
def Dev.stepsOk (d : Dev) (base : Nat) : Bool :=
  let at' := fun i => d.loadNat (d.recordAt base 7 4 i) 4
  d.eachRecord base 7 (fun i => decide (at' i < d.img base 0x30 8)) && rising (d.column base 7 at')

/-- The image at a far-memory address follows Tables 10-1 to 10-7. DEDUCED, unsafe (log entry 52). -/
def Dev.imageOk (d : Dev) (base : Nat) : Bool :=
  base + 0x100 ≤ d.get F.DEV_FAR_SIZE_SIZE && d.headerOk base && (List.range 8).all (d.sectionOk base) && d.tasksOk base &&
  d.transfersOk base && d.collectivesOk base && d.resumesOk base && d.variantsOk base && d.setupsOk base && d.stepsOk base

/-! ## The later checks -/

/-- The digest of R326 over the image with DIGEST zero. -/
def Dev.imageDigest (d : Dev) (base : Nat) : List Byte :=
  shake32 (d.load base 0xC0 ++ List.replicate 32 0 ++ d.load (base + 0xE0) (d.img base 0x10 8 - 0xE0))

/-- SIGNATURE (R464): whether the load may go on, with records and counts. -/
def Dev.imageSignature (d : Dev) (base : Nat) : Bool × Dev :=
  let off := d.img base 0xE0 8
  let size := d.img base 0x10 8
  if off = 0 then (if d.bit F.SEC_STATUS_SIG_SCHED_REQ then (false, d.sigFailed 3 5 []) else (true, d))
  else
    let b := if off = size then d.load (base + off) sigBlockSize else []
    if d.bit F.WDOG_SLOLIS_STOPPED then (false, d.sigFailed 3 1 b)
    else
      let r := d.verifySig 3 b (d.load (base + 0xC0) 32) (d.ownerKeysOf 1)
      (r.1 = 0, r.2)

/-- IDENTITY. -/
def Dev.imageIdentity (d : Dev) (base : Nat) : Bool :=
  d.img base 2 2 = d.deviceId && d.img base 4 2 = d.masterId && d.img base 0x20 8 = d.reg F.DEV_DOMAIN_SHAPE.base &&
  (d.bit F.DEV_BEAT_STATUS_LOCKED || d.isMaster)

/-- SHAPE: no byte of TARGET_SHAPE exceeds the same byte of SCHED_SHAPE. -/
def Dev.shapeFits (d : Dev) (base : Nat) : Bool :=
  (List.range 8).all (fun p =>
    decide (bitsOf (d.imgShape base) (8 * p + 7) (8 * p) ≤ bitsOf (d.reg F.SCHED_SHAPE.base) (8 * p + 7) (8 * p)))

/-- RESOURCES: far memory, its S share, and channels and first light as R445 and R460 require. -/
def Dev.imageResources (d : Dev) (base : Nat) : Bool :=
  d.img base 0x28 8 ≤ d.get F.DEV_FAR_SIZE_SIZE && d.img base 6 1 ≤ d.get F.DEV_FAR_SHARE_S_PCT && d.failedChannels.isEmpty &&
  d.bit F.BADGER_STATUS_FIRST_LIGHT && (List.range 32).all (fun m => d.get F.FAR_STATUS_STATE m = 2)

/-- A setup record binds an endpoint. -/
def SetupRec.binds (r : SetupRec) : Bool := r.kind = 1 && r.offset = 0x728 && r.value % 8 = 3

/-- A setup record names what Table 10-7 permits, in its phase (R334). -/
def setupTargetOk (r : SetupRec) : Bool :=
  let aligned := r.offset % 8 = 0
  let cell := aligned && ([0x500, 0x508, 0x740, 0x748].contains r.offset || (0x640 ≤ r.offset && r.offset ≤ 0x6B8) ||
    (0x700 ≤ r.offset && r.offset ≤ 0x728))
  let eng := aligned && ((0x010 ≤ r.offset && r.offset ≤ 0x028) || (0x200 ≤ r.offset && r.offset ≤ 0x2F8))
  (match r.kind with
   | 1 => r.target < 512 && cell
   | 2 => r.target < 256 && eng
   | _ => r.target < 512) &&
  r.phase = b2n r.binds

/-- BAD_SETUP. -/
def Dev.setupTargetsOk (d : Dev) (base : Nat) : Bool := d.eachRecord base 6 (fun i => setupTargetOk (d.setupRec base i))

/-- LINK: every port named by a transfer entry in force under a variant is UP. -/
def Dev.imagePortsUp (d : Dev) (base v : Nat) : Bool :=
  d.eachRecord base 1 (fun i =>
    let t := d.transferIn base v i
    t.disabled || t.port = 0xFF || d.get F.TL_LINK_STATUS_STATE t.port = 3)

/-! ## Results (Table 10-16) -/

/-- STATE of the unit set. -/
def Dev.setSched (d : Dev) (st : Nat) : Dev := d.set F.SCHED_STATUS_STATE st

/-- RESULT of the last LOAD or RESUME. -/
def Dev.schedResult (d : Dev) (r : Nat) : Dev := d.set F.SCHED_STATUS_RESULT r

/-- A load whose checks fail: the unit returns to IDLE. -/
def Dev.loadFails (d : Dev) (r : Nat) : Dev :=
  ((d.schedResult r).setSched 0).modSched (fun s => { s with stage := .none, loaded := false })

/-- A context of a cell in TARGET_SHAPE is READY, RUNNING or PARKED. -/
def Dev.shapeBusy (d : Dev) (base : Nat) : Bool :=
  ((List.range 512).filter (inShape (d.imgShape base))).any (fun lc =>
    match d.hostOf lc with
    | some pc => (List.range 32).any (fun c => (d.ctx pc c).phase = .ready || (d.ctx pc c).phase = .running || (d.ctx pc c).phase = .parked)
    | none => false)

/-- SCHED_LOAD: BUSY and BAD_IMAGE are checked, and the unit is LOADING until the digest is computed (R337). -/
def Dev.schedLoad (d : Dev) (epoch : Nat) : Dev :=
  let base := d.get F.SCHED_IMAGE_BASE_BASE * 64
  if d.schedState ≠ 0 || d.shapeBusy base then d.schedResult 1
  else if !d.imageOk base then d.schedResult 2
  else
    (d.setSched 1).modSched (fun s => { s with
      base := base, stage := .digest, resuming := false, point := 0, newEpoch := epoch, setupFailed := false, unload := false, hold := none })

/-- SCHED_LOAD. -/
def execSchedLoad (_m : Master) (epoch : BitVec 32) (s : State) : Host.Outcome State Fault Refusal := s.runMain (fun d => d.schedLoad epoch.toNat)

/-- LOAD_DIGEST_DONE (R337): the load goes on to its signature, or fails DIGEST. -/
def execLoadDigestDone (s : State) : Host.Outcome State Fault Refusal :=
  s.run (fun d =>
    if d.sched.stage ≠ .digest then d
    else if d.imageDigest d.sched.base ≠ d.load (d.sched.base + 0xC0) 32 then d.loadFails 3
    else d.modSched (fun s => { s with stage := .signature }))

/-! ## Undoing a setup (R338, R350) -/

/-- The contexts that the schedule unit bound and that are not EMPTY, or that it is binding. -/
def Dev.schedCtxs (d : Dev) (pc : Nat) : List Nat :=
  (List.range 32).filter (fun c =>
    let x := d.ctx pc c
    (x.sched.isSome && x.phase != .empty) || (match x.act with | .switching _ s => s.isSome | _ => false))

/-- Kills every context bound by the schedule unit (R113). -/
def Dev.killSched (d : Dev) : Dev := d.hostedSlots.foldl (fun d pc => (d.schedCtxs pc).foldl (fun d c => d.kill pc c) d) d

/-- Disables the job's alignment entries and the queues that setup records enabled, closes the channels and unbinds the endpoints. -/
def Dev.undoSetup (d : Dev) : Dev :=
  let u := d.sched
  let host := fun (d : Dev) (lc : Nat) (f : Dev → Nat → Dev) => match d.hostOf lc with | some pc => f d pc | none => d
  let d := u.setupAligns.foldl (fun d e => host d e.1 (fun d pc => d.set (F.CELL_SYNC_ALIGN_EN.nth e.2) 0 pc)) d
  let d := u.setupQueues.foldl (fun (d : Dev) e => (d.disableQueue e.1 e.2).2) d
  let d := u.setupChans.foldl (fun d e => host d e.1 (fun d pc => (d.closeChan (.cell pc) e.2).2)) d
  let d := u.setupEps.foldl (fun d e => host d e.1 (fun d pc => (d.unbindSep (.cell pc) e.2).wakeSenders pc)) d
  d.modSched (fun s => { s with setupAligns := [], setupQueues := [], setupChans := [], setupEps := [] })

/-- An arming that fails: a load undoes its setup and the unit returns to IDLE; a failed resume leaves it HELD (R338, R347). DEDUCED, unsafe (log entry 53). -/
def Dev.armFails (d : Dev) (r : Nat) : Dev :=
  if d.sched.resuming then ((d.schedResult r).setSched 4).modSched (fun s => { s with stage := .none, resuming := false, hold := none })
  else d.killSched.undoSetup.loadFails r

/-! ## Barriers (R339) -/

/-- Body of a BARRIER_ARRIVE or BARRIER_RELEASE (Table 10-10). -/
def barrierBody (epoch phase count : Nat) : List Byte := leBytes 4 epoch ++ leBytes 1 phase ++ leBytes 1 0 ++ leBytes 2 count

/-- The phase at whose barrier the device waits. -/
def Dev.barrierPhase (d : Dev) : Option Nat :=
  match d.sched.stage with
  | .barrierA => some 0
  | .barrierB => some 1
  | _ => none

/-- A write of one setup record (R334): whether its result is OK. -/
def Dev.setupCell (d : Dev) (lc pc off v : Nat) : Bool × Dev :=
  let note := fun (f : SchedState → SchedState) (r : Nat × Dev) => (decide (r.1 = 0), if r.1 = 0 then r.2.modSched f else r.2)
  if off = 0x500 then (true, d.writeOpset pc (v % 2))
  else if off = 0x508 then (true, d.writeNmCtl pc v)
  else if 0x640 ≤ off && off ≤ 0x6B8 then
    let k := (off - 0x640) / 8
    let d := d.writeAlign pc k v
    let on := d.bit (F.CELL_SYNC_ALIGN_EN.nth k) pc
    (on || !bitOf v 63, if on then d.modSched (fun s => { s with setupAligns := s.setupAligns ++ [(lc, k)] }) else d)
  else if off = 0x728 then
    let ch := d.get F.CELL_CHAN_SEL_CHAN pc
    let sep := d.get F.CELL_CHAN_SEL_SEP pc
    let q := d.get F.CELL_CHAN_SEL_CQ pc
    let r := if d.migrating lc then (false, d.chanResult pc 6) else match v % 8 with
      | 1 => note (fun s => { s with setupChans := s.setupChans ++ [(lc, ch)] }) (d.openChan (.cell pc) ch)
      | 2 => note id (d.closeChan (.cell pc) ch)
      | 3 => note (fun s => { s with setupEps := s.setupEps ++ [(lc, sep)] }) (d.bindSep (.cell pc) sep)
      | 4 => (true, (d.unbindSep (.cell pc) sep).wakeSenders pc)
      | 5 => note id (if d.cqState pc q = 2 then (0, d.cqCmd pc (some (bitsOf v 63 40))) else d.cqCommand pc q (some (bitsOf v 63 40)))
      | 6 => note id (if d.cqState pc q = 2 then (0, d.cqCmd pc none) else d.cqCommand pc q none)
      | _ => (false, d.chanResult pc 8)
    r
  else (true, d.writePlain .slolis true 2 pc off v)

/-- A write of one setup record to an engine. -/
def Dev.setupEngine (d : Dev) (e off v : Nat) : Bool × Dev :=
  let q := d.get F.ENG_WQ_SEL_Q e
  if off = 0x028 then
    match v % 4 with
    | 1 =>
      let r := d.enableQueue e q
      if r.1 = 0 then (true, (r.2.wqResult e 0).modSched (fun s => { s with setupQueues := s.setupQueues ++ [(e, q)] }))
      else (false, r.2.wqResult e r.1)
    | 2 => let r := d.disableQueue e q; (true, r.2.wqResult e 0)
    | _ => (false, d)
  else if 0x200 ≤ off && off % 16 = 8 then
    (true, (d.setReg (F.ENG_SG_KEY_LO.base + (off - 0x208)) e 0 (d.reg (F.ENG_SG_KEY_LO.base + (off - 0x208)) e 1)).setReg
      (F.ENG_SG_KEY_HI.base + (off - 0x208)) e 0 v)
  else (true, d.writePlain .slolis true 4 e off v)

/-- Applies a setup record; the arming remembers a result other than OK. -/
def Dev.applySetup (d : Dev) (r : SetupRec) : Dev :=
  let res : Bool × Dev := match r.kind with
    | 1 => (match d.hostOf r.target with | some pc => d.setupCell r.target pc r.offset r.value | none => (false, d))
    | 2 => if d.domOn (544 + r.target / 16) then d.setupEngine r.target r.offset r.value else (false, d)
    | _ => (match d.hostOf r.target with
      | some pc =>
        let off := bitsOf r.value 31 8
        let d := if off + 64 ≤ spadSize then d.storeNat (sliceBase pc + off + 0x0C) 4 d.sched.newEpoch else d
        let q := r.value % 8
        if d.cqState pc q = 2 then (true, d.modCell pc (fun s => { s with cqWait := s.cqWait ++ [(q, some off)] }))
        else let x := d.cqCommand pc q (some off); (x.1 = 0, x.2)
      | none => (false, d))
  if res.1 then res.2 else res.2.modSched (fun s => { s with setupFailed := true })

/-- The setup records of the arming under way, in record order: those before resume point 0's at a load, the resume point's own at a resume. -/
def Dev.armRecords (d : Dev) : List SetupRec :=
  let b := d.sched.base
  let r := d.resumePoint b d.sched.point
  (if d.sched.resuming then (List.range r.2.2).map (fun i => r.2.1 + i) else List.range r.2.1).map (d.setupRec b)

/-- Applies the setup records of a phase. -/
def Dev.applyPhase (d : Dev) (phase : Nat) : Dev := (d.armRecords.filter (fun r => r.phase = phase)).foldl Dev.applySetup d

/-- A CONTRIB entry of the image names a contribution's job that has not yet been read to its end. -/
def Dev.jobScheduled (d : Dev) (lc : Nat) (j : ContribJob) : Bool :=
  (List.range (d.sectionCount 1)).any (fun e =>
    let t := d.transfer e
    t.contrib && t.lc = lc && t.sep = j.queue && t.dstDev = j.dstDev && t.dstLc = j.dstLc)

/-- An outbox item waits for a transfer window: a record of a CLASS S endpoint, or a contribution that an entry names (R330). -/
def Dev.itemScheduled (d : Dev) (lc : Nat) (i : OutItem) : Bool :=
  if i.contrib then (List.range (d.sectionCount 1)).any (fun e => inWindowEntry lc i (d.transfer e)) else i.sched

/-- Discards what waits in a cell's outbox for a window (R338 step 2). -/
def Dev.discardWaiting (d : Dev) (pc : Nat) : Dev :=
  let lc := (d.hosted pc).getD 0
  let c := d.cell pc
  let gone := (c.outbox.filter (d.itemScheduled lc)).length + (c.contribs.filter (d.jobScheduled lc)).length
  let d := d.modCell pc (fun s => { s with
    outbox := s.outbox.filter (fun i => !d.itemScheduled lc i), contribs := s.contribs.filter (fun j => !d.jobScheduled lc j) })
  (d.count F.SCHED_DISCARDED 0 0 gone).wakeSenders pc

/-- Sets each counter that an enabled alignment entry names to BASE + EXPECT (R338 step 5). -/
def Dev.presetAligns (d : Dev) (pc : Nat) : Dev :=
  (List.range 16).foldl (fun d k =>
    if d.bit (F.CELL_SYNC_ALIGN_EN.nth k) pc then
      d.putCounter pc (d.get (F.CELL_SYNC_ALIGN_COUNTER.nth k) pc)
        (d.get (F.CELL_SYNC_ALIGN_BASE.nth k) pc + d.get (F.CELL_SYNC_ALIGN_EXPECT.nth k) pc)
    else d) d

/-- Enters ARMED or RESUMING's wait with a start beat. -/
def Dev.armed (d : Dev) (beat : Nat) : Dev :=
  let d := d.modSched (fun s => { s with stage := .none })
  if d.sched.resuming then d else ((d.schedResult 0).setSched 2).setReg F.SCHED_START_BEAT.base 0 0 beat

/-- The barrier is passed: phase B binds endpoints, or the unit is armed (R338 to R340). DEDUCED, unsafe (log entry 57). -/
def Dev.barrierPassed (d : Dev) (phase beat : Nat) : Dev :=
  if phase = 0 then (d.modSched (fun s => { s with stage := .phaseB })).applyPhase 1
  else d.armed beat

/-- The start beat of R340. -/
def Dev.startBeat (d : Dev) : Nat := roundUp (d.beat + 128) 1024

/-- A barrier whose subtree is complete: the device sends its ARRIVE, or the master with all P devices releases (R339). DEDUCED, unsafe (log entry 57). -/
def Dev.tryArrive (d : Dev) : Dev :=
  match d.barrierPhase with
  | none => d
  | some ph =>
    let epoch := d.sched.newEpoch
    let from' := d.childPorts.filterMap (fun n => SMap.find n d.sched.arrives)
    let here := from'.filter (fun a => a.1 = epoch && a.2.1 = ph)
    if d.sched.arrived = some (epoch, ph) || here.length < d.children.length then d
    else
      let count := here.foldl (fun n a => n + a.2.2) 1
      let d := d.modSched (fun s => { s with arrived := some (epoch, ph) })
      if !d.isMaster then
        let (f, d) := d.ownFlit 0x13 0 (barrierBody epoch ph count)
        d.sendUp f
      else if count = d.domainSize then
        let beat := if ph = 1 && !d.sched.resuming then d.startBeat else 0
        let (f, d) := d.ownFlit 0x14 beat (barrierBody epoch ph 0)
        (d.sendDown f).barrierPassed ph beat
      else d

/-- Phase A (R338), up to its barrier. -/
def Dev.phaseA (d : Dev) : Dev :=
  let d := d.killSched
  let d := (d.hostedSlots.foldl (fun d pc => d.setFreeze pc (fun f => { f with command := false, hold := false })) d).kickEngines
  let d := d.hostedSlots.foldl Dev.discardWaiting d
  let cells := (List.range 512).filter (inShape (d.imgShape d.sched.base))
  let d := cells.foldl (fun d lc => match d.hostOf lc with
    | some pc => d.storeNat (sliceBase pc + d.img d.sched.base 0x3C 4) 4 d.sched.newEpoch
    | none => d) d
  let d := d.applyPhase 0
  let d := d.hostedSlots.foldl Dev.presetAligns d
  if d.sched.setupFailed then d.armFails 10
  else (d.modSched (fun s => { s with stage := .barrierA, arrived := none })).tryArrive

/-! ## The rest of a load (R337, R463, R464) -/

/-- The first later check that an image fails, by its code; 0 for none. -/
def Dev.lateChecks (d : Dev) (base : Nat) : Nat :=
  if !d.imageIdentity base then 5
  else if !d.shapeFits base then 6
  else if !d.imageResources base then 7
  else if !d.setupTargetsOk base then 8
  else if !d.imagePortsUp base 0 then 9
  else 0

/-- LOAD_SIGNATURE_DONE: the signature is checked, which waits while Slolis restarts; then identity, shape, resources, setup and links. A load that passes is accepted: FLOG_TAINT is cleared (R393), M5 is extended, the epoch is taken, and the job arms. DEDUCED, unsafe (log entry 53). -/
def Dev.loadSignatureDone (d : Dev) : Dev :=
  let base := d.sched.base
  if d.sched.stage ≠ .signature || (!d.slolisUp && !d.bit F.WDOG_SLOLIS_STOPPED) then d
  else
    let (ok, d) := d.imageSignature base
    if !ok then d.loadFails 4
    else
      let r := d.lateChecks base
      if r ≠ 0 then d.loadFails r
      else
        let off := d.img base 0xE0 8
        let keyId := if off = 0 then List.replicate 32 0 else d.load (base + off + 0x10) 32
        let svn := if off = 0 then 0 else d.loadNat (base + off + 12) 4
        let d := (d.setReg F.FLOG_TAINT.base 0 0 0).extendM 5 (d.load (base + 0xC0) 32) keyId svn
        let d := (d.set F.SCHED_STATUS_EPOCH d.sched.newEpoch).set F.SCHED_STATUS_VARIANT 0
        let d := d.modSched (fun s => { s with loaded := true, stepAt := [], windows := [], setupChans := [], setupEps := [], setupQueues := [], setupAligns := [] })
        d.phaseA

/-- LOAD_SIGNATURE_DONE. -/
def execLoadSignatureDone (s : State) : Host.Outcome State Fault Refusal := s.run Dev.loadSignatureDone

/-- PHASE_B_JOINS_DONE (R338): with every endpoint of the phase BOUND or FAILED, a failed one ends the arming, else the device comes to barrier B. -/
def Dev.joinsDone (d : Dev) : Dev :=
  let states := d.sched.setupEps.map (fun e => match d.hostOf e.1 with | some pc => d.sepState (.cell pc) e.2 | none => 4)
  if d.sched.stage ≠ .phaseB || states.any (fun st => st = 1) then d
  else if d.sched.setupFailed || states.any (fun st => st ≠ 2) then d.armFails 10
  else (d.modSched (fun s => { s with stage := .barrierB })).tryArrive

/-- PHASE_B_JOINS_DONE. -/
def execPhaseBJoinsDone (s : State) : Host.Outcome State Fault Refusal := s.run Dev.joinsDone

/-- BARRIER_ARRIVE (R339): the count of a child's subtree, kept by the port it came in on. -/
def execBarrierArrive (n : Port) (f : CFlit) (s : State) : Host.Outcome State Fault Refusal :=
  s.run (fun d =>
    if !d.cFlitIn n 0x13 f || !d.childPorts.contains n then d
    else
      let a := (cField f 0x10 4, cField f 0x14 1, cField f 0x16 2)
      (d.modSched (fun s => { s with arrives := SMap.insert n a s.arrives })).tryArrive)

/-- BARRIER_RELEASE (R339, R340): a release from the parent that matches the barrier at which the device waits ends the phase; it is passed on down the tree. -/
def execBarrierRelease (n : Port) (f : CFlit) (s : State) : Host.Outcome State Fault Refusal :=
  s.run (fun d =>
    if !d.cFlitIn n 0x14 f || d.parentPort ≠ some n.val then d
    else
      let d := d.sendDown (hopped f)
      if cField f 0x10 4 = d.sched.newEpoch && some (cField f 0x14 1) = d.barrierPhase then d.barrierPassed (cField f 0x14 1) f.beat.toNat
      else d)

/-- BARRIER_TIMEOUT (R339). -/
def execBarrierTimeout (s : State) : Host.Outcome State Fault Refusal :=
  s.run (fun d => if d.barrierPhase.isSome then d.armFails 11 else d)

/-! ## Resume (R347, R348) -/

/-- The running position of the latest pass over a resume point at image position r, at or before h; none if it has not been passed. -/
def Dev.lastPass (d : Dev) (r h : Nat) : Option Nat :=
  if h < r then none
  else
    let lp := d.imgLength - d.imgLoopStart
    if d.imgLoop && d.imgLoopStart ≤ r && 0 < lp then some (r + (h - r) / lp * lp) else some r

/-- The latest resume point at or before HOLD_POS: its number and running position. -/
def Dev.latestPoint (d : Dev) (h : Nat) : Option (Nat × Nat) :=
  (List.range (d.sectionCount 3)).foldl (fun best i =>
    match d.lastPass (d.resumePoint d.sched.base i).1 h with
    | none => best
    | some p => match best with
      | some b => if b.2 ≤ p then some (i, p) else best
      | none => some (i, p)) none

/-- SCHED_RESUME: BAD_RESUME, SHAPE and LINK are checked in this order; an accepted resume makes the variant current, restores SCHED_STEP, and arms. -/
def Dev.schedResume (d : Dev) (epoch : Nat) : Dev :=
  let v := d.get F.SCHED_RESUME_POS_VARIANT
  let pos := d.get F.SCHED_RESUME_POS_POS
  let beat := d.reg F.SCHED_RESUME_BEAT.base
  let point := d.latestPoint (d.reg F.SCHED_HOLD_POS.base)
  if d.schedState ≠ 4 || !newer32 epoch (d.get F.SCHED_STATUS_EPOCH) || d.sectionCount 4 < v || point.map Prod.snd ≠ some pos ||
      beat % 1024 ≠ pos % 1024 || beat < d.beat + 128 then d.schedResult 12
  else if !d.shapeFits d.sched.base then d.schedResult 6
  else if !d.imagePortsUp d.sched.base v then d.schedResult 9
  else
    let i := (point.map Prod.fst).getD 0
    let d := ((d.schedResult 0).setSched 5).count F.SCHED_RESUMES
    let d := (d.set F.SCHED_STATUS_EPOCH epoch).set F.SCHED_STATUS_VARIANT v
    let d := d.modSched (fun s => { s with resuming := true, point := i, newEpoch := epoch, setupFailed := false, hold := none, windows := [] })
    let d := (d.setReg F.SCHED_START_BEAT.base 0 0 beat).setReg F.SCHED_POS.base 0 0 pos
    let d := d.setReg F.SCHED_STEP.base 0 0 (SMap.read d.step d.sched.stepAt i)
    d.snapResumed.phaseA

/-- SCHED_RESUME. -/
def execSchedResume (_m : Master) (epoch : BitVec 32) (s : State) : Host.Outcome State Fault Refusal := s.runMain (fun d => d.schedResume epoch.toNat)

/-- HOLD_COMMAND (R344). -/
def execHoldCommand (_m : Master) (s : State) : Host.Outcome State Fault Refusal := s.runMain (fun d => d.raiseHold 8)

/-- SCHED_UNLOAD: the job ends at the next beat boundary, from any state except LOADING (R350). -/
def execSchedUnload (_m : Master) (s : State) : Host.Outcome State Fault Refusal :=
  s.runMain (fun d => if d.schedState = 1 then d else d.modSched (fun s => { s with unload := true }))

/-- The unload of R350. -/
def Dev.unloadJob (d : Dev) : Dev :=
  let d := d.killSched.undoSetup
  let d := d.hostedSlots.foldl (fun d pc => d.setFreeze pc (fun f => { f with hold := false })) d
  let d := ((d.setReg F.SCHED_STEP.base 0 0 0).setSched 0).set F.SCHED_STATUS_VARIANT 0
  (d.modSched (fun s => { s with
    unload := false, loaded := false, stage := .none, resuming := false, hold := none, windows := [], stepAt := [] })).snapJobEnds.kickEngines

end Sys2Proof.Machine
end

