-- ==== Sys2Proof/Machine/Schedule.lean ====
section
/-! DEFINITION. The beat boundary: markers, stretching, the positions of a running job, overruns and holds, and transfer windows (R311 to R325, R329, R330, R341 to R346). -/

namespace Sys2Proof.Machine

/-! ## Stretching (R322 to R324) -/

/-- A stretch request held to 16 to 64 (Table 10-21). -/
def clampStretch (v : Nat) : Nat := max 16 (min 64 v)

/-- The device's stretch request. -/
def Dev.stretchRequest (d : Dev) : Nat := max (d.get F.SCHED_STRETCH_OS_REQ) (d.get F.SCHED_STRETCH_SYS_REQ)

/-- Sends the request to the marker parent (R323). -/
def Dev.sendRequest (d : Dev) : Dev :=
  let r := d.stretchRequest
  let d := d.modSched (fun s => { s with lastReq := r })
  if d.isMaster then d
  else
    let (f, d) := d.notice (leBytes 1 1 ++ leBytes 1 r)
    d.sendUp f

/-- The request is sent whenever it changes. -/
def Dev.requestChanged (d : Dev) : Dev := if d.stretchRequest ≠ d.sched.lastReq then d.sendRequest else d

/-- STRETCH_REQUEST_WRITE: a write of SCHED_STRETCH; the OS writes OS_REQ alone. -/
def execStretchRequestWrite (m : Master) (v : Word) (s : State) : Host.Outcome State Fault Refusal :=
  s.runMain (fun d =>
    let d := d.set F.SCHED_STRETCH_OS_REQ (clampStretch (bitsOf v.toNat 7 0))
    let d := if m = .slolis then d.set F.SCHED_STRETCH_SYS_REQ (clampStretch (bitsOf v.toNat 15 8)) else d
    d.requestChanged)

/-- STRETCH_REQ: the master keeps the latest request of each device; every other device forwards it (R323, R324). -/
def execStretchReq (n : Port) (f : CFlit) (s : State) : Host.Outcome State Fault Refusal :=
  s.run (fun d =>
    if !d.noticeIn n 1 f then d
    else if d.isMaster then
      d.modSched (fun s => { s with stretch := SMap.insert (f.origin.toNat % 1024) (cField f 0x11 1, d.beat) s.stretch })
    else d.forwardUp f)

/-- The master's target: the largest of its own request and the requests of the last 4,096 beats. -/
def Dev.stretchTarget (d : Dev) : Nat :=
  (d.sched.stretch.filter (fun e => d.beat ≤ e.2.2 + 4096)).foldl (fun t e => max t e.2.1) d.stretchRequest

/-- The master announces a change of S: up to the target at once, down by 1 every 1,024 beats. -/
def Dev.announceStretch (d : Dev) : Dev :=
  let cur := d.get F.SCHED_STRETCH_CUR
  let t := clampStretch d.stretchTarget
  if d.get F.SCHED_STRETCH_NEXT ≠ cur || t = cur || (t < cur && d.beat % 1024 ≠ 0) then d
  else (d.set F.SCHED_STRETCH_NEXT (if cur < t then t else cur - 1)).setReg F.SCHED_STRETCH_BEAT.base 0 0 (roundUp (d.beat + 64) 4)

/-- At a beat: the announced S takes effect at STRETCH_BEAT, stretched beats are counted, the master announces, and the others repeat a request above 16. -/
def Dev.stretchBeat (d : Dev) : Dev :=
  let due := d.reg F.SCHED_STRETCH_BEAT.base ≤ d.beat && d.beat % 4 = 0
  let d := if due && d.get F.SCHED_STRETCH_NEXT ≠ d.get F.SCHED_STRETCH_CUR then d.set F.SCHED_STRETCH_CUR (d.get F.SCHED_STRETCH_NEXT) else d
  let d := if 16 < d.get F.SCHED_STRETCH_CUR then d.count F.SCHED_STRETCH_BEATS else d
  if d.isMaster then d.announceStretch
  else if d.beat % 1024 = 0 && 16 < d.stretchRequest then d.sendRequest
  else d

/-! ## Markers (R311 to R317) -/

/-- A new beat lets each port send again: flits that waited leave first, up to nine (R311, R313). -/
def Dev.releaseC (d : Dev) : Dev :=
  let waiting := d.cWait
  let d := { d with cWait := [], links := d.links.map (fun e => (e.1, { e.2 with replays := 0 })) }
  waiting.foldl (fun d e => e.2.foldl (fun d f => d.sendC e.1 f) d) d

/-- The body of a BEAT_MARKER (Table 09-7). -/
def markerBody (acc stretch beat : Nat) : List Byte := leBytes 4 acc ++ leBytes 1 stretch ++ leBytes 3 0 ++ leBytes 8 beat

/-- The master sends its marker on every UP port; another device forwards the marker that it holds, with the delay of its link and its own time added (R314, R315). -/
def Dev.sendMarkers (d : Dev) : Dev :=
  if d.isMaster then
    let body := markerBody 0 (d.get F.SCHED_STRETCH_NEXT) (d.reg F.SCHED_STRETCH_BEAT.base)
    let (f, d) := d.ownFlit 0x10 d.beat body
    d.sendCs d.upPorts f
  else match d.sched.marker with
    | none => d
    | some (n, at', f) =>
      let own := (d.cycle - at') * 640 / 21
      let acc := cField f 0x10 4 + d.get F.TL_LINK_STATUS_DELAY n + own
      let g := mkCFlit 0x10 ((f.hops.toNat + 1) % 256) f.origin.toNat f.seq.toNat f.beat.toNat (leBytes 4 acc ++ f.body.drop 4)
      (d.modSched (fun s => { s with marker := none })).sendDown g

/-- A good marker is taken: the first sets the beat counter and LOCKED, later ones correct the phase by at most 2 cycles (R316). DEDUCED, unsafe (log entry 55). -/
def Dev.takeMarker (d : Dev) (n : Nat) (f : CFlit) (corr : Int) : Dev :=
  let d := if d.bit F.DEV_BEAT_STATUS_LOCKED then
      d.set F.DEV_BEAT_STATUS_LAST_CORR (BitVec.ofInt 16 (max (-60) (min 60 corr))).toNat
    else (d.setReg F.DEV_BEAT_COUNT.base 0 0 f.beat.toNat).set F.DEV_BEAT_STATUS_LOCKED 1
  let d := (d.set F.DEV_BEAT_STATUS_MISSED 0).set F.DEV_BEAT_STATUS_PARENT_PORT n
  let d := (d.set F.SCHED_STRETCH_NEXT (cField f 0x14 1)).setReg F.SCHED_STRETCH_BEAT.base 0 0 (cField f 0x18 8)
  d.modSched (fun s => { s with noSource := false, marker := some (n, d.cycle, f) })

/-- BEAT_MARKER: one from the present source is taken; with ALT set, markers from the parent are counted, and after 1,024 the device returns to it (R314, R316, R317). -/
def execBeatMarker (n : Port) (f : CFlit) (corr : Int) (s : State) : Host.Outcome State Fault Refusal :=
  s.run (fun d =>
    if !d.cFlitIn n 0x10 f || d.isMaster then d
    else
      let fromParent := d.parentPort = some n.val
      let fromAlt := d.altPort = some n.val
      let alt := d.bit F.DEV_BEAT_STATUS_ALT
      if alt && fromParent then
        let good := d.sched.goodMarkers + 1
        let back := d.sched.noSource || decide (1024 ≤ good)
        let d := d.modSched (fun s => { s with goodMarkers := if back then 0 else good })
        if back then (d.set F.DEV_BEAT_STATUS_ALT 0).takeMarker n f corr else d
      else if (if alt then fromAlt else fromParent) then d.takeMarker n f corr
      else d)

/-- MARKER_TIMEOUT: after 4 beats without a marker the device turns to the other neighbour; without one it has no source, which is recorded once (R317). -/
def execMarkerTimeout (s : State) : Host.Outcome State Fault Refusal :=
  s.run (fun d =>
    if d.isMaster then d
    else if !d.bit F.DEV_BEAT_STATUS_ALT && d.altPort.isSome then
      (d.set F.DEV_BEAT_STATUS_ALT 1).modSched (fun s => { s with goodMarkers := 0 })
    else if d.sched.noSource then d
    else (d.record 0x0162 0 0 0 2 (d.get F.DEV_BEAT_STATUS_MISSED)).modSched (fun s => { s with noSource := true, goodMarkers := 0 }))

/-- The beat that ends brought this device no marker, though it has locked to one or has lost its sources (R317). -/
def Dev.beatMissed (d : Dev) : Bool := !d.isMaster && d.sched.marker.isNone && (d.bit F.DEV_BEAT_STATUS_LOCKED || d.sched.noSource)

/-- MISSED counts consecutive beats without a marker, and the sixteenth raises a hold (R317, Tables 09-19 and 10-12). -/
def Dev.missBeat (d : Dev) (missed : Bool) : Dev :=
  if !missed then d
  else
    let m := min 0xFFFF (d.get F.DEV_BEAT_STATUS_MISSED + 1)
    let d := d.set F.DEV_BEAT_STATUS_MISSED m
    if m = 16 then d.raiseHold 6 else d

/-! ## Holds (R345, R346) -/

/-- The unit enters HELD: the hold is latched, and every cell that hosts a logical cell is frozen. -/
def Dev.enterHold (d : Dev) (h : HoldInfo) (pos : Nat) : Dev :=
  let w := 2 ^ 63 + b2n h.isLocal * 2 ^ 62 + h.cause * 2 ^ 48 + h.port * 2 ^ 40 + h.origin * 2 ^ 30 + h.lc * 2 ^ 21 + h.coll
  let d := (d.setReg F.SCHED_HOLD.base 0 0 w).setReg F.SCHED_HOLD_POS.base 0 0 pos
  let d := ((d.setReg F.SCHED_HOLD_BEAT.base 0 0 d.beat).setSched 4).count F.SCHED_HOLDS
  let d := d.modSched (fun s => { s with hold := none, windows := [], stage := .none, resuming := false })
  let d := d.hostedSlots.foldl (fun d pc => d.setFreeze pc (fun f => { f with hold := true })) d
  d.serveSuspects

/-- HOLD_FLIT: a HOLD seen for the first time is forwarded on every other UP port. A RUNNING, ARMED or RESUMING unit acts at the next beat boundary; elsewhere it is only counted (R318, R345, R346). -/
def execHoldFlit (n : Port) (f : CFlit) (s : State) : Host.Outcome State Fault Refusal :=
  s.run (fun d =>
    if !d.cFlitIn n 0x11 f then d
    else
      let o := f.origin.toNat % 1024
      if d.holdSeen.any (fun h => h.1 = o && h.2.1 = f.seq.toNat && decide (d.beat ≤ h.2.2 + 1024)) then d
      else
        let d := (d.count F.SCHED_HOLD_MSGS).rememberHold o f.seq.toNat
        let d := d.sendCs (d.upPorts.filter (fun k => k != n.val)) (hopped f)
        let h : HoldInfo := ⟨false, cField f 0x10 1, cField f 0x11 1, o, cField f 0x12 2 % 512, cField f 0x18 2⟩
        match d.schedState with
        | 2 | 3 | 5 => d.modSched (fun s => { s with hold := s.hold.orElse (fun _ => some h) })
        | _ => d)

/-! ## Transfer windows (R329, R330, R343) -/

/-- An entry covers an outbox item of the cell that hosts its source. -/
def covers (t : TransferEntry) (i : OutItem) : Bool :=
  if t.contrib then i.contrib && inWindowEntry t.lc i t else !i.contrib && i.sched && i.sep = t.sep

/-- An entry covers a contribution that is still being read. -/
def coversJob (t : TransferEntry) (j : ContribJob) : Bool :=
  t.contrib && t.sep = j.queue && t.dstDev = j.dstDev && t.dstLc = j.dstLc

/-- Payload bytes that an entry covers and that have not been released. -/
def Dev.covered (d : Dev) (t : TransferEntry) : Nat :=
  match d.hostOf t.lc with
  | none => 0
  | some pc =>
    let c := d.cell pc
    (c.outbox.filter (covers t)).foldl (fun n i => n + (itemBytes i - i.sent)) 0 +
      (c.contribs.filter (coversJob t)).foldl (fun n j => n + (j.count - j.pos) * (if j.ranked then 4 else 26)) 0

/-- Opens the window of an entry at running position p: its end, and what it should release by then. -/
def Dev.openWindow (d : Dev) (p e : Nat) : Dev :=
  let t := d.transfer e
  let w : WindowState := ⟨p + t.len, 0, min t.bytes (d.covered t)⟩
  d.modSched (fun s => { s with windows := SMap.insert e w s.windows })

/-- Releases bytes of the first outbox item that an entry covers, in commit order, as the allowance lasts: a record's first packet takes its header whole. An item released to its end leaves the outbox. -/
def Dev.releaseItems (d : Dev) (pc : Nat) (t : TransferEntry) : Nat → Nat → Nat × Dev
  | 0, left => (left, d)
  | fuel + 1, left =>
    let box := (d.cell pc).outbox
    match box.findIdx? (covers t) with
    | none => (left, d)
    | some k =>
      match box[k]? with
      | none => (left, d)
      | some it =>
        let n := min left (itemBytes it - it.sent)
        if n = 0 || (!it.contrib && it.sent + n < 16) then (left, d)
        else
          let d := d.sendItem (d.ownerUnit (.cell pc)) it it.sent (it.sent + n) (if t.u then 1 else 0) t.route
          if it.sent + n = itemBytes it then
            let d := (d.modCell pc (fun s => { s with outbox := s.outbox.eraseIdx k })).wakeSenders pc
            d.releaseItems pc t fuel (left - n)
          else (left - n, d.modCell pc (fun s => { s with outbox := s.outbox.set k { it with sent := it.sent + n } }))

/-- WINDOW_RELEASE: an open window of the running job releases what its entry covers, within its allowance (R329). -/
def execWindowRelease (entry : Nat) (s : State) : Host.Outcome State Fault Refusal :=
  s.run (fun d =>
    match SMap.find entry d.sched.windows with
    | none => d
    | some w =>
      let t := d.transfer entry
      match d.hostOf t.lc with
      | none => d
      | some pc =>
        if !d.running then d
        else
          let left := t.bytes - w.released
          let (rest, d) := d.releaseItems pc t ((d.cell pc).outbox.length) left
          d.modSched (fun s => { s with windows := SMap.insert entry { w with released := w.released + (left - rest) } s.windows }))

/-! ## The running job (R320, R341 to R344) -/

/-- An overrun at an image position: the first of the beat is latched, each is counted, and each raises a hold (R343). -/
def Dev.overrun (d : Dev) (first transfer : Bool) (index q lc : Nat) : Dev :=
  let d := if first then d.setReg F.SCHED_OVERRUN_LAST.base 0 0 (2 ^ 63 + b2n transfer * 2 ^ 62 + index % 2 ^ 30 * 2 ^ 32 + q % 2 ^ 32) else d
  (d.count F.SCHED_OVERRUNS).raiseHold (if transfer then 2 else 1) 0xFF lc

/-- The task of an entry is still READY, RUNNING or PARKED. -/
def Dev.taskLate (d : Dev) (t : TaskEntry) : Bool :=
  match d.hostOf t.lc with
  | none => false
  | some pc =>
    let x := (d.ctx pc t.ctx).phase
    x = .ready || x = .running || x = .parked

/-- Entry numbers of a section. -/
def Dev.entries (d : Dev) (i : Nat) : List Nat := List.range (d.sectionCount i)

/-- Deadlines at running position p and image position q, then windows that end there. A deadline at LENGTH falls at the wrap of a looping image. -/
def Dev.checkDeadlines (d : Dev) (p q : Nat) : Dev :=
  let b := d.sched.base
  let wrap := d.imgLoop && d.imgLength ≤ p && q = d.imgLoopStart
  let late := (d.entries 0).filter (fun i =>
    let t := d.taskEntry b i
    (t.deadline = q || (wrap && t.deadline = d.imgLength)) && d.taskLate t)
  let r := late.foldl (fun (x : Bool × Dev) i => (false, x.2.overrun x.1 false i q (d.taskEntry b i).lc)) (true, d)
  let ended := d.sched.windows.filter (fun e => e.2.last = p)
  let short := ended.filter (fun e => !(d.transfer e.1).u && decide (e.2.released < e.2.due))
  let r := short.foldl (fun (x : Bool × Dev) e => (false, x.2.overrun x.1 true e.1 q 0)) r
  r.2.modSched (fun s => { s with windows := s.windows.filter (fun e => e.2.last != p) })

/-- SCHED_STEP latched at a resume point and advanced at a position of STEPS, before any task of the position binds (R342, R409). DEDUCED, unsafe (log entry 54). -/
def Dev.stepAtPosition (d : Dev) (q : Nat) : Dev :=
  let b := d.sched.base
  let d := (d.entries 3).foldl (fun d i =>
    if (d.resumePoint b i).1 = q then d.modSched (fun s => { s with stepAt := SMap.insert i d.step s.stepAt }) else d) d
  if (d.entries 7).any (fun i => d.stepPos i = q) then (d.setReg F.SCHED_STEP.base 0 0 (d.step + 1)).stepStarts else d

/-- Binds the task of an entry; a result other than OK raises a hold (R341, R344). -/
def Dev.bindEntry (d : Dev) (i : Nat) : Dev :=
  let t := d.taskEntry d.sched.base i
  let r : Nat × Dev := match d.hostOf t.lc with
    | some pc => Dev.bind d pc t.ctx (some t.desc) (some i)
    | none => (4, d)
  if r.1 = 0 then r.2.count F.SCHED_BINDS else r.2.raiseHold 4 0xFF t.lc

/-- One beat in RUNNING, in the order of R341. DEDUCED, unsafe (log entry 54). -/
def Dev.runBeat (d : Dev) (p : Nat) : Dev :=
  let b := d.sched.base
  let q := d.imagePos p
  let d := if d.beat % 1024 = 0 then d.hostedSlots.foldl Dev.realign d else d
  let d := (d.checkDeadlines p q).stepAtPosition q
  let starts := (d.entries 0).filter (fun i => (d.taskEntry b i).start = q)
  let d := starts.foldl (fun d i =>
    let t := d.taskEntry b i
    match d.hostOf t.lc with
    | some pc => if bitOf t.flags 0 then d.writeOpset pc (b2n (bitOf t.flags 1)) else d
    | none => d) d
  let d := starts.foldl Dev.bindEntry d
  let d := ((d.entries 1).filter (fun e => !(d.transfer e).disabled && (d.transfer e).start = q)).foldl (fun d e => d.openWindow p e) d
  d.announceCheck

/-- The job starts or resumes at its beat (R340, R348). -/
def Dev.startRun (d : Dev) : Dev :=
  let fresh := d.schedState = 2
  let d := if fresh then d.setReg F.SCHED_POS.base 0 0 0 else d
  let d := (d.setSched 3).modSched (fun s => { s with resuming := false, stage := .none })
  let d := if fresh then d.snapJobStarts else d
  d.runBeat (d.reg F.SCHED_POS.base)

/-- A RUNNING unit at a beat boundary: it holds, completes, or begins the next position. -/
def Dev.advanceRun (d : Dev) : Dev :=
  let p := d.reg F.SCHED_POS.base + 1
  match d.sched.hold with
  | some h => d.enterHold h p
  | none =>
    let d := d.setReg F.SCHED_POS.base 0 0 p
    if d.imgLength ≤ p && !d.imgLoop then
      ((d.checkDeadlines p p).setSched 6).modSched (fun s => { s with hold := none, windows := [] })
    else d.runBeat p

/-- The schedule unit at a beat boundary: a hold acts first, in ARMED or RESUMING at the start or resume position (R340, R345, R346, R350). -/
def Dev.schedBeat (d : Dev) : Dev :=
  if d.sched.unload then d.unloadJob
  else match d.schedState, d.sched.hold with
    | 2, some h => d.enterHold h 0
    | 5, some h => d.enterHold h (d.reg F.SCHED_POS.base)
    | 2, none => if d.reg F.SCHED_START_BEAT.base = d.beat then d.startRun else d
    | 3, _ => d.advanceRun
    | 5, none => if d.sched.stage = .none && d.reg F.SCHED_START_BEAT.base = d.beat then d.startRun else d
    | _, _ => d

/-- BEAT_BOUNDARY (R22, R311, R314, R320 to R324, R340 to R345): the beat counter advances, S changes at its beat, markers and waiting C flits leave, the schedule unit acts, and a beat without a marker is counted. DESIGN CHOICE, unsafe (log entry 11). DEDUCED, unsafe (log entry 55). -/
def Dev.beatBoundary (d : Dev) : Dev :=
  let missed := d.beatMissed
  let d := d.setReg F.DEV_BEAT_COUNT.base 0 0 ((d.beat + 1) % 2 ^ 64)
  let d := d.engs.foldl (fun (d : Dev) e => if e.2.items.isEmpty then d else d.count F.ENG_BUSY e.1) d
  (({ d with cSent := [] }).stretchBeat.sendMarkers).releaseC.schedBeat.missBeat missed

/-- BEAT_BOUNDARY. -/
def execBeatBoundary (s : State) : Host.Outcome State Fault Refusal := s.runMain Dev.beatBoundary

end Sys2Proof.Machine
end

