-- ==== Sys2Proof/Machine/Patrol.lean ====
section
/-! DEFINITION. Patrol: windows, migrations, tests, strikes and fences, first light, health scores, replacement requests and the slice scrubber (R32 to R36, R168, R352 to R379, R391). -/

namespace Sys2Proof.Machine

/-! ## Defect-map entries of a slot (Table 11-8) -/

/-- Entries of a kind for a slot. -/
def Dev.defectsOf (d : Dev) (kind pc : Nat) : List DefectEntry := d.defects.filter (fun e => e.kind.toNat = kind && e.unit.toNat = pc)

/-- Strikes of a slot in the last 24 hours. -/
def Dev.strikes (d : Dev) (pc : Nat) : Nat := ((d.defectsOf 5 pc).filter (fun e => d.ptpSec < e.b.toNat + 86400)).length

/-- BADGER_ROW_STATE.STAGE and FREE of a partition's rows (R371). -/
def Dev.showStages (d : Dev) (p : Nat) : Dev :=
  [2 * p, 2 * p + 1].foldl (fun d r =>
    (d.set F.BADGER_ROW_STATE_STAGE (d.stage r) (1 + r)).set F.BADGER_ROW_STATE_FREE (min 7 (d.rowFree r)) (1 + r)) d

/-- BADGER_PART_HEALTH of a partition, a 16-bit field. -/
def Dev.partHealth (d : Dev) (p : Nat) : Nat := bitsOf (d.reg (F.BADGER_PART_HEALTH0.base + 8 * (p / 4))) (16 * (p % 4) + 15) (16 * (p % 4))

/-- The device with SPARES and SCORE of a partition shown. -/
def Dev.setPartHealth (d : Dev) (p score : Nat) : Dev :=
  let b := F.BADGER_PART_HEALTH0.base + 8 * (p / 4)
  d.setReg b 0 0 (setBitsOf (d.reg b) (16 * (p % 4) + 15) (16 * (p % 4)) (min 15 (d.spares p) * 4096 + score))

/-! ## Health scores (R375 to R377) -/

/-- Corrected errors that a slot's counters show. -/
def Dev.correctedSum (d : Dev) (pc : Nat) : Nat :=
  [F.SPAD_CORRECTED, F.CELL_ARR_LINK_CORRECTED, F.CELL_RTR_CORRECTED].foldl (fun n f => n + bitsOf (d.reg f.base pc) 47 0) 0

/-- The increments since the last look, dated, with those of the last 24 hours kept. -/
def Dev.noteCorrected (d : Dev) (pc : Nat) : Dev :=
  let sum := d.correctedSum pc
  let seen := (d.slotInfo pc).correctedSeen
  let n := if seen ≤ sum then sum - seen else sum
  let now := d.ptpSec
  d.modSlot pc (fun i => { i with
    correctedSeen := sum, corrected := (i.corrected.filter (fun e => now < e.1 + 86400)) ++ (if n = 0 then [] else [(now, n)]) })

/-- A signed field of eight bits. -/
def signed8 (v : Nat) : Int := if v < 128 then (v : Int) else (v : Int) - 256

/-- The score of a slot (Table 11-11). -/
def Dev.slotScore (d : Dev) (pc : Nat) : Nat :=
  if d.slotState pc = 5 || d.slotState pc = 3 then 0
  else
    let errs := (d.slotInfo pc).corrected.foldl (fun n e => n + e.2) 0
    let h := d.slotFld F.BADGER_SLOT_HEADROOM pc
    let t := signed8 (d.slotFld F.BADGER_SLOT_TREND pc)
    let pen := min 200 (40 * d.slotFld F.BADGER_SLOT_REPAIRS pc) + 150 * d.slotFld F.BADGER_SLOT_MARGIN_LOW pc +
      (if errs < 16 then 0 else if errs < 256 then 50 else if errs < 4096 then 100 else 200) +
      min 200 (4 * (60 - h)) + (if -2 ≤ t then 0 else min 150 (10 * (-2 - t)).toNat) + 150 * d.strikes pc
    1000 - pen

/-- Logical cells of a partition in service (R332). -/
def Dev.inService (d : Dev) (p : Nat) : List Nat :=
  ((List.range 64).map (fun i => 64 * p + i)).filter (inShape (d.reg F.SCHED_SHAPE.base))

/-- The score of a partition (R376). -/
def Dev.partScore (d : Dev) (p : Nat) : Nat :=
  let slots := (d.inService p).filterMap d.hostOf
  let sum := slots.foldl (fun n pc => n + d.slotFld F.BADGER_SLOT_SCORE pc) 0
  let half := sum / (2 * max 1 slots.length)
  let s := if slots.length < 64 then half else half + 125 * d.spares p
  min 1000 s

/-- Whether a score that was published as `old` may be published as `new`: no change within an hour but at a fence, and a difference of 25 or a day's age. DEDUCED, unsafe (log entry 60). -/
def Dev.mayPublish (d : Dev) (k old new : Nat) (fence : Bool) : Bool :=
  match SMap.find k d.scoreAt with
  | none => true
  | some t => fence || (t + 3600 ≤ d.ptpSec && (25 ≤ max old new - min old new || t + 86400 ≤ d.ptpSec))

/-- Cell scores are computed, and partition and device scores published as R377 allows. DEDUCED, unsafe (log entry 60). -/
def Dev.healthScores (d : Dev) (fence : Bool) : Dev :=
  let d := (List.range 544).foldl (fun d pc => let d := d.noteCorrected pc; d.setSlotFld F.BADGER_SLOT_SCORE pc (d.slotScore pc)) d
  let d := (List.range 8).foldl (fun d p =>
    let d := d.showStages p
    let old := d.partHealth p % 1024
    let new := d.partScore p
    if d.mayPublish p old new fence then { d.setPartHealth p new with scoreAt := SMap.insert p d.ptpSec d.scoreAt } else d.setPartHealth p old) d
  let dev := (List.range 8).foldl (fun m p => min m (d.partScore p)) 1000
  let old := d.get F.BADGER_STATUS_SCORE
  if d.mayPublish 8 old dev fence then { d.set F.BADGER_STATUS_SCORE dev with scoreAt := SMap.insert 8 d.ptpSec d.scoreAt } else d

/-- A slot is fenced, its repairs and strikes are shown, and the new scores are published at once (R367, R377). -/
def Dev.fence (d : Dev) (pc result : Nat) : Dev := (d.fenceSlot pc result).healthScores true

/-! ## Tests (R352, R365, R366, Table 11-1) -/

/-- The clear of step 6 of a test. -/
def Dev.testClear (d : Dev) (pc : Nat) : Dev := d.clearSlot pc

/-- A test ends (R365, R366): a fail fences the slot; a pass makes it STANDBY, and a suspect that passes without a repair gets a strike, the third of 24 hours fencing it. -/
def Dev.endTest (d : Dev) (pc result : Nat) : Dev :=
  match (d.slotInfo pc).test with
  | none => d
  | some t =>
    let d := (d.modSlot pc (fun i => { i with test := none })).latchTest pc result t.suspect
    if 2 ≤ result then
      let d := (d.count F.BADGER_TESTS_FAILED).setSlotFld F.BADGER_SLOT_LAST_FAIL pc result
      (d.modSlot pc (fun i => { i with lastPassed := false })).fence pc result
    else
      let d := (d.count F.BADGER_TESTS_PASSED).setSlotFld F.BADGER_SLOT_LAST_PASS pc (d.reg F.BADGER_PERIOD.base)
      let d := (d.modSlot pc (fun i => { i with lastPassed := true })).setSlotState pc 1
      if t.suspect && result = 0 then
        let d := (d.count F.BADGER_STRIKES).addDefect 5 pc 0 d.ptpSec
        let d := d.setSlotFld F.BADGER_SLOT_STRIKES pc (min 3 (d.strikes pc))
        if 3 ≤ d.strikes pc then d.fence pc result else d.serveSuspects
      else d.serveSuspects

/-- A repair made by a test: counted, and the test will end PASS_REPAIRED. -/
def Dev.noteRepair (d : Dev) (pc : Nat) (field : Bool) : Dev :=
  let d := d.count F.BADGER_REPAIRS
  let d := if field then d.setSlotFld F.BADGER_SLOT_REPAIRS pc (min 255 (d.slotFld F.BADGER_SLOT_REPAIRS pc + 1)) else d
  d.modSlot pc (fun i => { i with test := i.test.map (fun t => { t with repaired := true }) })

/-- The test goes on to a step. DEDUCED, unsafe (log entry 59). -/
def Dev.testStep (d : Dev) (pc step : Nat) : Dev :=
  let d := d.modSlot pc (fun i => { i with test := i.test.map (fun t => { t with step := step }) })
  if d.get F.BADGER_ROW_STATE_TEST_PC (1 + rowOf pc) = pc then d.set F.BADGER_ROW_STATE_TEST_STEP step (1 + rowOf pc) else d

/-- Spare lines of a bank of a store: 0 scratchpad, 1 slab store, 2 combining store (R368). -/
def spareLines : Nat → Nat
  | 0 => 32
  | 1 => 8
  | _ => 16

/-- Field A of a LINE entry: bank in [31:24], the stores' banks numbered 64 apart, and line in [12:0]. -/
def lineField (store bank : Nat) (line : Nat) : Nat := (64 * store + bank % 64) % 256 * 2 ^ 24 + line % 2 ^ 13

/-- Spare lines of a bank that entries use. -/
def Dev.sparesUsed (d : Dev) (pc store bank : Nat) : Nat :=
  ((d.defectsOf 3 pc).filter (fun e => e.a.toNat / 2 ^ 24 = lineField store bank 0 / 2 ^ 24)).length

/-- Remaps failing lines to spares, or none where a bank has no spare left (R368). -/
def Dev.repairLines (d : Dev) (pc : Nat) : List (Nat × Nat × Nat) → Option Dev
  | [] => some d
  | (store, bank, line) :: ls =>
    let used := d.sparesUsed pc store bank
    if spareLines store ≤ used then none
    else ((d.addDefect 3 pc (lineField store bank line) used).noteRepair pc true).repairLines pc ls

/-- The strip that the strip map excludes already: it counts as faulty in a later test, since one repair covers one strip (R162). DEDUCED, unsafe (log entry 45). -/
def Dev.knownStrip (d : Dev) (pc : Nat) : List Nat :=
  if d.bit F.CELL_ARR_STRIP_MAP_REPAIRED pc then [d.get F.CELL_ARR_STRIP_MAP_BAD pc] else []

/-- One faulty strip is excluded (R161, R162). DEDUCED, unsafe (log entry 45). -/
def Dev.repairStrip (d : Dev) (pc strip : Nat) : Dev :=
  if d.bit F.CELL_ARR_STRIP_MAP_REPAIRED pc && d.get F.CELL_ARR_STRIP_MAP_BAD pc = strip then d
  else
    let d := (d.set F.CELL_ARR_STRIP_MAP_REPAIRED 1 pc).set F.CELL_ARR_STRIP_MAP_BAD strip pc
    (d.addDefect 2 pc strip 0).noteRepair pc true

/-- TEST_STEP_DONE: the step that the slot's test is at ends as observed; an observation of another step changes nothing. DEDUCED, unsafe (log entry 59). -/
def Dev.testStepDone (d : Dev) (pc : Nat) (o : StepObs) : Dev :=
  match (if d.domOn pc then (d.slotInfo pc).test else none) with
  | none => d
  | some t =>
    match t.step, o with
    | 1, .settle powerOk pllOk h =>
      let d := d.setSlotFld F.BADGER_SLOT_HEADROOM pc (min 255 h)
      if !powerOk then d.endTest pc 7
      else if !pllOk then d.endTest pc 8
      else if h < 10 then d.endTest pc 6
      else d.testStep pc 2
    | 2, .logic ok => if ok then d.testStep pc 3 else d.endTest pc 2
    | 3, .array bad common =>
      if common then d.endTest pc 3
      else match (d.knownStrip pc ++ bad.map Fin.val).eraseDups with
        | [] => d.testStep pc 4
        | [s] => (d.repairStrip pc s).testStep pc 4
        | _ => d.endTest pc 3
    | 4, .march lines unc =>
      if unc then d.endTest pc 4
      else match d.repairLines pc lines with
        | some d => d.testStep pc 5
        | none => d.endTest pc 4
    | 5, .margin ok =>
      let g := d.slotFld F.BADGER_SLOT_GUARD pc
      if ok then d.testStep pc 6
      else if g < 3 then
        let d := (d.setSlotFld F.BADGER_SLOT_GUARD pc (g + 1)).setSlotFld F.BADGER_SLOT_MARGIN_LOW pc 1
        ((d.addDefect 4 pc (g + 1) 0).noteRepair pc false).testStep pc 6
      else d.endTest pc 5
    | 6, .clear => (d.testClear pc).endTest pc (b2n t.repaired)
    | _, _ => d

/-- TEST_STEP_DONE (R352). -/
def execTestStepDone (pc : Slot) (o : StepObs) (s : State) : Host.Outcome State Fault Refusal := s.run (fun d => d.testStepDone pc o)

/-! ## Migrations (R354 to R362) -/

/-- The migration of a logical cell. -/
def Dev.migrationOf (d : Dev) (lc : Nat) : Option Migration := d.migrations.find? (fun m => m.lc = lc)

/-- The device with a migration's phase changed and shown. -/
def Dev.migPhase (d : Dev) (m : Migration) (ph : MigPhase) (shown : Nat) : Dev :=
  ({ d with migrations := d.migrations.map (fun (x : Migration) => if x.lc = m.lc then { x with phase := ph } else x) }).showMigration m shown

/-- A migration is over: its row is IDLE. -/
def Dev.dropMigration (d : Dev) (m : Migration) : Dev :=
  ({ d with migrations := d.migrations.filter (fun x => x.lc != m.lc) }).showMigration ⟨m.row, 0, 0, 0, false, false, .select⟩ 0

/-- MIGRATION_COPY: with the source frozen, its array drained and its launch held, the slice is copied in ascending order; an uncorrectable error of the read is an error of live state (R359, R391). -/
def execMigrationCopy (lc : Lc) (u : Upsets) (s : State) : Host.Outcome State Fault Refusal :=
  s.run (fun d =>
    match d.migrationOf lc with
    | none => d
    | some m =>
      let c := d.cell m.src
      let drained := match c.arr.run with
        | none => true
        | some l => l.held
      if m.phase ≠ .freeze || !c.frozen || !drained then d
      else
        let (d, ok) := d.checkWords (sliceBase m.src) m.src u
        if ok then (d.copyMem (sliceBase m.src) (sliceBase m.dst) sliceSize).migPhase m .copy 3 else d)

/-- The cell's state and the registers that follow it move from one slot to the other, the source's left as after reset (R83, R122, R198, R242). -/
def Dev.moveCell (d : Dev) (src dst : Nat) : Dev :=
  let c := d.cell src
  let f := (d.cell dst).freeze.containment
  let d := (d.setCell dst { c with freeze := { c.freeze with containment := f } }).setCell src
    { CellState.reset with freeze := { CellState.reset.freeze with containment := c.freeze.containment } }
  d.moveCellRegs physReg src dst

/-- MIGRATION_SWITCH: dirty lines and the rest of Table 11-3 are copied, the mapping changes in one update, and the cell thaws at the destination while the source's test starts (R34, R36, R359). DEDUCED, unsafe (log entry 58). -/
def Dev.migrationSwitch (d : Dev) (m : Migration) : Dev :=
  let p := m.src / 68
  let d := (d.copyMem (sliceBase m.src) (sliceBase m.dst) sliceSize).moveCell m.src m.dst
  let d := d.bumpMapGen p
  let d := ((d.setLmap m.lc 0 m.dst).setSlotState m.dst 0).startTest m.src m.live
  let d := (d.bumpMapGen p).dropMigration m
  let d := if m.live then d.count F.BADGER_LIVE_MIGRATIONS else (d.count F.BADGER_MIGRATIONS).set F.BADGER_ROW_STATE_ABORTS 0 (1 + m.row)
  let d := d.setFreeze m.dst (fun f => { f with migration := false })
  (d.showStages p).serveSuspects

/-- MIGRATION_SWITCH. -/
def execMigrationSwitch (lc : Lc) (s : State) : Host.Outcome State Fault Refusal :=
  s.run (fun d => match d.migrationOf lc with
    | some m => if m.phase = .copy then d.migrationSwitch m else d
    | none => d)

/-- A migration is aborted (R361): the source thaws in place, the destination is cleared and returns to STANDBY; the third window in a row with an abort is recorded. -/
def Dev.abortMigration (d : Dev) (m : Migration) : Dev :=
  let p := m.src / 68
  let r := 1 + m.row
  let d := d.bumpMapGen p
  let d := ((d.setLmap m.lc 0 m.src).clearSlot m.dst).setSlotState m.dst 1
  let d := (d.bumpMapGen p).dropMigration m
  let d := d.setFreeze m.src (fun f => { f with migration := false })
  let d := (d.count F.BADGER_MIG_ABORTED).record 0x0180 0 8 r 0 m.src m.dst
  let n := min 255 (d.get F.BADGER_ROW_STATE_ABORTS r + 1)
  let d := d.set F.BADGER_ROW_STATE_ABORTS n r
  let d := if 3 ≤ n then d.record 0x0181 0 8 r 2 n else d
  d.serveSuspects

/-- Position of the present beat in the maintenance period. -/
def Dev.periodPos (d : Dev) : Nat := (if d.running then d.reg F.SCHED_POS.base else d.beat) % 40960

/-- MIGRATION_ABORT: from window beat 124 on, a row's patrol migration that has not switched over is aborted, except while the unit is HELD (R361, R362). -/
def execMigrationAbort (row : Fin 16) (s : State) : Host.Outcome State Fault Refusal :=
  s.run (fun d =>
    match d.migrations.find? (fun m => m.row = row.val && !m.live) with
    | some m => if d.schedState = 4 || d.periodPos < 40832 + 124 then d else d.abortMigration m
    | none => d)

/-- The source of a row: of its LIVE slots, the one whose last passed test is oldest, ties to the lower column (R355). -/
def Dev.patrolSource (d : Dev) (r : Nat) : Option Nat :=
  let age := fun pc => (d.reg F.BADGER_PERIOD.base + 2 ^ 16 - d.slotFld F.BADGER_SLOT_LAST_PASS pc) % 2 ^ 16
  ((rowSlots r).filter (fun pc => d.slotState pc = 0 && (match d.hosted pc with | some lc => !d.migrating lc | none => false))).foldl
    (fun best pc => match best with
      | none => some pc
      | some b => if age b < age pc then some pc else some b) none

/-- Rows that migrate in this window, with their sources. -/
def Dev.patrolRows (d : Dev) : List (Nat × Nat) :=
  (List.range 16).filterMap (fun r =>
    if !d.bit F.BADGER_CTL_EN || d.stage r = 3 || d.rowBusy r then none else (d.patrolSource r).map (fun src => (r, src)))

/-- The own row of the logical cell in a slot (R29). -/
def Dev.homeRow (d : Dev) (pc : Nat) : Nat :=
  match d.hosted pc with
  | some lc => lc / 64 * 2 + lc / 32 % 2
  | none => rowOf pc

/-- Starts the migrations of rows into the nearest eligible STANDBY slot of the row that a choice names, where there is one; a row that has started takes part no more. -/
def Dev.assignRows (d : Dev) (rows : List (Nat × Nat)) (pick : Dev → Nat × Nat → Nat) : Dev :=
  rows.foldl (fun d x =>
    if d.rowBusy x.1 then d
    else match nearestSlot x.2 ((rowSlots (pick d x)).filter d.eligible), d.hosted x.2 with
      | some dst, some lc => d.startMigration lc x.2 dst false
      | _, _ => d) d

/-- MIGRATION_SELECT (R355, R356): cells that lie in their own row take a slot of it; then cells that lie in the partner row go home where a slot is left; then their present row, and last the partner row, provide. DEDUCED, unsafe (log entry 58). -/
def Dev.patrolSelect (d : Dev) : Dev :=
  let rows := d.patrolRows
  let home := rows.filter (fun x => d.homeRow x.2 = x.1)
  let away := rows.filter (fun x => d.homeRow x.2 ≠ x.1)
  let d := d.assignRows home (fun _ x => x.1)
  let d := d.assignRows away (fun d x => d.homeRow x.2)
  let d := d.assignRows away (fun _ x => x.1)
  let d := d.assignRows rows (fun _ x => partnerRow x.1)
  (List.range 16).foldl (fun d r => if d.rowBusy r then d else d.set F.BADGER_ROW_STATE_ABORTS 0 (1 + r)) d

/-- MAINTENANCE_WINDOW: in its first beat the window is signalled; suspects that waited move, and each row's patrol migration starts (R321, R354, R355). -/
def execMaintenanceWindow (s : State) : Host.Outcome State Fault Refusal :=
  s.run (fun d =>
    if !d.inWindow || d.periodPos ≠ 40832 then d
    else (({ d with windowOpen := true }).count F.SCHED_WINDOWS).serveSuspects.patrolSelect)

/-! ## The end of a period (R354, R370, R375) -/

/-- A headroom sample of a slot: shown, and counted for the day; a LIVE slot below 10 mV makes its cell a suspect (R370). -/
def Dev.sampleHeadroom (d : Dev) (pc h : Nat) : Dev :=
  if d.slotState pc ≠ 0 then d
  else
    let d := d.setSlotFld F.BADGER_SLOT_HEADROOM pc (min 255 h)
    let d := d.modSlot pc (fun i => { i with dayMean := (i.dayMean.1 + h, i.dayMean.2 + 1) })
    if h < 10 then d.suspectSlot pc else d

/-- MAINTENANCE_PERIOD_END: a signalled window has ended; the period is counted, headroom is sampled, and the scores are computed. -/
def execMaintenancePeriodEnd (headroom : List (Nat × Nat)) (s : State) : Host.Outcome State Fault Refusal :=
  s.run (fun d =>
    if !d.windowOpen then d
    else
      let d := { d with windowOpen := false }
      let d := d.setReg F.BADGER_PERIOD.base 0 0 ((d.reg F.BADGER_PERIOD.base + 1) % 2 ^ 64)
      let d := { d with slots := d.slots.map (fun (e : Nat × SlotInfo) => (e.1, { e.2 with retries := 0 })) }
      let d := headroom.foldl (fun d x => if x.1 < 544 then d.sampleHeadroom x.1 x.2 else d) d
      d.healthScores false)

/-- Least-squares slope of daily means, in mV per 30 days, rounded down; zero with fewer than two days (R370). -/
def trendOf (means : List Nat) : Int :=
  let n := means.length
  let pts := (List.range n).zip means
  let sx : Int := pts.foldl (fun a p => a + (p.1 : Int)) 0
  let sy : Int := pts.foldl (fun a p => a + (p.2 : Int)) 0
  let sxy : Int := pts.foldl (fun a p => a + (p.1 : Int) * p.2) 0
  let sxx : Int := pts.foldl (fun a p => a + (p.1 : Int) * p.1) 0
  if n < 2 then 0 else (30 * (n * sxy - sx * sy)) / (n * sxx - sx * sx)

/-- The day's mean joins a slot's last 30 means, and the trend is shown. -/
def Dev.closeDay (d : Dev) (pc : Nat) : Dev :=
  let i := d.slotInfo pc
  if i.dayMean.2 = 0 then d
  else
    let means := ((i.means ++ [i.dayMean.1 / i.dayMean.2]).reverse.take 30).reverse
    let t := max (-128) (min 127 (trendOf means))
    (d.modSlot pc (fun i => { i with means := means, dayMean := (0, 0) })).setSlotFld F.BADGER_SLOT_TREND pc (BitVec.ofInt 8 t).toNat

/-- HEADROOM_TREND: the samples given are the day's last, and each slot's trend is computed (R370). -/
def execHeadroomTrend (headroom : List (Nat × Nat)) (s : State) : Host.Outcome State Fault Refusal :=
  s.run (fun d =>
    let d := headroom.foldl (fun d x => if x.1 < 544 then d.sampleHeadroom x.1 x.2 else d) d
    (List.range 544).foldl Dev.closeDay d)

/-! ## Suspects and fences by command (Tables 11-19 and 11-20) -/

/-- RESULT of BADGER_CMD. -/
def Dev.badgerResult (d : Dev) (r : Nat) : Dev := d.set F.BADGER_CMD_STATUS_RESULT r

/-- BADGER_SUSPECT (R363). -/
def execBadgerSuspect (_m : Master) (lc : Lc) (s : State) : Host.Outcome State Fault Refusal :=
  s.runMain (fun d =>
    if (d.hostOf lc).isNone then d.badgerResult 2
    else if d.migrating lc || d.suspects.contains lc then d.badgerResult 3
    else (d.makeSuspect lc).badgerResult 0)

/-- Every open window into a logical cell's scratchpad is closed (R184, R481). -/
def Dev.closeCellWindows (d : Dev) (lc : Nat) : Dev :=
  (List.range 1024).foldl (fun d w => let x := d.win w; if x.isOpen && x.lc = some lc then d.setWin w x.closed else d) d

/-- A slot loses its logical cell without a copy (R481): the cell is rehosted, cleared, in the first eligible slot in the order of R364, or the device loses capacity; the new slot, if any. DEDUCED, unsafe (log entry 62). -/
def Dev.rehost (d : Dev) (pc lc : Nat) : Dev :=
  let d := d.closeCellWindows lc
  let d := if d.running && d.sched.hold.isNone then d.raiseHold 7 0xFF lc else d
  let d := match d.migrationOf lc with
    | some m => ((d.clearSlot m.dst).setSlotState m.dst 1).dropMigration m
    | none => d
  let d := { d with suspects := d.suspects.filter (fun l => l != lc) }
  match d.suspectTarget pc with
  | none => d.capacityLoss lc
  | some dst =>
    let p := pc / 68
    let d := if d.slotState dst = 2 then d.abandonTest dst else d
    let d := (d.dropLogical pc dst).bumpMapGen p
    let d := ((d.setLmap lc 0 dst).setSlotState dst 0).startTest pc true
    (d.bumpMapGen p).showStages p

/-- A slot that a FENCE command names is emptied first: a cell that it hosts is rehosted without copying, and a migration into it is aborted. -/
def Dev.fenceByCommand (d : Dev) (pc : Nat) : Dev :=
  if d.slotState pc = 5 then d
  else
    let d := match d.migrations.find? (fun m => m.dst = pc) with
      | some m => d.abortMigration m
      | none => d
    let d := match d.hosted pc with
      | some lc => d.rehost pc lc
      | none => d
    d.fence pc 0

/-- BADGER_FENCE: with debug authorization the slot is fenced; without, the write is refused (R14, R367). -/
def execBadgerFence (m : Master) (pc : Slot) (s : State) : Host.Outcome State Fault Refusal :=
  s.runMain (fun d =>
    if !d.dbgScope m 3 then (d.dbgRefused m 8 0 0x038).badgerResult 1
    else (d.fenceByCommand pc).badgerResult 0)

/-! ## First light (R32, R353) -/

/-- The slots of a partition. -/
def partSlots (p : Nat) : List Nat := (List.range 68).map (fun i => 68 * p + i)

/-- Logical cells, in ascending order, take the first free good slot of their own row, else of the partner row (R32). -/
def placeCells : List Nat → List Nat → List (Nat × Nat)
  | [], _ => []
  | lc :: lcs, free =>
    let r := lc / 64 * 2 + lc / 32 % 2
    match (free.find? (fun pc => rowOf pc = r)).orElse (fun _ => free.head?) with
    | some pc => (lc, pc) :: placeCells lcs (free.filter (fun x => x != pc))
    | none => placeCells lcs free

/-- The mapping of R32 over the good slots of a partition: logical cells in service, with their slots. -/
def mapping (p : Nat) (good : List Nat) : List (Nat × Nat) :=
  let n := min 64 good.length
  let cells := (List.range n).map (fun i => 64 * p + i)
  let kept := (cells.filter (fun lc => good.contains (defaultSlot lc))).map (fun lc => (lc, defaultSlot lc))
  let free := good.filter (fun pc => !kept.any (fun k => k.2 = pc))
  kept ++ placeCells (cells.filter (fun lc => !good.contains (defaultSlot lc))) free

/-- What the defect map says of a slot, shown in BADGER_SLOTn and CELL_ARR_STRIP_MAP (Table 11-24). -/
def Dev.loadDefects (d : Dev) (pc : Nat) : Dev :=
  let strips := d.defectsOf 2 pc
  let guard := ((d.defectsOf 4 pc).getLast?.map (fun e => e.a.toNat)).getD 0
  let d := d.setSlotFld F.BADGER_SLOT_REPAIRS pc (min 255 (strips.length + (d.defectsOf 3 pc).length))
  let d := ((d.setSlotFld F.BADGER_SLOT_GUARD pc guard).setSlotFld F.BADGER_SLOT_MARGIN_LOW pc (b2n (guard != 0))).setSlotFld
    F.BADGER_SLOT_STRIKES pc (min 3 (d.strikes pc))
  match strips.getLast? with
  | some e => (d.set F.CELL_ARR_STRIP_MAP_REPAIRED 1 pc).set F.CELL_ARR_STRIP_MAP_BAD e.a.toNat pc
  | none => d

/-- First light of a partition ends: slots that failed are fenced, the mapping of R32 is applied, and each good slot is LIVE or STANDBY. -/
def Dev.firstLight (d : Dev) (p : Nat) (failed : List (Nat × Nat)) : Dev :=
  let d := (partSlots p).foldl (fun d pc => if d.mapFenced pc then d.setSlotState pc 5 else d.loadDefects pc) d
  let d := failed.foldl (fun d f =>
    if f.1 / 68 = p && d.slotState f.1 ≠ 5 then (d.setSlotFld F.BADGER_SLOT_LAST_FAIL f.1 f.2).fenceSlot f.1 f.2 else d) d
  let good := (partSlots p).filter (fun pc => d.slotState pc ≠ 5)
  let m := mapping p good
  let d := (List.range 64).foldl (fun d i =>
    match m.find? (fun x => x.1 = 64 * p + i) with
    | some x => d.setLmap x.1 0 x.2
    | none => d.setLmap (64 * p + i) 2 0) d
  let d := good.foldl (fun d pc =>
    let d := (d.setSlotState pc (if m.any (fun x => x.2 = pc) then 0 else 1)).setSlotFld F.BADGER_SLOT_LAST_PASS pc (d.reg F.BADGER_PERIOD.base)
    d.modSlot pc (fun i => { i with lastPassed := true, vacated := none, test := none, suspect := false })) d
  let n := min 64 good.length
  let d := d.setReg F.SCHED_SHAPE.base 0 0 (setBitsOf (d.reg F.SCHED_SHAPE.base) (8 * p + 7) (8 * p) n)
  let d := d.set F.BADGER_STATUS_CAP_LOSS (b2n (d.reg F.SCHED_SHAPE.base != 0x4040404040404040))
  d.showStages p

/-! ## Replacement requests (R378, R379) -/

/-- Fences of a partition in the last 90 days. -/
def Dev.recentFences (d : Dev) (p : Nat) : Nat :=
  (d.defects.filter (fun e => e.kind = 1 && e.unit.toNat / 68 = p && decide (d.ptpSec < e.b.toNat + 90 * 86400))).length

/-- D, the lowest of the partitions' predictions. -/
def Dev.daysLeft (d : Dev) : Nat :=
  (List.range 8).foldl (fun m p =>
    let f := d.recentFences p
    min m (if f = 0 then 65535 else min 65534 (d.spares p * 90 / f))) 65535

/-- The condition of a level holds (Table 11-12). DEDUCED, unsafe (log entry 61). -/
def Dev.levelHolds (d : Dev) (l : Nat) : Bool :=
  match l with
  | 1 => d.daysLeft < d.get F.BADGER_REQ_CFG_ADVISE_DAYS
  | 2 => (List.range 8).any (fun p => d.spares p ≤ 1)
  | _ => (List.range 8).any (fun p => d.spares p = 0)

/-- The condition that clears a level holds. -/
def Dev.levelClear (d : Dev) (l : Nat) : Bool :=
  if l = 1 then 5 * d.get F.BADGER_REQ_CFG_ADVISE_DAYS ≤ 4 * d.daysLeft else !d.levelHolds l

/-- The time since which a condition has held: kept while it holds, started when it begins. -/
def sinceUpdate (m : SMap Nat) (k now : Nat) (holds : Bool) : SMap Nat :=
  if !holds then SMap.erase k m else if (SMap.find k m).isSome then m else SMap.insert k now m

/-- A condition has held for 24 hours. -/
def dayOld (m : SMap Nat) (k now : Nat) : Bool :=
  match SMap.find k m with
  | some t => t + 86400 ≤ now
  | none => false

/-- Sends the notification of the published level, unless the last left less than CAP_MIN minutes ago: it then waits. -/
def Dev.sendLevelNotice (d : Dev) : Dev :=
  let cap := d.get F.BADGER_REQ_CFG_CAP_MIN * 60
  let early := match d.replace.lastNotice with
    | some t => decide (d.ptpSec < t + cap)
    | none => false
  if early || !d.slolisUp then { d with replace := { d.replace with due := true } }
  else
    let d := (d.emit (.notice 2 [d.get F.BADGER_REQ_LEVEL, d.get F.BADGER_REQ_DAYS] [])).count F.BADGER_NOTICES
    { d with replace := { d.replace with due := false, lastNotice := some d.ptpSec } }

/-- The highest level that a condition holds for; 0 for none. -/
def topLevel (ok : Nat → Bool) : Nat := if ok 3 then 3 else if ok 2 then 2 else if ok 1 then 1 else 0

/-- REPLACE_LEVEL_PUBLISH: the raw level is evaluated, and the published level follows by its holding times; HOLD keeps it from rising, and each change is recorded and notified. DEDUCED, unsafe (log entry 61). -/
def Dev.publishLevel (d : Dev) : Dev :=
  let now := d.ptpSec
  let d := { d with replace := { d.replace with
    held := [1, 2, 3].foldl (fun (m : SMap Nat) l => sinceUpdate m l now (d.levelHolds l)) d.replace.held,
    clear := [1, 2, 3].foldl (fun (m : SMap Nat) l => sinceUpdate m l now (d.levelClear l)) d.replace.clear } }
  let raw := topLevel d.levelHolds
  let old := d.get F.BADGER_REQ_LEVEL
  let up := topLevel (fun l => if l = 1 then dayOld d.replace.held 1 now else d.levelHolds l)
  let stays := topLevel (fun l => decide (l ≤ old) && !dayOld d.replace.clear l now)
  let new : Nat := if d.bit F.BADGER_REQ_CFG_HOLD then min old (max up stays) else max up stays
  let d := ((d.set F.BADGER_REQ_RAW raw).set F.BADGER_REQ_LEVEL new).set F.BADGER_REQ_DAYS d.daysLeft
  let d := d.set F.BADGER_REQ_FROZEN (b2n (d.bit F.BADGER_REQ_CFG_HOLD && decide (new < raw)))
  let changed : Bool := new != old
  let d := if changed then d.record 0x0184 new 8 0 (if 2 ≤ new then 2 else 0) d.daysLeft else d
  if changed || d.replace.due then d.sendLevelNotice else d

/-- REPLACE_LEVEL_PUBLISH. -/
def execReplaceLevelPublish (s : State) : Host.Outcome State Fault Refusal := s.run Dev.publishLevel

/-- REPLACE_NOTICE_REPEAT: while the level is above NONE, the notification is repeated (R379). -/
def execReplaceNoticeRepeat (s : State) : Host.Outcome State Fault Refusal :=
  s.run (fun d => if d.get F.BADGER_REQ_LEVEL = 0 then d else d.sendLevelNotice)

/-! ## The slice scrubber (R168, R391) -/

/-- Lines of a slice. -/
def sliceLines : Nat := 196608

/-- The words of a scrubbed line: an uncorrectable word of a slot that hosts no logical cell fails its test, or starts one; any other is handled as a read's. -/
def Dev.scrubWords (d : Dev) (pc a : Nat) : Upsets → Dev
  | [] => d
  | (i, e) :: us =>
    let w := a + 8 * (i % 8)
    if (d.hosted pc).isNone && w80Decode d.freeCtr (wOf (d.loadNat w 8)) e = .uncorrectable then
      if (d.slotInfo pc).test.isSome then d.endTest pc 4
      else if d.slotState pc = 1 then d.startTest pc true
      else d
    else
      let r := d.checkWords a pc [(i % 8, e)]
      if r.2 then r.1.scrubWords pc a us else r.1

/-- SPAD_SCRUB_READ: the next line of a powered slice. -/
def execSpadScrubRead (pc : Slot) (u : Upsets) (s : State) : Host.Outcome State Fault Refusal :=
  s.run (fun d =>
    if !d.domOn pc then d
    else
      let k := (d.slotInfo pc).scrub
      let d := d.modSlot pc (fun i => { i with scrub := (k + 1) % sliceLines })
      let d := if k + 1 = sliceLines then d.count F.SPAD_SCRUB_PASSES pc else d
      d.scrubWords pc (sliceBase pc + 64 * k) u)

end Sys2Proof.Machine
end

