-- ==== Sys2Proof/Machine/Snapshots.lean ====
section
/-! DEFINITION. The commands of Squirrel: arming, the drain, the commit, restores, buddy shards and the agreement of steps (R406 to R433). -/

namespace Sys2Proof.Machine

/-! ## The plan (R406, R407) -/

/-- The region entry at offset 0x40 + 32i of a plan (Table 13-2). -/
def Dev.planEntry (d : Dev) (base i : Nat) : SnapRegion :=
  let f := fun o n => d.loadNat (base + 0x40 + 32 * i + o) n
  { id := f 0 4, kind := f 4 1, flags := f 5 1, len := f 8 8, base0 := f 0x10 8, base1 := f 0x18 8 }

/-- Address of the plan. -/
def Dev.planBase (d : Dev) : Nat := d.get F.SNAP_PLAN_BASE_BASE * 4096

/-- The regions of the plan in far memory. -/
def Dev.readPlan (d : Dev) : List SnapRegion := (List.range (d.loadNat (d.planBase + 2) 2)).map (d.planEntry d.planBase)

/-- The buffers of a region: start and length. -/
def SnapRegion.buffers (r : SnapRegion) : List (Nat × Nat) := (r.base0, r.len) :: (if r.kind = 0 then [(r.base1, r.len)] else [])

/-- Two ranges share no byte. -/
def apart (x y : Nat × Nat) : Bool := x.1 + x.2 ≤ y.1 || y.1 + y.2 ≤ x.1

/-- A region entry meets Table 13-2, and its buffers lie below FAR_SIZE and outside the carve-out. -/
def Dev.regionOk (d : Dev) (r : SnapRegion) : Bool :=
  r.kind ≤ 1 && r.flags ≤ 1 && r.len % 4096 = 0 && 4096 ≤ r.len && (r.kind = 0 || r.base1 = 0) &&
    r.buffers.all (fun b => b.1 % 4096 = 0 && b.1 + b.2 ≤ d.get F.DEV_FAR_SIZE_SIZE && d.carve ≤ b.1)

/-- Reserved bytes of the plan's header and entries are zero. -/
def Dev.planZeros (d : Dev) (n : Nat) : Bool :=
  d.loadNat (d.planBase + 4) 60 = 0 && (List.range n).all (fun i => d.loadNat (d.planBase + 0x46 + 32 * i) 2 = 0)

/-- The plan passes R407. -/
def Dev.planOk (d : Dev) : Bool :=
  let plan := d.readPlan
  let n := plan.length
  d.loadNat d.planBase 2 = 1 && 1 ≤ n && n ≤ 4096 && d.planBase + 0x40 + 32 * n ≤ d.get F.DEV_FAR_SIZE_SIZE &&
    d.planZeros n && plan.all d.regionOk && decide (List.Pairwise (fun x y => x.id ≠ y.id) plan) &&
    decide (List.Pairwise (fun x y => apart x y = true) (plan.flatMap SnapRegion.buffers)) &&
    plan.any (fun r => r.id = 0 && r.kind = 0 && r.len = 4096)

/-! ## Arming (R407, R418, R419, R427, R432) -/

/-- The 48 queues that Squirrel uses are enabled with PKIND 3 (R418). -/
def Dev.snapQueuesOk (d : Dev) : Bool :=
  (List.range 16).all (fun h => [6, 7, 8].all (fun k =>
    d.bit F.ENG_WQ_CFG_EN (16 * h + k) 64 && d.get F.ENG_WQ_CFG_PKIND (16 * h + k) 64 = 3))

/-- Every enabled drive meets R419; one that has FAILED does not until its registers are rewritten (R427). -/
def Dev.drivesOk (d : Dev) : Bool :=
  !d.drives.isEmpty && d.drives.all (fun n =>
    d.get (F.SNAP_DRIVE_LINK_STATE.nth n 32) ≠ 3 && Config.driveFit n (wOf (d.reg (F.SNAP_DRIVE_LINK.nth n 32).base % 2 ^ 60)))

/-- Buddy mode needs ten devices along its dimension (R432). -/
def Dev.buddyOk (d : Dev) : Bool := !d.bit F.SNAP_BUDDY_EN || 10 ≤ d.ringSize (d.get F.SNAP_BUDDY_DIM)

/-- Squirrel's drives are asked for both copies of their superblock. -/
def Dev.readSuperblocks (d : Dev) (stage : SnapStage) : Dev :=
  let d := d.modSnap (fun s => { s with stage := stage, reqs := [], read := [] })
  d.drives.foldl (fun (d : Dev) n => d.nvme n 2 0 2 0 []) d

/-- The result of ARM's checks, in the order of Table 13-11. DEDUCED, unsafe (log entry 69). -/
def Dev.armResult (d : Dev) : Nat :=
  if d.snapState ≠ 0 || d.snap.stage ≠ .none || !d.failedChannels.isEmpty then 1
  else if !d.planOk then 2
  else if !d.snapQueuesOk then 3
  else if !d.drivesOk then 4
  else if !d.buddyOk then 11
  else 0

/-- SNAP_ARM: with its checks passed, the plan is taken and the superblocks are read; Squirrel is ARMED once they are. DEDUCED, unsafe (log entry 69). -/
def execSnapArm (_m : Master) (s : State) : Host.Outcome State Fault Refusal :=
  s.runMain (fun d =>
    let r := d.armResult
    let d := d.snapResult r
    if r ≠ 0 then d
    else
      let d := d.modSnap (fun s => { s with plan := d.readPlan })
      (d.drives.foldl (fun (d : Dev) n => d.setDrive n 1) d).readSuperblocks .loadArm)

/-- SNAP_DISARM: an armed Squirrel that neither drains nor commits is disarmed, and selectors stay as they are (R427). -/
def execSnapDisarm (_m : Master) (s : State) : Host.Outcome State Fault Refusal :=
  s.runMain (fun d =>
    if 2 ≤ d.snapState || d.snap.stage ≠ .none then d.snapResult 1
    else (d.setSnapState 0).clearNext.snapResult 0)

/-! ## Superblocks read (R422) -/

/-- A superblock copy's CRC passes. DEDUCED, unsafe (log entry 71). -/
def sbOk (b : List Byte) : Bool := leNat ((b.drop 0xFF8).take 8) = crc64Final (crc64Run crc64Init (b.take 0xFF8))

/-- The copy of a drive in block k, if its CRC passes. -/
def Dev.sbCopy (d : Dev) (drive k : Nat) : Option (List Byte) :=
  let b := ((SMap.read [] d.snap.read (drive * 2 ^ 48)).drop (4096 * k)).take 4096
  if b.length = 4096 && sbOk b then some b else none

/-- SB_GEN of a copy. -/
def sbGenOf (b : List Byte) : Nat := leNat ((b.drop 0x10).take 8)

/-- The copy that every enabled drive has at a generation, as the first of them has it. -/
def Dev.sbPresent (d : Dev) (g : Nat) : Bool :=
  d.drives.all (fun n => [0, 1].any (fun k => (d.sbCopy n k).any (fun b => sbGenOf b = g)))

/-- The current superblock (R422). DEDUCED, unsafe (log entry 71). -/
def Dev.currentSb (d : Dev) : Option (List Byte) :=
  match d.drives.head? with
  | none => none
  | some n =>
    ([0, 1].filterMap (d.sbCopy n)).foldl (fun (best : Option (List Byte)) b =>
      if !d.sbPresent (sbGenOf b) then best
      else match best with
        | some x => if sbGenOf x < sbGenOf b then some b else best
        | none => some b) none

/-- A slot's entry of a superblock (Table 13-7). -/
def sbSlot (b : List Byte) (k : Nat) : SnapSlot :=
  let f := fun o n => leNat ((b.drop (0x20 + 64 * k + o)).take n)
  { step := f 0 8, state := f 8 1, tainted := f 9 1 % 2 = 1, moff := f 0x10 8, mlen := f 0x18 8, digest := (b.drop (0x40 + 64 * k)).take 32 }

/-- Takes the current superblock: generation and slots; none leaves generation 0 and every slot EMPTY. -/
def Dev.takeSb (d : Dev) : Dev :=
  let sb := d.currentSb
  let d := d.modSnap (fun s => { s with sbGen := 0, slots := [], read := [], stage := .none })
  match sb with
  | none => d
  | some b => (List.range 7).foldl (fun d k => d.setSnapSlot k (sbSlot b k)) (d.modSnap (fun s => { s with sbGen := sbGenOf b }))

/-! ## Drain (R416, R417) -/

/-- Bytes of a segment and of a chunk. -/
def segSize : Nat := 2 ^ 30

/-- A segment: its region, its start in the region and its length. -/
structure SnapSeg where
  region : SnapRegion
  start : Nat
  len : Nat
  deriving DecidableEq, Repr

/-- The segments of some regions, in plan order. -/
def segmentsOf (plan : List SnapRegion) : List SnapSeg :=
  plan.flatMap (fun r => (List.range (ceilDiv r.len segSize)).map (fun k => ⟨r, k * segSize, min segSize (r.len - k * segSize)⟩))

/-- Number of the first segment and of the first chunk of the region at a position of the plan. -/
def firstSeg (plan : List SnapRegion) (i : Nat) : Nat := (plan.take i).foldl (fun n r => n + ceilDiv r.len segSize) 0

/-- Number of the first chunk of the region at a position of the plan. -/
def firstChunk (plan : List SnapRegion) (i : Nat) : Nat := (plan.take i).foldl (fun n r => n + ceilDiv r.len chunkSize) 0

/-- Position of a region in the plan, by its ID. -/
def regionIndex (plan : List SnapRegion) (r : SnapRegion) : Nat := plan.findIdx (fun x => x.id = r.id)

/-- The buffer that the drain reads of a region. -/
def SnapRegion.drained (r : SnapRegion) (buf : Nat) : Nat := if r.kind = 0 && buf = 1 then r.base1 else r.base0

/-- One chunk as it is stored: its bytes, and whether they are raw (R416). -/
def chunkStored (nocomp : Bool) (bs : List Byte) : List Byte × Bool :=
  let z := Config.zstdEncode bs
  if nocomp || chunkSize ≤ z.length then (bs, true) else (z, false)

/-- A piece's chunks packed as COMPRESS packs frames, at multiples of 8 B: the output, and offset and LEN of each (Table 13-8). -/
def packChunks (nocomp : Bool) : Nat → List Byte → List Byte → List (Nat × Nat) → List Byte × List (Nat × Nat)
  | 0, _, out, dir => (out, dir)
  | fuel + 1, bs, out, dir =>
    if bs.isEmpty then (out, dir)
    else
      let (c, raw) := chunkStored nocomp (bs.take chunkSize)
      let at' := roundUp out.length 8
      packChunks nocomp fuel (bs.drop chunkSize) (padTo at' out ++ c) (dir ++ [(at', c.length + b2n raw * 2 ^ 31)])

/-- An engine of a hub's queue 63 is served: it or its partner is not fenced (R270). -/
def Dev.snapServed (d : Dev) (h : Nat) : Bool :=
  [6, 7, 8].all (fun k => !d.bit F.ENG_CTL_FENCED (16 * h + k) || !d.bit F.ENG_CTL_FENCED (engPartner (16 * h + k)))

/-- Queue 63 of the three engines of a hub still takes Squirrel's items. -/
def Dev.hubQueuesOk (d : Dev) (h : Nat) : Bool := [6, 7, 8].all (fun k => d.bit F.ENG_WQ_CFG_EN (16 * h + k) 64)

/-- The work of a hub, or the start of its next segment: the lowest that is not finished (R416). -/
def Dev.hubWork (d : Dev) (h : Nat) : Option SnapWork :=
  match SMap.find h d.snap.works with
  | some w => some w
  | none =>
    ((List.range (segmentsOf d.snap.plan).length).find? (fun g => g % 16 = h && (SMap.find g d.snap.segs).isNone)).map (fun g => ⟨g, 0, []⟩)

/-- The manifest (Table 13-8). -/
def Dev.buildManifest (d : Dev) : List Byte :=
  let s := d.snap
  let segs := segmentsOf s.plan
  let nchunk := firstChunk s.plan s.plan.length
  let front := "KMGSNAP1".toList.map (fun c => BitVec.ofNat 8 c.toNat)
  let head := front ++ leBytes 2 1 ++ leBytes 2 d.deviceId ++ leBytes 2 s.plan.length ++ leBytes 2 (b2n s.tainted) ++ leBytes 8 s.t ++
    leBytes 8 s.sample ++ leBytes 8 s.imageId ++ leBytes 8 s.shape ++ leBytes 8 (d.reg F.DEV_DOMAIN_SHAPE.base) ++ leBytes 8 s.flipBeat ++
    leBytes 8 s.flipPtp ++ leBytes 8 d.planBytes ++ leBytes 8 s.used ++ leBytes 4 segs.length ++ leBytes 4 0 ++ leBytes 8 nchunk
  padTo 0x100 head ++
    (s.plan.mapIdx (fun i r => leBytes 4 r.id ++ leBytes 1 r.kind ++ leBytes 1 r.flags ++ leBytes 2 0 ++ leBytes 8 r.len ++
      leBytes 4 (firstSeg s.plan i) ++ leBytes 4 (firstChunk s.plan i) ++ leBytes 8 0)).flatten ++
    (List.range segs.length).flatMap (fun g => padTo 32 (SMap.read [] s.segs g)) ++
    (List.range nchunk).flatMap (fun c => let e := SMap.read (0, 0) s.chunks c; leBytes 8 e.1 ++ leBytes 4 e.2)

/-! ## Buddy shards (R431, R432) -/

/-- Twice a byte over GF(2^8) with the polynomial 0x11D. -/
def gfDouble (x : Byte) : Byte := if x.msb then (x <<< 1) ^^^ 0x1D else x <<< 1

/-- 2^j times a byte. -/
def gfShift : Nat → Byte → Byte
  | 0, x => x
  | j + 1, x => gfDouble (gfShift j x)

/-- The byte-wise sum of two shards. -/
def xorBytes (a b : List Byte) : List Byte := List.zipWith (fun x y => x ^^^ y) a b

/-- The eight data shards of n bytes each. -/
def dataShards (z : List Byte) (n : Nat) : List (List Byte) := (List.range 8).map (fun j => padTo n ((z.drop (j * n)).take n))

/-- The parity shards P and Q of eight data shards. -/
def parityShards (ds : List (List Byte)) (n : Nat) : List Byte × List Byte :=
  let zero : List Byte := List.replicate n 0
  ((ds.foldl xorBytes zero), (ds.mapIdx (fun j s => s.map (gfShift j))).foldl xorBytes zero)

/-- The ten shards of a snapshot's bytes. -/
def shardsOf (z : List Byte) : List (List Byte) :=
  let n := shardBytes z.length
  let ds := dataShards z n
  let (p, q) := parityShards ds n
  ds ++ [p, q]

/-- The device that is j steps along the group's ring (R432). -/
def Dev.buddy (d : Dev) : Nat → Nat
  | 0 => d.deviceId
  | j + 1 => d.neighbour (d.buddy j) (d.get F.SNAP_BUDDY_DIM) true

/-- Squirrel holds a shard of a sender: the newest (R432). -/
def Dev.keepShard (d : Dev) (sender step j : Nat) (data : List Byte) : Dev :=
  match SMap.find sender d.snap.shards with
  | some x => if step < x.step then d else d.modSnap (fun s => { s with shards := SMap.insert sender ⟨step, j, data⟩ s.shards })
  | none => d.modSnap (fun s => { s with shards := SMap.insert sender ⟨step, j, data⟩ s.shards })

/-- Shards of every EVERY-th committed snapshot: shard 0 stays here, the others leave for their devices (R431, R432). -/
def Dev.sendShards (d : Dev) : Dev :=
  if !d.bit F.SNAP_BUDDY_EN then d
  else if d.snap.since + 1 < d.get F.SNAP_BUDDY_EVERY then d.modSnap (fun s => { s with since := s.since + 1 })
  else
    let d := d.modSnap (fun s => { s with since := 0 })
    let shards := shardsOf (padTo d.snap.used d.snap.space ++ d.snap.manifest)
    (shards.mapIdx (fun j x => (j, x))).foldl (fun (d : Dev) (e : Nat × List Byte) =>
      if e.1 = 0 then d.keepShard d.deviceId d.snap.t 0 e.2
      else (d.emit (.notice 5 [d.buddy e.1, e.1, d.snap.t] e.2)).count F.SNAP_BUDDY_SENT) d

/-! ## Commit (R418, R421, R423) -/

/-- A Flush to every drive. -/
def Dev.flushDrives (d : Dev) (stage : SnapStage) : Dev :=
  let d := d.modSnap (fun s => { s with stage := stage })
  d.drives.foldl (fun (d : Dev) n => d.nvme n 0 0 0 0 []) d

/-- The slot in use is COMMITTED in the next superblock, with its manifest's place and digest. -/
def Dev.commitSlot (d : Dev) : Dev :=
  let s := d.snap
  let d := d.modSnap (fun s => { s with stage := .commit })
  (d.setSnapSlot s.slot ⟨s.t, 2, s.tainted, s.used, s.manifest.length, shake256 s.manifest 32⟩).writeSuperblocks

/-- Measurements of a committed snapshot (R423). -/
def Dev.measureSnap (d : Dev) : Dev :=
  let s := d.snap
  let n := s.drainStarts.length
  let mean := meanStep (s.drainStarts ++ [s.flipNs])
  d.modSnap (fun s => { s with cost := max 1000000 (n * (mean - s.tBefore)), drainNs := d.ns - s.flipNs, written := s.used + s.manifest.length })

/-- The superblocks of a commit are written (R418): SNAP_LAST, SNAP_DONE, measurements and shards. -/
def Dev.committed (d : Dev) : Dev :=
  if d.snapState = 5 then (d.dropSnap.setSnapState 0).snapResult 0
  else
    let t := d.snap.t
    let d := (d.measureSnap.setReg F.SNAP_LAST.base 0 0 t).count F.SNAP_TAKEN
    let d := ((d.sendShards.dropSnap.setSnapState 1).snapResult 0).sendDone 0 t
    d.propose false

/-- The drain is done: every segment finished and every write completed. -/
def Dev.drained (d : Dev) : Bool := (List.range (segmentsOf d.snap.plan).length).all (fun g => (SMap.find g d.snap.segs).isSome)

/-- The next step of a drain or commit once no request is outstanding (R418). DEDUCED, unsafe (log entry 70). -/
def Dev.advanceSnap (d : Dev) : Dev :=
  if !d.snap.reqs.isEmpty then d
  else match d.snap.stage with
    | .data => if d.drained then (d.setSnapState 3).flushDrives .flushData else d
    | .flushData =>
      let m := if d.snapState = 5 then d.snap.manifest else d.buildManifest
      if d.slotBytes < d.snap.used + m.length then d.failSnap 6 0 false
      else
        let d := d.modSnap (fun s => { s with manifest := m, stage := .manifest })
        d.spaceReqs 1 d.snap.slot d.snap.used m m.length
    | .manifest => d.flushDrives .flushManifest
    | .flushManifest => d.commitSlot
    | .commit => d.committed
    | _ => d

/-- DRAIN_PIECE: hub h copies, digests and compresses its next 4 MiB, and Squirrel writes the output to the next free stripe units (R416). An item that fails ends the snapshot. DEDUCED, unsafe (log entry 70). -/
def Dev.drainPiece (d : Dev) (h : Nat) : Dev :=
  if d.snapState ≠ 2 || d.snap.stage ≠ .data || d.halted || !d.snapServed h then d
  else match d.hubWork h with
    | none => d
    | some w =>
      match (segmentsOf d.snap.plan)[w.seg]? with
      | none => d
      | some g =>
        if !d.hubQueuesOk h then d.failSnap 9 h false
        else
          let n := min (2 ^ 22) (g.len - w.done)
          let bs := d.load (g.region.drained d.snap.buf + g.start + w.done) n
          let d := (d.scribble (d.staging h + 0x8000) (2 ^ 23 - 0x8000)).count F.SNAP_BYTES_RAW 0 0 n
          let (out, dir) := packChunks (bitOf g.region.flags 0) 65 bs [] []
          let o := d.snap.used
          if d.slotBytes < o + out.length then d.failSnap 6 h false
          else
            let c0 := firstChunk d.snap.plan (regionIndex d.snap.plan g.region) + (g.start + w.done) / chunkSize
            let chunks := (dir.mapIdx (fun i e => (i, e))).foldl (fun (m : SMap (Nat × Nat)) e =>
              SMap.insert (c0 + e.1) (o + e.2.1, e.2.2) m) d.snap.chunks
            let lastPiece := w.done + n = g.len
            let all := w.bytes ++ bs
            let d := d.modSnap (fun s => { s with
              chunks := chunks, used := roundUp (o + out.length) (2 ^ 20), space := padTo o s.space ++ out,
              works := if lastPiece then SMap.erase h s.works else SMap.insert h ⟨w.seg, w.done + n, all⟩ s.works,
              segs := if lastPiece then SMap.insert w.seg (shake256 all 32) s.segs else s.segs })
            (d.spaceReqs 1 d.snap.slot o out out.length).advanceSnap

/-- DRAIN_PIECE. -/
def execDrainPiece (h : HubId) (s : State) : Host.Outcome State Fault Refusal := s.run (fun d => d.drainPiece h)

/-! ## Restore (R428 to R430) -/

/-- A restore ends with a result other than OK. -/
def Dev.failRestore (d : Dev) (result step : Nat) : Dev :=
  ((d.record 0x01A4 result 10 0 2 step).dropSnap.setSnapState 0).snapResult result

/-- SNAP_RESTORE: accepted while Squirrel and the schedule unit are IDLE and no channel is FAILED; it counts as an interrupting failure (R424). -/
def execSnapRestore (_m : Master) (s : State) : Host.Outcome State Fault Refusal :=
  s.runMain (fun d =>
    if d.snapState ≠ 0 || d.snap.stage ≠ .none || d.schedState ≠ 0 || !d.failedChannels.isEmpty then d.snapResult 1
    else
      let d := { d with mgmt := { d.mgmt with interrupts := d.mgmt.interrupts ++ [d.ptpSec] } }
      if !d.drivesOk then d.failRestore 8 (d.reg F.SNAP_RESTORE_SEL.base)
      else (d.setSnapState 4).readSuperblocks .loadRestore)

/-- The slot that a restore takes: the selected committed step, or the newest committed one that is not TAINTED (R428). -/
def Dev.restoreSlot (d : Dev) : Option Nat :=
  let sel := d.reg F.SNAP_RESTORE_SEL.base
  let ks := (List.range d.snapSlots).filter (fun k => (d.snapSlot k).state = 2)
  if sel ≠ 0 then ks.find? (fun k => (d.snapSlot k).step = sel)
  else (ks.filter (fun k => !(d.snapSlot k).tainted)).foldl (fun (b : Option Nat) k => match b with
    | none => some k
    | some j => if (d.snapSlot j).step < (d.snapSlot k).step then some k else some j) none

/-- Bytes [o, o + n) of the slot's data space as read; none while a part has not come. -/
def Dev.spaceBytes (d : Dev) (o n : Nat) : Option (List Byte) :=
  let us := (List.range (ceilDiv (o + n) (2 ^ 20) - o / 2 ^ 20)).map (fun i => (o / 2 ^ 20 + i) * 2 ^ 20)
  let parts := us.filterMap (fun u => SMap.find u d.snap.read)
  if parts.length < us.length then none else some ((parts.flatten.drop (o % 2 ^ 20)).take n)

/-- A number in the manifest. -/
def Dev.mf (d : Dev) (o n : Nat) : Nat := leNat ((d.snap.manifest.drop o).take n)

/-- The manifest's region record i: a region without buffers, FIRST_SEG and FIRST_CHUNK. -/
def Dev.mfRegion (d : Dev) (i : Nat) : SnapRegion × Nat × Nat :=
  let f := fun o n => d.mf (0x100 + 32 * i + o) n
  (⟨f 0 4, f 4 1, f 5 1, f 8 8, 0, 0⟩, f 0x10 4, f 0x14 4)

/-- Digest of segment g by the manifest. -/
def Dev.mfDigest (d : Dev) (g : Nat) : List Byte := (d.snap.manifest.drop (0x100 + 32 * d.mf 0x0C 2 + 32 * g)).take 32

/-- Offset and LEN of chunk c by the manifest. -/
def Dev.mfChunk (d : Dev) (c : Nat) : Nat × Nat :=
  let o := 0x100 + 32 * d.mf 0x0C 2 + 32 * d.mf 0x58 4 + 12 * c
  (d.mf o 8, d.mf (o + 8) 4)

/-- The manifest has come: its digest and its regions are checked, and the data is asked for (R428, R429). -/
def Dev.manifestRead (d : Dev) : Dev :=
  let x := d.snapSlot d.snap.slot
  let all := (d.snap.read.map (fun e => e.2)).flatten
  let m := (all.drop (x.moff % 4096)).take x.mlen
  if shake256 m 32 ≠ padTo 32 x.digest then d.failRestore 7 x.step
  else
    let d := d.modSnap (fun s => { s with manifest := m, read := [], restored := [], plan := d.readPlan, stage := .readData })
    let listed := (List.range (d.mf 0x0C 2)).all (fun i =>
      let r := (d.mfRegion i).1
      d.snap.plan.any (fun p => p.id = r.id && p.kind = r.kind && p.len = r.len))
    if !d.planOk || !listed then d.failRestore 2 x.step
    else d.spaceReqs 2 d.snap.slot 0 [] (d.mf 0x50 8)

/-- The superblocks have come for a restore (R428). -/
def Dev.restoreLoaded (d : Dev) : Dev :=
  let d := d.takeSb
  match d.restoreSlot with
  | none => d.failRestore 8 (d.reg F.SNAP_RESTORE_SEL.base)
  | some k =>
    let x := d.snapSlot k
    let d := d.modSnap (fun s => { s with slot := k, stage := .readManifest })
    let d := d.spaceReqs 2 k x.moff [] x.mlen
    if d.snap.reqs.isEmpty then d.manifestRead else d

/-- The bytes of one chunk: raw, or decompressed; none where the frame fails to decode or has another length. -/
def Dev.chunkBytes (d : Dev) (c len : Nat) : Option (List Byte) :=
  let (o, l) := d.mfChunk c
  match d.spaceBytes o (l % 2 ^ 31) with
  | none => none
  | some bs =>
    let out := if bitOf l 31 then some bs else Config.zstdDecode bs
    out.filter (fun x => x.length = len)

/-- The chunks of a segment from its k-th on. -/
def Dev.segBytes (d : Dev) (c len : Nat) : Nat → Option (List Byte)
  | 0 => some []
  | fuel + 1 =>
    if len = 0 then some []
    else
      let n := min chunkSize len
      match d.chunkBytes c n, d.segBytes (c + 1) (len - n) fuel with
      | some x, some y => some (x ++ y)
      | _, _ => none

/-- The restored position block is made to agree with the derived position (R430). -/
def Dev.checkStreams (d : Dev) (base step sample : Nat) : Dev :=
  (List.range (min 170 (d.loadNat (base + 8) 2))).foldl (fun (d : Dev) j =>
    let a := base + 0x18 + 24 * j
    let st := d.loadNat a 8
    let sm := d.loadNat (a + 8) 8
    let d := if st = step && sm = sample then d
      else
        let key := if sm = sample && (st = step + 1 || step = st + 1) then 1 else 2
        (d.record 0x01A3 key 10 0 2 st step j).count F.SNAP_RESTORE_WARN
    (d.storeNat a 8 step).storeNat (a + 8) 8 sample) d

/-- The job's position after the data (R430). -/
def Dev.restorePosition (d : Dev) : Dev :=
  let step := d.mf 0x10 8
  let sample := d.mf 0x18 8
  let d := ((d.setReg F.SCHED_STEP.base 0 0 step).setReg F.SNAP_RESTORE_STEP.base 0 0 step).setReg F.SNAP_RESTORE_SAMPLE.base 0 0 sample
  let d := match d.snap.plan.find? (fun r => r.id = 0) with
    | some r => d.checkStreams r.base0 step sample
    | none => d
  let d := (d.set F.SNAP_STATUS_LIVE 0).modSnap (fun s => { s with selT := 0 })
  ((d.dropSnap.setSnapState 0).snapResult 0).count F.SNAP_RESTORES

/-- RESTORE_SEGMENT_DONE: a segment's chunks are decompressed into BASE0 and its digest is checked; after the last segment the position is derived (R429, R430). A segment whose data has not come is not done. -/
def Dev.restoreSegment (d : Dev) (g : Nat) : Dev :=
  let nseg := d.mf 0x58 4
  if d.snapState ≠ 4 || d.snap.stage ≠ .readData || nseg ≤ g || d.snap.restored.contains g || !d.snap.reqs.isEmpty then d
  else
    let step := (d.snapSlot d.snap.slot).step
    match ((List.range (d.mf 0x0C 2)).map d.mfRegion).find? (fun r => r.2.1 ≤ g && g < r.2.1 + ceilDiv r.1.len segSize) with
    | none => d.failRestore 7 step
    | some (r, s0, c0) =>
      let off := (g - s0) * segSize
      match d.segBytes (c0 + (g - s0) * (segSize / chunkSize)) (min segSize (r.len - off)) (segSize / chunkSize), d.snap.plan.find? (fun p => p.id = r.id) with
      | some bs, some p =>
        let d := d.store (p.base0 + off) bs
        if shake256 bs 32 ≠ d.mfDigest g then d.failRestore 7 step
        else
          let d := d.modSnap (fun s => { s with restored := s.restored ++ [g] })
          if d.snap.restored.length = nseg then d.restorePosition else d
      | _, _ => d.failRestore 9 step

/-- RESTORE_SEGMENT_DONE. -/
def execRestoreSegmentDone (seg : Nat) (s : State) : Host.Outcome State Fault Refusal := s.run (fun d => d.restoreSegment seg)

/-! ## Buddy commands (R432, R433) -/

/-- Device address of the buddy window. -/
def Dev.buddyBase (d : Dev) : Nat := d.get F.SNAP_BUDDY_BASE * 4096

/-- BUDDY_SERVE: the held shard of SOURCE is read into the buddy window. DEDUCED, unsafe (log entry 72). -/
def execBuddyServe (_m : Master) (s : State) : Host.Outcome State Fault Refusal :=
  s.runMain (fun d =>
    if 2 ≤ d.snapState || d.snap.stage ≠ .none then d.snapResult 1
    else match SMap.find (d.get F.SNAP_BUDDY_SOURCE) d.snap.shards with
      | some x => (d.store d.buddyBase x.data).snapResult 0
      | none => d.snapResult 11)

/-- BUDDY_RESTORE: accepted while Squirrel is IDLE; the own superblocks are read first. DEDUCED, unsafe (log entry 72). -/
def execBuddyRestore (_m : Master) (s : State) : Host.Outcome State Fault Refusal :=
  s.runMain (fun d =>
    if d.snapState ≠ 0 || d.snap.stage ≠ .none then d.snapResult 1
    else if !d.drivesOk then d.snapResult 4
    else (d.setSnapState 5).readSuperblocks .loadBuddy)

/-- The product over GF(2^8). -/
def gfMul (a b : Byte) : Byte := (List.range 8).foldl (fun acc j => if b.getLsbD j then acc ^^^ gfShift j a else acc) 0

/-- The inverse over GF(2^8): the 254th power. -/
def gfInv (a : Byte) : Byte := (List.range 253).foldl (fun p _ => gfMul p a) a

/-- The data shards from ten of which two at most are missing: from P, from Q, or from both (R431). -/
def decodeShards (sh : List (Option (List Byte))) (n : Nat) : Option (List (List Byte)) :=
  let zero : List Byte := List.replicate n 0
  let get := fun j => ((sh.getD j none).map (padTo n))
  let missing := (List.range 8).filter (fun j => (get j).isNone)
  let ds := (List.range 8).map (fun j => (get j).getD zero)
  let (p0, q0) := parityShards ds n
  match missing with
  | [] => some ds
  | [a] =>
    match get 8, get 9 with
    | some p, _ => some (ds.set a (xorBytes p p0))
    | none, some q => some (ds.set a ((xorBytes q q0).map (gfMul (gfInv (gfShift a 1)))))
    | none, none => none
  | [a, b] =>
    match get 8, get 9 with
    | some p, some q =>
      -- x + y = P', 2^a x + 2^b y = Q'
      let pp := xorBytes p p0
      let qq := xorBytes q q0
      let k := gfInv (gfShift a 1 ^^^ gfShift b 1)
      let x := List.zipWith (fun u v => gfMul k (v ^^^ gfShift b u)) pp qq
      some ((ds.set a x).set b (xorBytes pp x))
    | _, _ => none
  | _ => none

/-- A buddy restore ends with a result. -/
def Dev.endBuddy (d : Dev) (result : Nat) : Dev := (d.dropSnap.setSnapState 0).snapResult result

/-- The superblocks have come for a buddy restore: shards are fetched and decoded, the manifest digest is checked, and the snapshot is written into a slot (R433). -/
def Dev.buddyLoaded (d : Dev) : Dev :=
  let d := d.takeSb
  let k := d.freeCtr
  let d := { d with freeCtr := k + 1 }
  let (step, moff, mlen, digest) := Config.buddyInfo k
  let n := shardBytes (moff + mlen)
  match decodeShards ((List.range 10).map (Config.buddyFetch k)) n with
  | none => d.endBuddy 11
  | some ds =>
    let all := ds.flatten
    let m := (all.drop moff).take mlen
    if shake256 m 32 ≠ padTo 32 digest then d.endBuddy 7
    else if d.slotBytes < moff + mlen then d.endBuddy 6
    else
      let slot := d.pickSlot
      let d := d.modSnap (fun s => { s with
        slot := slot, t := step, tainted := bitOf (leNat ((m.drop 0x0E).take 2)) 0, manifest := m, used := moff, space := all.take moff, stage := .flushData })
      (d.spaceReqs 1 slot 0 (all.take moff) moff).advanceSnap

/-- The number of the shard that a sender sends to this device: how far this device lies behind it along the group's ring, if it is in the group (R432). -/
def Dev.buddyIndex (d : Dev) (sender : Nat) : Option Nat :=
  let k := d.get F.SNAP_BUDDY_DIM
  if (List.range 6).all (fun i => i = k || d.coord sender i = d.coord d.deviceId i) then
    some ((d.coord d.deviceId k + d.ringSize k - d.coord sender k) % d.ringSize k)
  else none

/-- BUDDY_SHARD_STORE: a shard of the group's sender has come into the buddy window and is stored in the last slot (R432). -/
def execBuddyShardStore (sender : BitVec 10) (j : Fin 10) (step : Word) (data : List Byte) (s : State) : Host.Outcome State Fault Refusal :=
  s.run (fun d =>
    if !d.bit F.SNAP_BUDDY_EN || d.buddyIndex sender.toNat ≠ some j.val then d
    else
      let fresh := match SMap.find sender.toNat d.snap.shards with
        | some x => decide (x.step ≤ step.toNat)
        | none => true
      if !fresh then d
      else
        let d := (d.store d.buddyBase data).keepShard sender.toNat step.toNat j data
        (d.count F.SNAP_BUDDY_HELD).count F.SNAP_BYTES_WRITTEN 0 0 data.length)

/-! ## Completions (R418, R426) -/

/-- The first outstanding request of a drive with an opcode, and the others. -/
def takeNvme (drive opcode : Nat) : List NvmeReq → Option (NvmeReq × List NvmeReq)
  | [] => none
  | r :: rs =>
    if r.drive = drive && r.opcode % 256 = opcode then some (r, rs)
    else (takeNvme drive opcode rs).map (fun x => (x.1, r :: x.2))

/-- An NVMe error or timeout: the drive is FAILED, and what Squirrel was doing fails with NVME (R426). -/
def Dev.nvmeError (d : Dev) (drive status opcode : Nat) : Dev :=
  let d := ((d.record 0x01A5 drive 10 0 2 status opcode).count F.SNAP_NVME_ERRORS).setDrive drive 3
  if 2 ≤ d.snapState && d.snapState ≤ 3 then d.failSnap 5 drive true
  else if d.snapState = 4 then
    d.failRestore 5 (if d.snap.stage = .loadRestore then d.reg F.SNAP_RESTORE_SEL.base else (d.snapSlot d.snap.slot).step)
  else d.endBuddy 5

/-- What follows when the last outstanding request completes. -/
def Dev.settled (d : Dev) : Dev :=
  if !d.snap.reqs.isEmpty then d
  else match d.snap.stage with
    | .loadArm => ((d.takeSb.setSnapState 1).updateSelectors).propose true
    | .loadRestore => d.restoreLoaded
    | .loadBuddy => d.buddyLoaded
    | .readManifest => d.manifestRead
    | _ => d.advanceSnap

/-- NVME_COMPLETION: the oldest request of the drive with the opcode completes; one that no request of Squirrel's awaits is ignored. -/
def execNvmeCompletion (drive : Fin 8) (cq : NvmeDone) (s : State) : Host.Outcome State Fault Refusal :=
  s.run (fun d =>
    match takeNvme drive cq.opcode.toNat d.snap.reqs with
    | none => d
    | some (r, rest) =>
      let d := d.modSnap (fun s => { s with reqs := rest })
      if cq.status ≠ 0 then d.nvmeError drive cq.status.toNat cq.opcode.toNat
      else
        let d := if rest.any (fun x => x.drive = drive.val) then d else d.setDrive drive 1
        let key := if d.snap.stage = .readManifest || d.snap.stage = .readData then r.off else r.drive * 2 ^ 48 + r.lba
        let d := if r.opcode = 2 then d.modSnap (fun s => { s with read := SMap.insert key (padTo (4096 * r.blocks) cq.data) s.read }) else d
        d.settled)

/-- NVME_TIMEOUT: a request of the drive has not completed within 5 s; the record's status field is a free value. -/
def execNvmeTimeout (drive : Fin 8) (s : State) : Host.Outcome State Fault Refusal :=
  s.run (fun d =>
    match d.snap.reqs.find? (fun r => r.drive = drive.val) with
    | none => d
    | some r =>
      let (v, d) := d.fresh
      d.nvmeError drive (v % 2 ^ 16) (r.opcode % 256))

/-! ## Agreeing the step (R412 to R415) -/

/-- SNAP_PROPOSE: the master keeps each device's latest proposal; the others forward it. -/
def execSnapPropose (n : Port) (f : CFlit) (s : State) : Host.Outcome State Fault Refusal :=
  s.run (fun d =>
    if !d.noticeIn n 2 f then d
    else if d.isMaster then
      (d.modSnap (fun s => { s with proposals := SMap.insert (f.origin.toNat % 1024) (cField f 0x14 4, d.beat) s.proposals })).showInterval
    else d.forwardUp f)

/-- SNAP_PROPOSE_TIMER. -/
def execSnapProposeTimer (s : State) : Host.Outcome State Fault Refusal := s.run (fun d => d.propose true)

/-- SNAP_STEP: an announcement from the parent goes on down the tree and is taken or skipped. -/
def execSnapStep (n : Port) (f : CFlit) (s : State) : Host.Outcome State Fault Refusal :=
  s.run (fun d =>
    if !d.noticeIn n 3 f || d.isMaster then d
    else (d.sendDown (hopped f)).announceArrives (cField f 0x18 8) (cField f 0x14 4))

/-- SNAP_STEP_RESEND: the master's announcement again until its own step exceeds T (R413). -/
def execSnapStepResend (s : State) : Host.Outcome State Fault Refusal :=
  s.run (fun d => if d.isMaster && d.snap.announced ≠ 0 && decide (d.step ≤ d.snap.announced) then d.sendSnapStep else d)

/-- SNAP_DONE: the master counts each device's outcome for the announced T and announces the next when all are in; the others forward it. -/
def execSnapDone (n : Port) (f : CFlit) (s : State) : Host.Outcome State Fault Refusal :=
  s.run (fun d =>
    if !d.noticeIn n 4 f then d
    else if d.isMaster then
      let o := f.origin.toNat % 1024
      if cField f 0x18 8 = d.snap.announced && !d.snap.doneFrom.contains o then
        (d.modSnap (fun s => { s with doneFrom := s.doneFrom ++ [o] })).announceCheck
      else d
    else d.forwardUp f)

/-- SNAP_DONE_RESEND: the outcome again until a later T is announced (R415). -/
def execSnapDoneResend (s : State) : Host.Outcome State Fault Refusal :=
  s.run (fun d => match d.snap.doneMsg with
    | some (st, t) => d.sendDone st t
    | none => d)

/-- SNAP_ANNOUNCE_TIMEOUT: the master announces the next T without the missing outcomes (R413). -/
def execSnapAnnounceTimeout (s : State) : Host.Outcome State Fault Refusal :=
  s.run (fun d => if d.isMaster && d.snap.announced ≠ 0 then d.announce else d)

end Sys2Proof.Machine
end

