-- ==== Sys2Proof/Machine/Boot.lean ====
section
/-! DEFINITION. Boot: the configuration block, the choice of banks, the OS loader, first light and the training of far memory (R272 to R276, R279, R353, R445, R458 to R464, R472). -/

namespace Sys2Proof.Machine

/-! ## Slolis -/

/-- Slolis runs, or does not; MBOX_STATUS shows it, and its timer starts anew. -/
def Dev.setSlolis (d : Dev) (up : Bool) : Dev :=
  { d with slolisUp := up, mgmt := { d.mgmt with kickNs := d.ns } }.set F.MBOX_STATUS_SLOLIS_UP (b2n up)

/-- STAGE of SEC_STATUS (Table 15-12). -/
def Dev.setStage (d : Dev) (n : Nat) : Dev := d.set F.SEC_STATUS_STAGE n

/-- BOOT_DONE with the stage reached (Table 15-11). -/
def Dev.bootDone (d : Dev) (stage : Nat) : Dev := (d.setStage stage).record 0x0210 stage 14 0 0 ((d.ns - d.mgmt.bootNs) / 1000000)

/-! ## The configuration block (Table 15-4) -/

/-- The block that replaces one that fails its CRC or MAGIC. -/
def cfgDefault : List Byte :=
  let front := ascii "KMGCFG01" ++ leBytes 4 0x118 ++ leBytes 2 1500 ++ leBytes 2 1800 ++ leBytes 2 0xFFF ++ leBytes 1 0x3F ++ leBytes 1 0 ++
    leBytes 2 0 ++ leBytes 1 64 ++ leBytes 1 0
  let body := padTo 0x110 front
  body ++ leBytes 8 (crc64Final (crc64Run crc64Init body))

/-- What is wrong with a block, as CONFIG_DEFAULTED numbers it: 1 CRC, 2 MAGIC; 0 nothing. -/
def cfgCheck (b : List Byte) : Nat :=
  let n := blockNat b 8 4
  if blockBytes b 0 8 ≠ ascii "KMGCFG01" then 2
  else if n < 0x118 || 65536 < n || b.length < n || blockNat b (n - 8) 8 ≠ crc64Final (crc64Run crc64Init (b.take (n - 8))) then 1
  else 0

/-- The interface codes of two ports with a reserved code taken as 0. -/
def phyCodes (v : Nat) : Nat := (if v % 4 = 3 then 0 else v % 4) + (if v / 4 % 4 = 3 then 0 else v / 4 % 4 * 4)

/-- The configuration block comes into force: defaults and reserved interface codes are recorded, and the registers that it fills in take their values. -/
def Dev.applyConfig (d : Dev) (b : List Byte) : Dev :=
  let why := cfgCheck b
  let d := if why = 0 then { d with config := b } else { d with config := cfgDefault }.record 0x0219 why 15 0 2
  let bad := [0x18, 0x19].any (fun o => d.cfg o 1 % 4 = 3 || d.cfg o 1 / 4 % 4 = 3)
  let d := if bad then
      { d with config := d.config.mapIdx (fun i (x : Byte) => if i = 0x18 || i = 0x19 then BitVec.ofNat 8 (phyCodes x.toNat) else x) }.record 0x0219 3 15 0 2
    else d
  let d := ((d.set F.DEV_PWR_CFG_PEAK_W (d.cfg 0x0E 2)).set F.DEV_PWR_CFG_TDP_W (d.cfg 0x0C 2)).set F.DEV_FAR_CARVE_GIB (d.cfg 0x16 1)
  (d.set F.SEC_STATUS_SIG_SCHED_REQ (d.cfg 0x17 1 % 2)).set F.SEC_STATUS_SIG_LDR_REQ (d.cfg 0x17 1 / 2 % 2)

/-! ## Banks (R461) -/

/-- The banks in the order in which they are tried: a trial bank with a nonzero count first, else the active one. -/
def bankOrder (active : Bool) (trial : Option Bool) (count : Nat) : List Bool :=
  match trial with
  | some b => if count ≠ 0 then [b, !b] else [active, !active]
  | none => [active, !active]

/-- A trial bank whose count ran out without a report. -/
def staleTrial (active : Bool) (trial : Option Bool) (count : Nat) : Option Bool :=
  trial.filter (fun b => count = 0 && b != active)

/-- The boot falls back from a bank: 1 firmware, 2 loader; reason 1 signature, 2 no report. -/
def Dev.fallBack (d : Dev) (what : Nat) (bank : Bool) (reason : Nat) : Dev :=
  (d.set (if what = 1 then F.SEC_STATUS_FW_FALLBACK else F.SEC_STATUS_LDR_FALLBACK) 1).record 0x0211 what 14 0 2 (b2n bank) reason

/-- The first bank that passes its check; those before it fall back. -/
def Dev.firstBank (d : Dev) (what : Nat) (check : Dev → Bool → Bool × Dev) : List Bool → Option Bool × Dev
  | [] => (none, d)
  | b :: bs =>
    let (ok, d) := check d b
    if ok then (some b, d)
    else (if bs.isEmpty then d else d.fallBack what b 1).firstBank what check bs

/-- A firmware bank. -/
def fwBank (f : FlashImage) (b : Bool) : Bank := if b then f.fw1 else f.fw0

/-- A loader bank. -/
def ldrBank (f : FlashImage) (b : Bool) : Bank := if b then f.ldr1 else f.ldr0

/-- The ROM verifies a firmware bank (R464). -/
def Dev.verifyFw (d : Dev) (b : Bool) : Bool × Dev :=
  let k := fwBank d.mgmt.flash b
  let r := d.verifySig 1 k.sig (shake32 k.image) (k.keys.filter (fun x => Config.vendorKey x))
  (r.1 = 0, r.2)

/-- Slolis verifies a loader bank (R464); one without a signature passes. -/
def Dev.verifyLdr (d : Dev) (b : Bool) : Bool × Dev :=
  let k := ldrBank d.mgmt.flash b
  if k.sig.isEmpty then (true, d)
  else
    let r := d.verifySig 2 k.sig (shake32 k.image) (d.ownerKeysOf 0)
    (r.1 = 0, r.2)

/-- Measurement of an image from a bank (R463): digest, KEY_ID and SVN of its signature block. -/
def Dev.measureBank (d : Dev) (m : Nat) (k : Bank) : Dev := d.extendM m (shake32 k.image) (padTo 32 (blockBytes k.sig 0x10 32)) (blockNat k.sig 12 4)

/-- The loader in a bank starts: M3 is extended, the loader is copied to the base of the carve-out, and domain 584 is released (Table 15-5, step 9). -/
def Dev.startLoader (d : Dev) (b : Bool) : Dev :=
  let k := ldrBank d.mgmt.flash b
  let d := (((d.measureBank 3 k).set F.SEC_STATUS_LDR_BANK (b2n b)).set F.SEC_VERSIONS_LDR_SVN (blockNat k.sig 12 4)).modMgmt (fun m => { m with loaderOk := true })
  let d := if d.inCarve 0 k.image.length then d.store 0 k.image else d
  d.setDom 584 true

/-- Slolis chooses, verifies and starts the OS loader (R461); one that is unsigned while REQUIRE_SIG_LOADER is set, or the failure of both, leaves domain 584 off. -/
def Dev.bootLoader (d : Dev) : Dev :=
  let f := d.mgmt.flash
  let d := match staleTrial f.ldrActive f.ldrTrial f.ldrTrialCount with
    | some b => d.fallBack 2 b 2
    | none => d
  let (bank, d) := d.firstBank 2 Dev.verifyLdr (bankOrder f.ldrActive f.ldrTrial f.ldrTrialCount)
  match bank with
  | none => (d.modMgmt (fun m => { m with loaderOk := false })).bootDone 3
  | some b =>
    let d := if f.ldrTrial.isSome && f.ldrTrialCount ≠ 0 then
        d.modMgmt (fun m => { m with flash := { m.flash with ldrTrialCount := f.ldrTrialCount - 1 }, ldrTrial := f.ldrTrial = some b })
      else d
    if (ldrBank f b).sig.isEmpty && d.bit F.SEC_STATUS_SIG_LDR_REQ then
      ((d.modMgmt (fun m => { m with loaderOk := false })).sigFailed 2 5 []).bootDone 3
    else (d.startLoader b).setStage 4

/-! ## Power-on (R458 to R464, R483, Tables 15-5 and 16-3) -/

/-- The bytes of a defect-map entry (Table 11-8). -/
def defectBytes (e : DefectEntry) : List Byte :=
  leBytes 1 e.kind.toNat ++ leBytes 1 0 ++ leBytes 2 e.unit.toNat ++ leBytes 4 e.a.toNat ++ leBytes 8 e.b.toNat

/-- The identity of R462: the public key in SEC_ID, or a failed reconstruction. -/
def Dev.applyPuf (d : Dev) (f : FlashImage) : Dev :=
  if f.pufOk then
    (List.range 8).foldl (fun (d : Dev) n => d.setReg (F.SEC_ID.base + 8 * n) 0 0 (blockNat f.identity (8 * n) 8)) (d.set F.SEC_STATUS_PUF_OK 1)
  else d.record 0x0213 0 14 0 2 f.pufErrors

/-- The device before a power-on: what outlives the always-on rails is on the drives, and the model's own fields go on. -/
def Dev.unpowered (d : Dev) : Dev :=
  { Dev.reset with cycle := d.cycle, freeCtr := d.freeCtr, out := d.out, snap := { SnapState.reset with shards := d.snap.shards } }

/-- The ROM and Slolis up to MAIN_EN, with the flash as read (Table 15-5, steps 1 to 5; Table 16-3, steps 1 to 3). DEDUCED, unsafe (log entry 74). -/
def Dev.boot (d : Dev) (f : FlashImage) : Dev :=
  let d := d.modMgmt (fun m => { m with flash := f, bootNs := d.ns })
  let d := { d with ptpBase := -(d.ns : Int), power := { d.power with aonUp := true } }
  let d := d.applyPuf f
  let d := match staleTrial f.fwActive f.fwTrial f.fwTrialCount with
    | some b => d.fallBack 1 b 2
    | none => d
  let (bank, d) := d.firstBank 1 Dev.verifyFw (bankOrder f.fwActive f.fwTrial f.fwTrialCount)
  match bank with
  | none => d.bootDone 15
  | some b =>
    let k := fwBank f b
    let d := ((d.measureBank 0 k).set F.SEC_STATUS_FW_BANK (b2n b)).set F.SEC_VERSIONS_FW_SVN (blockNat k.sig 12 4)
    let d := if f.fwTrial.isSome && f.fwTrialCount ≠ 0 then
        d.modMgmt (fun m => { m with flash := { m.flash with fwTrialCount := f.fwTrialCount - 1 }, fwTrial := f.fwTrial = some b })
      else d
    let d := ((d.setSlolis true).setStage 1).applyConfig f.config
    let d := (d.extendM 1 (shake32 d.config) (List.replicate 32 0) 0).extendM 1
      (shake32 (f.ownerKeys.flatMap (fun x => x.1 ++ leBytes 1 x.2.toNat))) (List.replicate 32 0) 0
    let map := f.defectMap.takeWhile (fun e => 1 ≤ e.kind.toNat && e.kind.toNat ≤ 7)
    let d := d.extendM 2 (shake32 (map.flatMap defectBytes)) (List.replicate 32 0) 0
    let d := { d with defects := if f.torn then compactDefects d.ptpSec map else map }
    { d with power := { d.power with mainEn := true, rising := true } }

/-- POWER_ON: AON_PWRGD rises; a device that is powered stays as it is. DEDUCED, unsafe (log entry 8). -/
def execPowerOn (flash : FlashImage) (s : State) : Host.Outcome State Fault Refusal :=
  s.run (fun d => if d.power.aonUp then d else d.unpowered.boot flash)

/-- FIRMWARE_READY: a trial bank that reports ready becomes the active bank (R461). -/
def execFirmwareReady (s : State) : Host.Outcome State Fault Refusal :=
  s.run (fun d =>
    if d.mgmt.fwTrial && d.slolisUp then
      d.modMgmt (fun m => { m with fwTrial := false, flash := { m.flash with
        fwActive := d.bit F.SEC_STATUS_FW_BANK, fwTrial := none, fwTrialCount := 0 } })
    else d)

/-- The loader reports ready by the OS's first heartbeat; a trial bank becomes the active bank (R461). -/
def Dev.loaderReady (d : Dev) : Dev :=
  let d := if d.mgmt.ldrTrial then
      d.modMgmt (fun m => { m with ldrTrial := false, flash := { m.flash with
        ldrActive := d.bit F.SEC_STATUS_LDR_BANK, ldrTrial := none, ldrTrialCount := 0 } })
    else d
  if d.get F.SEC_STATUS_STAGE = 4 then d.bootDone 5 else d

/-! ## Orderly main power-down (R486, Table 16-4) -/

/-- Everything that main power holds is lost: every switched domain, the mesh supply and far memory (R487, R488, R493). -/
def Dev.losePower (d : Dev) : Dev :=
  let d := (d.dropSwitched.setDoms (fun _ => false)).setDom 584 false
  let d := { d with regs := d.regs.filter (fun e => !(e.1 / 2 ^ 24 % 2 ^ 8 == 2)), mem := [], resets := d.resets.filter (fun r => r.unit = 1), resetWaits := false, halted := false, bandOut := d.bandOut.filter (fun i => i == Island.alwaysOn) }
  { d with power := { d.power with mainUp := false, mainEn := false, rising := false, offNs := none } }.set F.DEV_PWR_STATUS_FREEZE 0
    |>.set F.DEV_PWR_STATUS_OFF_PENDING 0 |>.showResets

/-- Slolis, if it runs, starts a main power-up of a device whose main power is off and may come on (R485, R487, R493). -/
def Dev.startPowerUp (d : Dev) : Dev :=
  let p := d.power
  if !d.slolisUp || !p.aonUp || p.mainUp || p.mainEn || p.rising || p.dead || p.offReq then d
  else { d with power := { p with rising := true, mainEn := true, attempts := 0 } }

/-- Steps 3 to 6 of Table 16-4 at the end of the grace; with OFF_REQ_N high again, the next main power-up is due. -/
def Dev.powerDown (d : Dev) : Dev :=
  match d.power.offNs with
  | none => d
  | some t =>
    let used := (d.ns - t) / 1000000
    let d := d.halt.losePower.record 0x0224 2 0 0 0 used
    d.startPowerUp

/-- A notice of Slolis's to the OS through the mailbox: OP 0x8000 and the 64-byte record, as it stands last in the log (R469). -/
def Dev.mboxNotice (d : Dev) (r : Record) : Dev :=
  if d.bit F.MBOX_CFG_EN && d.slolisUp then
    let e : LogEntry := { body := r, seq := d.nextSeq, count := 1, latest := false, coalesced := false, writtenNs := d.ns, sentNs := none, due := false }
    (d.osSend 256 (leBytes 8 0 ++ leBytes 2 0x8000 ++ leBytes 6 0 ++ e.bytes)).2
  else d

/-- OFF_REQ_N is sampled low (Table 16-4, step 1): resets in progress are abandoned, and the grace begins or ends at once. -/
def Dev.offBegins (d : Dev) : Dev :=
  let r := d.mkRecord 0x0224 1 0 0 0 d.noCtx 0 0 0
  let d := (d.report r).set F.DEV_PWR_STATUS_OFF_PENDING 1
  let d := Dev.showResets { d with resets := d.resets.filter (fun x => x.unit < 3), power := { d.power with offNs := some d.ns } }
  let d := if d.running then (d.raiseHold 10).count F.DEV_PWR_HOLDS else d
  let d := d.mboxNotice r
  if !d.domOn 584 || !d.bit F.MBOX_CFG_EN then d.powerDown else d

/-- A main power-up is complete: it is counted, and a request to power down made during it takes effect (R486). -/
def Dev.powerUpDone (d : Dev) : Dev :=
  let d := { d with power := { d.power with rising := false } }.count F.DEV_PWR_MAIN_UPS
  if d.power.offReq then d.offBegins else d

/-! ## First light and training (R272, R274, R276, R353, R445, R460) -/

/-- G of a density in GiB (R273). -/
def granules (gib : Nat) : Nat := gib * 2 ^ 30 / 5120

/-- Every channel is READY. -/
def Dev.allReady (d : Dev) : Bool := (List.range 32).all (fun m => d.get F.FAR_STATUS_STATE m = 2)

/-- Every channel has ended its training. -/
def Dev.allTrained (d : Dev) : Bool := (List.range 32).all (fun m => d.get F.FAR_STATUS_STATE m = 2 || d.get F.FAR_STATUS_STATE m = 3)

/-- FAR_SIZE is fixed once all channels are trained: by the smallest density, with a record where densities differ or the carve-out is replaced (R272, R274, R276). -/
def Dev.fixFarSize (d : Dev) : Dev :=
  if !d.allReady || d.get F.DEV_FAR_SIZE_SIZE ≠ 0 then d
  else
    let ds := (List.range 32).map (fun m => d.get F.FAR_INFO_DENSITY m)
    let least := ds.foldl min (ds.headD 0)
    let most := ds.foldl max 0
    let d := if least ≠ most then d.record 0x0192 1 0 0 2 most least else d
    let size := 32 * granules least * 4096
    let d := d.set F.DEV_FAR_SIZE_SIZE size
    let c := d.get F.DEV_FAR_CARVE_GIB
    if c = 0 || size / 2 < c * 2 ^ 30 then (d.record 0x0192 2 0 0 2 c 64).set F.DEV_FAR_CARVE_GIB 64 else d

/-- The end of a main power-up's training and first light: engines self-test and the loader starts (Table 15-5, step 9). With a channel FAILED the device accepts no job, and no loader starts. DEDUCED, unsafe (log entry 74). -/
def Dev.bootMemory (d : Dev) : Dev :=
  if !d.power.rising || !d.power.mainUp || !d.bit F.BADGER_STATUS_FIRST_LIGHT || !d.allTrained then d
  else
    let d := d.engineTests (List.range 256)
    (if d.allReady then d.bootLoader else d.bootDone 3).powerUpDone

/-- FIRST_LIGHT_DONE: of a partition whose slots are UNTESTED. After a power-on or device reset, FIRST_LIGHT is set with the last partition, and every PART_MAP_GEN then reads 2; in a partition reset it stays odd until the reset ends (R34, R353). -/
def execFirstLightDone (p : Part) (failed : List (Nat × Nat)) (s : State) : Host.Outcome State Fault Refusal :=
  s.run (fun d =>
    if !(partSlots p).any (fun pc => d.slotState pc = 3) || !d.power.mainUp then d
    else
      let d := d.firstLight p failed
      if d.bit F.BADGER_STATUS_FIRST_LIGHT || (List.range 544).any (fun pc => d.slotState pc = 3) then d
      else
        let d := (List.range 8).foldl (fun d p => d.set F.PART_MAP_GEN_GEN 2 p) d
        let d := (d.set F.BADGER_STATUS_FIRST_LIGHT 1).healthScores true
        (if d.get F.SEC_STATUS_STAGE = 2 then d.setStage 3 else d).bootMemory)

/-- One repair by sPPR: a resource is used and the row joins the defect map; without one the row stays in service and is recorded (R279). -/
def Dev.repairRow (d : Dev) (ch bank row : Nat) : Dev :=
  let d := { d with spprMarks := d.spprMarks.filter (fun m => m ≠ (ch, bank, row)) }
  let left := d.get F.FAR_SPPR_LEFT ch
  if !d.bit F.FAR_INFO_SPPR_CAP ch || left = 0 then d.record 0x0193 0 5 ch 2 row bank
  else
    let d := if left = 0xFFFF then d else d.set F.FAR_SPPR_LEFT (left - 1) ch
    (d.set F.FAR_SPPR_DONE (d.get F.FAR_SPPR_DONE ch + 1) ch).addDefect 6 ch row bank

/-- FAR_TRAINING_DONE: a channel's training attempt ends. Three failures make it FAILED; a trained one is READY, its device's density and repair resources are known, and the FAR_ROW entries of the defect map are applied (R272, R279, R445, R459). -/
def execFarTrainingDone (ch : Fin 32) (ok : Bool) (densityGiB : Nat) (sppr : Option Nat) (s : State) : Host.Outcome State Fault Refusal :=
  s.run (fun d =>
    if d.get F.FAR_STATUS_STATE ch ≠ 1 then d
    else if ok then
      let d := (d.set F.FAR_STATUS_STATE 2 ch).set F.FAR_INFO_DENSITY densityGiB ch
      let d := (d.set F.FAR_INFO_GRANULES (granules densityGiB) ch).set F.FAR_INFO_SPPR_CAP (b2n sppr.isSome) ch
      let d := (d.set F.FAR_SPPR_LEFT (sppr.getD 0) ch).set F.FAR_SPPR_DONE ((d.defectsOf 6 ch).length) ch
      let d := (d.spprMarks.filter (fun m => m.1 = ch.val)).foldl (fun (d : Dev) m => d.repairRow m.1 m.2.1 m.2.2) d
      d.fixFarSize.bootMemory
    else
      let n := SMap.read 0 d.farTries ch + 1
      let d := { d with farTries := SMap.write 0 d.farTries ch n }
      if n < 3 then d else (d.set F.FAR_STATUS_STATE 3 ch).showResets.bootMemory)

end Sys2Proof.Machine
end

