-- ==== Sys2Proof/Machine/Dataflow.lean ====
section
/-! DEFINITION. The array in DATAFLOW mode: links, lanes, stream ports and steering units (R125 to R128, R131, R133 to R138, R158). -/

namespace Sys2Proof.Machine

/-! ## Links (R125 to R127) -/

/-- A lane of the running launch. -/
def Launch.lane (l : Launch) (i : Nat) : LaneState := SMap.read LaneState.reset l.lanes i

/-- The launch with a lane set. -/
def Launch.setLane (l : Launch) (i : Nat) (x : LaneState) : Launch := { l with lanes := SMap.write LaneState.reset l.lanes i x }

/-- A steering unit of the running launch. -/
def Launch.unit (l : Launch) (u : Nat) : UnitState := SMap.read UnitState.reset l.units u

/-- The launch with a steering unit set. -/
def Launch.setUnit (l : Launch) (u : Nat) (x : UnitState) : Launch := { l with units := SMap.write UnitState.reset l.units u x }

/-- Where a word goes that leaves a lane by a side (0 N, 1 E, 2 S, 3 W): an end-lane output, or the facing side of a neighbour; none beyond the north and south edges. -/
inductive LinkEnd where
  | edge (e : Nat)
  | lane (i side : Nat)
  | nothing
  deriving DecidableEq, Repr

/-- The far end of the link at a side of lane i. -/
def linkEnd (i side : Nat) : LinkEnd :=
  let s := i / 33
  let l := i % 33
  match side with
  | 0 => if s = 0 then .nothing else .lane (i - 33) 2
  | 1 => if l = 32 then .edge (2 * s + 1) else .lane (i + 1) 3
  | 2 => if s = 32 then .nothing else .lane (i + 33) 0
  | _ => if l = 0 then .edge (2 * s) else .lane (i - 1) 1

/-- Sends a word out of lane i by a side, through the lanes that pass it, into a lane input with room or an end-lane output that is free; none where it must wait on the link (R126, R134). `fuel` bounds the lanes that it crosses. -/
def sendWord (img : List Byte) : Nat → Launch → Nat → Nat → AWord → Option Launch
  | 0, _, _, _, _ => none
  | fuel + 1, l, i, side, w =>
    match linkEnd i side with
    | .nothing => none
    | .edge e => if (SMap.find e l.edges).isSome then none else some { l with edges := SMap.insert e w l.edges }
    | .lane j inSide =>
      match (laneRec img j).passTo inSide with
      | some o => sendWord img fuel l j o w
      | none =>
        let x := l.lane j
        let q := SMap.read [] x.ins inSide
        if q.length < 2 then some (l.setLane j { x with ins := SMap.insert inSide (q ++ [w]) x.ins }) else none

/-- Lanes that a word may cross. -/
def linkFuel : Nat := 4400

/-- A word enters lane i at a side from a steering unit. -/
def enterLane (img : List Byte) (l : Launch) (i side : Nat) (w : AWord) : Option Launch :=
  match (laneRec img i).passTo side with
  | some o => sendWord img linkFuel l i o w
  | none =>
    let x := l.lane i
    let q := SMap.read [] x.ins side
    if q.length < 2 then some (l.setLane i { x with ins := SMap.insert side (q ++ [w]) x.ins }) else none

/-! ## Stream ports (R128) -/

/-- Words of a stream. -/
def StreamDesc.words (s : StreamDesc) : Nat := s.rows * (s.rowBytes / 8)

/-- Words that a port has moved. -/
def Launch.moved (l : Launch) (p : Nat) : Nat := SMap.read 0 l.portPos p

/-- Storage address of word n of a port's stream. -/
def Launch.portAddr (l : Launch) (pc p n : Nat) : Nat :=
  let s := l.desc.port p
  streamAddr pc s (n / (s.rowBytes / 8)) (8 * (n % (s.rowBytes / 8)))

/-- The launch with one more word moved at a port. -/
def Launch.advance (l : Launch) (p : Nat) : Launch := { l with portPos := SMap.insert p (l.moved p + 1) l.portPos }

/-! ## End of a launch (R158) -/

/-- The steering unit holds nothing but credit tokens. -/
def UnitState.drained (u : UnitState) : Bool := u.data.isEmpty && u.tokens.all (fun w => bitOf w.data.toNat 4)

/-- Every port has moved its stream and no word remains. -/
def Launch.complete (img : List Byte) (l : Launch) : Bool :=
  (imgInPorts img ++ imgOutPorts img).all (fun p => (l.desc.port p).words ≤ l.moved p) && l.edges.isEmpty &&
  l.units.all (fun e => e.2.drained) && l.lanes.all (fun e => e.2.out.isEmpty && e.2.ins.all (fun q => q.2.isEmpty))

/-- The running DATAFLOW launch with its image, where a word of it can move. -/
def Dev.dataflowRun (d : Dev) (pc : Nat) : Option (Launch × List Byte) :=
  match (d.arr pc).run with
  | some l => if l.dataflow && !l.held && l.ending.isNone && d.domOn pc then some (l, (d.arr pc).plane (d.arr pc).activePlane) else none
  | none => none

/-- The running launch takes a new state, and its end is decided when nothing is left to do. -/
def Dev.setRun (d : Dev) (pc : Nat) (img : List Byte) (l : Launch) : Dev :=
  d.modRun pc (fun _ => if l.complete img then l.finish else l)

/-- A protocol fault (R137, R158): it is latched, the launch drains to end FAULTED, and its context faults with ARRAY. -/
def Dev.protocolFault (d : Dev) (pc : Nat) (l : Launch) (kind unit lane ta tb : Nat) : Dev :=
  let d := d.latchArrFault pc kind unit lane ta tb
  let d := d.modRun pc (fun _ => { l with ending := some 5, drain := some .fault })
  d.arrayFault pc l.desc 0x0A

/-! ## Lanes (R131, Table 04-3) -/

/-- The words at the inputs that a lane record names, in the order A, B, C; none where a named input is empty. -/
def laneOperands (r : LaneRec) (x : LaneState) : Option (List (Option AWord)) :=
  r.ins.foldr (fun i acc => match acc with
    | none => none
    | some ws =>
      if i = 0 then some (none :: ws)
      else match (SMap.read [] x.ins (i - 1)) with
        | [] => none
        | w :: _ => some (some w :: ws)) (some [])

/-- Operands that an operation needs. -/
def LaneRec.needs (r : LaneRec) : Nat :=
  match r.op with
  | 0 => 4
  | 1 | 9 | 10 => 1
  | 7 => 3
  | _ => 2

/-- The lane with one word taken from every input that its record names. -/
def LaneState.consume (r : LaneRec) (x : LaneState) : LaneState :=
  { x with ins := x.ins.map (fun e => if r.ins.contains (e.1 + 1) then (e.1, e.2.drop 1) else e) }

/-- Element k of a word in a format. -/
def wordElem (f : Nat) (w : AWord) (k : Nat) : Fp := fpDecode f (bitsOf w.data.toNat (fmtBits f * (k + 1) - 1) (fmtBits f * k))

/-- The value of an operand that carries one element. -/
def wordFp (f : Nat) (w : AWord) : Fp := wordElem f w 0

/-- An EA as result words of a tag, with its status: one rounded element, or four words of an EA. -/
def eaWords (fo tag : Nat) (a : Ea) : List AWord × Nat :=
  if fo = 0x0F then
    ((List.range 4).map (fun i => ⟨false, tag, wOf (a.value / 2 ^ (64 * i))⟩), a.status)
  else
    let r := a.round fo
    ([⟨false, tag, wOf r.1⟩], r.2)

/-- NONFINITE_IN for operands that an EA takes. -/
def nonfiniteOps (l : List Fp) : Nat := if l.all Fp.isFin then 0 else stNonfinite

/-- A lane's firing on its operand words: the lane after it, its result words and its status. -/
def laneResult (img : List Byte) (r : LaneRec) (x : LaneState) (ops : List (Option AWord)) : LaneState × List AWord × Nat :=
  let z : AWord := ⟨false, 0, 0⟩
  let a := ((ops.getD 0 none).getD z)
  let b := ((ops.getD 1 none).getD z)
  let c := ((ops.getD 2 none).getD z)
  let va := wordFp r.fa a
  let vb := wordFp r.fb b
  let rounded := fun (e : Ea) => let w := eaWords r.fo a.tag e; (x, w.1, w.2 ||| nonfiniteOps [va, vb])
  match r.op with
  | 1 => (x, [a], 0)
  | 2 =>
    let g := List.range (macGroup r.fa r.fb)
    let ea := g.foldl (fun e k => e.addProduct (wordElem r.fa a k) (wordElem r.fb b k)) x.ea
    let st := nonfiniteOps (g.map (wordElem r.fa a) ++ g.map (wordElem r.fb b))
    if r.count ≤ x.fired + 1 then
      let w := eaWords r.fo a.tag ea
      ({ x with ea := Ea.zero, fired := 0 }, w.1, w.2 ||| st)
    else ({ x with ea := ea, fired := x.fired + 1 }, [], st)
  | 3 => rounded (Ea.zero.addFp (fpAdd va vb))
  | 4 => rounded (Ea.zero.addProduct va vb)
  | 5 => rounded (Ea.zero.addFp (fpMax va vb))
  | 6 => rounded (Ea.zero.addFp (fpMin va vb))
  | 7 => (x, [{ (if bitOf c.data.toNat (fmtBits r.fa - 1) then a else b) with tag := a.tag }], 0)
  | 8 =>
    let holds := !va.isNan && !vb.isNan && !fpLt va vb
    (x, [⟨true, a.tag, wOf (if holds then r.routeT else r.routeF)⟩], 0)
  | 9 => (x, [⟨false, a.tag, wOf r.const⟩], 0)
  | 10 =>
    ({ x with table := (x.table + 1) % (max r.tabLen 1) },
      [⟨false, a.tag, wOf (imgN img (0x13240 + 8 * (r.tabStart + x.table)) 8)⟩], 0)
  | _ => (x, [], 0)

/-- A word to all outputs of a lane's result at once, or none. -/
def sendAllSides (img : List Byte) (l : Launch) (i : Nat) (w : AWord) : List Nat → Option Launch
  | [] => some l
  | o :: os => (sendWord img linkFuel l i o w).bind (fun l => sendAllSides img l i w os)

/-- Sides that a lane's result goes to. -/
def LaneRec.resultSides (r : LaneRec) : List Nat := (List.range 4).filter (bitOf r.outs)

/-- Sends as many of a lane's result words as its outputs take, in order. -/
def flushLane (img : List Byte) (i : Nat) (r : LaneRec) : Nat → Launch → Launch
  | 0, l => l
  | n + 1, l =>
    match (l.lane i).out with
    | [] => l
    | w :: ws =>
      match sendAllSides img l i w r.resultSides with
      | none => l
      | some l' => flushLane img i r n (l'.setLane i { l'.lane i with out := ws })

/-- LANE_FIRE: a lane first sends what is left of its result; with nothing left, it fires when every configured input holds a word and their tags are equal, and sends its result with the tag of operand A. `corrected` link errors are counted (R125). DEDUCED, unsafe (log entry 46). -/
def Dev.laneFire (d : Dev) (pc i corrected : Nat) : Dev :=
  let d := if d.domOn pc then d.count F.CELL_ARR_LINK_CORRECTED pc 0 corrected else d
  match d.dataflowRun pc with
  | none => d
  | some (l, img) =>
    let r := laneRec img i
    let l := flushLane img i r 4 l
    let x := l.lane i
    if !x.out.isEmpty then d.setRun pc img l
    else match laneOperands r x with
      | none => d.setRun pc img l
      | some ops =>
        if r.op = 0 || (ops.take r.needs).any Option.isNone then d.setRun pc img l
        else
          let ws := ops.filterMap id
          let ta := (ws.headD ⟨false, 0, 0⟩).tag
          match ws.find? (fun w => w.tag != ta) with
          | some w => d.protocolFault pc l 4 0xFF i ta w.tag
          | none =>
            let (x', out, st) := laneResult img r (LaneState.consume r x) ops
            let l := { l with ovf := l.ovf || (!out.isEmpty && bitOf st 1), under := l.under || (!out.isEmpty && bitOf st 0) }
            let l := flushLane img i r 4 (l.setLane i { x' with out := out })
            (d.arith pc st).setRun pc img l

/-- LANE_FIRE (R131). -/
def execLaneFire (pc : Slot) (strip : Fin 33) (lane : Fin 33) (linkCorrected : Nat) (s : State) : Host.Outcome State Fault Refusal :=
  s.run (fun d => d.laneFire pc (33 * strip.val + lane.val) linkCorrected)

/-! ## Steering units (R133 to R138) -/

/-- ROUTE of a token. -/
def AWord.route (w : AWord) : Nat := w.data.toNat % 16

/-- ANY of a token. -/
def AWord.any (w : AWord) : Bool := bitOf w.data.toNat 4

/-- A token is in order: reserved bits zero, and its route in use (R137). -/
def AWord.tokenOk (w : AWord) (r : SteerRec) : Bool :=
  w.data.toNat / 32 = 0 && (w.route = 15 || (r.routes.getD w.route 0) % 4 != 0)

/-- Both heads are present with different tags and ANY clear. -/
def UnitState.clash (u : UnitState) : Option (Nat × Nat) :=
  match u.data, u.tokens with
  | w :: _, t :: _ => if t.any || t.tag = w.tag then none else some (w.tag, t.tag)
  | _, _ => none

/-- The word that waits at the source of a unit's input, and the launch with it taken; a drain stops the input ports (R155). -/
def Dev.takeSource (d : Dev) (pc : Nat) (l : Launch) (token : Bool) : SteerSrc → Option (AWord × Launch)
  | .edge e => (SMap.find e l.edges).map (fun w => (w, { l with edges := SMap.erase e l.edges }))
  | .port p =>
    let n := l.moved p
    if l.drain.isSome || (l.desc.port p).words ≤ n then none
    else some (⟨token, n % 256, wOf (d.loadNat (l.portAddr pc p n) 8)⟩, l.advance p)

/-- A word is put at the end of a unit's buffer, with the checks of R137. -/
def Dev.acceptWord (d : Dev) (pc : Nat) (img : List Byte) (l : Launch) (u : Nat) (r : SteerRec) (token : Bool) (w : AWord) : Dev :=
  let x := l.unit u
  let dataTag := (x.data.headD ⟨false, 0, 0⟩).tag
  if w.token != token then d.protocolFault pc l 2 u 0 (if token then dataTag else w.tag) (if token then w.tag else 0)
  else if token && !w.tokenOk r then d.protocolFault pc l 3 u 0 dataTag w.tag
  else
    let x := if token then { x with tokens := x.tokens ++ [w] } else { x with data := x.data ++ [w] }
    let l := l.setUnit u x
    match (if r.mode = 2 then x.clash else none) with
    | some (ta, tb) => d.protocolFault pc l 1 u 0 ta tb
    | none => d.setRun pc img l

/-- STEER_INPUT_ARRIVAL: the word at a unit's input enters its buffer, or is refused while the buffer is full; a refusal with the other buffer empty is an imbalance stall (R134, R138). DEDUCED, unsafe (log entry 46). -/
def Dev.steerArrival (d : Dev) (pc u : Nat) (token : Bool) : Dev :=
  match d.dataflowRun pc with
  | none => d
  | some (l, img) =>
    let r := steerRec img u
    if r.mode = 0 || (token && r.mode != 2) then d
    else match steerSrc u (if token then r.tokenSrc else r.dataSrc) with
      | none => d
      | some src =>
        match d.takeSource pc l token src with
        | none => d
        | some (w, l') =>
          let x := l.unit u
          let full := if token then decide (r.tokenDepth ≤ x.tokens.length) else decide (r.dataDepth ≤ x.data.length)
          let other := if token then x.data.isEmpty else x.tokens.isEmpty
          if full then
            (if other && r.mode = 2 then (d.count F.CELL_ARR_IMBAL_UNIT pc (u + 1)).count F.CELL_ARR_IMBAL_STALL pc else d)
          else d.acceptWord pc img l' u r token w

/-- STEER_INPUT_ARRIVAL. -/
def execSteerInputArrival (pc : Slot) (unit : Fin 66) (token : Bool) (s : State) : Host.Outcome State Fault Refusal :=
  s.run (fun d => d.steerArrival pc unit token)

/-- End lane of a unit's own strip, and the side at which the unit enters it (R127). -/
def unitLane (u : Nat) : Nat × Nat := if u % 2 = 0 then (33 * (u / 2), 3) else (33 * (u / 2) + 32, 1)

/-- What sending a data word by a ROUTE entry does. -/
inductive SteerSend where
  /-- The launch after it. -/
  | done (l : Launch)
  /-- The destination refuses. -/
  | refused
  /-- An output port is offered more than its stream covers. -/
  | overrun
  /-- The launch after a word for an output port: port and position. -/
  | store (l : Launch) (addr : Nat)

/-- Sends a data word by a ROUTE entry (Table 04-4). -/
def steerSend (img : List Byte) (pc : Nat) (l : Launch) (u entry : Nat) (w : AWord) : SteerSend :=
  match entry % 4 with
  | 0 => .refused
  | 1 =>
    let e := unitLane u
    match enterLane img l e.1 e.2 w with
    | some l' => .done l'
    | none => .refused
  | 2 =>
    let p := bitsOf entry 6 4
    if (l.desc.port p).words ≤ l.moved p then .overrun else .store (l.advance p) (l.portAddr pc p (l.moved p))
  | _ => .done l

/-- STEER_FIRE: PASS sends the data head by ROUTE[0]; STEER pairs the heads and sends or drops the data word by the token (R135). -/
def Dev.steerFire (d : Dev) (pc u : Nat) : Dev :=
  match d.dataflowRun pc with
  | none => d
  | some (l, img) =>
    let r := steerRec img u
    let x := l.unit u
    let fire := fun (w : AWord) (entry : Nat) (after : UnitState) =>
      let fin := fun (d : Dev) (l : Launch) => match (if r.mode = 2 then after.clash else none) with
        | some (ta, tb) => d.protocolFault pc l 1 u 0 ta tb
        | none => d.setRun pc img l
      let l0 := l.setUnit u after
      match steerSend img pc l0 u entry w with
      | .done l' => fin d l'
      | .refused => d
      | .overrun => d.protocolFault pc l 5 u 0 w.tag 0
      | .store l' a => fin (d.storeNat a 8 w.data.toNat) l'
    match r.mode, x.data, x.tokens with
    | 1, w :: ws, _ => fire w (r.routes.getD 0 0) { x with data := ws }
    | 2, w :: ws, t :: ts =>
      if !t.any && t.tag != w.tag then d.protocolFault pc l 1 u 0 w.tag t.tag
      else if !t.tokenOk r then d.protocolFault pc l 3 u 0 w.tag t.tag
      else fire w (if t.route = 15 then 3 else r.routes.getD t.route 0) { x with data := ws, tokens := ts }
    | _, _, _ => d

/-- STEER_FIRE. -/
def execSteerFire (pc : Slot) (unit : Fin 66) (s : State) : Host.Outcome State Fault Refusal := s.run (fun d => d.steerFire pc unit)

/-- DATAFLOW_DEADLOCK: nothing of the running launch has moved for 4,096 unfrozen cycles (R158). -/
def Dev.dataflowDeadlock (d : Dev) (pc : Nat) : Dev :=
  match d.dataflowRun pc with
  | none => d
  | some (l, _) => if l.drain.isSome || d.isFrozen pc then d else d.protocolFault pc l 6 0xFF 0 0 0

/-- DATAFLOW_DEADLOCK. -/
def execDataflowDeadlock (pc : Slot) (s : State) : Host.Outcome State Fault Refusal := s.run (fun d => d.dataflowDeadlock pc)

end Sys2Proof.Machine
end

