-- ==== Sys2Proof/Machine/Resets.lean ====
section
/-! DEFINITION. The watchdogs of Owl and the resets of Slolis, of the OS complex, of a partition and of the device (R434 to R449). -/

namespace Sys2Proof.Machine

/-! ## Debug grants end (R468) -/

/-- The active grant ends for a reason: 1 expired, 2 revoked, 3 replaced, 4 Slolis reset. SEC_DEBUG returns to its reset value (Table 17-1). -/
def Dev.endGrant (d : Dev) (reason : Nat) : Dev :=
  if d.bit F.SEC_DEBUG_ACTIVE then
    (d.record 0x0215 reason 14 0 0 ((d.ns - d.mgmt.grantNs) / 1000000000)).setReg F.SEC_DEBUG.base 0 0 0
  else d

/-! ## Slolis (R439, R440, R442, R448) -/

/-- Heartbeat checking restarts from the present COUNT (R438). -/
def Dev.hbRestart (d : Dev) : Dev := d.modMgmt (fun m => { m with hbCount := d.get F.WDOG_OS_HB_COUNT, hbNs := d.ns })

/-- Slolis goes away: debug authorization, challenges, quotes and requests in hand are lost, PTP free-runs, and the power monitor writes SYS_REQ in its place (R440, R448, R455, R491). DEDUCED, unsafe (log entry 66). -/
def Dev.dropSlolis (d : Dev) : Dev :=
  let d := (d.endGrant 4).setSlolis false
  let d := d.modMgmt (fun m => { m with challenges := [], quotes := [], taken := [] })
  let d := (d.set F.MGMT_PTP_LOCKED 0).set F.DEV_PWR_STATUS_MONITOR 1
  (d.set (F.MGMT_LINK_PTP.nth 0) 0).set (F.MGMT_LINK_PTP.nth 1) 0

/-- A reset of Slolis alone; one in progress absorbs the request. -/
def Dev.startSlolisReset (d : Dev) (cause : Nat) : Dev :=
  if d.resetting 1 0 then d.count F.WDOG_RST_ABSORBED else (d.beginReset 1 0 cause).dropSlolis

/-- RST_SLOLIS: only the OS is permitted the unit; while STOPPED the request is refused and counted (R439, R441). -/
def execRstSlolis (m : Master) (s : State) : Host.Outcome State Fault Refusal :=
  s.run (fun d =>
    match m with
    | .slolis => d.dbgRefused .slolis 9 0 0x020
    | .os => if d.bit F.WDOG_SLOLIS_STOPPED then d.count F.WDOG_RST_ABSORBED else d.startSlolisReset 1)

/-- SLOLIS_KICK: the timer starts anew; writes by the OS are ignored (R439, Table 14-11). -/
def execSlolisKick (m : Master) (s : State) : Host.Outcome State Fault Refusal :=
  s.run (fun d => if m = .slolis && d.slolisUp then d.modMgmt (fun x => { x with kickNs := d.ns }) else d)

/-- SLOLIS_TIMER_EXPIRY: 500 ms without a kick reset Slolis; the fourth expiry within 10 minutes of PTP time stops it until a power cycle (R439). DEDUCED, unsafe (log entry 67). -/
def execSlolisTimerExpiry (s : State) : Host.Outcome State Fault Refusal :=
  s.run (fun d =>
    if !d.slolisUp || decide (d.ns < d.mgmt.kickNs + 500000000) then d
    else
      let es := d.mgmt.expiries.filter (fun t => decide (d.ptpNs < t + 600000000000)) ++ [d.ptpNs]
      let d := d.modMgmt (fun m => { m with expiries := es })
      let d := ((d.set F.WDOG_SLOLIS_EXPIRIES_N (min 255 es.length)).count F.WDOG_SLOLIS_EXPIRIES).record 0x0203 es.length 9 0 2
      if 4 ≤ es.length then (d.set F.WDOG_SLOLIS_STOPPED 1).dropSlolis else d.startSlolisReset 4)

/-! ## The OS complex (R438, R447) -/

/-- Engine queues that are enabled with PKIND OS. -/
def Dev.osQueues (d : Dev) : List (Nat × Nat) :=
  (d.regs.filter (fun e => e.1 / 2 ^ 24 % 2 ^ 8 == 4 && e.1 % 2 ^ 12 == 0x018)).filterMap (fun e =>
    let x := (e.1 / 2 ^ 12 % 2 ^ 12, e.1 / 2 ^ 32 - 1)
    if d.wqOn x.1 x.2 && d.get F.ENG_WQ_CFG_PKIND x.1 (x.2 + 1) = 1 then some x else none)

/-- A register that an OS complex reset returns to its reset value (Table 17-1): DEV_OSCH_* and DEV_OSEP_*, but for GEN, which a close has advanced (R227, R230); and class 0x0C, but for the link's own status. -/
def osReg (key : Nat) : Bool :=
  let cls := key / 2 ^ 24 % 2 ^ 8
  let off := key % 2 ^ 12
  (cls = 0 && 0x800 ≤ off && off < 0x8F8 && off != 0x818) || (cls = 12 && off != 0x808)

/-- What an OS complex reset clears (R447, Table 14-2). DEDUCED, unsafe (log entry 65). -/
def Dev.dropOs (d : Dev) : Dev :=
  let d := (List.range 256).foldl (fun d k => (d.closeChan .os k).2) d
  let d := d.osQueues.foldl (fun d x => (d.disableQueue x.1 x.2).2) d
  let d := { d with regs := d.regs.filter (fun e => !osReg e.1), osChans := [], osSeps := [], eths := [] }
  let d := (d.set F.MBOX_CFG_EN 0).clearM 4
  d.modMgmt (fun m => { m with taken := [], quotes := m.quotes.filter (fun q => q.mbox.isNone), hbOn := false })

/-- An OS complex reset starts: domain 584 is cycled and the loader is reloaded from the always-on copy (R447, R461). It ends at the OS's first heartbeat, or as FAILED at once when no loader may run. DEDUCED, unsafe (log entry 65). -/
def Dev.startOsReset (d : Dev) (cause : Nat) : Dev :=
  if d.resetting 2 0 then d.count F.WDOG_RST_ABSORBED
  else
    let d := (d.beginReset 2 0 cause).dropOs.setDom 584 false
    if d.mgmt.loaderOk then d.startLoader (d.bit F.SEC_STATUS_LDR_BANK) else d.endReset 2 0 1

/-- The cause of a reset that a master commands (Table 14-3). -/
def commandCause : Master → Nat
  | .os => 1
  | .slolis => 2

/-- RST_OS. -/
def execRstOs (m : Master) (s : State) : Host.Outcome State Fault Refusal :=
  s.run (fun d => if d.power.mainUp then d.startOsReset (commandCause m) else d)

/-- OS_HEARTBEAT_WRITE: COUNT advances and wraps; the first one starts the checking, and an OS's first one reports its loader ready and ends an OS complex reset (R438, R447, R461). -/
def execOsHeartbeatWrite (m : Master) (s : State) : Host.Outcome State Fault Refusal :=
  s.run (fun d =>
    let d := d.set F.WDOG_OS_HB_COUNT ((d.get F.WDOG_OS_HB_COUNT + 1) % 2 ^ 32)
    let d := if d.mgmt.hbOn then d else (d.modMgmt (fun x => { x with hbOn := true })).hbRestart
    match m with
    | .slolis => d
    | .os => d.loaderReady.endReset 2 0 0)

/-- A partition or device reset is in progress. -/
def Dev.computeResetting (d : Dev) : Bool := d.resets.any (fun r => decide (3 ≤ r.unit))

/-- OS_HB_CHECK: a COUNT that has not changed for HB_MS is recorded, and with ACTION RESET the OS complex is reset; checking pauses during a partition or device reset (R438). DEDUCED, unsafe (log entry 67). -/
def execOsHbCheck (s : State) : Host.Outcome State Fault Refusal :=
  s.run (fun d =>
    let count := d.get F.WDOG_OS_HB_COUNT
    let ms := (d.ns - d.mgmt.hbNs) / 1000000
    if !d.slolisUp || !d.bit F.WDOG_OS_CFG_EN || !d.mgmt.hbOn then d
    else if d.computeResetting || count ≠ d.mgmt.hbCount then d.hbRestart
    else if ms < d.get F.WDOG_OS_CFG_HB_MS then d
    else
      let act := d.get F.WDOG_OS_CFG_ACTION
      let d := ((d.record 0x0202 act 9 0 2 count ms).count F.WDOG_OS_MISSES).hbRestart
      if act = 1 then d.startOsReset 3 else d)

/-! ## Partition reset (R444, Table 14-4) -/

/-- The partition of a register of its reset unit (R52, Table 17-1). -/
def regPart (key : Nat) : Option Nat :=
  let inst := key / 2 ^ 12 % 2 ^ 12
  match key / 2 ^ 24 % 2 ^ 8 with
  | 2 => if key % 2 ^ 12 < 0x900 then some (inst / 68) else none
  | 3 => some (inst / 2)
  | 5 => some (inst / 4)
  | _ => none

/-- The island lies in the reset unit of a partition. -/
def islandPart : Island → Option Nat
  | .cell pc => some (pc.val / 68)
  | .hub h => some (h.val / 2)
  | .phy g => some g.val
  | _ => none

/-- A snapshot or restore in progress fails for the reset of a partition (Table 13-9). -/
def Dev.stopSnapshots (d : Dev) : Dev :=
  match d.snapState with
  | 2 => d.failSnap 3 0 true
  | 3 => d.failSnap 3 0 true
  | 4 => d.failRestore 3 (d.reg F.SNAP_RESTORE_SEL.base)
  | 5 => d.failRestore 3 (d.reg F.SNAP_RESTORE_SEL.base)
  | _ => d

/-- What the reset of partition p clears: cells, slices and their registers, commons, engines and channels' registers; windows close, and migrations, tests and suspects of the partition are dropped (R188, R243, R280, R440, R444). -/
def Dev.dropPartition (d : Dev) (p : Nat) : Dev :=
  let d := d.stopSnapshots.closePartWindows p
  let d := (d.migrations.filter (fun m => m.src / 68 = p)).foldl Dev.dropMigration d
  let d := (List.range 32).foldl (fun d e => d.dropEngine (32 * p + e)) d
  let d := (d.zeroMem (sliceBase (68 * p)) (68 * 2 ^ 24)).zeroMem (0x100200000000 + 2 * p * 2 ^ 25) (2 ^ 26)
  let d := (List.range 2).foldl (fun d r =>
    (d.set F.BADGER_ROW_STATE_TEST_PC 0x3FF (1 + 2 * p + r)).set F.BADGER_ROW_STATE_TEST_STEP 0 (1 + 2 * p + r)) d
  { d with
    regs := d.regs.filter (fun e => regPart e.1 != some p), cells := d.cells.filter (fun e => e.1 / 68 != p),
    suspects := d.suspects.filter (fun lc => lc / 64 != p),
    slots := d.slots.map (fun e => if e.1 / 68 = p then (e.1, e.2.kept) else e),
    farTries := d.farTries.filter (fun e => e.1 / 4 != p), bandOut := d.bandOut.filter (fun i => islandPart i != some p) }

/-- The partition's domains are cycled (Table 14-4, step 3): slots that are not fenced wait for first light, and the four channels train. -/
def Dev.startPartition (d : Dev) (p : Nat) : Dev :=
  let d := (partSlots p).foldl (fun d pc =>
    let fenced := d.mapFenced pc || d.fencePending.any (fun f => f.1 = pc)
    (d.setDom pc (d.domEnabled pc)).setSlotState pc (if fenced then 5 else 3)) d
  let d := ((d.setDom (544 + 2 * p) true).setDom (545 + 2 * p) true).setDom (572 + p) true
  (List.range 4).foldl (fun d c => d.set F.FAR_STATUS_STATE 1 (4 * p + c)) d

/-- CHAN_EPOCH advances (R230). -/
def Dev.bumpChanEpoch (d : Dev) : Dev := d.set F.DEV_CHAN_EPOCH_EPOCH (d.get F.DEV_CHAN_EPOCH_EPOCH + 1)

/-- A partition reset starts, up to the ends of first light and training (R442, R444): a reset in progress that contains the partition absorbs the request. DEDUCED, unsafe (log entry 64). -/
def Dev.startPartReset (d : Dev) (p cause : Nat) : Dev :=
  if d.deviceResetting || d.partResetting p then d.count F.WDOG_RST_ABSORBED
  else
    let d := (d.beginReset 3 p cause).raiseHold 9
    ((d.bumpMapGen p).bumpChanEpoch.dropPartition p).startPartition p

/-- RST_PARTITION. -/
def execRstPartition (m : Master) (p : Part) (s : State) : Host.Outcome State Fault Refusal :=
  s.run (fun d => if d.power.mainUp then d.startPartReset p (commandCause m) else d)

/-- Channels of a list of slots take the GEN of R230. DEDUCED, unsafe (log entry 64). -/
def Dev.epochGens (d : Dev) (slots : List Nat) : Dev :=
  let g := d.get F.DEV_CHAN_EPOCH_EPOCH * 2 ^ 24
  slots.foldl (fun d pc => (List.range 64).foldl (fun d k => d.set F.CELL_CHAN_GEN_GEN g pc (k + 1)) d) d

/-- A channel's training has ended. -/
def Dev.trained (d : Dev) (m : Nat) : Bool := d.get F.FAR_STATUS_STATE m = 2 || d.get F.FAR_STATUS_STATE m = 3

/-- Slolis can go on with a reset: it runs, or is STOPPED. -/
def Dev.resetGoes (d : Dev) : Bool := d.slolisUp || d.bit F.WDOG_SLOLIS_STOPPED

/-- PARTITION_RESET_DONE: with first light and training ended, engines self-test, channels take their GEN, PART_MAP_GEN turns even and the reset ends, as FAILED when a channel of the partition is (R444, R445, Table 14-4). -/
def execPartitionResetDone (p : Part) (s : State) : Host.Outcome State Fault Refusal :=
  s.run (fun d =>
    let chans := (List.range 4).map (fun c => 4 * p.val + c)
    if !d.partResetting p || !d.resetGoes || (partSlots p).any (fun pc => d.slotState pc = 3) || !chans.all d.trained then d
    else
      let d := d.engineTests ((List.range 32).map (fun e => 32 * p.val + e))
      let d := d.epochGens ((partSlots p).filter (fun pc => (d.hosted pc).isSome))
      let d := d.bumpMapGen p
      (d.endReset 3 p (b2n (chans.any (fun m => d.get F.FAR_STATUS_STATE m = 3)))).hbRestart)

/-! ## Device reset (R446) -/

/-- RST_DEVICE. -/
def execRstDevice (m : Master) (s : State) : Host.Outcome State Fault Refusal :=
  s.run (fun d => if d.power.mainUp then d.startDeviceReset (commandCause m) else d)

/-- OS channels take the GEN of R230. -/
def Dev.epochOsGens (d : Dev) : Dev :=
  let g := d.get F.DEV_CHAN_EPOCH_EPOCH * 2 ^ 24
  (List.range 256).foldl (fun d k => d.set F.DEV_OSCH_GEN_GEN g 0 (k + 1)) d

/-- DEVICE_RESET_DONE: with first light and training ended, engines self-test, channels take their GEN, units issue again, the OS complex has its second reset interrupt, and the fabric manager hears that the device is ready (R446, Table 14-5). -/
def execDeviceResetDone (s : State) : Host.Outcome State Fault Refusal :=
  s.run (fun d =>
    if !d.deviceResetting || !d.resetGoes || !d.bit F.BADGER_STATUS_FIRST_LIGHT || !d.allTrained then d
    else
      let d := d.engineTests (List.range 256)
      let d := (d.epochGens ((List.range 544).filter (fun pc => (d.hosted pc).isSome))).epochOsGens
      let d := { d with halted := false }.endReset 4 0 (b2n (!d.failedChannels.isEmpty))
      let d := d.emit (.notice 4 [2] [])
      (if d.slolisUp then d.emit (.notice 6 [d.deviceId] []) else d).hbRestart)

/-- RESET_ESCALATE: a partition reset that has not completed within 5 s becomes a device reset (R442). -/
def execResetEscalate (s : State) : Host.Outcome State Fault Refusal :=
  s.run (fun d => if d.resets.any (fun r => r.unit = 3) then d.startDeviceReset 7 else d)

/-! ## Powering the domains (R483, Table 16-3) -/

/-- Slolis powers the domains after a rise of MAIN_PWRGD: registers outside the always-on domain return to their reset values, first light and training begin, and with a main power-up after the first the epochs advance. -/
def Dev.powerDomains (d : Dev) : Dev :=
  let d := if 2 ≤ d.get F.SEC_STATUS_STAGE then d.bumpEpochs else d
  let d := d.cycleDevice.setStage 2
  { d with power := { d.power with reqP := 16, reqT := 16, sameP := 0, sameT := 0, lowP := 0, lowT := 0, powers := [], maxMs := 0 } }

/-! ## The reply endpoint (R469) -/

/-- Slolis binds its reply endpoint, which stands as endpoint 256 of the OS complex's, to REPLY_CHAN. -/
def Dev.mboxBind (d : Dev) : Dev :=
  let d := d.setReg F.DEV_OSEP_TARGET.base 0 257 (d.deviceId * 2 ^ 46 + d.get F.MBOX_CFG_REPLY_CHAN * 2 ^ 29)
  ((d.unbindSep .os 256).bindSep .os 256).2

/-! ## Slolis is back (R442, R448, R461, R463, R491) -/

/-- Partition and device resets in progress start again from their step 3. -/
def Dev.restartResets (d : Dev) : Dev :=
  if d.deviceResetting then d.cycleDevice
  else (d.resets.filter (fun r => r.unit = 3)).foldl (fun d r => (d.dropPartition r.part).startPartition r.part) d

/-- Fences that waited for Slolis: domains are switched off and entries written. DEDUCED, unsafe (log entry 66). -/
def Dev.doFences (d : Dev) : Dev :=
  d.fencePending.foldl (fun (d : Dev) f => if d.slotState f.1 = 5 then d.fenceBySlolis f.1 f.2 else d) { d with fencePending := [] }

/-- SLOLIS_RESTART_DONE: its firmware is measured again, its reset ends, what waited for it is done, and it takes req_p and req_t from SYS_REQ. -/
def execSlolisRestartDone (s : State) : Host.Outcome State Fault Refusal :=
  s.run (fun d =>
    if d.slolisUp || !d.resetting 1 0 then d
    else
      let d := (d.setSlolis true).measureBank 0 (fwBank d.mgmt.flash (d.bit F.SEC_STATUS_FW_BANK))
      let r := d.get F.SCHED_STRETCH_SYS_REQ
      let d := { d with power := { d.power with reqP := r, reqT := r, sameP := 0, sameT := 0, lowP := 0, lowT := 0 } }
      let d := ((d.set F.DEV_PWR_STATUS_MONITOR 0).endReset 1 0 0).hbRestart.restartResets.doFences
      let d := if d.bit F.MBOX_CFG_EN && d.sepState .os 256 = 0 then d.mboxBind else d
      if d.resetWaits then d.startDeviceReset 5
      else if d.power.mainUp && d.power.rising && !d.domOn 544 then d.powerDomains
      else d.startPowerUp)

/-! ## Contexts (R434, R435) -/

/-- PROGRESS_TIMEOUT: a RUNNING context that commits nothing for PROG_BEATS faults with PROGRESS; frozen contexts do not count. -/
def execProgressTimeout (pc : Slot) (c : Ctx) (s : State) : Host.Outcome State Fault Refusal :=
  s.run (fun d =>
    if !d.domOn pc || d.isFrozen pc || (d.ctx pc c).phase ≠ .running || d.get F.WDOG_CFG_PROG_BEATS = 0 then d
    else (d.count F.WDOG_PROGRESS_FAULTS).fault pc c 0x0D)

/-- The WAIT code of Table 03-12. -/
def Wait.code : Wait → Nat
  | .counter _ _ => 0
  | .credit _ _ _ => 1
  | .receive _ => 2
  | .queue _ _ => 3
  | .launchEnd _ => 4
  | .plane => 5

/-- PARK_LONG_TIMEOUT: a context PARKED for at least PARK_BEATS beats without a break is recorded. -/
def execParkLongTimeout (pc : Slot) (c : Ctx) (beats : Nat) (s : State) : Host.Outcome State Fault Refusal :=
  s.run (fun d =>
    let x := d.ctx pc c
    let limit := d.get F.WDOG_CFG_PARK_BEATS
    if !d.domOn pc || d.isFrozen pc || x.phase ≠ .parked || limit = 0 || beats < limit then d
    else
      let name := ctxName d.deviceId ((d.hosted pc).getD 0) c x.pc.toNat
      (d.count F.WDOG_PARK_LONG).recordCtx 0x0206 c 2 pc 0 name ((x.wait.map Wait.code).getD 0) beats)

end Sys2Proof.Machine
end

