-- ==== Sys2Proof/Machine/Far.lean ====
section
/-! DEFINITION. Scrubbing and repair of far memory and commons, the failure of a channel in service, and the shares of the class schedulers (R274, R277 to R279, R441). -/

namespace Sys2Proof.Machine

/-! ## Scrubbers (R274, R278) -/

/-- The far-memory address of a channel's local granule: the inverse of the interleave of R274. -/
def farAddress (ch granule : Nat) : Nat :=
  let low := (List.range 5).foldl (fun m i => m ^^^ (granule / 2 ^ (5 * i) % 32)) ch
  (granule * 32 + low) * 4096

/-- The next line of a scrubber with n lines, and the device with the scrubber moved on. DEDUCED, unsafe (log entry 49). -/
def Dev.nextScrub (d : Dev) (k n : Nat) : Nat × Dev :=
  let l := SMap.read 0 d.scrubAt k % n
  (l, { d with scrubAt := SMap.write 0 d.scrubAt k ((l + 1) % n) })

/-- The words of a line with the errors met, by their place in the line. -/
def lineUpsets (u : Upsets) : Upsets := u.map (fun e => (e.1 % 8, e.2))

/-- FAR_SCRUB_READ: the scrubber of a READY channel reads its next line for its hub; with HOURS 0 it stands still. DEDUCED, unsafe (log entry 49). -/
def execFarScrubRead (ch : Fin 32) (u : Upsets) (s : State) : Host.Outcome State Fault Refusal :=
  s.run (fun d =>
    let n := 64 * d.get F.FAR_INFO_GRANULES ch
    if d.get F.DEV_FAR_SCRUB_HOURS = 0 || d.get F.FAR_STATUS_STATE ch ≠ 2 || n = 0 then d
    else
      let (l, d) := d.nextScrub ch n
      let d := if l + 1 = n then d.count F.FAR_SCRUB_PASSES ch else d
      (d.checkWords (farAddress ch (l / 64) + l % 64 * 64) (544 + ch / 2) (lineUpsets u)).1)

/-- Lines of a hub's commons. -/
def commonsLines : Nat := 2 ^ 19

/-- COMMONS_SCRUB: the scrubber of a powered hub reads the next line of its commons. -/
def execCommonsScrub (h : HubId) (u : Upsets) (s : State) : Host.Outcome State Fault Refusal :=
  s.run (fun d =>
    if !d.domOn (544 + h) then d
    else
      let (l, d) := d.nextScrub (32 + h) commonsLines
      let d := if l + 1 = commonsLines then d.count F.HUB_SCRUB_PASSES h else d
      (d.checkWords (0x100200000000 + h * 2 ^ 25 + l * 64) (544 + h) (lineUpsets u)).1)

/-! ## Repair and failure (R279, R441) -/

/-- FAR_SPPR_REPAIR: a marked row of a READY channel is repaired within a maintenance window. -/
def execFarSpprRepair (ch : Fin 32) (row : Nat) (bank : Nat) (s : State) : Host.Outcome State Fault Refusal :=
  s.run (fun d =>
    if d.inWindow && d.get F.FAR_STATUS_STATE ch = 2 && d.spprMarks.contains (ch.val, bank, row) then d.repairRow ch bank row else d)

/-- FAR_CHANNEL_FAIL: a channel that leaves READY in service starts the reset of its partition with cause CHANNEL. -/
def execFarChannelFail (ch : Fin 32) (s : State) : Host.Outcome State Fault Refusal :=
  s.run (fun d =>
    let st := d.get F.FAR_STATUS_STATE ch
    if st = 2 || st = 4 then d.startPartReset (ch / 4) 6 else d)

/-! ## Shares (R277, Table 08-9) -/

/-- The shares of a value are percentages that do not exceed 100 in sum. DEDUCED, unsafe (log entry 51). -/
def sharesOk (v : Nat) : Bool :=
  let s := bitsOf v 7 0
  let u := bitsOf v 15 8
  let o := bitsOf v 23 16
  decide (s ≤ 100) && decide (u ≤ 100) && decide (o ≤ 100) && decide (s + u + o ≤ 100)

/-- FAR_SHARE_WRITE: shares that exceed 100 are ignored and set ERR. DEDUCED, unsafe (log entry 51). -/
def execFarShareWrite (m : Master) (v : Word) (s : State) : Host.Outcome State Fault Refusal :=
  s.runMain (fun d =>
    if sharesOk v.toNat then d.writePlain m false 0 0 0x210 v.toNat
    else d.set F.DEV_FAR_SHARE_ERR 1)

end Sys2Proof.Machine
end

