-- ==== Sys2Proof/Machine/Power.lean ====
section
/-! DEFINITION. Clock bands, power domains, main power, and the power and thermal loop (R49, R51, R480 to R494). -/

namespace Sys2Proof.Machine

/-! ## Clock bands (R49) -/

/-- Class and instance of the block of an island, for its record; islands without registers of their own report as the device. -/
def islandBlock : Island → Nat × Nat
  | .cell pc => (2, pc)
  | .router pc => (2, pc)
  | .hub h => (3, h)
  | .port n => (6, n)
  | .phy g => (5, 4 * g.val)
  | .osComplex => (0, 0)
  | .pcie g => (11, 2 * g.val)
  | .eth n => (12, n)
  | .alwaysOn => (0, 0)

/-- The island has power: its domain is on; routers have the mesh supply. -/
def Dev.islandOn (d : Dev) : Island → Bool
  | .cell pc => d.domOn pc
  | .router _ => d.power.mainUp
  | .hub h => d.domOn (544 + h)
  | .port n => d.domOn (560 + n)
  | .phy g => d.domOn (572 + g)
  | .osComplex => d.domOn 584
  | .pcie g => d.domOn (582 + g)
  | .eth n => d.domOn (580 + n)
  | .alwaysOn => d.power.aonUp

/-- CLOCK_BAND_EXIT: the island withholds its handshakes, the exit is recorded, and a cell becomes a suspect. DEDUCED, unsafe (log entry 77). -/
def execClockBandExit (i : Island) (kHz : Nat) (s : State) : Host.Outcome State Fault Refusal :=
  s.run (fun d =>
    if !d.islandOn i || d.islandOut i then d
    else
      let d := { d with bandOut := d.bandOut ++ [i] }.record 0x0190 0 (islandBlock i).1 (islandBlock i).2 2 kHz
      match i with
      | .cell pc => d.suspectSlot pc
      | _ => d)

/-- CLOCK_BAND_RETURN: the island resumes its handshakes. DEDUCED, unsafe (log entry 77). -/
def execClockBandReturn (i : Island) (s : State) : Host.Outcome State Fault Refusal :=
  s.run (fun d => { d with bandOut := d.bandOut.filter (fun x => x != i) })

/-! ## Domains (R51) -/

/-- An open window lies in a class of places. -/
def Dev.windowIn (d : Dev) (p : Nat → Bool) : Bool := d.wins.any (fun e => e.2.isOpen && p (bitsOf e.2.d0 47 0))

/-- An OS channel is open. -/
def Dev.osChanOpen (d : Dev) : Bool := (List.range 256).any (fun k => d.chanOpen .os k)

/-- A domain holds a logical cell, an open channel, an open remote window or queued work, by what the domain contains (Table 01-9). -/
def Dev.domBusy (d : Dev) (dom : Nat) : Bool :=
  if dom < 544 then (d.hosted dom).isSome || d.slotState dom = 4
  else if dom < 560 then
    let h := dom - 544
    d.windowIn (fun a => 0x100200000000 + h * 2 ^ 25 ≤ a && a < 0x100200000000 + (h + 1) * 2 ^ 25) ||
    (List.range 16).any (fun k => !(d.eng (16 * h + k)).items.isEmpty ||
      (List.range 64).any (fun q => d.wqOn (16 * h + k) q && d.pendingOf (16 * h + k) q != 0))
  else if dom < 572 then !(d.link (dom - 560)).replay.isEmpty
  else if dom < 580 then d.windowIn (fun a => a < 0x100000000000) || d.osChanOpen
  else if dom < 582 then (SMap.read EthState.reset d.eths (dom - 580)).queues.any (fun q => q.2.ready)
  else if dom < 584 then d.snap.reqs.any (fun r => d.get (F.SNAP_DRIVE_LINK_PORT.nth r.drive 32) / 2 = dom - 582)
  else d.osChanOpen

/-- The switched domain, other than a cell's, that holds a register (R497). -/
def regDomain (key : Nat) : Option Nat :=
  let inst := key / 2 ^ 12 % 2 ^ 12
  match key / 2 ^ 24 % 2 ^ 8 with
  | 3 => some (544 + inst)
  | 4 => some (544 + inst / 16)
  | 5 => some (572 + inst / 4)
  | 6 => some (560 + inst)
  | 11 => some (582 + inst / 2)
  | 12 => some (580 + inst)
  | _ => none

/-- A domain that is off loses what it held, its registers' values among it; a port, a PHY group's channels and the OS complex stop. DESIGN CHOICE, unsafe (log entry 50). -/
def Dev.domainOff (d : Dev) (dom : Nat) : Dev :=
  if dom < 544 then d.cellOff dom
  else
    let d := d.setDom dom false
    let d := { d with regs := d.regs.filterMap (fun e => if regDomain e.1 = some dom then resetReg e else some e) }
    if dom < 560 then
      let h := dom - 544
      let d := (List.range 16).foldl (fun d k => d.dropEngine (16 * h + k)) d
      d.zeroMem (0x100200000000 + h * 2 ^ 25) (2 ^ 25)
    else if dom < 572 then ((d.dropLink (dom - 560)).setPortState (dom - 560) 0).modLink (dom - 560) (fun _ => LinkState.reset)
    else if dom < 580 then (List.range 4).foldl (fun d c => d.set F.FAR_STATUS_STATE 0 (4 * (dom - 572) + c)) d
    else if dom < 582 then { d with eths := SMap.erase (dom - 580) d.eths }
    else if dom < 584 then { d with pcieCfg := d.pcieCfg.filter (fun e => e.1 / 2 ^ 17 != dom - 582) }
    else d

/-- A domain comes on: an enabled port and a PHY group's channels start to train, and the OS complex starts its loader. -/
def Dev.domainOn (d : Dev) (dom : Nat) : Dev :=
  if dom = 584 then (if d.mgmt.loaderOk then d.startLoader (d.bit F.SEC_STATUS_LDR_BANK) else d)
  else
    let d := d.setDom dom true
    if 560 ≤ dom && dom < 572 then (if d.bit F.TL_CFG_EN (dom - 560) then d.startTraining (dom - 560) else d)
    else if 572 ≤ dom && dom < 580 then (List.range 4).foldl (fun d c => d.set F.FAR_STATUS_STATE 1 (4 * (dom - 572) + c)) d
    else d

/-- Slolis switches a domain on, unless it is on, fenced or disabled: whether it is on, and the device. -/
def Dev.switchOn (d : Dev) (dom : Nat) : Bool × Dev :=
  if d.domOn dom then (true, d)
  else if !d.power.mainUp || (dom != 584 && !d.domEnabled dom) || (dom < 544 && d.slotState dom = 5) then (false, d)
  else
    let d := d.domainOn dom
    (d.domOn dom, d)

/-- Slolis switches a domain off, or refuses with a record: whether it is off, and the device. DESIGN CHOICE, unsafe (log entry 50). -/
def Dev.switchOff (d : Dev) (dom : Nat) : Bool × Dev :=
  if !d.domOn dom then (true, d)
  else if d.domBusy dom then (false, d.record 0x0191 dom 0 0 0)
  else (true, d.domainOff dom)

/-- DOMAIN_SWITCH_ON: requests wait while Slolis is away (R448). -/
def execDomainSwitchOn (dom : Fin 585) (s : State) : Host.Outcome State Fault Refusal :=
  s.run (fun d => if d.slolisUp then (d.switchOn dom).2 else d)

/-- DOMAIN_SWITCH_OFF. -/
def execDomainSwitchOff (dom : Fin 585) (s : State) : Host.Outcome State Fault Refusal :=
  s.run (fun d => if d.slolisUp then (d.switchOff dom).2 else d)

/-- A cell slot's domain turns off by itself (R481): a logical cell that it hosted is rehosted without a copy, a migration into it is aborted, and the slot is tested as after a suspect once its domain is on again. -/
def Dev.cellPowerLost (d : Dev) (pc : Nat) (outOfRegulation : Bool) : Dev :=
  let why := if outOfRegulation then 2 else 1
  let d := match d.migrations.find? (fun m => m.dst = pc) with
    | some m => d.abortMigration m
    | none => d
  match d.hosted pc with
  | some lc =>
    let d := (d.rehost pc lc).cellOff pc
    d.record 0x0225 lc 0 0 3 pc why ((d.hostOf lc).getD 0x3FF)
  | none => ((if d.slotState pc = 5 then d else d.startTest pc true).cellOff pc).record 0x0225 0x3FF 0 0 2 pc why 0x3FF

/-- DOMAIN_REGULATOR_FAULT: a cell slot is handled by R481; the loss of any other domain starts a device reset with cause DOMAIN_POWER (R480). DEDUCED, unsafe (log entry 75). -/
def execDomainRegulatorFault (dom : Fin 585) (outOfRegulation : Bool) (s : State) : Host.Outcome State Fault Refusal :=
  s.run (fun d =>
    if !d.domOn dom then d
    else if dom.val < 544 then d.cellPowerLost dom outOfRegulation
    else ((d.domainOff dom).record 0x0223 3 0 0 2 dom).startDeviceReset 8)

/-! ## Main power (R483 to R488, R493) -/

/-- MAIN_PWRGD_RISE: main power is in regulation, and Slolis powers the domains in order. DEDUCED, unsafe (log entry 75). -/
def execMainPwrgdRise (s : State) : Host.Outcome State Fault Refusal :=
  s.run (fun d =>
    if d.power.mainEn && !d.power.mainUp then
      let d := { d with power := { d.power with mainUp := true } }
      if d.slolisUp then d.powerDomains else d
    else d)

/-- MAIN_PWRGD_TIMEOUT: MAIN_EN is lowered and the attempt recorded; after the second, main power stays off until a power cycle (R485). -/
def execMainPwrgdTimeout (s : State) : Host.Outcome State Fault Refusal :=
  s.run (fun d =>
    if !d.power.mainEn || d.power.mainUp || !d.slolisUp then d
    else
      let n := d.power.attempts + 1
      let p := { d.power with mainEn := false, attempts := n, rising := decide (n < 2), dead := decide (2 ≤ n) }
      { d with power := p }.record 0x0223 1 0 0 2 n)

/-- MAIN_POWER_RETRY: MAIN_EN rises again, after a timeout, or 1 s after a loss, at most three times in 10 minutes of PTP time (R485, R488). -/
def execMainPowerRetry (s : State) : Host.Outcome State Fault Refusal :=
  s.run (fun d =>
    let p := d.power
    if !d.slolisUp || !p.rising || p.mainEn || p.dead || p.offReq then d
    else if p.attempts ≠ 0 then { d with power := { p with mainEn := true } }
    else
      let recent := p.retries.filter (fun t => decide (d.ptpNs < t + 600000000000))
      if 3 ≤ recent.length then { d with power := { p with rising := false, dead := true, retries := recent } }
      else { d with power := { p with mainEn := true, retries := recent ++ [d.ptpNs] } })

/-- MAIN_POWER_LOSS: every switched domain and the mesh supply are lost at once, with a FATAL record, and a main power-up is due (R488). -/
def execMainPowerLoss (s : State) : Host.Outcome State Fault Refusal :=
  s.run (fun d =>
    if d.power.mainEn && d.power.mainUp then
      let d := (d.record 0x0223 2 0 0 4 d.power.attempts).losePower
      { d with power := { d.power with rising := true, attempts := 0 } }
    else d)

/-- OFF_REQUEST: OFF_REQ_N is low; it is sampled while main power is up and no main power-up is in progress (R486), and has no effect after a thermal trip (R493). -/
def execOffRequest (s : State) : Host.Outcome State Fault Refusal :=
  s.run (fun d =>
    if !d.power.aonUp then d
    else
      let d := { d with power := { d.power with offReq := true } }
      if d.power.mainUp && !d.power.rising && d.power.offNs.isNone then d.offBegins else d)

/-- OFF_ACK: a write of DEV_PWR_CTL.OFF_ACK by either master ends the grace. -/
def execOffAck (_m : Master) (s : State) : Host.Outcome State Fault Refusal := s.run Dev.powerDown

/-- OFF_GRACE_TIMEOUT: OFF_GRACE_MS has passed. -/
def execOffGraceTimeout (s : State) : Host.Outcome State Fault Refusal := s.run Dev.powerDown

/-- OFF_RELEASE: OFF_REQ_N is high, and Slolis starts a main power-up (R487). -/
def execOffRelease (s : State) : Host.Outcome State Fault Refusal :=
  s.run (fun d => Dev.startPowerUp { d with power := { d.power with offReq := false } })

/-- THERMAL_TRIP: everything but the always-on domain is off until a power cycle (R493). -/
def execThermalTrip (tempC : Int) (domain : Nat) (s : State) : Host.Outcome State Fault Refusal :=
  s.run (fun d =>
    if tempC < 110 || !d.power.aonUp || d.power.tripped then d
    else
      let d := (d.record 0x0222 0 0 0 4 tempC.toNat domain).losePower
      { d with power := { d.power with tripped := true, dead := true } })

/-- ALWAYS_ON_POWER_OFF: a power cycle removes the always-on rails; every state is lost but that of the drives (R483). -/
def execAlwaysOnPowerOff (s : State) : Host.Outcome State Fault Refusal := s.run Dev.unpowered

/-! ## The power and thermal loop (R489 to R494) -/

/-- A signed byte as its bits. -/
def byteOf (x : Int) : Nat := (BitVec.ofInt 8 x).toNat

/-- TJ_MAX. -/
def Dev.tjMax (d : Dev) : Int := (BitVec.ofNat 8 (d.get F.DEV_PWR_STATUS_TJ_MAX)).toInt

/-- TJ_MAX as a record carries it. -/
def Dev.tjWord (d : Dev) : Nat := (BitVec.ofInt 64 d.tjMax).toNat

/-- SYS_REQ takes a value: a change is recorded with its cause of Table 16-6 and sent to the marker parent (R323, R490). -/
def Dev.setSysReq (d : Dev) (v why : Nat) : Dev :=
  if d.get F.SCHED_STRETCH_SYS_REQ = v then d
  else ((d.set F.SCHED_STRETCH_SYS_REQ v).record 0x0220 why 0 0 0 v d.tjWord (d.get F.DEV_PWR_STATUS_PKG_W)).requestChanged

/-- POWER_MONITOR_SAMPLE: readings are published; while Slolis is away the monitor writes 64 into SYS_REQ when a limit is exceeded (R482, R489, R491). -/
def execPowerMonitorSample (r : SensorSample) (s : State) : Host.Outcome State Fault Refusal :=
  s.run (fun d =>
    if !d.power.aonUp then d
    else
      let d := ((d.set F.DEV_PWR_STATUS_THROT_IN (b2n r.throtLow)).set F.DEV_PWR_STATUS_TJ_MAX (byteOf r.tjMax)).set F.DEV_PWR_STATUS_TJ_SRC r.tjSrc.toNat
      let d := (d.set F.DEV_PWR_STATUS_PKG_AVG_W (min 65535 r.pkgAvgW)).set F.DEV_PWR_STATUS_PKG_W (min 65535 r.pkgW)
      let d := { d with power := { d.power with sensors := r.sensors.foldl (fun m e => SMap.write 0 m e.1 (byteOf e.2)) d.power.sensors } }
      let hot := decide ((d.get F.DEV_PWR_CFG_T_CTL : Int) ≤ r.tjMax) || decide (d.get F.DEV_PWR_CFG_TDP_W < r.pkgW) || r.throtLow
      if d.bit F.DEV_PWR_STATUS_MONITOR && d.power.mainUp && hot then d.setSysReq 64 4 else d)

/-- P10 times 10 once S has held its value for 10 ms; none before. -/
def Power.p10 (p : Power) : Option Nat := if p.powers.length = 10 then some (p.powers.foldl (fun a b => a + b) 0) else none

/-- The 1 ms rule for req_p: `w` is PKG_W, `cur` S, `peak` and `tdp` the limits. DEDUCED, unsafe (log entry 76). -/
def Power.powerRule (p : Power) (w cur peak tdp : Nat) : Power :=
  let p := { p with powers := if cur = p.lastS then (w :: p.powers).take 10 else [w], lastS := cur }
  let p := { p with lowP := match p.p10 with
    | some sum => if sum * 100 ≤ 950 * tdp then p.lowP + 1 else 0
    | none => 0 }
  let r :=
    if peak < w then 64
    else match p.p10 with
      | some sum =>
        if 10 * tdp < sum then max p.reqP (min 64 (ceilDiv (cur * sum) (10 * tdp)))
        else if 100 ≤ p.lowP && 100 ≤ p.sameP then max 16 (p.reqP - 1)
        else p.reqP
      | none => p.reqP
  { p with reqP := r, sameP := if r = p.reqP then p.sameP + 1 else 0 }

/-- The rule for req_t, applied every 10 ms. DEDUCED, unsafe (log entry 76). -/
def Power.thermalRule (p : Power) (tj ctl : Int) : Power :=
  let p := { p with ms := p.ms + 1, lowT := if tj ≤ ctl - 5 then p.lowT + 1 else 0 }
  let r :=
    if p.ms % 10 ≠ 0 then p.reqT
    else if ctl ≤ tj then min 64 (p.reqT + 1)
    else if 100 ≤ p.lowT && 100 ≤ p.sameT then max 16 (p.reqT - 1)
    else p.reqT
  { p with reqT := r, sameT := if r = p.reqT then p.sameT + 1 else 0 }

/-- STRETCH_CONTROL: one round of R490. -/
def execStretchControl (s : State) : Host.Outcome State Fault Refusal :=
  s.run (fun d =>
    if !d.slolisUp || !d.power.mainUp then d
    else
      let w := d.get F.DEV_PWR_STATUS_PKG_W
      let peak := d.get F.DEV_PWR_CFG_PEAK_W
      let p := d.power.powerRule w (d.get F.SCHED_STRETCH_CUR) peak (d.get F.DEV_PWR_CFG_TDP_W)
      let p := p.thermalRule d.tjMax (d.get F.DEV_PWR_CFG_T_CTL)
      let throt := d.bit F.DEV_PWR_STATUS_THROT_IN
      let req := if throt then 64 else max p.reqP p.reqT
      let p := { p with maxMs := if req = 64 then p.maxMs + 1 else 0 }
      let d := { d with power := p }.setSysReq req (if throt then 3 else if p.reqP ≤ p.reqT then 1 else 2)
      let d := if peak < w then d.count F.DEV_PWR_PEAK_EVENTS else d
      if 16 < req then d.count F.DEV_PWR_STRETCH_MS else d)

/-- A condition of R492 holds. -/
def Dev.mustProtect (d : Dev) : Bool :=
  decide (105 ≤ d.tjMax) ||
  (d.get F.SCHED_STRETCH_SYS_REQ = 64 && (match d.power.p10 with
    | some sum => decide (10 * d.get F.DEV_PWR_CFG_PEAK_W < sum)
    | none => false)) ||
  (decide (d.get F.DEV_PWR_CFG_TDP_W < d.get F.DEV_PWR_STATUS_PKG_AVG_W) && decide (1000 ≤ d.power.maxMs))

/-- A THERMAL_FREEZE record, which sets ALERT (R494). -/
def Dev.thermalRecord (d : Dev) (entered : Nat) : Dev :=
  (d.record 0x0221 entered 0 0 2 d.tjWord (d.get F.DEV_PWR_STATUS_PKG_AVG_W)).set F.DEV_PWR_STATUS_ALERT 1

/-- THERMAL_PROTECT: a hold with cause 10, or thermal freeze (R492). -/
def execThermalProtect (s : State) : Host.Outcome State Fault Refusal :=
  s.runMain (fun d =>
    if !d.mustProtect || d.bit F.DEV_PWR_STATUS_FREEZE || d.sched.hold.isSome then d
    else match d.schedState with
      | 2 | 3 | 5 => ((d.keepHold 10).count F.DEV_PWR_HOLDS).thermalRecord 1
      | _ =>
        let d := (d.set F.DEV_PWR_STATUS_FREEZE 1).count F.DEV_PWR_FREEZES
        (d.hostedSlots.foldl (fun d pc => d.setFreeze pc (fun f => { f with thermal := true })) d).thermalRecord 1)

/-- THERMAL_FREEZE_EXIT: temperature and power are below their exit limits, cells thaw that no other source holds, and engine queues start items again (R492). -/
def execThermalFreezeExit (s : State) : Host.Outcome State Fault Refusal :=
  s.runMain (fun d =>
    if !d.bit F.DEV_PWR_STATUS_FREEZE || (d.get F.DEV_PWR_CFG_T_CTL : Int) - 10 < d.tjMax ||
      decide (d.get F.DEV_PWR_CFG_TDP_W * 90 < d.get F.DEV_PWR_STATUS_PKG_AVG_W * 100) then d
    else
      let d := d.set F.DEV_PWR_STATUS_FREEZE 0
      let d := (List.range 544).foldl (fun d pc => d.setFreeze pc (fun f => { f with thermal := false })) d
      d.kickEngines.thermalRecord 0)

end Sys2Proof.Machine
end

