-- ==== Sys2Proof/Machine/Management.lean ====
section
/-! DEFINITION. Slolis's services: attestation, debug authorization, the Redfish actions, the mailbox, time and the management ports (R452 to R457, R461, R463 to R470). -/

namespace Sys2Proof.Machine

/-! ## Redfish requests (R453, R457) -/

/-- The rights of a role: 0 ReadOnly, 1 Operator, 2 FabricManager, 3 Administrator; FabricManager is not included in Administrator (R457). PRESUMED, unsafe (log entry 23). -/
def roleHas : Role → Nat → Bool
  | .readOnly, n => n = 0
  | .operator, n => n ≤ 1
  | .fabricManager, n => n ≤ 2
  | .administrator, n => n ≤ 1 || n = 3

/-- A Redfish request: counted when Slolis answers it, and refused to a role without the right. PRESUMED, unsafe (log entry 23). -/
def Dev.redfish (d : Dev) (role : Role) (right : Nat) (k : Dev → Dev) : Dev :=
  if !d.slolisUp then d
  else
    let d := d.count F.MGMT_REDFISH_REQS
    if roleHas role right then k d else d.answer (.http 403)

/-! ## Quotes (R466) -/

/-- The identity public key, or zeros where the PUF failed (SEC_ID0 to SEC_ID7). -/
def Dev.identity (d : Dev) : List Byte := (List.range 8).flatMap (fun n => leBytes 8 (d.reg (F.SEC_ID.base + 8 * n)))

/-- The bytes of a quote that its signature covers (Table 15-8). -/
def Dev.quoteFront (d : Dev) (nonce : List Byte) : List Byte :=
  let flags := d.get F.SEC_DEBUG_ACTIVE + 2 * d.get F.SEC_STATUS_FW_FALLBACK + 4 * d.get F.SEC_STATUS_LDR_FALLBACK
  let front := ascii "KMGQUOT1" ++ leBytes 2 1 ++ leBytes 2 (if d.bit F.DEV_DOMAIN_ID_VALID then d.deviceId else 0xFFFF) ++
    leBytes 2 (d.get F.WDOG_RST_STATUS_RESET_EPOCH) ++ leBytes 2 flags ++ leBytes 8 d.ptpWord ++ padTo 32 nonce ++
    (List.range 8).flatMap d.measReg ++ leBytes 4 (d.get F.SEC_VERSIONS_FW_SVN) ++ leBytes 4 (d.get F.SEC_VERSIONS_LDR_SVN) ++ d.identity
  padTo 0x180 front

/-- Bytes of a signature of parameter set 256f. -/
def quoteSigSize : Nat := 49856

/-- Bytes of a quote. -/
def quoteSize : Nat := 50240

/-- A quote over a nonce, signed with the identity key. -/
def Dev.quote (d : Dev) (nonce : List Byte) : List Byte :=
  let front := d.quoteFront nonce
  front ++ padTo quoteSigSize (Config.slhSign d.identity front)

/-- A request for a quote joins the one being signed and the first 32 that wait. -/
def Dev.askQuote (d : Dev) (q : QuoteReq) : Dev := d.modMgmt (fun m => { m with quotes := m.quotes ++ [q] })

/-- No more requests for quotes are kept. -/
def Dev.quotesFull (d : Dev) : Bool := decide (33 ≤ d.mgmt.quotes.length)

/-- ATTEST: refused without an identity (R462), and with HTTP 503 when 32 requests wait. -/
def execAttest (role : Role) (nonce : BitVec 256) (s : State) : Host.Outcome State Fault Refusal :=
  s.run (fun d => d.redfish role 0 (fun d =>
    if !d.bit F.SEC_STATUS_PUF_OK || d.quotesFull then d.answer (.http 503)
    else d.askQuote ⟨leBytes 32 nonce.toNat, none⟩))

/-! ## The mailbox (R469, Table 15-9) -/

/-- Slolis serves the mailbox. -/
def Dev.mboxUp (d : Dev) : Bool := d.slolisUp && d.bit F.MBOX_CFG_EN

/-- A reply of 64 bytes on the reply channel: TAG, OP, RESULT and the data. DESIGN CHOICE, unsafe (log entry 24). -/
def Dev.mboxReply (d : Dev) (tag op result : Nat) (data : List Byte) : Dev :=
  (d.osSend 256 (padTo 64 (leBytes 8 tag ++ leBytes 2 op ++ leBytes 2 result ++ leBytes 4 0 ++ data))).2

/-- A request that has been taken is served: what it does answers RESULT and data. DESIGN CHOICE, unsafe (log entry 24). -/
def Dev.mboxServe (d : Dev) (op tag : Nat) (k : Dev → Nat × List Byte × Dev) : Dev :=
  if !d.mboxUp then d
  else
    let d := d.modMgmt (fun m => { m with taken := m.taken.erase (op, tag) })
    let (result, data, d) := k d
    d.mboxReply tag op result data

/-- The fields of MBOX_CFG are valid: 2^4 to 2^10 slots, BASE aligned to the ring and the ring in the carve-out. -/
def Dev.mboxCfgOk (d : Dev) (v : Nat) : Bool :=
  let size := bitsOf v 59 56
  let base := bitsOf v 47 12 * 4096
  4 ≤ size && size ≤ 10 && base % (64 * 2 ^ size) = 0 && d.inCarve base (64 * 2 ^ size)

/-- MBOX_ENABLE: a write of MBOX_CFG with EN set while EN is 0; the fields are taken and checked, NEXT is zero, and Slolis binds its reply endpoint. -/
def execMboxEnable (_m : Master) (v : Word) (s : State) : Host.Outcome State Fault Refusal :=
  s.run (fun d =>
    if d.bit F.MBOX_CFG_EN || !bitOf v.toNat 63 then d
    else
      let ok := d.mboxCfgOk v.toNat
      let w := setBitsOf (setBitsOf (bitsOf v.toNat 63 12 * 2 ^ 12) 62 60 0) 63 63 (b2n ok)
      let d := d.setReg F.MBOX_CFG.base 0 0 w
      if !ok then d.set F.MBOX_STATUS_ERR 1
      else
        let d := d.set F.MBOX_STATUS_NEXT 0
        if d.slolisUp then d.mboxBind else d)

/-- MBOX_POLL: the slot at NEXT is taken when its SEQ equals NEXT; an unknown OP is answered BAD_OP. -/
def execMboxPoll (s : State) : Host.Outcome State Fault Refusal :=
  s.run (fun d =>
    let next := d.get F.MBOX_STATUS_NEXT
    let a := d.get F.MBOX_CFG_BASE * 4096 + 64 * (next % 2 ^ d.get F.MBOX_CFG_SIZE)
    if !d.mboxUp || d.loadNat a 4 ≠ next then d
    else
      let op := d.loadNat (a + 4) 2
      let tag := d.loadNat (a + 8) 8
      let d := (d.set F.MBOX_STATUS_NEXT ((next + 1) % 2 ^ 32)).count F.MBOX_REQS
      if 1 ≤ op && op ≤ 6 then d.modMgmt (fun m => { m with taken := m.taken ++ [(op, tag)] }) else d.mboxReply tag op 1 [])

/-- EXTEND: M4 is extended. -/
def execExtendMeas (tag : Word) (digest : BitVec 256) (s : State) : Host.Outcome State Fault Refusal :=
  s.run (fun d => d.mboxServe 1 tag.toNat (fun d => (0, [], d.extendM 4 (leBytes 32 digest.toNat) (List.replicate 32 0) 0)))

/-- ATTEST through the mailbox: the request waits for its quote; one that cannot be kept is answered at once. -/
def execMboxAttest (tag : Word) (nonce : BitVec 256) (buf : Word) (s : State) : Host.Outcome State Fault Refusal :=
  s.run (fun d =>
    if !d.mboxUp then d
    else if !d.inCarve buf.toNat quoteSize || !d.bit F.SEC_STATUS_PUF_OK then d.mboxServe 2 tag.toNat (fun d => (4, [], d))
    else if d.quotesFull then d.mboxServe 2 tag.toNat (fun d => (3, [], d))
    else d.askQuote ⟨leBytes 32 nonce.toNat, some (tag.toNat, buf.toNat)⟩)

/-- QUOTE_SIGNED: the oldest request's quote is returned, or written to its buffer, and the next is signed. -/
def execQuoteSigned (s : State) : Host.Outcome State Fault Refusal :=
  s.run (fun d =>
    match (if d.slolisUp then d.mgmt.quotes else []) with
    | [] => d
    | q :: qs =>
      let bs := d.quote q.nonce
      let d := (d.modMgmt (fun m => { m with quotes := qs })).count F.SEC_QUOTES
      match q.mbox with
      | none => d.answer (.bytes bs)
      | some (tag, buf) => d.mboxServe 2 tag (fun d => (0, [], d.store buf bs)))

/-! ## Debug authorization (R467, R468) -/

/-- A challenge of 32 random bytes: at most four are outstanding. -/
def Dev.challenge (d : Dev) : List Byte × Dev :=
  let (a, d) := d.fresh
  let (b, d) := d.fresh
  let (c, d) := d.fresh
  let (e, d) := d.fresh
  let bs := leBytes 8 a ++ leBytes 8 b ++ leBytes 8 c ++ leBytes 8 e
  let all := d.mgmt.challenges ++ [(bs, d.ns)]
  (bs, d.modMgmt (fun m => { m with challenges := all.drop (all.length - 4) }))

/-- DEBUG_CHALLENGE. -/
def execDebugChallenge (role : Role) (s : State) : Host.Outcome State Fault Refusal :=
  s.run (fun d => d.redfish role 3 (fun d =>
    let (bs, d) := d.challenge
    d.answer (.bytes bs)))

/-- DEBUG_CHALLENGE through the mailbox. -/
def execMboxDebugChallenge (tag : Word) (s : State) : Host.Outcome State Fault Refusal :=
  s.run (fun d => d.mboxServe 3 tag.toNat (fun d =>
    let (bs, d) := d.challenge
    (0, bs, d)))

/-- A challenge is outstanding: issued within the last 300 s and not used. -/
def Dev.outstanding (d : Dev) (c : List Byte) : Bool := d.mgmt.challenges.any (fun x => x.1 = c && decide (d.ns < x.2 + 300000000000))

/-- Bytes of a token's body. -/
def tokenBody : Nat := 128

/-- The fields of a token's body are in range (Table 15-23). DEDUCED, unsafe (log entry 25). -/
def tokenFieldsOk (b : List Byte) : Bool :=
  blockBytes b 0 8 = ascii "KMGDBG01" && blockNat b 0x48 1 ≤ 2 && blockNat b 0x49 1 < 16 && blockNat b 0x4A 2 = 0 &&
  1 ≤ blockNat b 0x4C 4 && blockNat b 0x4C 4 ≤ 28800 && (blockBytes b 0x70 16).all (fun x => x = 0)

/-- The check that a token fails first: 1 format or device, 2 digest, 3 key, 4 signature, 6 challenge; 0 when it is good. DEDUCED, unsafe (log entry 25). -/
def Dev.tokenCheck (d : Dev) (tok : List Byte) : Nat :=
  let b := tok.take tokenBody
  let k := tok.drop tokenBody
  let why := sigCheck 4 k (shake32 b) (d.ownerKeysOf 3)
  if why ≠ 0 then why
  else if blockBytes b 0x08 32 ≠ shake32 d.identity then 1
  else if !d.outstanding (blockBytes b 0x28 32) then 6
  else if !tokenFieldsOk b then 1
  else if blockBytes b 0x50 32 ≠ blockBytes k 0x10 32 then 3
  else 0

/-- A token's grant replaces the active one, and its digest extends M6. -/
def Dev.grant (d : Dev) (b : List Byte) : Dev :=
  let holder := blockNat b 0x48 1
  let scope := blockNat b 0x49 1
  let sec := blockNat b 0x4C 4
  let d := d.endGrant 3
  let d := ((d.set F.SEC_DEBUG_ACTIVE 1).set F.SEC_DEBUG_HOLDER holder).set F.SEC_DEBUG_SCOPE scope
  let d := (d.set F.SEC_DEBUG_REMAIN sec).modMgmt (fun m => { m with grantNs := d.ns, grantSec := sec })
  let d := (d.extendM 6 (shake32 b) (blockBytes b 0x50 32) 0).record 0x0214 holder 14 0 0 scope sec (blockNat b 0x50 4)
  d.count F.SEC_DEBUG_GRANTS

/-- A token is presented: granted or denied; its challenge is consumed either way. -/
def Dev.presentToken (d : Dev) (tok : List Byte) : Bool × Dev :=
  let why := d.tokenCheck tok
  let d := d.modMgmt (fun m => { m with challenges := m.challenges.filter (fun x => x.1 ≠ blockBytes tok 0x28 32) })
  let d := if sigCheck 4 (tok.drop tokenBody) (shake32 (tok.take tokenBody)) (d.ownerKeysOf 3) = 0 then d.count F.SEC_SIG_VERIFIED else d
  if why = 0 then (true, d.grant (tok.take tokenBody))
  else (false, (d.record 0x0216 why 14 0 0).count F.SEC_DEBUG_DENIED)

/-- DEBUG_AUTHORIZE. -/
def execDebugAuthorize (role : Role) (tok : List Byte) (s : State) : Host.Outcome State Fault Refusal :=
  s.run (fun d => d.redfish role 3 (fun d =>
    let (ok, d) := d.presentToken tok
    d.answer (if ok then .value 0 else .http 403)))

/-- DEBUG_TOKEN through the mailbox: the token is read from the carve-out. -/
def execDebugToken (tag : Word) (addr : Word) (len : Nat) (s : State) : Host.Outcome State Fault Refusal :=
  s.run (fun d => d.mboxServe 4 tag.toNat (fun d =>
    if !d.inCarve addr.toNat len then (4, [], d)
    else
      let (ok, d) := d.presentToken (d.load addr.toNat len)
      (if ok then 0 else 2, [], d)))

/-- DEBUG_REVOKE. -/
def execDebugRevoke (role : Role) (s : State) : Host.Outcome State Fault Refusal :=
  s.run (fun d => d.redfish role 3 (fun d => (d.endGrant 2).answer (.value 0)))

/-- SEC_DEBUG_REVOKE: either master. -/
def execSecDebugRevoke (_m : Master) (s : State) : Host.Outcome State Fault Refusal := s.run (fun d => d.endGrant 2)

/-- DEBUG_GRANT_EXPIRY. -/
def execDebugGrantExpiry (s : State) : Host.Outcome State Fault Refusal := s.run (fun d => d.endGrant 1)

/-! ## Oem actions (Table 15-2) -/

/-- CLEAR_FENCE: with a grant of scope MAINTENANCE, a CLEAR entry joins the defect map and takes effect at the next first light (R367). -/
def execClearFence (role : Role) (pc : Slot) (s : State) : Host.Outcome State Fault Refusal :=
  s.run (fun d => d.redfish role 3 (fun d =>
    if d.bit F.SEC_DEBUG_ACTIVE && bitOf (d.get F.SEC_DEBUG_SCOPE) 3 then (d.addDefect 7 pc 0 d.ptpSec).answer (.value 0)
    else d.answer (.http 403)))

/-- REPLACEMENT_POLICY: HOLD, CAP_MIN and ADVISE_DAYS (R379). -/
def execReplacementPolicy (role : Role) (hold : Bool) (capMin : BitVec 16) (adviseDays : BitVec 16) (s : State) :
    Host.Outcome State Fault Refusal :=
  s.run (fun d => d.redfish role 1 (fun d =>
    (d.writePlain .slolis false 8 0 0x018 (b2n hold * 2 ^ 63 + capMin.toNat * 2 ^ 32 + adviseDays.toNat)).answer (.value 0)))

/-- A write of SCHED_CMD by a master: LOAD, RESUME, HOLD or UNLOAD; a reserved code does nothing. -/
def Dev.schedCmd (d : Dev) (m : Master) (v : Nat) : Dev :=
  let epoch := BitVec.ofNat 32 (bitsOf v 63 32)
  match bitsOf v 2 0 with
  | 1 => d.does (execSchedLoad m epoch)
  | 2 => d.does (execSchedResume m epoch)
  | 3 => d.does (execHoldCommand m)
  | 4 => d.does (execSchedUnload m)
  | _ => d

/-- SCHEDULE_ACTION. -/
def execScheduleAction (role : Role) (a : SchedAction) (s : State) : Host.Outcome State Fault Refusal :=
  s.run (fun d => d.redfish role 2 (fun d =>
    let d := match a with
      | .imageBase v => d.writePlain .slolis false 7 0 0x010 v.toNat
      | .resumePos v => d.writePlain .slolis false 7 0 0x018 v.toNat
      | .resumeBeat v => d.writePlain .slolis false 7 0 0x020 v.toNat
      | .cmd v => d.schedCmd .slolis v.toNat
    d.answer (.value (d.get F.SCHED_STATUS_RESULT))))

/-- SNAPSHOT_ACTION: of SNAP_CMD, DISARM and RESTORE alone. -/
def execSnapshotAction (role : Role) (a : SnapAction) (s : State) : Host.Outcome State Fault Refusal :=
  s.run (fun d => d.redfish role 2 (fun d =>
    match a with
    | .mdom v => (d.writePlain .slolis false 10 0 0x020 v.toNat).answer (.value (d.get F.SNAP_STATUS_RESULT))
    | .restoreSel v => (d.writePlain .slolis false 10 0 0x060 v.toNat).answer (.value (d.get F.SNAP_STATUS_RESULT))
    | .cmd v =>
      match bitsOf v.toNat 2 0 with
      | 2 => let d := d.does (execSnapDisarm .slolis); d.answer (.value (d.get F.SNAP_STATUS_RESULT))
      | 3 => let d := d.does (execSnapRestore .slolis); d.answer (.value (d.get F.SNAP_STATUS_RESULT))
      | _ => d.answer (.http 400)))

/-- DOMAIN_ACTION. -/
def execDomainAction (role : Role) (a : DomainAction) (s : State) : Host.Outcome State Fault Refusal :=
  s.run (fun d => d.redfish role 2 (fun d =>
    let d := match a with
      | .domainId v => d.identityWrite false v.toNat
      | .domainShape v => d.identityWrite true v.toNat
      | .tlCfg n v => if bitOf v.toNat 63 then d.tlEnable n v.toNat else d.tlDisable n v.toNat
    d.answer (.value 0)))

/-- SYSTEM_RESET_ACTION: Slolis's resets (Tables 14-3 and 15-1). -/
def execSystemResetAction (role : Role) (a : ResetAction) (s : State) : Host.Outcome State Fault Refusal :=
  s.run (fun d => d.redfish role 1 (fun d =>
    let d := if !d.power.mainUp then d
      else match a with
        | .osComplex => d.startOsReset 2
        | .partition p => d.startPartReset p 2
        | .device => d.startDeviceReset 2
    d.answer (.value 0)))

/-- FIRMWARE_UPDATE: the image goes into the inactive bank, is verified, and becomes the trial bank of the next power-on. -/
def execFirmwareUpdate (role : Role) (loader : Bool) (image : List Byte) (s : State) : Host.Outcome State Fault Refusal :=
  s.run (fun d => d.redfish role 1 (fun d =>
    let (img, sig, keys) := Config.bankParse image
    let k : Bank := ⟨img, sig, keys⟩
    let f := d.mgmt.flash
    if loader then
      let b := !f.ldrActive
      let d := d.modMgmt (fun m => { m with flash := if b then { m.flash with ldr1 := k } else { m.flash with ldr0 := k } })
      let (ok, d) := d.verifyLdr b
      if ok && !(sig.isEmpty && d.bit F.SEC_STATUS_SIG_LDR_REQ) then
        (d.modMgmt (fun m => { m with flash := { m.flash with ldrTrial := some b, ldrTrialCount := 1 } })).answer (.value 0)
      else d.answer (.http 400)
    else
      let b := !f.fwActive
      let d := d.modMgmt (fun m => { m with flash := if b then { m.flash with fw1 := k } else { m.flash with fw0 := k } })
      let (ok, d) := d.verifyFw b
      if ok then (d.modMgmt (fun m => { m with flash := { m.flash with fwTrial := some b, fwTrialCount := 1 } })).answer (.value 0)
      else d.answer (.http 400)))

/-! ## Power and reports through the mailbox (R51, R469) -/

/-- POWER: Slolis switches a domain; a refusal is answered DENIED. -/
def execPowerReq (tag : Word) (domain : BitVec 16) (on : Bool) (s : State) : Host.Outcome State Fault Refusal :=
  s.run (fun d => d.mboxServe 5 tag.toNat (fun d =>
    if 584 < domain.toNat then (4, [], d)
    else
      let (ok, d) := if on then d.switchOn domain.toNat else d.switchOff domain.toNat
      (if ok then 0 else 2, [], d)))

/-- REPORT: Slolis forwards a report from the carve-out to the fabric manager. -/
def execReportReq (tag : Word) (addr : Word) (len : Nat) (kind : BitVec 8) (s : State) : Host.Outcome State Fault Refusal :=
  s.run (fun d => d.mboxServe 6 tag.toNat (fun d =>
    if !d.inCarve addr.toNat len then (4, [], d)
    else (0, [], d.emit (.notice 7 [kind.toNat] (d.load addr.toNat len)))))

/-! ## Time and the management ports (R403, R454, R455, R475) -/

/-- The port that carries the PTP session. -/
def Dev.ptpPort (d : Dev) : Option Nat := (List.range 2).find? (fun n => d.bit (F.MGMT_LINK_PTP.nth n))

/-- The PTP session is on one port, or on none. -/
def Dev.setPtpPort (d : Dev) (n : Option Nat) : Dev :=
  (d.set (F.MGMT_LINK_PTP.nth 0) (b2n (n = some 0))).set (F.MGMT_LINK_PTP.nth 1) (b2n (n = some 1))

/-- PTP_LOCK: the clock takes the grandmaster's time, through a port that is up. -/
def execPtpLock (n : Fin 2) (timeNs : Nat) (offsetNs : BitVec 32) (s : State) : Host.Outcome State Fault Refusal :=
  s.run (fun d =>
    if !d.slolisUp || !d.mgmtUp n then d
    else
      let was := d.bit F.MGMT_PTP_LOCKED
      let d := { d with ptpBase := (timeNs : Int) - (d.ns : Int) }
      let d := ((d.set F.MGMT_PTP_LOCKED 1).set F.MGMT_PTP_EVER 1).set F.MGMT_PTP_OFFSET offsetNs.toNat
      let d := d.setPtpPort (some n)
      if was then d else d.record 0x0217 1 15 0 0 n offsetNs.toNat)

/-- PTP lock is lost: the clock free-runs from its last correction. -/
def Dev.ptpLost (d : Dev) : Dev :=
  if !d.bit F.MGMT_PTP_LOCKED then d
  else
    let n := d.ptpPort.getD 0
    let d := ((d.set F.MGMT_PTP_LOCKED 0).setPtpPort none).count F.MGMT_PTP_LOSSES
    d.record 0x0217 0 15 0 2 n (d.get F.MGMT_PTP_OFFSET)

/-- PTP_LOSS: a lock on the other port follows as a PTP_LOCK of its own. -/
def execPtpLoss (s : State) : Host.Outcome State Fault Refusal := s.run (fun d => if d.slolisUp then d.ptpLost else d)

/-- The first port that is up carries the log stream while a collector is enabled (R403). -/
def Dev.showStream (d : Dev) : Dev :=
  let n := if d.anyCollector then (List.range 2).find? d.mgmtUp else none
  (d.set (F.MGMT_LINK_STREAM.nth 0) (b2n (n = some 0))).set (F.MGMT_LINK_STREAM.nth 1) (b2n (n = some 1))

/-- MGMT_LINK_CHANGE: the port's state and the stream's port change with a record, and a PTP session on a port that goes down is lost. -/
def execMgmtLinkChange (n : Fin 2) (up : Bool) (s : State) : Host.Outcome State Fault Refusal :=
  s.run (fun d =>
    if !d.power.aonUp || d.mgmtUp n = up then d
    else
      let d := (d.set (F.MGMT_LINK_UP.nth n) (b2n up)).showStream.record 0x021A n 15 0 (if up then 0 else 2) (b2n up)
      if !up && d.ptpPort = some n.val then d.ptpLost else d)

end Sys2Proof.Machine
end

