-- ==== Sys2Proof/Machine/Io.lean ====
section
/-! DEFINITION. PCIe root ports, front-end Ethernet ports and the boundary-scan chain (R468, R473, R474, R499 to R502). PCI Express, VIRTIO and IEEE 1149.1 details beyond the rules are PRESUMED from those standards. -/

namespace Sys2Proof.Machine

/-! ## Root ports (R473, R499) -/

/-- Root port n has power. -/
def Dev.pcieOn (d : Dev) (n : Nat) : Bool := d.domOn (582 + n / 2)

/-- Root port n is split into two x4 ports (BIFUR, Table 15-4). -/
def Dev.bifur (d : Dev) (n : Nat) : Bool := bitOf (d.cfg 0x13 1) n

/-- PCIE_LINK_CHANGE: a link of root port n trains up at a rate and width, or goes down; a link that was UP counts a LINK_DOWN (R473, Table 17-7). The second link exists only when the port is bifurcated. -/
def execPcieLinkChange (n : Fin 4) (second : Bool) (up : Bool) (rate : BitVec 4) (width : BitVec 4) (s : State) :
    Host.Outcome State Fault Refusal :=
  s.run (fun d =>
    if !d.pcieOn n || (second && !d.bifur n) then d
    else
      let st := if second then F.PCIE_STATUS_STATE1 else F.PCIE_STATUS_STATE0
      let rt := if second then F.PCIE_STATUS_RATE1 else F.PCIE_STATUS_RATE0
      let wd := if second then F.PCIE_STATUS_WIDTH1 else F.PCIE_STATUS_WIDTH0
      if up then ((d.set st 3 n).set rt rate.toNat n).set wd width.toNat n
      else
        let d := if d.get st n = 3 then d.count F.PCIE_LINK_DOWNS n else d
        ((d.set st 4 n).set rt 0 n).set wd 0 n)

/-- Key of a byte of a root port's own configuration space: port, device of bus 0, offset. -/
def cfgKey (n dev off : Nat) : Nat := n * 2 ^ 16 + dev * 2 ^ 12 + off

/-- The reset value of a configuration byte: header type 1 of a Type 1 function, single function (R499); the others are the implementation's. -/
def cfgReset (key : Nat) : Byte := if key % 2 ^ 12 = 0x0E then 1 else Config.pcieReset (key % 2 ^ 12)

/-- A byte of a root port's configuration space. -/
def Dev.cfgByte (d : Dev) (key : Nat) : Byte := SMap.read (cfgReset key) d.pcieCfg key

/-- The byte lies in the Uncorrectable or Correctable Error Status of the Advanced Error Reporting capability, whose bits a 1 clears. -/
def aerStatus (off : Nat) : Bool :=
  (Config.aerOffset + 4 ≤ off && off < Config.aerOffset + 8) || (Config.aerOffset + 16 ≤ off && off < Config.aerOffset + 20)

/-- A write of one byte of a root port's configuration space. -/
def Dev.setCfgByte (d : Dev) (key : Nat) (v : Byte) : Dev :=
  let off := key % 2 ^ 12
  let old := d.cfgByte key
  let m := Config.pcieWritable off
  let new := if off = 0x0E then old else if aerStatus off then old &&& ~~~ v else (old &&& ~~~ m) ||| (v &&& m)
  { d with pcieCfg := SMap.write (cfgReset key) d.pcieCfg key new }

/-- An error that a root port reports: Unsupported Request in its Uncorrectable Error Status, and the counter (R500, R501). -/
def Dev.pcieError (d : Dev) (n : Nat) : Dev :=
  let key := cfgKey n 0 (Config.aerOffset + 6)
  let d := { d with pcieCfg := SMap.write (cfgReset key) d.pcieCfg key (d.cfgByte key ||| 0x10) }
  d.count F.PCIE_UNCORRECTABLE n

/-- MSI_WRITE: data v from 0 to 255 sets bit v of PCIE_MSI_PEND; data above 255 is discarded and counted (R500). -/
def Dev.msi (d : Dev) (n v : Nat) : Dev :=
  if v < 256 then d.orReg (F.PCIE_MSI_PEND.nth (v / 64)) (2 ^ (v % 64)) n else d.count F.PCIE_UNCORRECTABLE n

/-- MSI_WRITE (R500). -/
def execMsiWrite (n : Fin 4) (data : BitVec 32) (s : State) : Host.Outcome State Fault Refusal :=
  s.run (fun d => if d.pcieOn n && !d.halted then d.msi n data.toNat else d)

/-- A range of the inbound map (Table 17-13): the carve-out, or hub commons. -/
def Dev.inboundMapped (d : Dev) (a n : Nat) : Bool :=
  decide (a + n ≤ d.carve) || (decide (0x100200000000 ≤ a) && decide (a + n ≤ 0x100220000000))

/-- PCIE_INBOUND_REQUEST (R501): memory requests by Table 17-13, a 4-byte write to PCIE_MSI_ADDR by R500, and all others refused with Unsupported Request, which the answer shows as an address fault. DEDUCED, unsafe (log entry 22). -/
def execPcieInboundRequest (n : Fin 4) (req : PcieReq) (s : State) : Host.Outcome State Fault Refusal :=
  s.run (fun d =>
    let a := req.addr.toNat
    let len := if req.write then req.data.length else req.len
    if !d.pcieOn n || d.halted then d
    else if req.memory && d.inboundMapped a len then
      let d := d.farMoved 1 a len
      if req.write then d.deposit a req.data
      else
        let r := d.fetch a len
        r.2.answer (.bytes r.1)
    else if req.memory && req.write && a = 0x3FFFFFFF000 && len = 4 then d.msi n (leNat req.data)
    else (d.pcieError n).answer .addressFault)

/-- The data that a drive returns for a read of n bytes: nothing in the device determines it. -/
def Dev.driveData (d : Dev) (n : Nat) : List Byte × Dev :=
  ((List.range n).map (fun i => BitVec.ofNat 8 (Config.freeWord (d.freeCtr + i)).toNat), { d with freeCtr := d.freeCtr + n })

/-- An access to root port n's own configuration space, device `dev` of bus 0, from an offset on. -/
def Dev.ownConfig (d : Dev) (n dev off : Nat) (write : Bool) (data : List Byte) : Dev :=
  if write then
    (data.mapIdx (fun i (b : Byte) => (cfgKey n dev ((off + i) % 2 ^ 12), b))).foldl (fun d e => d.setCfgByte e.1 e.2) d
  else d.answer (.bytes ((List.range data.length).map (fun i => d.cfgByte (cfgKey n dev ((off + i) % 2 ^ 12)))))

/-- PCIE_OUTBOUND_REQUEST (R499): ECAM accesses below 256 MiB, the root port's own functions among them; memory requests whose PCI address equals the offset up to the last 4 KiB of the aperture, which is not forwarded. A read carries as many bytes of data as it asks for. Only the OS complex, Slolis and Squirrel reach the aperture (R103, R250). DEDUCED, unsafe (log entry 22). -/
def execPcieOutboundRequest (who : Agent) (n : Fin 4) (off : Nat) (write : Bool) (data : List Byte) (s : State) :
    Host.Outcome State Fault Refusal :=
  s.run (fun d =>
    let mine := match who with
      | .os => true
      | .slolis => true
      | .squirrel => true
      | _ => false
    let len := data.length
    let sendOut := fun (d : Dev) =>
      let d := d.emit (.pcie n write off len (if write then data else []))
      if write then d
      else
        let r := d.driveData len
        r.2.answer (.bytes r.1)
    if !mine || 2 ^ 42 < off + len then d.answer .addressFault
    else if !d.pcieOn n || d.halted then d.answer .addressFault
    else if off < 0x10000000 then
      let bus := off / 2 ^ 20
      let dev := off / 2 ^ 15 % 32
      let fn := off / 2 ^ 12 % 8
      if bus ≠ 0 then sendOut d
      else if fn = 0 && (dev = 0 || (dev = 1 && d.bifur n)) then d.ownConfig n dev (off % 2 ^ 12) write data
      else if write then d
      else d.answer (.bytes (List.replicate len 0xFF))
    else if off + len ≤ 0x3FFFFFFF000 then sendOut d
    else d.answer .addressFault)

/-! ## Front-end Ethernet (R474, R502) -/

/-- A front-end port's transport. -/
def Dev.eth (d : Dev) (n : Nat) : EthState := SMap.read EthState.reset d.eths n

/-- The device with a front-end port's transport changed. -/
def Dev.modEth (d : Dev) (n : Nat) (f : EthState → EthState) : Dev :=
  { d with eths := SMap.write EthState.reset d.eths n (f (d.eth n)) }

/-- A queue of a port. -/
def EthState.queue (e : EthState) (q : Nat) : VirtQueue := SMap.read VirtQueue.reset e.queues q

/-- The port with a queue changed. -/
def EthState.modQueue (e : EthState) (q : Nat) (f : VirtQueue → VirtQueue) : EthState :=
  { e with queues := SMap.write VirtQueue.reset e.queues q (f (e.queue q)) }

/-- The features offered (R502): VERSION_1 (32), HOST_USO (56), MAC (5), STATUS (16), MQ (22), MTU (3), CSUM (0), GUEST_CSUM (1), HOST_TSO4 (11), HOST_TSO6 (12), MRG_RXBUF (15). PRESUMED, unsafe (log entry 19). -/
def netFeatures : Nat :=
  2 ^ 0 + 2 ^ 1 + 2 ^ 3 + 2 ^ 5 + 2 ^ 11 + 2 ^ 12 + 2 ^ 15 + 2 ^ 16 + 2 ^ 22 + 2 ^ 32 + 2 ^ 56

/-- Queues of a port: receive queue 2i and transmit queue 2i + 1 of pair i. PRESUMED, unsafe (log entry 19). -/
def netQueues : Nat := 32

/-- A feature has been negotiated. -/
def EthState.has (e : EthState) (bit : Nat) : Bool := bitOf e.features bit

/-- DRIVER_OK is set and DEVICE_NEEDS_RESET is not: the port moves frames. -/
def EthState.live (e : EthState) : Bool := bitOf e.status 2 && !bitOf e.status 6

/-- The configuration fields (VIRTIO 1.2): mac, status, max_virtqueue_pairs and mtu, as one number from the device configuration's start. -/
def Dev.netConfig (d : Dev) (n : Nat) : Nat :=
  d.get F.ETH_MAC_MAC n + d.get F.ETH_STATUS_UP n * 2 ^ 48 + 16 * 2 ^ 64 + 9216 * 2 ^ 80

/-- A reference outside the carve-out, or a chain that VIRTIO does not allow: DEVICE_NEEDS_RESET and a configuration interrupt; the port stops (R502). -/
def Dev.ethStop (d : Dev) (n : Nat) : Dev :=
  d.modEth n (fun e => { e with status := e.status ||| 64, intStatus := e.intStatus ||| 2 })

/-- What a transport register reads (offsets of the standard's MMIO layout). -/
def Dev.virtioRead (d : Dev) (n v : Nat) : Nat :=
  let e := d.eth n
  match v with
  | 0x000 => 0x74726976
  | 0x004 => 2
  | 0x008 => 1
  | 0x00C => 0x4B4D
  | 0x010 => if e.devSel < 2 then bitsOf netFeatures (32 * e.devSel + 31) (32 * e.devSel) else 0
  | 0x034 => if e.queueSel < netQueues then 4096 else 0
  | 0x044 => b2n (e.queue e.queueSel).ready
  | 0x060 => e.intStatus
  | 0x070 => e.status
  | 0x0B0 => 0xFFFFFFFF
  | 0x0B4 => 0xFFFFFFFF
  | 0x0FC => e.configGen
  | _ => if 0x100 ≤ v && v < 0x10C then bitsOf (d.netConfig n) (8 * (v - 0x100) + 31) (8 * (v - 0x100)) else 0

/-- A 64-bit address with its low or high half replaced. -/
def halfAddr (old : Nat) (high : Bool) (x : Nat) : Nat :=
  if high then setBitsOf old 63 32 x else setBitsOf old 31 0 x

/-- A size that VIRTIO allows a queue of this port: a power of two up to 4,096. -/
def queueSizeOk (n : Nat) : Bool := [1, 2, 4, 8, 16, 32, 64, 128, 256, 512, 1024, 2048, 4096].contains n

/-- A queue's three areas lie in the carve-out. -/
def Dev.queueOk (d : Dev) (q : VirtQueue) : Bool :=
  d.inCarve q.desc (16 * q.num) && d.inCarve q.driver (6 + 2 * q.num) && d.inCarve q.device (6 + 8 * q.num)

/-! ### Virtqueues -/

/-- The chain of descriptors from one on, at most as long as the queue: address, length and WRITE of each; none where a buffer leaves the carve-out or the chain is not one that VIRTIO allows. -/
def Dev.chain (d : Dev) (q : VirtQueue) : Nat → Nat → Option (List (Nat × Nat × Bool))
  | 0, _ => none
  | fuel + 1, i =>
    if q.num ≤ i then none
    else
      let a := d.loadNat (q.desc + 16 * i) 8
      let len := d.loadNat (q.desc + 16 * i + 8) 4
      let flags := d.loadNat (q.desc + 16 * i + 12) 2
      if !d.inCarve a len || bitOf flags 2 then none
      else if bitOf flags 0 then
        match d.chain q fuel (d.loadNat (q.desc + 16 * i + 14) 2) with
        | some r => some ((a, len, bitOf flags 1) :: r)
        | none => none
      else some [(a, len, bitOf flags 1)]

/-- Buffers that the driver has made available and the device has not taken. -/
def Dev.available (d : Dev) (q : VirtQueue) : Nat := (d.loadNat (q.driver + 2) 2 + 65536 - q.seen) % 65536

/-- The head of the k-th buffer available. -/
def Dev.headAt (d : Dev) (q : VirtQueue) (k : Nat) : Nat := d.loadNat (q.driver + 4 + 2 * ((q.seen + k) % q.num)) 2

/-- Buffers are returned on the used ring with their lengths, and the driver has a used-buffer interrupt unless it asked for none. -/
def Dev.giveBack (d : Dev) (n qi : Nat) (heads : List (Nat × Nat)) : Dev :=
  let q := (d.eth n).queue qi
  let d := (heads.mapIdx (fun k (h : Nat × Nat) => (k, h))).foldl (fun d e =>
    (d.storeNat (q.device + 4 + 8 * ((q.used + e.1) % q.num)) 4 e.2.1).storeNat (q.device + 8 + 8 * ((q.used + e.1) % q.num)) 4 e.2.2) d
  let used := (q.used + heads.length) % 65536
  let d := d.storeNat (q.device + 2) 2 used
  let quiet := bitOf (d.loadNat q.driver 2) 0
  d.modEth n (fun e =>
    { e.modQueue qi (fun q => { q with seen := (q.seen + heads.length) % 65536, used := used }) with
      intStatus := if quiet then e.intStatus else e.intStatus ||| 1 })

/-- Bytes stored over the writable buffers of chains. -/
def Dev.scatterTo (d : Dev) : List (Nat × Nat × Bool) → List Byte → Dev
  | [], _ => d
  | (a, len, _) :: rest, bs => ((d.store a (bs.take len)).farMoved 2 a (min len bs.length)).scatterTo rest (bs.drop len)

/-- One buffer of a transmit queue: its bytes are a network header of 12 bytes and a frame, which leaves by the port. DESIGN CHOICE, safe (log entry 20). -/
def Dev.sendBuffer (d : Dev) (n qi : Nat) : Dev :=
  let q := (d.eth n).queue qi
  if !(d.eth n).live || d.available q = 0 then d
  else
    let h := d.headAt q 0
    match d.chain q q.num h with
    | none => d.ethStop n
    | some c =>
      if c.any (fun b => b.2.2) then d.ethStop n
      else
        let bytes := c.flatMap (fun b => d.load b.1 b.2.1)
        let d := c.foldl (fun d b => d.farMoved 2 b.1 b.2.1) d
        let frames := Config.netFrames (bytes.take 12) (bytes.drop 12)
        let d := if d.bit F.ETH_STATUS_UP n then
            frames.foldl (fun d f => (d.emit (.frame (2 + n) f)).count F.ETH_TX_FRAMES n) d
          else d
        d.giveBack n qi [(h, 0)]

/-- A notified transmit queue sends every buffer that is available. -/
def Dev.sendQueue (d : Dev) (n qi : Nat) : Dev :=
  let q := (d.eth n).queue qi
  if !(d.eth n).live || !q.ready || d.halted then d
  else if !d.queueOk q then d.ethStop n
  else if q.num < d.available q then d.ethStop n
  else (List.range (d.available q)).foldl (fun d _ => d.sendBuffer n qi) d

/-- The chains of the first buffers of a receive queue that hold a number of bytes: heads with chains; `some none` where a chain is bad, none where there are too few. -/
def Dev.rxChains (d : Dev) (q : VirtQueue) (many : Bool) : Nat → Nat → Nat → Option (Option (List (Nat × List (Nat × Nat × Bool))))
  | 0, _, _ => none
  | fuel + 1, k, need =>
    if d.available q ≤ k then none
    else
      let h := d.headAt q k
      match d.chain q q.num h with
      | none => some none
      | some c =>
        let room := (c.map (fun b => b.2.1)).foldl (fun a b => a + b) 0
        if c.any (fun b => !b.2.2) || room = 0 then some none
        else if need ≤ room then some (some [(h, c)])
        else if !many then none
        else match d.rxChains q many fuel (k + 1) (need - room) with
          | some (some r) => some (some ((h, c) :: r))
          | r => r

/-- Lengths that chains take of a number of bytes. -/
def rxLens : List (Nat × List (Nat × Nat × Bool)) → Nat → List (Nat × Nat)
  | [], _ => []
  | (h, c) :: rest, left =>
    let room := (c.map (fun b => b.2.1)).foldl (fun a b => a + b) 0
    (h, min room left) :: rxLens rest (left - room)

/-- FRONT_END_FRAME_RX (R502): a frame goes behind a network header to the first receive queue, over several buffers where MRG_RXBUF was negotiated; a frame that finds no room, or exceeds mtu and its Ethernet header, is dropped. With GUEST_CSUM the device may mark a checksum as checked. -/
def execFrontEndFrameRx (n : Fin 2) (frame : List Byte) (s : State) : Host.Outcome State Fault Refusal :=
  s.run (fun d =>
    if !d.domOn (580 + n) || !d.bit F.ETH_STATUS_UP n || d.halted then d
    else
      let d := d.count F.ETH_RX_FRAMES n
      let drop := fun (d : Dev) => d.count F.ETH_RX_DROPPED n
      let e := d.eth n
      let q := e.queue 0
      if !e.live || !q.ready || 9216 + 18 < frame.length then drop d
      else if !d.queueOk q then drop (d.ethStop n)
      else match d.rxChains q (e.has 15) q.num 0 (12 + frame.length) with
        | none => drop d
        | some none => drop (d.ethStop n)
        | some (some cs) =>
          let r := d.choose
          let d := if e.has 1 then r.2 else d
          let flags := if e.has 1 && r.1 then 2 else 0
          let header := leBytes 1 flags ++ List.replicate 9 (0 : Byte) ++ leBytes 2 cs.length
          let d := d.scatterTo (cs.flatMap Prod.snd) (header ++ frame)
          d.giveBack n 0 (rxLens cs (12 + frame.length)))

/-! ### The transport -/

/-- A write to a transport register. -/
def Dev.virtioWrite (d : Dev) (n v x : Nat) : Dev :=
  let onQueue := fun (f : VirtQueue → VirtQueue) =>
    d.modEth n (fun e => if e.queueSel < netQueues then e.modQueue e.queueSel f else e)
  match v with
  | 0x014 => d.modEth n (fun e => { e with devSel := x })
  | 0x020 => d.modEth n (fun e =>
      if bitOf e.status 3 || 2 ≤ e.drvSel then e
      else { e with features := setBitsOf e.features (32 * e.drvSel + 31) (32 * e.drvSel) x })
  | 0x024 => d.modEth n (fun e => { e with drvSel := x })
  | 0x030 => d.modEth n (fun e => { e with queueSel := x })
  | 0x038 => onQueue (fun q => if q.ready || !queueSizeOk x then q else { q with num := x })
  | 0x044 =>
    let q := (d.eth n).queue (d.eth n).queueSel
    if x % 2 = 1 && !q.ready && (d.eth n).queueSel < netQueues && !d.queueOk q then d.ethStop n
    else onQueue (fun q => if x % 2 = 1 then (if q.ready then q else { q with ready := true, seen := 0, used := 0 })
      else { q with ready := false })
  | 0x050 => if x < netQueues && x % 2 = 1 then d.sendQueue n x else d
  | 0x064 => d.modEth n (fun e => { e with intStatus := e.intStatus &&& (2 ^ 32 - 1 - x) })
  | 0x070 =>
    if x = 0 then d.modEth n (fun e => { EthState.reset with configGen := e.configGen })
    else d.modEth n (fun e =>
      let new := x % 256
      -- FEATURES_OK stays clear where the driver took a feature that is not offered, or not VERSION_1
      let okFeatures := (e.features &&& netFeatures) = e.features && e.has 32
      let new := if bitOf new 3 && !bitOf e.status 3 && !okFeatures then setBitsOf new 3 3 0 else new
      { e with status := e.status ||| (new &&& 0xBF) })
  | 0x080 => onQueue (fun q => if q.ready then q else { q with desc := halfAddr q.desc false x })
  | 0x084 => onQueue (fun q => if q.ready then q else { q with desc := halfAddr q.desc true x })
  | 0x090 => onQueue (fun q => if q.ready then q else { q with driver := halfAddr q.driver false x })
  | 0x094 => onQueue (fun q => if q.ready then q else { q with driver := halfAddr q.driver true x })
  | 0x0A0 => onQueue (fun q => if q.ready then q else { q with device := halfAddr q.device false x })
  | 0x0A4 => onQueue (fun q => if q.ready then q else { q with device := halfAddr q.device true x })
  | _ => d

/-- VIRTIO_NET_ACCESS (R502): the transport register v, a multiple of 4, stands in bits [31:0] of the control register at offset 2v; bits [63:32] are reserved. Offsets up to 0x1F8 are the transport and those from 0x200 the device configuration. A port without power reads zero and ignores writes (R497). -/
def execVirtioNetAccess (_m : Master) (n : Fin 2) (off : Nat) (write : Bool) (v : Word) (s : State) : Host.Outcome State Fault Refusal :=
  s.run (fun d =>
    if off % 8 ≠ 0 then d.answer .addressFault
    else if !d.domOn (580 + n) || 0x800 ≤ off then (if write then d else d.answer (.value 0))
    else if write then d.virtioWrite n (off / 2) (v.toNat % 2 ^ 32)
    else d.answer (.value (d.virtioRead n (off / 2))))

/-- FRONT_END_LINK_CHANGE (R474): the link comes up with its RS-FEC aligned, or goes down and counts. A change of the configuration field status tells the driver. -/
def execFrontEndLinkChange (n : Fin 2) (up : Bool) (s : State) : Host.Outcome State Fault Refusal :=
  s.run (fun d =>
    if !d.domOn (580 + n) || d.bit F.ETH_STATUS_UP n = up then d
    else
      let d := (d.set F.ETH_STATUS_UP (b2n up) n).set F.ETH_STATUS_FEC_LOCK (b2n up) n
      let d := if up then d else d.count F.ETH_LINK_DOWNS n
      if (d.eth n).has 16 && bitOf (d.eth n).status 2 then
        d.modEth n (fun e => { e with intStatus := e.intStatus ||| 2, configGen := (e.configGen + 1) % 2 ^ 32 })
      else d)

/-! ## Boundary scan (R468) -/

/-- JTAG_INSTRUCTION: the mandatory instructions need no grant, but EXTEST is accepted only while domain 584 is off; a private instruction acts as BYPASS without a JTAG grant. DEDUCED, unsafe (log entry 21). -/
def execJtagInstruction (ir : JtagInstr) (s : State) : Host.Outcome State Fault Refusal :=
  s.run (fun d =>
    match ir with
    | .extest => if d.domOn 584 then d else { d with jtag := .extest }
    | .privateInstr code =>
      if d.bit F.SEC_DEBUG_ACTIVE && d.get F.SEC_DEBUG_HOLDER = 2 && bitOf (d.get F.SEC_DEBUG_SCOPE) 2 then { d with jtag := .privateInstr code }
      else { d with jtag := .bypass }
    | i => { d with jtag := i })

end Sys2Proof.Machine
end

