-- ==== Sys2Proof/Machine/Registers.lean ====
section
/-! DEFINITION. Control space as the two masters see it: every register's write and read, wide values, and the distance table (R8 to R17, R37 to R42, R497, R503). -/

namespace Sys2Proof.Machine

/-! ## The distance table (R37 to R42, Table 01-5) -/

/-- Hops from a slot to target t of the table: hubs 0 to 15, then ports TL0 to TL11 (R37). -/
def distHops (pc t : Nat) : Nat :=
  let r := rowOf pc
  let c := colOf pc
  let gap := fun (a b : Nat) => (a - b) + (b - a)
  if t < 16 then
    let p := t / 2
    let dv := min (gap r (2 * p)) (gap r (2 * p + 1))
    if t % 2 = 0 then dv + c + 1 else dv + 34 - c
  else
    let n := t - 16
    (if n < 6 then r else 15 - r) + gap c (portColumn n) + 1

/-- An entry: HOPS, and LAT of R38 in units of 0.1 ns: 0.60 ns a hop and 2.8 ns to enter. -/
def distEntry (pc t : Nat) : Nat := distHops pc t + (6 * distHops pc t + 28) * 2 ^ 8

/-- The row of a logical cell: zero while it is UNHOSTED, and the source slot's while it is MIGRATING (R39). -/
def Dev.distRow (d : Dev) (lc : Nat) : List Byte :=
  match d.hostOf lc with
  | some pc => (List.range 28).flatMap (fun t => leBytes 4 (distEntry pc t)) ++ List.replicate 16 0
  | none => List.replicate 128 0

/-- Bytes of the table. -/
def distSize : Nat := 65664

/-- PART_MAP_GEN of each partition. -/
def Dev.mapGens (d : Dev) : List Nat := (List.range 8).map (fun p => d.get F.PART_MAP_GEN_GEN p)

/-- A completed change of the mapping, or a full update, that no update has covered yet (R41). -/
def Dev.distDue (d : Dev) : Bool :=
  d.distSeen.isEmpty || (d.distSeen.zip d.mapGens).any (fun e => e.1 != e.2 && e.2 % 2 == 0)

/-- BASE of DEV_DIST_BASE as an address. -/
def Dev.distBase (d : Dev) : Nat := d.get F.DEV_DIST_BASE_BASE * 4096

/-- An update starts: GEN odd, then the rows, as the mapping now stands (R40). With an invalid BASE nothing is written and ERR is set (R42). DEDUCED, unsafe (log entry 79). -/
def Dev.distStart (d : Dev) : Dev :=
  if !d.bit F.DEV_DIST_BASE_EN || d.distRun.isSome || !d.distDue || d.distBad ||
      d.deviceResetting || d.get F.DEV_FAR_SIZE_SIZE = 0 then d
  else
    let b := d.distBase
    if !d.inCarve b distSize then { d with distBad := true }.set F.DEV_DIST_BASE_ERR 1
    else
      let g := d.get F.DEV_DIST_GEN_GEN + 1
      let d := (d.set F.DEV_DIST_GEN_GEN g).storeNat b 4 g
      let d := (List.range 512).foldl (fun d lc => d.store (b + 0x80 + 128 * lc) (d.distRow lc)) d
      { d with distRun := some b, distSeen := d.mapGens }

/-- An update ends: the other header fields, with PART_MAP_GEN as the rows reflect it, and GEN even; a further update starts if one is due (R40, R41). DEDUCED, unsafe (log entry 79). -/
def Dev.distEnd (d : Dev) : Dev :=
  match d.distRun with
  | none => d
  | some b =>
    let header := leBytes 2 1 ++ leBytes 2 128 ++ leBytes 2 28 ++ leBytes 2 4 ++ leBytes 4 0 ++ leBytes 8 d.beat ++
      (List.range 8).flatMap (fun p => leBytes 4 (d.distSeen.getD p 0))
    let g := d.get F.DEV_DIST_GEN_GEN + 1
    let d := (d.store (b + 4) (padTo 124 header)).set F.DEV_DIST_GEN_GEN g
    ({ d.storeNat b 4 (g % 2 ^ 32) with distRun := none }).distStart

/-- DIST_UPDATE_START: after a mapping change becomes even. -/
def execDistUpdateStart (s : State) : Host.Outcome State Fault Refusal := s.runMain Dev.distStart

/-- DIST_UPDATE_END. -/
def execDistUpdateEnd (s : State) : Host.Outcome State Fault Refusal := s.runMain Dev.distEnd

/-- DIST_BASE_WRITE: with EN set BASE is checked, and a full update at the new base starts, at once or when the one under way at the old base has ended (R41, R42). A valid write ends the effect of an earlier invalid one; ERR stays until software clears it (R12). -/
def execDistBaseWrite (m : Master) (v : Word) (s : State) : Host.Outcome State Fault Refusal :=
  s.runMain (fun d =>
    let d := d.writePlain m false 0 0 0x100 v.toNat
    if !d.bit F.DEV_DIST_BASE_EN then d
    else if !d.inCarve d.distBase distSize then { d with distBad := true }.set F.DEV_DIST_BASE_ERR 1
    else { d with distSeen := [], distBad := false }.distStart)

/-! ## Writes (R9, R12, R497, R503) -/

/-- A write to a register of class 0x00 by a master. -/
def Dev.writeDev (d : Dev) (m : Master) (off v : Nat) : Dev :=
  let w := wOf v
  match off with
  | 0x100 => d.does (execDistBaseWrite m w)
  | 0x210 => d.does (execFarShareWrite m w)
  | 0x300 => d.does (execDomainIdentityWrite m false w)
  | 0x308 => d.does (execDomainIdentityWrite m true w)
  | 0x418 => d.setReg F.DEV_WIN_D3.base 0 (masterItem m) v
  | 0x420 =>
    let win := Fin.ofNat 1024 (bitsOf v 25 16)
    match bitsOf v 2 0 with
    | 1 => d.does (execWinOpen m win)
    | 2 => d.does (execWinClose m win)
    | 3 => d.does (execWinRead m win)
    | c => d.winCmd m (fun d => d.winStatus m win c 4 false)
  | 0x810 =>
    match bitsOf v 2 0 with
    | 1 => d.does (execOschOpen m)
    | 2 => d.does (execOschClose m)
    | 3 => d.does (execOsepBind m)
    | 4 => d.does (execOsepUnbind m)
    | 7 => d.does (execOschAdv m)
    | _ => d.set F.DEV_OSCH_SEL_RESULT 8
  | 0x858 => d.does (execOschSend m w)
  | 0xA10 =>
    let d := d.writePlain m false 0 0 off v
    if bitOf v 63 then d.does (execOffAck m) else d
  | _ => d.writePlain m false 0 0 off v

/-- A write to a register of class 0x02, a cell's, by a master. -/
def Dev.writeCell (d : Dev) (m : Master) (inst off v : Nat) : Dev :=
  let pc : Slot := Fin.ofNat 544 inst
  let w := wOf v
  match off with
  | 0x060 =>
    let c : Ctx := Fin.ofNat 32 (bitsOf v 4 0)
    match bitsOf v 10 8 with
    | 0 => d.ctlStatus inst 0 c 0
    | 1 => d.does (execCtxBind m pc c (BitVec.ofNat 24 (bitsOf v 63 40)))
    | 2 => d.does (execCtxKill m pc c)
    | 3 => d.does (execCtxFreeze m pc c)
    | 4 => d.does (execCtxThaw m pc c)
    | k => d.ctlStatus inst k c 5
  | 0x500 => d.does (execOpsetSwitch m pc w)
  | 0x508 => d.does (execSpadNmCtlWrite m pc w)
  | 0x608 => d.does (execSyncValueWrite m pc w)
  | 0x728 =>
    match bitsOf v 2 0 with
    | 1 => d.does (execChanOpen m pc)
    | 2 => d.does (execChanClose m pc)
    | 3 => d.does (execSepBind m pc)
    | 4 => d.does (execSepUnbind m pc)
    | 5 => d.does (execQueueOpen m pc (BitVec.ofNat 24 (bitsOf v 63 40)))
    | 6 => d.does (execQueueClose m pc)
    | _ => d.chanResult inst 8
  | _ =>
    if 0x640 ≤ off && off < 0x6C0 then d.does (execAlignEntryWrite m pc (Fin.ofNat 16 ((off - 0x640) / 8)) w)
    else d.writePlain m false 2 inst off v

/-- A write to a register of class 0x04, an engine's, by a master; the key registers are those of engine index 5. -/
def Dev.writeEng (d : Dev) (m : Master) (inst off v : Nat) : Dev :=
  let e : EngInst := Fin.ofNat 256 inst
  if off = 0x028 then
    match bitsOf v 1 0 with
    | 1 => d.does (execWqEnable m e)
    | 2 => d.does (execWqDisable m e)
    | _ => d.wqCmd inst (fun d _ => (4, d))
  else if 0x200 ≤ off && off < 0x300 then
    if inst % 16 ≠ 5 then d
    else if off % 16 = 8 then d.does (execSgKeyCommit m e (Fin.ofNat 16 ((off - 0x200) / 16)) (wOf v))
    else d.writePlain m false 4 inst off v
  else d.writePlain m false 4 inst off v

/-- A write to SNAP_CMD; a reserved code does nothing. -/
def Dev.writeSnapCmd (d : Dev) (m : Master) (v : Nat) : Dev :=
  match bitsOf v 2 0 with
  | 1 => d.does (execSnapArm m)
  | 2 => d.does (execSnapDisarm m)
  | 3 => d.does (execSnapRestore m)
  | 4 => d.does (execBuddyServe m)
  | 5 => d.does (execBuddyRestore m)
  | _ => d

/-- A write to a register of class 0x0A: while STATE is IDLE, a write of DRIVE_EN or of a drive's registers ends a FAILED state (R427). -/
def Dev.writeSnap (d : Dev) (m : Master) (off v : Nat) : Dev :=
  let clear := fun (d : Dev) (n : Nat) => if d.get (F.SNAP_DRIVE_LINK_STATE.nth n 32) = 3 then d.setDrive n 0 else d
  if off = 0x008 then d.writeSnapCmd m v
  else
    let d := if d.snapState ≠ 0 then d
      else if off = 0x018 then (List.range 8).foldl clear d
      else if 0x100 ≤ off && off < 0x200 then clear d ((off - 0x100) / 32)
      else d
    d.writePlain m false 10 0 off v

/-- A write to a register of class 0x09 by a master. -/
def Dev.writeWdog (d : Dev) (m : Master) (off v : Nat) : Dev :=
  match off with
  | 0x010 => if bitOf v 0 then d.does (execOsHeartbeatWrite m) else d
  | 0x018 => if bitOf v 0 then d.does (execSlolisKick m) else d
  | 0x020 =>
    match bitsOf v 2 0 with
    | 1 => d.does (execRstSlolis m)
    | 2 => d.does (execRstOs m)
    | 3 => d.does (execRstPartition m (Fin.ofNat 8 (bitsOf v 10 8)))
    | 4 => d.does (execRstDevice m)
    | _ => d
  | _ => d.writePlain m false 9 0 off v

/-- A write to a register of a block that is powered and out of reset. -/
def Dev.writeBlock (d : Dev) (m : Master) (cls inst off v : Nat) : Dev :=
  match cls with
  | 0 => d.writeDev m off v
  | 2 => d.writeCell m inst off v
  | 4 => d.writeEng m inst off v
  | 6 =>
    let n : Port := Fin.ofNat 12 inst
    if off = 0x000 then (if bitOf v 63 then d.does (execTlEnable m n (wOf v)) else d.does (execTlDisable m n (wOf v)))
    else if off = 0x020 then (if bitsOf v 1 0 = 1 then d.does (execTlRetrain m n) else d)
    else d.writePlain m false 6 inst off v
  | 7 =>
    if off = 0x008 then d.schedCmd m v
    else if off = 0x060 then d.does (execStretchRequestWrite m (wOf v))
    else d.writePlain m false 7 0 off v
  | 8 =>
    if inst = 0 && off = 0x038 then
      match bitsOf v 2 0 with
      | 1 => if bitsOf v 25 16 < 512 then d.does (execBadgerSuspect m (Fin.ofNat 512 (bitsOf v 25 16))) else d.badgerResult 2
      | 2 => if bitsOf v 25 16 < 544 then d.does (execBadgerFence m (Fin.ofNat 544 (bitsOf v 25 16))) else d.badgerResult 2
      | _ => d.badgerResult 4
    else d.writePlain m false 8 inst off v
  | 9 => d.writeWdog m off v
  | 10 => d.writeSnap m off v
  | 12 =>
    if off < 0x400 then d.does (execVirtioNetAccess m (Fin.ofNat 2 inst) off true (wOf v)) else d.writePlain m false 12 inst off v
  | 14 => if off = 0x010 && bitOf v 60 then d.does (execSecDebugRevoke m) else d.writePlain m false 14 0 off v
  | 15 =>
    if off = 0x000 && bitOf v 63 && !d.bit F.MBOX_CFG_EN then d.does (execMboxEnable m (wOf v)) else d.writePlain m false 15 0 off v
  | _ => d.writePlain m false cls inst off v

/-- A control-space write (R9, R497): an access that is not decoded fails with an address fault; an instance beyond the class's range and a block that is off ignore it. DEDUCED, unsafe (log entry 78). -/
def Dev.ctlWrite (d : Dev) (m : Master) (addr size v : Nat) : Dev :=
  match ctlDecode addr size with
  | none => d.answer .addressFault
  | some (cls, inst, off) =>
    let d := d.answer .none
    if instAbsent cls inst || !d.blockOn cls inst off then d else d.writeBlock m cls inst off v

/-- REGISTER_WRITE (R12). DESIGN CHOICE, unsafe (log entry 9). -/
def execRegisterWrite (m : Master) (addr : Word) (size : Nat) (v : Word) (s : State) : Host.Outcome State Fault Refusal :=
  s.run (fun d => d.ctlWrite m addr.toNat size v.toNat)

/-! ## Reads -/

/-- STATE of a context as Table 03-12 codes it. -/
def CtxPhase.code : CtxPhase → Nat
  | .empty => 0
  | .ready => 1
  | .running => 2
  | .parked => 3
  | .done => 4
  | .faulted => 5

/-- The byte of a context in CELL_CTX_STATE (Table 03-12). -/
def Dev.ctxByte (d : Dev) (pc c : Nat) : Nat :=
  let x := d.ctx pc c
  let w := if x.phase = .parked then (x.wait.map Wait.code).getD 0 else 0
  128 * b2n (d.cell pc).frozen + 16 * w + x.phase.code

/-- The wide values (R15): the lowest register and how many registers show the value; the register lies `k` above it. -/
def wideOf (cls inst off : Nat) : Option (Nat × Nat × Nat) :=
  if cls = 13 && 0x020 ≤ off && off < 0x060 then some (0x020, (off - 0x020) / 8, 8)
  else if cls = 14 && 0x040 ≤ off && off < 0x080 then some (0x040, (off - 0x040) / 8, 8)
  else if cls = 14 && 0x088 ≤ off && off < 0x0A8 then some (0x088, (off - 0x088) / 8, 4)
  else if cls = 4 && inst % 16 = 5 && 0x200 ≤ off && off < 0x300 then some (off / 16 * 16, off % 16 / 8, 2)
  else none

/-- The present word of a register as a read shows it: WO fields read zero, and views are made of the state they show. DEDUCED, unsafe (log entry 80). -/
def Dev.view (d : Dev) (m : Master) (cls inst off : Nat) : Nat :=
  match findReg cls inst off with
  | none => 0
  | some r =>
    let base := cls * 2 ^ 24 + off
    let plain := d.reg base inst (d.bankItem r.bank inst m)
    match cls, off with
    | 0, 0x418 => 0
    | 0, 0xA18 =>
      let dom := d.get F.DEV_TEMP_SEL_DOMAIN
      setBitsOf plain 63 56 (if dom ≤ 584 || dom = 1023 then SMap.read 0 d.power.sensors dom else 0)
    | 2, 0x400 => d.arrStatus inst
    | 2, 0x450 => if d.get F.CELL_ARR_IMBAL_SEL_UNIT inst < 66 then plain else 0
    | 2, 0x608 => if (d.hosted inst).isSome then d.counter inst (d.get F.CELL_SYNC_SEL_CTR inst) else 0
    | 2, 0x610 =>
      if (d.hosted inst).isSome then ((d.cell inst).waiters (d.get F.CELL_SYNC_SEL_CTR inst)).foldl (fun v c => v + 2 ^ c) 0 else 0
    | 6, 0x008 => setBitsOf plain 50 50 (b2n (d.bit F.DEV_BEAT_STATUS_LOCKED && !d.bit F.DEV_BEAT_STATUS_MASTER &&
        d.get F.DEV_BEAT_STATUS_PARENT_PORT = inst))
    | 12, _ => if off < 0x400 then d.virtioRead inst (off / 2) else plain
    | 13, 0x000 =>
      let up := d.mgmtUp 0 || d.mgmtUp 1
      b2n (d.collectorOn 1 && up) * 2 ^ 63 + b2n (d.collectorOn 0 && up) * 2 ^ 62 + min 256 d.logSlots.length * 2 ^ 32 + d.nextSeq
    | 13, 0x018 => setBitsOf plain 63 63 (b2n (d.logEntry (d.get F.FLOG_READ_SEL_SEQ)).isSome)
    | 14, 0x010 =>
      if d.bit F.SEC_DEBUG_ACTIVE then setBitsOf plain 31 0 (d.mgmt.grantSec - (d.ns - d.mgmt.grantNs) / 1000000000) else plain
    | _, _ =>
      if cls = 2 && 0x040 ≤ off && off < 0x060 then
        (List.range 8).foldl (fun v k => v + d.ctxByte inst (off - 0x040 + k) * 2 ^ (8 * k)) 0
      else if cls = 13 && 0x020 ≤ off && off < 0x060 then
        match d.logEntry (d.get F.FLOG_READ_SEL_SEQ) with
        | some e => leNat ((e.bytes.drop (off - 0x020)).take 8)
        | none => 0
      else if cls = 14 && 0x088 ≤ off && off < 0x0A8 then leNat (((d.measReg (d.get F.SEC_MEAS_SEL_REG)).drop (off - 0x088)).take 8)
      else plain

/-- A control-space read (R9, R15, R497): a read of the lowest register of a wide value latches all of it, and the higher registers answer with the latched words. DEDUCED, unsafe (log entry 78). -/
def Dev.ctlRead (d : Dev) (m : Master) (addr size : Nat) : Dev :=
  match ctlDecode addr size with
  | none => d.answer .addressFault
  | some (cls, inst, off) =>
    if instAbsent cls inst || !d.blockOn cls inst off then d.answer (.value 0)
    else match wideOf cls inst off with
      | none => d.answer (.value (d.view m cls inst off))
      | some (low, 0, n) =>
        let base := cls * 2 ^ 24 + low
        let words := (List.range n).map (fun k => (regKey (base + 8 * k) inst 0, wOf (d.view m cls inst (low + 8 * k))))
        let d := { d with latch := words.foldl (fun l (e : Nat × Word) => SMap.write 0 l e.1 e.2) d.latch }
        d.answer (.value (d.view m cls inst off))
      | some (low, k, _) => d.answer (.value (SMap.read 0 d.latch (regKey (cls * 2 ^ 24 + low + 8 * k) inst 0)).toNat)

/-- WIDE_VALUE_READ: a read of a register by a master (R15). -/
def execWideValueRead (m : Master) (addr : Word) (size : Nat) (s : State) : Host.Outcome State Fault Refusal :=
  s.run (fun d => d.ctlRead m addr.toNat size)

end Sys2Proof.Machine
end

