-- ==== Sys2Proof/Machine/Scalar.lean ====
section
/-! DEFINITION. The scalar instructions of classes 0x0 and 0x1: integer arithmetic, shifts, comparisons and constants (R85, R91, R92, Table 03-2). -/

namespace Sys2Proof.Machine

/-- Shift left by the low six bits of the second operand. -/
def aluSll (a b : Word) : Word := a <<< (b.toNat % 64)

/-- Logical shift right by the low six bits. -/
def aluSrl (a b : Word) : Word := a >>> (b.toNat % 64)

/-- Arithmetic shift right by the low six bits. -/
def aluSra (a b : Word) : Word := a.sshiftRight (b.toNat % 64)

/-- The signed high half of the 128-bit product. -/
def aluMulh (a b : Word) : Word := BitVec.ofInt 64 (a.toInt * b.toInt / 2 ^ 64)

/-- Signed division: all ones on division by zero, and -2^63 / -1 is -2^63 (R92). -/
def aluDiv (a b : Word) : Word := if b = 0 then BitVec.allOnes 64 else a.sdiv b

/-- Unsigned division: all ones on division by zero (R92). -/
def aluDivu (a b : Word) : Word := if b = 0 then BitVec.allOnes 64 else a / b

/-- Signed remainder: the dividend on division by zero, and 0 for -2^63 by -1 (R92). -/
def aluRem (a b : Word) : Word := if b = 0 then a else a.srem b

/-- Unsigned remainder: the dividend on division by zero (R92). -/
def aluRemu (a b : Word) : Word := if b = 0 then a else a % b

/-- Signed comparison. -/
def aluSlt (a b : Word) : Word := if a.toInt < b.toInt then 1 else 0

/-- Unsigned comparison. -/
def aluSltu (a b : Word) : Word := if a.toNat < b.toNat then 1 else 0

/-- Fields of a class 0x0 operation. -/
def useRR : UseS := ⟨true, true, true, 0, 0⟩

/-- Fields of a class 0x1 operation. -/
def useRI : UseS := ⟨true, true, false, 0, 0xFFFFFFFF⟩

/-- XD := XA op XB. -/
def Dev.aluRR (d : Dev) (pc : Slot) (c : Ctx) (f : FmtS) (op : Word → Word → Word) : Dev :=
  d.issueScalar pc c (f.ok useRR) f.regs (fun d =>
    let x := d.ctx pc c
    .next (d.writeX pc c f.xd.toNat (op (x.xr f.xa.toNat) (x.xr f.xb.toNat))))

/-- XD := XA op IMM, with IMM sign-extended. -/
def Dev.aluRI (d : Dev) (pc : Slot) (c : Ctx) (f : FmtS) (op : Word → Word → Word) : Dev :=
  d.issueScalar pc c (f.ok useRI) f.regs (fun d =>
    let x := d.ctx pc c
    .next (d.writeX pc c f.xd.toNat (op (x.xr f.xa.toNat) f.simm)))

/-- ADD: XD := XA + XB. -/
def execAdd (pc : Slot) (c : Ctx) (f : FmtS) (s : State) : Host.Outcome State Fault Refusal :=
  s.run (fun d => d.aluRR pc c f (fun a b => a + b))

/-- SUB: XD := XA - XB. -/
def execSub (pc : Slot) (c : Ctx) (f : FmtS) (s : State) : Host.Outcome State Fault Refusal :=
  s.run (fun d => d.aluRR pc c f (fun a b => a - b))

/-- AND: XD := XA and XB. -/
def execAndOp (pc : Slot) (c : Ctx) (f : FmtS) (s : State) : Host.Outcome State Fault Refusal :=
  s.run (fun d => d.aluRR pc c f (fun a b => a &&& b))

/-- OR: XD := XA or XB. -/
def execOrOp (pc : Slot) (c : Ctx) (f : FmtS) (s : State) : Host.Outcome State Fault Refusal :=
  s.run (fun d => d.aluRR pc c f (fun a b => a ||| b))

/-- XOR: XD := XA xor XB. -/
def execXorOp (pc : Slot) (c : Ctx) (f : FmtS) (s : State) : Host.Outcome State Fault Refusal :=
  s.run (fun d => d.aluRR pc c f (fun a b => a ^^^ b))

/-- SLL: XD := XA shifted left by XB[5:0]. -/
def execSll (pc : Slot) (c : Ctx) (f : FmtS) (s : State) : Host.Outcome State Fault Refusal :=
  s.run (fun d => d.aluRR pc c f (fun a b => aluSll a b))

/-- SRL: XD := XA shifted right logically by XB[5:0]. -/
def execSrl (pc : Slot) (c : Ctx) (f : FmtS) (s : State) : Host.Outcome State Fault Refusal :=
  s.run (fun d => d.aluRR pc c f (fun a b => aluSrl a b))

/-- SRA: XD := XA shifted right arithmetically by XB[5:0]. -/
def execSra (pc : Slot) (c : Ctx) (f : FmtS) (s : State) : Host.Outcome State Fault Refusal :=
  s.run (fun d => d.aluRR pc c f (fun a b => aluSra a b))

/-- MUL: XD := the low 64 bits of XA times XB. -/
def execMul (pc : Slot) (c : Ctx) (f : FmtS) (s : State) : Host.Outcome State Fault Refusal :=
  s.run (fun d => d.aluRR pc c f (fun a b => a * b))

/-- MULH: XD := the signed high half of XA times XB. -/
def execMulh (pc : Slot) (c : Ctx) (f : FmtS) (s : State) : Host.Outcome State Fault Refusal :=
  s.run (fun d => d.aluRR pc c f (fun a b => aluMulh a b))

/-- DIV: XD := signed XA / XB. -/
def execDiv (pc : Slot) (c : Ctx) (f : FmtS) (s : State) : Host.Outcome State Fault Refusal :=
  s.run (fun d => d.aluRR pc c f (fun a b => aluDiv a b))

/-- DIVU: XD := unsigned XA / XB. -/
def execDivu (pc : Slot) (c : Ctx) (f : FmtS) (s : State) : Host.Outcome State Fault Refusal :=
  s.run (fun d => d.aluRR pc c f (fun a b => aluDivu a b))

/-- REM: XD := the signed remainder. -/
def execRem (pc : Slot) (c : Ctx) (f : FmtS) (s : State) : Host.Outcome State Fault Refusal :=
  s.run (fun d => d.aluRR pc c f (fun a b => aluRem a b))

/-- REMU: XD := the unsigned remainder. -/
def execRemu (pc : Slot) (c : Ctx) (f : FmtS) (s : State) : Host.Outcome State Fault Refusal :=
  s.run (fun d => d.aluRR pc c f (fun a b => aluRemu a b))

/-- SLT: XD := 1 if XA < XB signed. -/
def execSlt (pc : Slot) (c : Ctx) (f : FmtS) (s : State) : Host.Outcome State Fault Refusal :=
  s.run (fun d => d.aluRR pc c f (fun a b => aluSlt a b))

/-- SLTU: XD := 1 if XA < XB unsigned. -/
def execSltu (pc : Slot) (c : Ctx) (f : FmtS) (s : State) : Host.Outcome State Fault Refusal :=
  s.run (fun d => d.aluRR pc c f (fun a b => aluSltu a b))

/-- ADDI: XD := XA + XB, with IMM in place of XB. -/
def execAddi (pc : Slot) (c : Ctx) (f : FmtS) (s : State) : Host.Outcome State Fault Refusal :=
  s.run (fun d => d.aluRI pc c f (fun a b => a + b))

/-- SUBI: XD := XA - XB, with IMM in place of XB. -/
def execSubi (pc : Slot) (c : Ctx) (f : FmtS) (s : State) : Host.Outcome State Fault Refusal :=
  s.run (fun d => d.aluRI pc c f (fun a b => a - b))

/-- ANDI: XD := XA and XB, with IMM in place of XB. -/
def execAndi (pc : Slot) (c : Ctx) (f : FmtS) (s : State) : Host.Outcome State Fault Refusal :=
  s.run (fun d => d.aluRI pc c f (fun a b => a &&& b))

/-- ORI: XD := XA or XB, with IMM in place of XB. -/
def execOri (pc : Slot) (c : Ctx) (f : FmtS) (s : State) : Host.Outcome State Fault Refusal :=
  s.run (fun d => d.aluRI pc c f (fun a b => a ||| b))

/-- XORI: XD := XA xor XB, with IMM in place of XB. -/
def execXori (pc : Slot) (c : Ctx) (f : FmtS) (s : State) : Host.Outcome State Fault Refusal :=
  s.run (fun d => d.aluRI pc c f (fun a b => a ^^^ b))

/-- SLLI: XD := XA shifted left by XB[5:0], with IMM in place of XB. -/
def execSlli (pc : Slot) (c : Ctx) (f : FmtS) (s : State) : Host.Outcome State Fault Refusal :=
  s.run (fun d => d.aluRI pc c f (fun a b => aluSll a b))

/-- SRLI: XD := XA shifted right logically by XB[5:0], with IMM in place of XB. -/
def execSrli (pc : Slot) (c : Ctx) (f : FmtS) (s : State) : Host.Outcome State Fault Refusal :=
  s.run (fun d => d.aluRI pc c f (fun a b => aluSrl a b))

/-- SRAI: XD := XA shifted right arithmetically by XB[5:0], with IMM in place of XB. -/
def execSrai (pc : Slot) (c : Ctx) (f : FmtS) (s : State) : Host.Outcome State Fault Refusal :=
  s.run (fun d => d.aluRI pc c f (fun a b => aluSra a b))

/-- MULI: XD := the low 64 bits of XA times XB, with IMM in place of XB. -/
def execMuli (pc : Slot) (c : Ctx) (f : FmtS) (s : State) : Host.Outcome State Fault Refusal :=
  s.run (fun d => d.aluRI pc c f (fun a b => a * b))

/-- MULHI: XD := the signed high half of XA times XB, with IMM in place of XB. -/
def execMulhi (pc : Slot) (c : Ctx) (f : FmtS) (s : State) : Host.Outcome State Fault Refusal :=
  s.run (fun d => d.aluRI pc c f (fun a b => aluMulh a b))

/-- DIVI: XD := signed XA / XB, with IMM in place of XB. -/
def execDivi (pc : Slot) (c : Ctx) (f : FmtS) (s : State) : Host.Outcome State Fault Refusal :=
  s.run (fun d => d.aluRI pc c f (fun a b => aluDiv a b))

/-- DIVUI: XD := unsigned XA / XB, with IMM in place of XB. -/
def execDivui (pc : Slot) (c : Ctx) (f : FmtS) (s : State) : Host.Outcome State Fault Refusal :=
  s.run (fun d => d.aluRI pc c f (fun a b => aluDivu a b))

/-- REMI: XD := the signed remainder, with IMM in place of XB. -/
def execRemi (pc : Slot) (c : Ctx) (f : FmtS) (s : State) : Host.Outcome State Fault Refusal :=
  s.run (fun d => d.aluRI pc c f (fun a b => aluRem a b))

/-- REMUI: XD := the unsigned remainder, with IMM in place of XB. -/
def execRemui (pc : Slot) (c : Ctx) (f : FmtS) (s : State) : Host.Outcome State Fault Refusal :=
  s.run (fun d => d.aluRI pc c f (fun a b => aluRemu a b))

/-- SLTI: XD := 1 if XA < XB signed, with IMM in place of XB. -/
def execSlti (pc : Slot) (c : Ctx) (f : FmtS) (s : State) : Host.Outcome State Fault Refusal :=
  s.run (fun d => d.aluRI pc c f (fun a b => aluSlt a b))

/-- SLTUI: XD := 1 if XA < XB unsigned, with IMM in place of XB. -/
def execSltui (pc : Slot) (c : Ctx) (f : FmtS) (s : State) : Host.Outcome State Fault Refusal :=
  s.run (fun d => d.aluRI pc c f (fun a b => aluSltu a b))

/-- LI: XD := IMM, sign-extended. -/
def execLi (pc : Slot) (c : Ctx) (f : FmtS) (s : State) : Host.Outcome State Fault Refusal :=
  s.run (fun d => d.issueScalar pc c (f.ok ⟨true, false, false, 0, 0xFFFFFFFF⟩) f.regs (fun d =>
    .next (d.writeX pc c f.xd.toNat f.simm)))

/-- LIH: XD[63:32] := IMM; XD[31:0] unchanged. -/
def execLih (pc : Slot) (c : Ctx) (f : FmtS) (s : State) : Host.Outcome State Fault Refusal :=
  s.run (fun d => d.issueScalar pc c (f.ok ⟨true, false, false, 0, 0xFFFFFFFF⟩) f.regs (fun d =>
    .next (d.writeX pc c f.xd.toNat (f.imm ++ ((d.ctx pc c).xr f.xd.toNat).truncate 32))))

end Sys2Proof.Machine
end

