-- ==== Sys2Proof/Machine/Dispatch.lean ====
section
/-! DEFINITION. Which meaning each command has: one arm per constructor. -/

namespace Sys2Proof.Machine

/-- The effect of a command on everything but the queue of waiting commands. -/
def exec (i : Instr) (s : State) : Host.Outcome State Fault Refusal :=
  match i with
  | .registerWrite m addr size v => Sys2Proof.Machine.execRegisterWrite m addr size v s
  | .wideValueRead m addr size => Sys2Proof.Machine.execWideValueRead m addr size s
  | .distBaseWrite m v => Sys2Proof.Machine.execDistBaseWrite m v s
  | .distUpdateStart => Sys2Proof.Machine.execDistUpdateStart s
  | .distUpdateEnd => Sys2Proof.Machine.execDistUpdateEnd s
  | .clockBandExit isl kHz => Sys2Proof.Machine.execClockBandExit isl kHz s
  | .clockBandReturn isl => Sys2Proof.Machine.execClockBandReturn isl s
  | .domainSwitchOn d => Sys2Proof.Machine.execDomainSwitchOn d s
  | .domainSwitchOff d => Sys2Proof.Machine.execDomainSwitchOff d s
  | .domainRegulatorFault d outOfRegulation => Sys2Proof.Machine.execDomainRegulatorFault d outOfRegulation s
  | .add pc c f => Sys2Proof.Machine.execAdd pc c f s
  | .sub pc c f => Sys2Proof.Machine.execSub pc c f s
  | .andOp pc c f => Sys2Proof.Machine.execAndOp pc c f s
  | .orOp pc c f => Sys2Proof.Machine.execOrOp pc c f s
  | .xorOp pc c f => Sys2Proof.Machine.execXorOp pc c f s
  | .sll pc c f => Sys2Proof.Machine.execSll pc c f s
  | .srl pc c f => Sys2Proof.Machine.execSrl pc c f s
  | .sra pc c f => Sys2Proof.Machine.execSra pc c f s
  | .mul pc c f => Sys2Proof.Machine.execMul pc c f s
  | .mulh pc c f => Sys2Proof.Machine.execMulh pc c f s
  | .div pc c f => Sys2Proof.Machine.execDiv pc c f s
  | .divu pc c f => Sys2Proof.Machine.execDivu pc c f s
  | .rem pc c f => Sys2Proof.Machine.execRem pc c f s
  | .remu pc c f => Sys2Proof.Machine.execRemu pc c f s
  | .slt pc c f => Sys2Proof.Machine.execSlt pc c f s
  | .sltu pc c f => Sys2Proof.Machine.execSltu pc c f s
  | .addi pc c f => Sys2Proof.Machine.execAddi pc c f s
  | .subi pc c f => Sys2Proof.Machine.execSubi pc c f s
  | .andi pc c f => Sys2Proof.Machine.execAndi pc c f s
  | .ori pc c f => Sys2Proof.Machine.execOri pc c f s
  | .xori pc c f => Sys2Proof.Machine.execXori pc c f s
  | .slli pc c f => Sys2Proof.Machine.execSlli pc c f s
  | .srli pc c f => Sys2Proof.Machine.execSrli pc c f s
  | .srai pc c f => Sys2Proof.Machine.execSrai pc c f s
  | .muli pc c f => Sys2Proof.Machine.execMuli pc c f s
  | .mulhi pc c f => Sys2Proof.Machine.execMulhi pc c f s
  | .divi pc c f => Sys2Proof.Machine.execDivi pc c f s
  | .divui pc c f => Sys2Proof.Machine.execDivui pc c f s
  | .remi pc c f => Sys2Proof.Machine.execRemi pc c f s
  | .remui pc c f => Sys2Proof.Machine.execRemui pc c f s
  | .slti pc c f => Sys2Proof.Machine.execSlti pc c f s
  | .sltui pc c f => Sys2Proof.Machine.execSltui pc c f s
  | .li pc c f => Sys2Proof.Machine.execLi pc c f s
  | .lih pc c f => Sys2Proof.Machine.execLih pc c f s
  | .ld pc c f u => Sys2Proof.Machine.execLd pc c f u s
  | .st pc c f u => Sys2Proof.Machine.execSt pc c f u s
  | .ldm pc c f u => Sys2Proof.Machine.execLdm pc c f u s
  | .stm pc c f u => Sys2Proof.Machine.execStm pc c f u s
  | .fence pc c f => Sys2Proof.Machine.execFence pc c f s
  | .beq pc c f => Sys2Proof.Machine.execBeq pc c f s
  | .bne pc c f => Sys2Proof.Machine.execBne pc c f s
  | .blt pc c f => Sys2Proof.Machine.execBlt pc c f s
  | .bge pc c f => Sys2Proof.Machine.execBge pc c f s
  | .bltu pc c f => Sys2Proof.Machine.execBltu pc c f s
  | .bgeu pc c f => Sys2Proof.Machine.execBgeu pc c f s
  | .jal pc c f => Sys2Proof.Machine.execJal pc c f s
  | .jalr pc c f => Sys2Proof.Machine.execJalr pc c f s
  | .vadd pc c f => Sys2Proof.Machine.execVadd pc c f s
  | .vsub pc c f => Sys2Proof.Machine.execVsub pc c f s
  | .vmul pc c f => Sys2Proof.Machine.execVmul pc c f s
  | .vfma pc c f => Sys2Proof.Machine.execVfma pc c f s
  | .vmin pc c f => Sys2Proof.Machine.execVmin pc c f s
  | .vmax pc c f => Sys2Proof.Machine.execVmax pc c f s
  | .vcmp pc c f => Sys2Proof.Machine.execVcmp pc c f s
  | .vsum pc c f => Sys2Proof.Machine.execVsum pc c f s
  | .viadd pc c f => Sys2Proof.Machine.execViadd pc c f s
  | .visub pc c f => Sys2Proof.Machine.execVisub pc c f s
  | .vimul pc c f => Sys2Proof.Machine.execVimul pc c f s
  | .vand pc c f => Sys2Proof.Machine.execVand pc c f s
  | .vor pc c f => Sys2Proof.Machine.execVor pc c f s
  | .vxor pc c f => Sys2Proof.Machine.execVxor pc c f s
  | .vshl pc c f => Sys2Proof.Machine.execVshl pc c f s
  | .vshr pc c f => Sys2Proof.Machine.execVshr pc c f s
  | .vsra pc c f => Sys2Proof.Machine.execVsra pc c f s
  | .vicmp pc c f => Sys2Proof.Machine.execVicmp pc c f s
  | .vsel pc c f => Sys2Proof.Machine.execVsel pc c f s
  | .vperm pc c f => Sys2Proof.Machine.execVperm pc c f s
  | .vrot pc c f => Sys2Proof.Machine.execVrot pc c f s
  | .vcvt pc c f => Sys2Proof.Machine.execVcvt pc c f s
  | .vext pc c f => Sys2Proof.Machine.execVext pc c f s
  | .vbcast pc c f => Sys2Proof.Machine.execVbcast pc c f s
  | .vzero pc c f => Sys2Proof.Machine.execVzero pc c f s
  | .vld pc c f u => Sys2Proof.Machine.execVld pc c f u s
  | .vst pc c f u => Sys2Proof.Machine.execVst pc c f u s
  | .slabOpWriteback pc residueBad => Sys2Proof.Machine.execSlabOpWriteback pc residueBad s
  | .sdecl pc c f => Sys2Proof.Machine.execSdecl pc c f s
  | .srel pc c f => Sys2Proof.Machine.execSrel pc c f s
  | .runaheadRead pc c sd => Sys2Proof.Machine.execRunaheadRead pc c sd s
  | .sadd pc c f => Sys2Proof.Machine.execSadd pc c f s
  | .saddRemote pc c f => Sys2Proof.Machine.execSaddRemote pc c f s
  | .sset pc c f => Sys2Proof.Machine.execSset pc c f s
  | .swait pc c f => Sys2Proof.Machine.execSwait pc c f s
  | .sread pc c f => Sys2Proof.Machine.execSread pc c f s
  | .csend pc c f => Sys2Proof.Machine.execCsend pc c f s
  | .cpeek pc c f => Sys2Proof.Machine.execCpeek pc c f s
  | .cadv pc c f => Sys2Proof.Machine.execCadv pc c f s
  | .cqaddContribute pc c f => Sys2Proof.Machine.execCqaddContribute pc c f s
  | .cqaddOpen pc c f => Sys2Proof.Machine.execCqaddOpen pc c f s
  | .cqaddClose pc c f => Sys2Proof.Machine.execCqaddClose pc c f s
  | .aload pc c f => Sys2Proof.Machine.execAload pc c f s
  | .aloadStart pc => Sys2Proof.Machine.execAloadStart pc s
  | .aloadDone pc => Sys2Proof.Machine.execAloadDone pc s
  | .alaunch pc c f => Sys2Proof.Machine.execAlaunch pc c f s
  | .adrain pc c f => Sys2Proof.Machine.execAdrain pc c f s
  | .astat pc c f => Sys2Proof.Machine.execAstat pc c f s
  | .csrr pc c f => Sys2Proof.Machine.execCsrr pc c f s
  | .endTask pc c f => Sys2Proof.Machine.execEndTask pc c f s
  | .yieldCtx pc c f => Sys2Proof.Machine.execYieldCtx pc c f s
  | .bindTask pc c f => Sys2Proof.Machine.execBindTask pc c f s
  | .nop pc c f => Sys2Proof.Machine.execNop pc c f s
  | .taskSwitchDone pc c => Sys2Proof.Machine.execTaskSwitchDone pc c s
  | .killClearDone pc c => Sys2Proof.Machine.execKillClearDone pc c s
  | .timeSliceExpiry pc c => Sys2Proof.Machine.execTimeSliceExpiry pc c s
  | .ctxBind m pc c desc => Sys2Proof.Machine.execCtxBind m pc c desc s
  | .ctxKill m pc c => Sys2Proof.Machine.execCtxKill m pc c s
  | .ctxFreeze m pc c => Sys2Proof.Machine.execCtxFreeze m pc c s
  | .ctxThaw m pc c => Sys2Proof.Machine.execCtxThaw m pc c s
  | .cellFreezeDone pc => Sys2Proof.Machine.execCellFreezeDone pc s
  | .launchStart pc => Sys2Proof.Machine.execLaunchStart pc s
  | .tileCheck pc e => Sys2Proof.Machine.execTileCheck pc e s
  | .tileRepeatDone pc e => Sys2Proof.Machine.execTileRepeatDone pc e s
  | .launchEnd pc => Sys2Proof.Machine.execLaunchEnd pc s
  | .laneFire pc strip lane linkCorrected => Sys2Proof.Machine.execLaneFire pc strip lane linkCorrected s
  | .steerInputArrival pc unit token => Sys2Proof.Machine.execSteerInputArrival pc unit token s
  | .steerFire pc unit => Sys2Proof.Machine.execSteerFire pc unit s
  | .dataflowDeadlock pc => Sys2Proof.Machine.execDataflowDeadlock pc s
  | .drainDone pc => Sys2Proof.Machine.execDrainDone pc s
  | .drainTimeout pc => Sys2Proof.Machine.execDrainTimeout pc s
  | .spadScrubRead pc u => Sys2Proof.Machine.execSpadScrubRead pc u s
  | .eccWriteback pc => Sys2Proof.Machine.execEccWriteback pc s
  | .narrowPromote pc write => Sys2Proof.Machine.execNarrowPromote pc write s
  | .nmCommandStart pc => Sys2Proof.Machine.execNmCommandStart pc s
  | .nmFill pc => Sys2Proof.Machine.execNmFill pc s
  | .nmCopy pc => Sys2Proof.Machine.execNmCopy pc s
  | .nmStrided pc => Sys2Proof.Machine.execNmStrided pc s
  | .nmTranspose pc => Sys2Proof.Machine.execNmTranspose pc s
  | .nmCommandEnd pc => Sys2Proof.Machine.execNmCommandEnd pc s
  | .spadNmCtlWrite m pc v => Sys2Proof.Machine.execSpadNmCtlWrite m pc v s
  | .opsetSwitch m pc v => Sys2Proof.Machine.execOpsetSwitch m pc v s
  | .opsetSwitchEnd pc => Sys2Proof.Machine.execOpsetSwitchEnd pc s
  | .winOpen m win => Sys2Proof.Machine.execWinOpen m win s
  | .winClose m win => Sys2Proof.Machine.execWinClose m win s
  | .winCloseDone m win => Sys2Proof.Machine.execWinCloseDone m win s
  | .winRead m win => Sys2Proof.Machine.execWinRead m win s
  | .alignEntryWrite m pc n v => Sys2Proof.Machine.execAlignEntryWrite m pc n v s
  | .syncValueWrite m pc v => Sys2Proof.Machine.execSyncValueWrite m pc v s
  | .chanOpen m pc => Sys2Proof.Machine.execChanOpen m pc s
  | .chanClose m pc => Sys2Proof.Machine.execChanClose m pc s
  | .sepBind m pc => Sys2Proof.Machine.execSepBind m pc s
  | .sepUnbind m pc => Sys2Proof.Machine.execSepUnbind m pc s
  | .queueOpen m pc desc => Sys2Proof.Machine.execQueueOpen m pc desc s
  | .queueClose m pc => Sys2Proof.Machine.execQueueClose m pc s
  | .joinTimeout ep => Sys2Proof.Machine.execJoinTimeout ep s
  | .outboxRelease pc item => Sys2Proof.Machine.execOutboxRelease pc item s
  | .contribSend pc => Sys2Proof.Machine.execContribSend pc s
  | .queuePostDone pc q => Sys2Proof.Machine.execQueuePostDone pc q s
  | .oschOpen m => Sys2Proof.Machine.execOschOpen m s
  | .oschClose m => Sys2Proof.Machine.execOschClose m s
  | .osepBind m => Sys2Proof.Machine.execOsepBind m s
  | .osepUnbind m => Sys2Proof.Machine.execOsepUnbind m s
  | .oschAdv m => Sys2Proof.Machine.execOschAdv m s
  | .oschSend m v => Sys2Proof.Machine.execOschSend m v s
  | .wqEnable m e => Sys2Proof.Machine.execWqEnable m e s
  | .wqDisable m e => Sys2Proof.Machine.execWqDisable m e s
  | .wqSubmit who addr line => Sys2Proof.Machine.execWqSubmit who addr line s
  | .abortWord who addr => Sys2Proof.Machine.execAbortWord who addr s
  | .itemAbortStop it => Sys2Proof.Machine.execItemAbortStop it s
  | .dmaCopy it => Sys2Proof.Machine.execDmaCopy it s
  | .copy3d it => Sys2Proof.Machine.execCopy3d it s
  | .transpose it => Sys2Proof.Machine.execTranspose it s
  | .gather it => Sys2Proof.Machine.execGather it s
  | .scatter it => Sys2Proof.Machine.execScatter it s
  | .reduce it => Sys2Proof.Machine.execReduce it s
  | .topk it => Sys2Proof.Machine.execTopk it s
  | .expOp it => Sys2Proof.Machine.execExpOp it s
  | .logOp it => Sys2Proof.Machine.execLogOp it s
  | .rsqrt it => Sys2Proof.Machine.execRsqrt it s
  | .erfOp it => Sys2Proof.Machine.execErfOp it s
  | .convert it => Sys2Proof.Machine.execConvert it s
  | .generate it => Sys2Proof.Machine.execGenerate it s
  | .compress it => Sys2Proof.Machine.execCompress it s
  | .decompress it => Sys2Proof.Machine.execDecompress it s
  | .crc64 it => Sys2Proof.Machine.execCrc64 it s
  | .shake256 it => Sys2Proof.Machine.execShake256 it s
  | .itemPost it => Sys2Proof.Machine.execItemPost it s
  | .remoteTimeout it => Sys2Proof.Machine.execRemoteTimeout it s
  | .sgKeyCommit m e n v => Sys2Proof.Machine.execSgKeyCommit m e n v s
  | .engineIndication e => Sys2Proof.Machine.execEngineIndication e s
  | .replayRunEnd e recurred => Sys2Proof.Machine.execReplayRunEnd e recurred s
  | .engineSelfTestEnd e passed => Sys2Proof.Machine.execEngineSelfTestEnd e passed s
  | .engStallTimeout it => Sys2Proof.Machine.execEngStallTimeout it s
  | .farScrubRead ch u => Sys2Proof.Machine.execFarScrubRead ch u s
  | .commonsScrub h u => Sys2Proof.Machine.execCommonsScrub h u s
  | .farSpprRepair ch row bank => Sys2Proof.Machine.execFarSpprRepair ch row bank s
  | .farChannelFail ch => Sys2Proof.Machine.execFarChannelFail ch s
  | .farShareWrite m v => Sys2Proof.Machine.execFarShareWrite m v s
  | .packetHop at1 rivals u => Sys2Proof.Machine.execPacketHop at1 rivals u s
  | .writePkt p inPort => Sys2Proof.Machine.execWritePkt p inPort s
  | .readReqPkt p inPort => Sys2Proof.Machine.execReadReqPkt p inPort s
  | .readRespPkt p inPort => Sys2Proof.Machine.execReadRespPkt p inPort s
  | .writeAckPkt p inPort => Sys2Proof.Machine.execWriteAckPkt p inPort s
  | .refusePkt p inPort => Sys2Proof.Machine.execRefusePkt p inPort s
  | .recordPkt p inPort => Sys2Proof.Machine.execRecordPkt p inPort s
  | .creditPkt p inPort => Sys2Proof.Machine.execCreditPkt p inPort s
  | .joinPkt p inPort => Sys2Proof.Machine.execJoinPkt p inPort s
  | .joinReplyPkt p inPort => Sys2Proof.Machine.execJoinReplyPkt p inPort s
  | .closeNoticePkt p inPort => Sys2Proof.Machine.execCloseNoticePkt p inPort s
  | .contribPkt p inPort residueBad => Sys2Proof.Machine.execContribPkt p inPort residueBad s
  | .saddPacket p inPort => Sys2Proof.Machine.execSaddPacket p inPort s
  | .codewordRx n cw => Sys2Proof.Machine.execCodewordRx n cw s
  | .linkControlFlit n f arrival => Sys2Proof.Machine.execLinkControlFlit n f arrival s
  | .linkControlFlitTx n now => Sys2Proof.Machine.execLinkControlFlitTx n now s
  | .controlFlitTimeout n => Sys2Proof.Machine.execControlFlitTimeout n s
  | .laneLockLoss n => Sys2Proof.Machine.execLaneLockLoss n s
  | .tlEnable m n v => Sys2Proof.Machine.execTlEnable m n v s
  | .tlDisable m n v => Sys2Proof.Machine.execTlDisable m n v s
  | .tlRetrain m n => Sys2Proof.Machine.execTlRetrain m n s
  | .trainingDone n lowHalf highHalf => Sys2Proof.Machine.execTrainingDone n lowHalf highHalf s
  | .trainingTimeout n => Sys2Proof.Machine.execTrainingTimeout n s
  | .retrainTimer n => Sys2Proof.Machine.execRetrainTimer n s
  | .domainIdentityWrite m shape v => Sys2Proof.Machine.execDomainIdentityWrite m shape v s
  | .beatBoundary => Sys2Proof.Machine.execBeatBoundary s
  | .beatMarker n f corr => Sys2Proof.Machine.execBeatMarker n f corr s
  | .markerTimeout => Sys2Proof.Machine.execMarkerTimeout s
  | .holdFlit n f => Sys2Proof.Machine.execHoldFlit n f s
  | .stretchReq n f => Sys2Proof.Machine.execStretchReq n f s
  | .barrierArrive n f => Sys2Proof.Machine.execBarrierArrive n f s
  | .barrierRelease n f => Sys2Proof.Machine.execBarrierRelease n f s
  | .barrierTimeout => Sys2Proof.Machine.execBarrierTimeout s
  | .stretchRequestWrite m v => Sys2Proof.Machine.execStretchRequestWrite m v s
  | .schedLoad m epoch => Sys2Proof.Machine.execSchedLoad m epoch s
  | .loadDigestDone => Sys2Proof.Machine.execLoadDigestDone s
  | .loadSignatureDone => Sys2Proof.Machine.execLoadSignatureDone s
  | .phaseBJoinsDone => Sys2Proof.Machine.execPhaseBJoinsDone s
  | .schedResume m epoch => Sys2Proof.Machine.execSchedResume m epoch s
  | .holdCommand m => Sys2Proof.Machine.execHoldCommand m s
  | .schedUnload m => Sys2Proof.Machine.execSchedUnload m s
  | .windowRelease entry => Sys2Proof.Machine.execWindowRelease entry s
  | .maintenanceWindow => Sys2Proof.Machine.execMaintenanceWindow s
  | .maintenancePeriodEnd headroom => Sys2Proof.Machine.execMaintenancePeriodEnd headroom s
  | .migrationCopy lc u => Sys2Proof.Machine.execMigrationCopy lc u s
  | .migrationSwitch lc => Sys2Proof.Machine.execMigrationSwitch lc s
  | .migrationAbort row => Sys2Proof.Machine.execMigrationAbort row s
  | .testStepDone pc o => Sys2Proof.Machine.execTestStepDone pc o s
  | .badgerSuspect m lc => Sys2Proof.Machine.execBadgerSuspect m lc s
  | .badgerFence m pc => Sys2Proof.Machine.execBadgerFence m pc s
  | .headroomTrend headroom => Sys2Proof.Machine.execHeadroomTrend headroom s
  | .replaceLevelPublish => Sys2Proof.Machine.execReplaceLevelPublish s
  | .replaceNoticeRepeat => Sys2Proof.Machine.execReplaceNoticeRepeat s
  | .firstLightDone p failed => Sys2Proof.Machine.execFirstLightDone p failed s
  | .logIntake => Sys2Proof.Machine.execLogIntake s
  | .coalesceSlotClose slot => Sys2Proof.Machine.execCoalesceSlotClose slot s
  | .logDatagram => Sys2Proof.Machine.execLogDatagram s
  | .snapArm m => Sys2Proof.Machine.execSnapArm m s
  | .snapDisarm m => Sys2Proof.Machine.execSnapDisarm m s
  | .snapRestore m => Sys2Proof.Machine.execSnapRestore m s
  | .buddyServe m => Sys2Proof.Machine.execBuddyServe m s
  | .buddyRestore m => Sys2Proof.Machine.execBuddyRestore m s
  | .snapPropose n f => Sys2Proof.Machine.execSnapPropose n f s
  | .snapProposeTimer => Sys2Proof.Machine.execSnapProposeTimer s
  | .snapStep n f => Sys2Proof.Machine.execSnapStep n f s
  | .snapStepResend => Sys2Proof.Machine.execSnapStepResend s
  | .snapDone n f => Sys2Proof.Machine.execSnapDone n f s
  | .snapDoneResend => Sys2Proof.Machine.execSnapDoneResend s
  | .snapAnnounceTimeout => Sys2Proof.Machine.execSnapAnnounceTimeout s
  | .drainPiece h => Sys2Proof.Machine.execDrainPiece h s
  | .nvmeCompletion drive cq => Sys2Proof.Machine.execNvmeCompletion drive cq s
  | .nvmeTimeout drive => Sys2Proof.Machine.execNvmeTimeout drive s
  | .restoreSegmentDone seg => Sys2Proof.Machine.execRestoreSegmentDone seg s
  | .buddyShardStore sender j step data => Sys2Proof.Machine.execBuddyShardStore sender j step data s
  | .progressTimeout pc c => Sys2Proof.Machine.execProgressTimeout pc c s
  | .parkLongTimeout pc c beats => Sys2Proof.Machine.execParkLongTimeout pc c beats s
  | .osHeartbeatWrite m => Sys2Proof.Machine.execOsHeartbeatWrite m s
  | .osHbCheck => Sys2Proof.Machine.execOsHbCheck s
  | .slolisKick m => Sys2Proof.Machine.execSlolisKick m s
  | .slolisTimerExpiry => Sys2Proof.Machine.execSlolisTimerExpiry s
  | .rstSlolis m => Sys2Proof.Machine.execRstSlolis m s
  | .rstOs m => Sys2Proof.Machine.execRstOs m s
  | .rstPartition m p => Sys2Proof.Machine.execRstPartition m p s
  | .rstDevice m => Sys2Proof.Machine.execRstDevice m s
  | .farTrainingDone ch ok densityGiB sppr => Sys2Proof.Machine.execFarTrainingDone ch ok densityGiB sppr s
  | .partitionResetDone p => Sys2Proof.Machine.execPartitionResetDone p s
  | .deviceResetDone => Sys2Proof.Machine.execDeviceResetDone s
  | .resetEscalate => Sys2Proof.Machine.execResetEscalate s
  | .slolisRestartDone => Sys2Proof.Machine.execSlolisRestartDone s
  | .attest role nonce => Sys2Proof.Machine.execAttest role nonce s
  | .quoteSigned => Sys2Proof.Machine.execQuoteSigned s
  | .debugChallenge role => Sys2Proof.Machine.execDebugChallenge role s
  | .debugAuthorize role tok => Sys2Proof.Machine.execDebugAuthorize role tok s
  | .debugRevoke role => Sys2Proof.Machine.execDebugRevoke role s
  | .secDebugRevoke m => Sys2Proof.Machine.execSecDebugRevoke m s
  | .debugGrantExpiry => Sys2Proof.Machine.execDebugGrantExpiry s
  | .clearFence role pc => Sys2Proof.Machine.execClearFence role pc s
  | .replacementPolicy role hold capMin adviseDays => Sys2Proof.Machine.execReplacementPolicy role hold capMin adviseDays s
  | .scheduleAction role a => Sys2Proof.Machine.execScheduleAction role a s
  | .snapshotAction role a => Sys2Proof.Machine.execSnapshotAction role a s
  | .domainAction role a => Sys2Proof.Machine.execDomainAction role a s
  | .systemResetAction role a => Sys2Proof.Machine.execSystemResetAction role a s
  | .firmwareUpdate role loader image => Sys2Proof.Machine.execFirmwareUpdate role loader image s
  | .mboxEnable m v => Sys2Proof.Machine.execMboxEnable m v s
  | .mboxPoll => Sys2Proof.Machine.execMboxPoll s
  | .extendMeas tag digest => Sys2Proof.Machine.execExtendMeas tag digest s
  | .mboxAttest tag nonce buf => Sys2Proof.Machine.execMboxAttest tag nonce buf s
  | .mboxDebugChallenge tag => Sys2Proof.Machine.execMboxDebugChallenge tag s
  | .debugToken tag addr len => Sys2Proof.Machine.execDebugToken tag addr len s
  | .powerReq tag domain on => Sys2Proof.Machine.execPowerReq tag domain on s
  | .reportReq tag addr len kind => Sys2Proof.Machine.execReportReq tag addr len kind s
  | .ptpLock n timeNs offsetNs => Sys2Proof.Machine.execPtpLock n timeNs offsetNs s
  | .ptpLoss => Sys2Proof.Machine.execPtpLoss s
  | .mgmtLinkChange n up => Sys2Proof.Machine.execMgmtLinkChange n up s
  | .firmwareReady => Sys2Proof.Machine.execFirmwareReady s
  | .powerOn flash => Sys2Proof.Machine.execPowerOn flash s
  | .mainPwrgdRise => Sys2Proof.Machine.execMainPwrgdRise s
  | .mainPwrgdTimeout => Sys2Proof.Machine.execMainPwrgdTimeout s
  | .offRequest => Sys2Proof.Machine.execOffRequest s
  | .offAck m => Sys2Proof.Machine.execOffAck m s
  | .offGraceTimeout => Sys2Proof.Machine.execOffGraceTimeout s
  | .offRelease => Sys2Proof.Machine.execOffRelease s
  | .mainPowerLoss => Sys2Proof.Machine.execMainPowerLoss s
  | .mainPowerRetry => Sys2Proof.Machine.execMainPowerRetry s
  | .powerMonitorSample r => Sys2Proof.Machine.execPowerMonitorSample r s
  | .stretchControl => Sys2Proof.Machine.execStretchControl s
  | .thermalProtect => Sys2Proof.Machine.execThermalProtect s
  | .thermalFreezeExit => Sys2Proof.Machine.execThermalFreezeExit s
  | .thermalTrip tempC domain => Sys2Proof.Machine.execThermalTrip tempC domain s
  | .msiWrite n data => Sys2Proof.Machine.execMsiWrite n data s
  | .pcieInboundRequest n req => Sys2Proof.Machine.execPcieInboundRequest n req s
  | .pcieOutboundRequest who n off write data => Sys2Proof.Machine.execPcieOutboundRequest who n off write data s
  | .virtioNetAccess m n off write v => Sys2Proof.Machine.execVirtioNetAccess m n off write v s
  | .alwaysOnPowerOff => Sys2Proof.Machine.execAlwaysOnPowerOff s
  | .pcieLinkChange n second up rate width => Sys2Proof.Machine.execPcieLinkChange n second up rate width s
  | .frontEndLinkChange n up => Sys2Proof.Machine.execFrontEndLinkChange n up s
  | .frontEndFrameRx n frame => Sys2Proof.Machine.execFrontEndFrameRx n frame s
  | .jtagInstruction ir => Sys2Proof.Machine.execJtagInstruction ir s

end Sys2Proof.Machine
end

