-- ==== Sys2Proof/Machine/Tick.lean ====
section
/-! DEFINITION. What the device does in a cell cycle in which no command waits: the free-running counter and the statistics counters that count cycles go on. -/

namespace Sys2Proof.Machine

/-- The counters of a cell that count cycles: CELL_IDLE without a READY or RUNNING context (Table 03-18), CELL_ARR_BUSY with a launch running (Table 04-18), and CELL_SEP_CREDIT_STALL of every endpoint on which contexts are parked with WAIT 1 (Table 07-23). DESIGN CHOICE, unsafe (log entry 11). -/
def Dev.cellCycle (d : Dev) (pc : Nat) : Dev :=
  let s := d.cell pc
  let idle := !s.ctxs.any (fun e => e.2.phase == .ready || e.2.phase == .running)
  let d := if idle then d.count F.CELL_IDLE pc else d
  let d := if s.arr.run.isSome then d.count F.CELL_ARR_BUSY pc else d
  s.ctxs.foldl (fun (d : Dev) e =>
    match e.2.phase, e.2.wait with
    | .parked, some (.credit sep _ _) => d.count F.CELL_SEP_CREDIT_STALL pc (sep + 1)
    | _, _ => d) d

/-- One 2.1 GHz cell cycle passes (R21). DESIGN CHOICE, unsafe (log entry 2). -/
def Dev.tick (d : Dev) : Dev :=
  let d := ((List.range 544).filter d.domOn).foldl Dev.cellCycle d
  { d with cycle := d.cycle + 1 }

end Sys2Proof.Machine
end

