-- ==== Sys2Proof/Machine/Step.lean ====
section
/-! DEFINITION. One step of the block: the command at the front of the queue takes effect; with no command waiting, a cell cycle passes. -/

namespace Sys2Proof.Machine

/-- The front command runs with the queue's rest; an empty queue lets a cycle pass. DESIGN CHOICE, unsafe (log entry 2). DESIGN CHOICE, unsafe (log entry 7). DESIGN CHOICE, unsafe (log entry 9). -/
def step (s : State) : Host.Outcome State Fault Refusal :=
  match s.pending with
  | c :: rest => exec c { s with pending := rest }
  | [] => .next { s with dev := s.dev.tick }

/-- The state with the command that a table word spells at the front of its queue; the table's rows have no bits, so no word spells one. DESIGN CHOICE, unsafe (log entry 7). -/
def State.withFetchWord (s : State) (nbits w : Nat) : State :=
  match decodeTableWord nbits w with
  | some c => { s with pending := c :: s.pending }
  | none => s

end Sys2Proof.Machine
end

