-- ==== Sys2Proof/Safety.lean ====
section
/-! DEFINITION. The words that statements about the block use: a command completes, an instruction commits, a part of the device stands, and the invariant of the queue and the storage. -/

namespace Sys2Proof.Machine

/-- From device `d`, whatever waits in the queue, command `c` answers a next state; the queue stands, and `post` holds of the device. -/
def Does (c : Instr) (d : Dev) (post : Dev → Prop) : Prop :=
  ∀ q, ∃ d', exec c ⟨d, q⟩ = .next ⟨d', q⟩ ∧ post d'

/-! ## What stands -/

/-- Every register whose key is not in the list reads as before. -/
def RegsStand (d d' : Dev) (keys : List Nat) : Prop :=
  ∀ base inst item, regKey base inst item ∉ keys → d'.reg base inst item = d.reg base inst item

/-- Every byte of storage outside [a, a + n) reads as before. -/
def BytesStand (d d' : Dev) (a n : Nat) : Prop :=
  ∀ x, x < a ∨ a + n ≤ x → Memory.byte d'.mem x = Memory.byte d.mem x

/-- Every cell but one is as before. -/
def CellsStand (d d' : Dev) (pc : Nat) : Prop := ∀ p, p ≠ pc → d'.cell p = d.cell p

/-- What the choice of the next context keeps of a context: all but its phase and its read-ahead. -/
def CtxState.kept (x : CtxState) : Word × SMap Word × Nat × Nat × Nat × Bool × Nat × Bool × Nat × Nat × Option Wait × Option Nat × CtxActivity :=
  (x.pc, x.x, x.prio, x.codeBase, x.codeLimit, x.doneEn, x.doneCtr, x.start, x.retired, x.bindId, x.wait, x.sched, x.act)

/-- What an instruction that computes a value keeps of its context: all but the program counter, the scalar registers, the count of retired instructions, the phase and the read-ahead. -/
def CtxState.rest (x : CtxState) : Nat × Nat × Nat × Bool × Nat × Bool × Nat × Option Wait × Option Nat × CtxActivity :=
  (x.prio, x.codeBase, x.codeLimit, x.doneEn, x.doneCtr, x.start, x.bindId, x.wait, x.sched, x.act)

/-- Nothing changes but context `c` of the cell in slot `pc`, the choice of the cell's next context, and the registers of the listed keys. -/
def OnlyContext (d d' : Dev) (pc c : Nat) (keys : List Nat) : Prop :=
  { d' with cells := d.cells, regs := d.regs } = d ∧ CellsStand d d' pc ∧
  { d'.cell pc with ctxs := (d.cell pc).ctxs, lastRun := (d.cell pc).lastRun } = d.cell pc ∧
  (∀ k, k ≠ c → (d'.ctx pc k).kept = (d.ctx pc k).kept) ∧ RegsStand d d' keys

/-! ## Instructions of a core -/

/-- The conditions of an ordinary issue: the cell has power and is not frozen, the context is RUNNING, and its PC lies in the code range (R87, R107). -/
def Dev.ready (d : Dev) (pc c : Nat) : Bool := d.canIssue pc c && (d.ctx pc c).fetchOk

/-- The key of CELL_RETIRED of a slot. -/
def retiredKey (pc : Nat) : Nat := regKey F.CELL_RETIRED.base pc 0

/-- The instruction has committed: register `rd` holds `v` (a write to x0 is discarded, R85), every other register stands, PC is `next`, and the instruction is counted. -/
def Commits (d d' : Dev) (pc c rd : Nat) (v next : Word) : Prop :=
  (∀ r, (d'.ctx pc c).xr r = if r = rd ∧ r ≠ 0 then v else (d.ctx pc c).xr r) ∧ (d'.ctx pc c).pc = next ∧
  (d'.ctx pc c).retired = (d.ctx pc c).retired + 1 ∧ (d'.ctx pc c).rest = (d.ctx pc c).rest ∧
  d'.reg F.CELL_RETIRED.base pc = countUp (d.reg F.CELL_RETIRED.base pc) 1 % 2 ^ 64

/-- The next word after the instruction of a context. -/
def Dev.seqPc (d : Dev) (pc c : Nat) : Word := (d.ctx pc c).pc + 8

/-- A context has faulted: it is FAULTED at its instruction, and its registers stand (R117). -/
def FaultedAt (d d' : Dev) (pc c : Nat) : Prop :=
  (d'.ctx pc c).phase = .faulted ∧ (d'.ctx pc c).pc = (d.ctx pc c).pc ∧ (d'.ctx pc c).x = (d.ctx pc c).x

/-- An event counter has counted one event (R16). -/
def Counted (d d' : Dev) (f : Fld) (inst : Nat := 0) : Prop := d'.reg f.base inst = countUp (d.reg f.base inst) 1 % 2 ^ 64

/-- A fault that the array directs at the context of a launch has reached it: still in the bind that issued the ALAUNCH and ready, running or parked, the context is FAULTED at the ALAUNCH (R505). -/
def LaunchFaulted (d d' : Dev) (pc : Nat) (l : LaunchDesc) : Prop :=
  (d.ctx pc l.ctx).bindId = l.bindId → (d.ctx pc l.ctx).phase = .ready ∨ (d.ctx pc l.ctx).phase = .running ∨ (d.ctx pc l.ctx).phase = .parked →
    (d'.ctx pc l.ctx).phase = .faulted ∧ (d'.ctx pc l.ctx).pc = l.pc

/-! ## The invariant -/

/-- Every command that waits is well formed. -/
def State.wellQueued (s : State) : Prop := ∀ c ∈ s.pending, Instr.wf c = true

end Sys2Proof.Machine
end

