-- ==== Sys2Proof/Certificates/Slice0/Obligations.lean ====
section
/-! DEFINITION. The statements about the block, for the provers. -/

open Sys2Proof Sys2Proof.Machine

/-! ## The block as a whole -/

/-- A step takes the command at the front of the queue and is that command's effect with the rest of the queue; with no command waiting one cell cycle passes (R21), which leaves storage and cells as they are. Where the spec leaves it open this rests on the model's log entries 2 and 7. -/
def Obligations.StepRunsTheFrontCommandOrPassesACycle : Prop :=
  (∀ (c : Instr) (rest : List Instr) (d : Dev), step ⟨d, c :: rest⟩ = exec c ⟨d, rest⟩) ∧
  (∀ d : Dev, ∃ d', step ⟨d, []⟩ = .next ⟨d', []⟩ ∧ d'.cycle = d.cycle + 1 ∧ d'.mem = d.mem ∧ d'.cells = d.cells)

/-- R11, R29, R50: after reset no command waits, every domain is off, each logical cell has its default host, no context is bound and no unit has a job, a snapshot or a link; registers read as their tables say; the two invariants below hold. That storage reads zero there is the model's choice (log entry 3). -/
def Obligations.ResetLeavesTheSpecValues : Prop :=
  State.reset.pending = [] ∧ State.reset.wellQueued ∧ Memory.wf State.reset.dev.mem = true ∧
  (∀ dom < 640, State.reset.dev.domOn dom = false) ∧
  (∀ lc : Lc, State.reset.dev.hostOf lc = some (defaultSlot lc) ∧ State.reset.dev.migrating lc = false) ∧
  (∀ (pc : Slot) (c : Ctx), (State.reset.dev.ctx pc c).phase = .empty) ∧
  (∀ base inst item, State.reset.dev.reg base inst item = (regReset (regKey base inst item)).toNat) ∧
  State.reset.dev.schedState = 0 ∧ State.reset.dev.snapState = 0 ∧ (∀ n : Port, State.reset.dev.portState n = 0) ∧
  State.reset.dev.get F.SCHED_STRETCH_CUR = 16 ∧ ∀ a, Memory.byte State.reset.dev.mem a = Memory.byte [] a

/-- Every command answers a next state and leaves the queue of waiting commands as it was; so a step keeps every waiting command well formed. Where the spec leaves it open this rests on the model's log entries 1 and 7. -/
def Obligations.CommandsCompleteAndWaitingOnesStayWellFormed : Prop :=
  (∀ (c : Instr) (s : State), ∃ d', exec c s = .next ⟨d', s.pending⟩) ∧
  (∀ s s' : State, s.wellQueued → step s = .next s' → s'.wellQueued)

/-- Storage keeps its one canonical form through every step: addresses rising, and no entry equal to what an unlisted address reads as. Where the spec leaves it open this rests on the model's log entry 3. -/
def Obligations.StorageKeepsItsCanonicalForm : Prop :=
  ∀ s s' : State, Memory.wf s.dev.mem = true → step s = .next s' → Memory.wf s'.dev.mem = true

/-- An instruction as the word alone gives it: with no bit error in what it reads. -/
def noUpsets : Instr → Instr
  | .ld pc c f _ => .ld pc c f []
  | .st pc c f _ => .st pc c f []
  | .ldm pc c f _ => .ldm pc c f []
  | .stm pc c f _ => .stm pc c f []
  | .vld pc c f _ => .vld pc c f []
  | .vst pc c f _ => .vst pc c f []
  | i => i

/-- R89, Tables 03-1 and 03-2: every word that the core decodes is the word of the well-formed instruction it decodes to, and every well-formed instruction with a word is what that word decodes to, with every field at every value. Where the spec leaves it open this rests on the model's log entry 27. -/
def Obligations.CoreWordsAndInstructionsAgree : Prop :=
  (∀ (pc : Slot) (c : Ctx) (w : Word) (i : Instr), decodeCore pc c w = some i → Instr.wf i = true ∧ encodeCore i = some w) ∧
  (∀ (i : Instr) (w : Word), Instr.wf i = true → encodeCore i = some w → ∃ pc c, decodeCore pc c w = some (noUpsets i))

/-! ## Scalar instructions -/

/-- R85, R92, Table 03-2: a register-to-register operation of class 0x0 writes its result to XD (x0 discards it), goes on at the next word, is counted, and changes nothing else. Where the spec leaves it open this rests on the model's log entry 27. -/
def Obligations.ScalarRegisterOperationsWriteTheirResults : Prop :=
  ∀ e ∈ ([(Instr.add, fun a b => a + b), (Instr.sub, fun a b => a - b), (Instr.andOp, fun a b => a &&& b),
      (Instr.orOp, fun a b => a ||| b), (Instr.xorOp, fun a b => a ^^^ b), (Instr.sll, fun a b => a <<< (b.toNat % 64)),
      (Instr.srl, fun a b => a >>> (b.toNat % 64)), (Instr.sra, fun a b => a.sshiftRight (b.toNat % 64)), (Instr.mul, fun a b => a * b),
      (Instr.mulh, fun a b => BitVec.ofInt 64 (a.toInt * b.toInt / 2 ^ 64)),
      (Instr.div, fun a b => if b = 0 then BitVec.allOnes 64 else BitVec.ofInt 64 (a.toInt.tdiv b.toInt)),
      (Instr.divu, fun a b => if b = 0 then BitVec.allOnes 64 else BitVec.ofNat 64 (a.toNat / b.toNat)),
      (Instr.rem, fun a b => if b = 0 then a else BitVec.ofInt 64 (a.toInt.tmod b.toInt)),
      (Instr.remu, fun a b => if b = 0 then a else BitVec.ofNat 64 (a.toNat % b.toNat)),
      (Instr.slt, fun a b => if a.toInt < b.toInt then 1 else 0), (Instr.sltu, fun a b => if a.toNat < b.toNat then 1 else 0)] :
      List ((Slot → Ctx → FmtS → Instr) × (Word → Word → Word))),
  ∀ (pc : Slot) (c : Ctx) (f : FmtS) (d : Dev), d.ready pc c = true → f.fl = 0 → f.imm = 0 → d.scalarsPending pc c f.regs = false →
    Does (e.1 pc c f) d (fun d' =>
      Commits d d' pc c f.xd.toNat (e.2 ((d.ctx pc c).xr f.xa.toNat) ((d.ctx pc c).xr f.xb.toNat)) (d.seqPc pc c) ∧
      OnlyContext d d' pc c [retiredKey pc])

/-- R85, R92, Table 03-2: a class 0x1 operation does the same with IMM, sign-extended, as its second operand; LI writes IMM and LIH the upper half of XD. Where the spec leaves it open this rests on the model's log entry 27. -/
def Obligations.ScalarImmediateOperationsWriteTheirResults : Prop :=
  ∀ e ∈ ([(Instr.addi, fun a b => a + b), (Instr.subi, fun a b => a - b), (Instr.andi, fun a b => a &&& b),
      (Instr.ori, fun a b => a ||| b), (Instr.xori, fun a b => a ^^^ b), (Instr.slli, fun a b => a <<< (b.toNat % 64)),
      (Instr.srli, fun a b => a >>> (b.toNat % 64)), (Instr.srai, fun a b => a.sshiftRight (b.toNat % 64)), (Instr.muli, fun a b => a * b),
      (Instr.mulhi, fun a b => BitVec.ofInt 64 (a.toInt * b.toInt / 2 ^ 64)),
      (Instr.divi, fun a b => if b = 0 then BitVec.allOnes 64 else BitVec.ofInt 64 (a.toInt.tdiv b.toInt)),
      (Instr.divui, fun a b => if b = 0 then BitVec.allOnes 64 else BitVec.ofNat 64 (a.toNat / b.toNat)),
      (Instr.remi, fun a b => if b = 0 then a else BitVec.ofInt 64 (a.toInt.tmod b.toInt)),
      (Instr.remui, fun a b => if b = 0 then a else BitVec.ofNat 64 (a.toNat % b.toNat)),
      (Instr.slti, fun a b => if a.toInt < b.toInt then 1 else 0), (Instr.sltui, fun a b => if a.toNat < b.toNat then 1 else 0)] :
      List ((Slot → Ctx → FmtS → Instr) × (Word → Word → Word))),
  ∀ (pc : Slot) (c : Ctx) (f : FmtS) (d : Dev), d.ready pc c = true → f.fl = 0 → f.xb = 0 → d.scalarsPending pc c f.regs = false →
    Does (e.1 pc c f) d (fun d' =>
      Commits d d' pc c f.xd.toNat (e.2 ((d.ctx pc c).xr f.xa.toNat) (f.imm.signExtend 64)) (d.seqPc pc c) ∧
      OnlyContext d d' pc c [retiredKey pc]) ∧
    (f.xa = 0 → Does (.li pc c f) d (fun d' =>
      Commits d d' pc c f.xd.toNat (f.imm.signExtend 64) (d.seqPc pc c) ∧ OnlyContext d d' pc c [retiredKey pc])) ∧
    (f.xa = 0 → Does (.lih pc c f) d (fun d' =>
      Commits d d' pc c f.xd.toNat (f.imm ++ ((d.ctx pc c).xr f.xd.toNat).extractLsb' 0 32) (d.seqPc pc c) ∧
      OnlyContext d d' pc c [retiredKey pc]))

/-- R91, R117: a word of these classes with a nonzero field that its operation does not use has none of its effect: the context is FAULTED at the instruction, and its registers stand; with no launch of the cell pending, storage stands. -/
def IllFormedWordsFault : Prop :=
  ∀ (pc : Slot) (c : Ctx) (f : FmtS) (d : Dev), d.ready pc c = true →
    (∀ i ∈ ([.add, .sub, .andOp, .orOp, .xorOp, .sll, .srl, .sra, .mul, .mulh, .div, .divu, .rem, .remu, .slt, .sltu] :
        List (Slot → Ctx → FmtS → Instr)), f.fl ≠ 0 ∨ f.imm ≠ 0 → Does (i pc c f) d (fun d' => FaultedAt d d' pc c ∧ ((d.cell pc).arr.pend = none → d'.mem = d.mem))) ∧
    (∀ i ∈ ([.addi, .subi, .andi, .ori, .xori, .slli, .srli, .srai, .muli, .mulhi, .divi, .divui, .remi, .remui, .slti, .sltui, .li, .lih,
        .csrr, .jal, .jalr] : List (Slot → Ctx → FmtS → Instr)), f.fl ≠ 0 ∨ f.xb ≠ 0 →
      Does (i pc c f) d (fun d' => FaultedAt d d' pc c ∧ ((d.cell pc).arr.pend = none → d'.mem = d.mem))) ∧
    (7 < f.imm.toNat → Does (.csrr pc c f) d (fun d' => FaultedAt d d' pc c ∧ ((d.cell pc).arr.pend = none → d'.mem = d.mem))) ∧
    (∀ i ∈ ([.beq, .bne, .blt, .bge, .bltu, .bgeu] : List (Slot → Ctx → FmtS → Instr)), f.fl ≠ 0 ∨ f.xd ≠ 0 →
      Does (i pc c f) d (fun d' => FaultedAt d d' pc c ∧ ((d.cell pc).arr.pend = none → d'.mem = d.mem)))

/-- Table 03-2, R85, R106: a branch goes on at PC + IMM × 8 where its condition holds and at the next word where it does not; the jumps write PC + 8 to XD; a mispredict, which is a free choice, changes only its counter and the read-ahead. Where the spec leaves it open this rests on the model's log entries 27 and 30. -/
def Obligations.BranchesAndJumpsSetThePc : Prop :=
  ∀ (pc : Slot) (c : Ctx) (f : FmtS) (d : Dev), d.ready pc c = true → f.fl = 0 → d.scalarsPending pc c f.regs = false →
    let miss := regKey F.CELL_MISPREDICTS.base pc 0
    let target := (d.ctx pc c).pc + f.imm.signExtend 64 * 8
    (∀ e ∈ ([(Instr.beq, fun a b => decide (a = b)), (Instr.bne, fun a b => decide (a ≠ b)), (Instr.blt, fun a b => decide (a.toInt < b.toInt)),
        (Instr.bge, fun a b => decide (b.toInt ≤ a.toInt)), (Instr.bltu, fun a b => decide (a.toNat < b.toNat)),
        (Instr.bgeu, fun a b => decide (b.toNat ≤ a.toNat))] : List ((Slot → Ctx → FmtS → Instr) × (Word → Word → Bool))),
      f.xd = 0 → Does (e.1 pc c f) d (fun d' =>
        Commits d d' pc c 0 0 (if e.2 ((d.ctx pc c).xr f.xa.toNat) ((d.ctx pc c).xr f.xb.toNat) then target else d.seqPc pc c) ∧
        OnlyContext d { d' with freeCtr := d.freeCtr } pc c [retiredKey pc, miss])) ∧
    (f.xa = 0 → f.xb = 0 → Does (.jal pc c f) d (fun d' =>
      Commits d d' pc c f.xd.toNat (d.seqPc pc c) target ∧ OnlyContext d { d' with freeCtr := d.freeCtr } pc c [retiredKey pc, miss])) ∧
    (f.xb = 0 → Does (.jalr pc c f) d (fun d' =>
      Commits d d' pc c f.xd.toNat (d.seqPc pc c) (BitVec.ofNat 64 ((((d.ctx pc c).xr f.xa.toNat + f.imm.signExtend 64).toNat / 8) * 8)) ∧
      OnlyContext d { d' with freeCtr := d.freeCtr } pc c [retiredKey pc, miss]))

/-- Tables 03-2 and 03-4, R102, R103, R114: NOP and FENCE only commit, CSRR writes the core value that IMM names, and YIELD makes the context READY again, behind every READY context of at least its priority. Where the spec leaves it open this rests on the model's log entries 27 and 32. -/
def Obligations.SimpleInstructionsCommit : Prop :=
  ∀ (pc : Slot) (c : Ctx) (f : FmtS) (d : Dev), d.ready pc c = true →
    (f = ⟨0, 0, 0, 0, 0⟩ → Does (.nop pc c f) d (fun d' =>
      Commits d d' pc c 0 0 (d.seqPc pc c) ∧ OnlyContext d d' pc c [retiredKey pc])) ∧
    (f.xd = 0 → f.xa = 0 → f.xb = 0 → f.fl.toNat ≤ 1 → f.imm = 0 → d.anyPending pc c = false → Does (.fence pc c f) d (fun d' =>
      Commits d d' pc c 0 0 (d.seqPc pc c) ∧ OnlyContext d d' pc c [retiredKey pc])) ∧
    (f.xa = 0 → f.xb = 0 → f.fl = 0 → d.scalarsPending pc c f.regs = false → ∀ v : Nat,
      (f.imm = 0 ∧ v = c) ∨ (f.imm = 1 ∧ d.hosted pc = some v) ∨ (f.imm = 2 ∧ v = d.deviceId) ∨ (f.imm = 3 ∧ v = d.beat) ∨
        (f.imm = 4 ∧ v = d.cycle) ∨ (f.imm = 5 ∧ v = (d.ctx pc c).retired) ∨ (f.imm = 6 ∧ v = d.reg F.CELL_ARITH_STATUS.base pc) ∨
        (f.imm = 7 ∧ v = 0xB0) →
      Does (.csrr pc c f) d (fun d' =>
        Commits d d' pc c f.xd.toNat (BitVec.ofNat 64 v) (d.seqPc pc c) ∧ OnlyContext d d' pc c [retiredKey pc])) ∧
    (f = ⟨0, 0, 0, 0, 0⟩ → (d.cell pc).lastRun = c → (∀ k < 32, k ≠ c.val → (d.ctx pc k).phase ≠ .running) →
      Does (.yieldCtx pc c f) d (fun d' =>
        (d'.ctx pc c).pc = d.seqPc pc c ∧ (d'.ctx pc c).x = (d.ctx pc c).x ∧ OnlyContext d d' pc c [retiredKey pc] ∧
        ((d'.ctx pc c).phase = .ready ∨ (d'.ctx pc c).phase = .running) ∧
        ((∃ k < 32, k ≠ c.val ∧ (d.ctx pc k).phase = .ready ∧ (d.ctx pc c).prio ≤ (d.ctx pc k).prio ∧ (d.ctx pc k).prio ≤ 3) →
          (d'.ctx pc c).phase = .ready)))

/-! ## Loads, stores and streams -/

/-- R100 to R103: a clean load of n bytes whose address is aligned and reachable writes the bytes to XD, zero-extended or, with FL[2], sign-extended; LDM writes eight words to eight registers. Only far-memory traffic counters change besides. Where the spec leaves it open this rests on the model's log entries 27 and 28. -/
def Obligations.LoadsDeliverStorage : Prop :=
  ∀ (pc : Slot) (c : Ctx) (f : FmtS) (d : Dev) (st : Nat), d.ready pc c = true → f.xb = 0 →
    let a := ((d.ctx pc c).xr f.xa.toNat + f.imm.signExtend 64).toNat
    let n := 2 ^ (f.fl.toNat % 4)
    let keys := retiredKey pc :: (List.range 32).map (fun ch => regKey F.FAR_BYTES_U.base ch 0)
    (f.fl.toNat < 8 → d.scalarsPending pc c f.regs = false → a % n = 0 → d.coreAddr a n = some st →
      Does (.ld pc c f []) d (fun d' =>
        Commits d d' pc c f.xd.toNat
          (if 4 ≤ f.fl.toNat then (BitVec.ofNat (8 * n) (d.loadNat st n)).signExtend 64 else BitVec.ofNat 64 (d.loadNat st n)) (d.seqPc pc c) ∧
        OnlyContext d d' pc c keys)) ∧
    (f.fl = 0 → f.xd.toNat % 8 = 0 → d.scalarsPending pc c (f.xa.toNat :: (List.range 8).map (fun i => f.xd.toNat + i)) = false →
      a % 64 = 0 → d.coreAddr a 64 = some st →
      Does (.ldm pc c f []) d (fun d' =>
        (∀ r, (d'.ctx pc c).xr r = if f.xd.toNat ≤ r ∧ r < f.xd.toNat + 8 ∧ r ≠ 0 then BitVec.ofNat 64 (d.loadNat (st + 8 * (r - f.xd.toNat)) 8)
          else (d.ctx pc c).xr r) ∧ (d'.ctx pc c).pc = d.seqPc pc c ∧ OnlyContext d d' pc c keys))

/-- R100 to R103: a store whose address is aligned and reachable, outside every enabled work-queue ring, writes the bytes of XB (STM: of eight registers) there, little-endian, and no other byte; no register of the core changes. Where the spec leaves it open this rests on the model's log entries 27, 28 and 29. -/
def Obligations.StoresWriteTheirBytesAlone : Prop :=
  ∀ (pc : Slot) (c : Ctx) (f : FmtS) (d : Dev) (st : Nat), d.ready pc c = true → f.xd = 0 → d.anyPending pc c = false →
    let a := ((d.ctx pc c).xr f.xa.toNat + f.imm.signExtend 64).toNat
    let n := 2 ^ (f.fl.toNat % 4)
    let keys := retiredKey pc :: (List.range 32).map (fun ch => regKey F.FAR_BYTES_U.base ch 0)
    (f.fl.toNat < 4 → a % n = 0 → d.coreAddr a n = some st → d.ringAt st n = none →
      Does (.st pc c f []) d (fun d' =>
        d'.load st n = leBytes n ((d.ctx pc c).xr f.xb.toNat).toNat ∧ BytesStand d d' st n ∧
        Commits d d' pc c 0 0 (d.seqPc pc c) ∧ OnlyContext d { d' with mem := d.mem } pc c keys)) ∧
    (f.fl = 0 → f.xb.toNat % 8 = 0 → a % 64 = 0 → d.coreAddr a 64 = some st → d.ringAt st 64 = none →
      Does (.stm pc c f []) d (fun d' =>
        d'.load st 64 = (List.range 8).flatMap (fun i => leBytes 8 ((d.ctx pc c).xr (f.xb.toNat + i)).toNat) ∧ BytesStand d d' st 64 ∧
        Commits d d' pc c 0 0 (d.seqPc pc c) ∧ OnlyContext d { d' with mem := d.mem } pc c keys))

/-- R100, Table 03-10: a misaligned access of the core faults MISALIGNED (0x04), and an aligned one to an address that no storage answers faults ADDRESS (0x03); with the fault latch free, the cause is latched, and with no launch pending, storage stands. -/
def BadAddressesFault : Prop :=
  ∀ (pc : Slot) (c : Ctx) (f : FmtS) (u : Upsets) (d : Dev), d.ready pc c = true → d.scalarsPending pc c f.regs = false →
    d.anyPending pc c = false → d.bit F.CELL_CTX_FAULT_CAUSE_VALID pc = false →
    let a := ((d.ctx pc c).xr f.xa.toNat + f.imm.signExtend 64).toNat
    let n := 2 ^ (f.fl.toNat % 4)
    ∀ i ∈ ([Instr.ld pc c f u, Instr.st pc c f u] : List Instr),
      (if i = Instr.ld pc c f u then f.xb = 0 ∧ f.fl.toNat < 8 else f.xd = 0 ∧ f.fl.toNat < 4) →
      (a % n ≠ 0 → Does i d (fun d' => FaultedAt d d' pc c ∧ d'.get F.CELL_CTX_FAULT_CAUSE_CAUSE pc = 4 ∧
        ((d.cell pc).arr.pend = none → d'.mem = d.mem))) ∧
      (a % n = 0 → d.coreAddr a n = none → Does i d (fun d' => FaultedAt d d' pc c ∧ d'.get F.CELL_CTX_FAULT_CAUSE_CAUSE pc = 3 ∧
        ((d.cell pc).arr.pend = none → d'.mem = d.mem)))

/-- R91, R100, R117: the words and the addresses at which scalar and memory instructions fault, and what stands there. Where the spec leaves it open this rests on the model's log entries 27 and 28. -/
def Obligations.IllFormedWordsAndBadAddressesFault : Prop := IllFormedWordsFault ∧ BadAddressesFault

/-- R104, R105: SDECL makes the stream descriptor at XA valid as Table 03-5 lays it out, SREL makes one invalid, and a read-ahead moves its point by at most 4 KiB past the last committed access and never past the stream; storage and the scalar registers stand. Where the spec leaves it open this rests on the model's log entry 27. -/
def Obligations.StreamsAreDeclaredReleasedAndReadAhead : Prop :=
  ∀ (pc : Slot) (c : Ctx) (f : FmtS) (d : Dev), d.ready pc c = true → d.anyPending pc c = false → f.xd = 0 → f.xb = 0 → f.fl = 0 → f.imm.toNat < 8 →
    (∀ st, d.coreAddr ((d.ctx pc c).xr f.xa.toNat).toNat 32 = some st → d.streamOk pc (d.load st 32) = true →
      fmtKnown (d.loadNat (st + 21) 1) = true →
      Does (.sdecl pc c f) d (fun d' =>
        (∃ s, SMap.find f.imm.toNat (d'.ctx pc c).sds = some s ∧ s.base = d.loadNat st 8 ∧ s.rowBytes = d.loadNat (st + 8) 4 ∧
          s.rowStride = (BitVec.ofNat 32 (d.loadNat (st + 12) 4)).toInt ∧ s.rows = d.loadNat (st + 16) 4 ∧ s.dir = d.loadNat (st + 20) 1 ∧
          s.fmt = d.loadNat (st + 21) 1 ∧ s.pos = 0 ∧ s.ahead = 0) ∧
        Commits d d' pc c 0 0 (d.seqPc pc c) ∧ OnlyContext d d' pc c [retiredKey pc])) ∧
    (f.xa = 0 → Does (.srel pc c f) d (fun d' =>
      SMap.find f.imm.toNat (d'.ctx pc c).sds = none ∧ Commits d d' pc c 0 0 (d.seqPc pc c) ∧ OnlyContext d d' pc c [retiredKey pc])) ∧
    (∀ (k : Fin 8) (s : StreamDesc), SMap.find k.val (d.ctx pc c).sds = some s → k.val ∈ (d.ctx pc c).aheadSds →
      Does (.runaheadRead pc c k) d (fun d' =>
        SMap.find k.val (d'.ctx pc c).sds = some { s with ahead := max s.ahead (min (s.rows * s.rowBytes) (s.pos + 4096)) } ∧
        (d'.ctx pc c).kept = (d.ctx pc c).kept ∧ OnlyContext d d' pc c []))

/-! ## The vector unit -/

/-- Nothing changes but the slab operation that has entered the vector unit of the cell, the context's program counter and retired count, and the choice of the next context. -/
def Queued (d d' : Dev) (pc c : Nat) (dst : SlabDst) (result : List Byte) (status : Nat) : Prop :=
  (d'.cell pc).slabOps = (d.cell pc).slabOps ++ [{ ctx := c, pc := (d.ctx pc c).pc, dst := dst, result := result, status := status, x := (d.ctx pc c).x }] ∧
  Commits d d' pc c 0 0 (d.seqPc pc c) ∧
  OnlyContext d (d'.modCell pc (fun s => { s with slabOps := (d.cell pc).slabOps })) pc c [retiredKey pc, regKey F.CELL_VEC_BUSY.base pc 0]

/-- R59, R60, R95 to R98, Table 03-3: a floating-point slab operation on FP32 or BF16 enters the vector unit with the element results of its operands, an operand B of XS being broadcast with BX, and the joined status. Where the spec leaves it open this rests on the model's log entries 27 and 31. -/
def Obligations.FloatSlabOperationsQueueTheirResults : Prop :=
  ∀ (pc : Slot) (c : Ctx) (f : FmtV) (d : Dev), d.ready pc c = true → f.fmt = 0 ∨ f.fmt = 1 → f.iw = 0 → f.res = 0 →
    (if f.bx then f.vb = 0 else f.xs = 0) →
    d.slabsPending pc c [f.vd.toNat, f.va.toNat, f.vb.toNat, f.vc.toNat] = false → d.scalarPending pc c f.xs.toNat = false →
    let k := if f.fmt = 0 then 4 else 2
    let A := d.slabElems pc c f.va.toNat k
    let B := if f.bx then List.replicate (4096 / k) (((d.ctx pc c).xr f.xs.toNat).toNat % 2 ^ (8 * k)) else d.slabElems pc c f.vb.toNat k
    let vd := SlabDst.slab f.vd.toNat
    let out := fun (n : Nat) (rs : List (Nat × VecFlags)) (d' : Dev) =>
      Queued d d' pc c vd (rs.flatMap (fun r => leBytes n r.1)) (rs.foldl (fun v r => v.or r.2) VecFlags.clear).status
    (f.imm16 = 0 → (∀ e ∈ ([(Instr.vadd, vecAdd), (Instr.vsub, vecSub), (Instr.vmul, vecMul), (Instr.vmin, vecMin), (Instr.vmax, vecMax)] :
        List ((Slot → Ctx → FmtV → Instr) × (Nat → Nat → Nat → Nat × VecFlags))), f.vc = 0 → f.cond = 0 →
      Does (e.1 pc c f) d (out k (List.zipWith (e.2 f.fmt.toNat) A B))) ∧
    (f.cond = 0 → Does (.vfma pc c f) d (out k (List.zipWith (fun ab c => vecFma f.fmt.toNat ab.1 ab.2 c) (A.zip B) (d.slabElems pc c f.vc.toNat k)))) ∧
    (f.vc = 0 → condOk true f.cond.toNat = true → Does (.vcmp pc c f) d (fun d' => Queued d d' pc c vd
      ((List.zipWith (fun a b => fpCompare f.cond.toNat (fpDecode f.fmt.toNat a) (fpDecode f.fmt.toNat b)) A B).flatMap
        (fun m => List.replicate k (if m then 0xFF else 0))) 0)) ∧
    (f.vb = 0 → f.vc = 0 → f.cond = 0 → f.bx = false → Does (.vsum pc c f) d (fun d' =>
      let r := sumTree f.fmt.toNat (if f.fmt = 0 then 10 else 11) A
      Queued d d' pc c vd (leBytes k r.1 ++ List.replicate (4096 - k) 0) r.2.status)) ∧
    (f.vc = 0 → f.cond = 0 → f.fmt = 1 → Does (.vcvt pc c f) d
      (let B4 := if f.bx then List.replicate 1024 (((d.ctx pc c).xr f.xs.toNat).toNat % 2 ^ 32) else d.slabElems pc c f.vb.toNat 4
       out 2 ((d.slabElems pc c f.va.toNat 4 ++ B4).map (vecCvt 0 1))))) ∧
    (f.vb = 0 → f.vc = 0 → f.cond = 0 → f.bx = false → f.fmt = 0 → f.imm16.toNat ≤ 1 → Does (.vcvt pc c f) d
      (out 4 ((((d.slabElems pc c f.va.toNat 2).drop (1024 * f.imm16.toNat)).take 1024).map (vecCvt 1 0))))

/-- R90, R96, Table 03-2: an integer slab operation at width w of IW enters the vector unit with its element results modulo 2^w; selections, permutations, rotations, extractions and broadcasts move elements unchanged. Where the spec leaves it open this rests on the model's log entries 27 and 31. -/
def Obligations.IntegerSlabOperationsQueueTheirResults : Prop :=
  ∀ (pc : Slot) (c : Ctx) (f : FmtV) (d : Dev), d.ready pc c = true → f.fmt = 0 → f.iw.toNat ≤ 3 → f.res = 0 →
    d.slabsPending pc c [f.vd.toNat, f.va.toNat, f.vb.toNat, f.vc.toNat] = false → d.scalarPending pc c f.xs.toNat = false →
    let k := 2 ^ f.iw.toNat
    let w := 8 * k
    let N := 4096 / k
    let A := d.slabElems pc c f.va.toNat k
    let B := if f.bx then List.replicate N (((d.ctx pc c).xr f.xs.toNat).toNat % 2 ^ w) else d.slabElems pc c f.vb.toNat k
    let vd := SlabDst.slab f.vd.toNat
    ((if f.bx then f.vb = 0 else f.xs = 0) → f.imm16 = 0 →
      (∀ e ∈ ([(Instr.viadd, fun a b => a + b), (Instr.visub, fun a b => a + 2 ^ w - b), (Instr.vimul, fun a b => a * b),
          (Instr.vand, fun a b => a &&& b), (Instr.vor, fun a b => a ||| b), (Instr.vxor, fun a b => a ^^^ b),
          (Instr.vshl, fun a b => a <<< (b % w)), (Instr.vshr, fun a b => a >>> (b % w)),
          (Instr.vsra, fun a b => ((BitVec.ofNat w a).sshiftRight (b % w)).toNat)] : List ((Slot → Ctx → FmtV → Instr) × (Nat → Nat → Nat))),
        f.vc = 0 → f.cond = 0 →
        Does (e.1 pc c f) d (fun d' => Queued d d' pc c vd ((List.zipWith e.2 A B).flatMap (fun v => leBytes k (v % 2 ^ w))) 0)) ∧
      (f.vc = 0 → condOk false f.cond.toNat = true → Does (.vicmp pc c f) d (fun d' => Queued d d' pc c vd
        ((List.zipWith (intCompare f.cond.toNat w) A B).flatMap (fun m => List.replicate k (if m then 0xFF else 0))) 0)) ∧
      (f.cond = 0 → Does (.vsel pc c f) d (fun d' => Queued d d' pc c vd
        ((List.zipWith (fun ab c => if bitOf c (w - 1) then ab.1 else ab.2) (A.zip B) (d.slabElems pc c f.vc.toNat k)).flatMap (leBytes k)) 0)) ∧
      (f.vc = 0 → f.cond = 0 → Does (.vperm pc c f) d (fun d' => Queued d d' pc c vd
        (B.flatMap (fun i => leBytes k (d.loadNat (slabAddr pc c f.va.toNat + k * (i % N)) k))) 0))) ∧
    (f.vb = 0 → f.vc = 0 → f.cond = 0 → f.bx = false →
      (f.xs = 0 → Does (.vrot pc c f) d (fun d' => Queued d d' pc c vd
        ((List.range N).flatMap (fun i => leBytes k (d.loadNat (slabAddr pc c f.va.toNat + k * ((i + f.imm16.toNat) % N)) k))) 0)) ∧
      (f.vd = 0 → Does (.vext pc c f) d (fun d' => Queued d d' pc c (.scalar f.xs.toNat)
        (leBytes 8 (d.loadNat (slabAddr pc c f.va.toNat + k * (f.imm16.toNat % N)) k)) 0)) ∧
      (f.va = 0 → f.imm16 = 0 → Does (.vbcast pc c f) d (fun d' => Queued d d' pc c vd
        ((List.replicate N (((d.ctx pc c).xr f.xs.toNat).toNat % 2 ^ w)).flatMap (leBytes k)) 0)) ∧
      (f.va = 0 → f.xs = 0 → f.iw = 0 → f.imm16 = 0 → Does (.vzero pc c f) d (fun d' => Queued d d' pc c vd (List.replicate 4096 0) 0)))

/-- R86, R93, R99 to R101: the oldest slab operation of a cell writes its 4 KiB slab register or its scalar register and joins its status to the cell's; a residue mismatch writes nothing and faults its context at the instruction. VLD and VST copy 4 KiB between the own scratchpad and a slab register. Where the spec leaves it open this rests on the model's log entries 27 and 31. -/
def Obligations.SlabRegistersAreWrittenAndMoved : Prop :=
  ∀ (pc : Slot) (d : Dev),
    (∀ (o : SlabOp) (os : List SlabOp), (d.cell pc).slabOps = o :: os →
      (∀ k, o.dst = .slab k → Does (.slabOpWriteback pc false) d (fun d' =>
        d'.load (slabAddr pc o.ctx k) o.result.length = o.result ∧ BytesStand d d' (slabAddr pc o.ctx k) o.result.length ∧
        (d'.cell pc).slabOps = os ∧ d'.reg F.CELL_ARITH_STATUS.base pc = (d.reg F.CELL_ARITH_STATUS.base pc ||| o.status) % 2 ^ 64 ∧
        CellsStand d d' pc ∧ RegsStand d d' [regKey F.CELL_ARITH_STATUS.base pc 0])) ∧
      (∀ r, o.dst = .scalar r → Does (.slabOpWriteback pc false) d (fun d' =>
        (∀ q, (d'.ctx pc o.ctx).xr q = if q = r ∧ q ≠ 0 then BitVec.ofNat 64 (leNat o.result) else (d.ctx pc o.ctx).xr q) ∧
        (d'.cell pc).slabOps = os ∧ d'.mem = d.mem ∧ CellsStand d d' pc)) ∧
      ((d.hosted pc).isSome → d.running = true → d.inWindow = false → Does (.slabOpWriteback pc true) d (fun d' => (d'.cell pc).slabOps = os.filter (fun p => p.ctx != o.ctx) ∧
        (d'.ctx pc o.ctx).x = o.x ∧ (d'.ctx pc o.ctx).pc = o.pc ∧ (d'.ctx pc o.ctx).phase = .faulted))) ∧
    (∀ (c : Ctx) (f : FmtV) (off : Nat), d.ready pc c = true → f.va = 0 → f.vb = 0 → f.vc = 0 → f.fmt = 0 → f.bx = false → f.cond = 0 → f.iw = 0 →
      f.res = 0 → d.anyPending pc c = false →
      let a := ((d.ctx pc c).xr f.xs.toNat + f.imm16.signExtend 64 * 256).toNat
      let slab := slabAddr pc c f.vd.toNat
      a % 256 = 0 → d.ownSpad pc a 4096 = some off →
      Does (.vld pc c f []) d (fun d' => (∀ i < 4096, Memory.byte d'.mem (slab + i) = Memory.byte d.mem (sliceBase pc + off + i)) ∧
        BytesStand d d' slab 4096 ∧ Commits d d' pc c 0 0 (d.seqPc pc c) ∧ OnlyContext d { d' with mem := d.mem } pc c [retiredKey pc]) ∧
      Does (.vst pc c f []) d (fun d' => (∀ i < 4096, Memory.byte d'.mem (sliceBase pc + off + i) = Memory.byte d.mem (slab + i)) ∧
        BytesStand d d' (sliceBase pc + off) 4096 ∧ Commits d d' pc c 0 0 (d.seqPc pc c) ∧
        OnlyContext d { d' with mem := d.mem } pc c [retiredKey pc]))

/-! ## Tasks -/

/-- The context's slab registers are zero, and its private counters too (R110). -/
def Cleared (d d' : Dev) (pc c : Nat) : Prop :=
  (∀ i < 0x8000, Memory.byte d'.mem (slabAddr pc c 0 + i) = 0) ∧ BytesStand d d' (slabAddr pc c 0) 0x8000 ∧
  d'.counter pc (192 + 2 * c) = 0 ∧ d'.counter pc (193 + 2 * c) = 0

/-- R109 to R111, R113, R193: a bind of a free context of a hosted cell by a valid descriptor starts its task switch; the switch clears the context and loads it from the descriptor with START set; a KILL empties a context at once and its clear follows. Where the spec leaves it open this rests on the model's log entry 33. -/
def Obligations.TasksBindSwitchAndDie : Prop :=
  ∀ (pc : Slot) (c : Ctx) (d : Dev),
    (∀ (m : Master) (desc : BitVec 24) (lc : Nat), d.domOn pc = true → d.hosted pc = some lc → d.migrating lc = false →
      (d.ctx pc c).busy = false → desc.toNat % 64 = 0 → desc.toNat + 64 ≤ 0xB00000 → taskOk c (d.spad pc desc.toNat 64) = true →
      Does (.ctxBind m pc c desc) d (fun d' =>
        (d'.ctx pc c).act = .switching (taskOf (d.spad pc desc.toNat 64)) none ∧ (d'.ctx pc c).bindId = (d.cell pc).nextBind ∧
        d'.get F.CELL_CTX_CTL_STATUS_RESULT pc = 0 ∧ d'.get F.CELL_CTX_CTL_STATUS_CTX pc = c ∧ d'.mem = d.mem ∧ CellsStand d d' pc)) ∧
    (∀ (f : FmtS) (t off lc : Nat), d.ready pc c = true → f.fl = 0 → f.imm = 0 → d.anyPending pc c = false →
      ((d.ctx pc c).xr f.xb.toNat).toNat = t → t ≤ 31 → d.hosted pc = some lc → d.migrating lc = false → (d.ctx pc t).busy = false →
      d.ownSpad pc ((d.ctx pc c).xr f.xa.toNat).toNat 64 = some off → off % 64 = 0 → taskOk t (d.spad pc off 64) = true →
      Does (.bindTask pc c f) d (fun d' =>
        (d'.ctx pc t).act = .switching (taskOf (d.spad pc off 64)) none ∧ Commits d d' pc c f.xd.toNat 0 (d.seqPc pc c) ∧
        d'.mem = d.mem ∧ CellsStand d d' pc)) ∧
    (∀ (t : TaskDesc) (s : Option Nat), (d.ctx pc c).act = .switching t s → Does (.taskSwitchDone pc c) d (fun d' =>
      (∀ r, 1 ≤ r → (d'.ctx pc c).xr r = t.args.getD (r - 1) 0) ∧ (d'.ctx pc c).pc = BitVec.ofNat 64 t.entry ∧
      (d'.ctx pc c).prio = t.prio ∧ (d'.ctx pc c).codeBase = t.codeBase ∧ (d'.ctx pc c).codeLimit = t.codeLimit ∧
      (d'.ctx pc c).start = true ∧ (d'.ctx pc c).retired = 0 ∧ (d'.ctx pc c).sds = [] ∧ (d'.ctx pc c).act = .idle ∧
      ((d'.ctx pc c).phase = .ready ∨ (d'.ctx pc c).phase = .running) ∧ Cleared d d' pc c)) ∧
    (∀ (m : Master) (lc : Nat), d.domOn pc = true → d.hosted pc = some lc → d.migrating lc = false → Does (.ctxKill m pc c) d (fun d' =>
      (d'.ctx pc c).phase = .empty ∧ (d'.ctx pc c).act = .clearing ∧ (d'.ctx pc c).wait = none ∧
      d'.get F.CELL_CTX_CTL_STATUS_RESULT pc = 0 ∧ (∀ o ∈ (d'.cell pc).slabOps, o.ctx ≠ c.val))) ∧
    ((d.ctx pc c).act = .clearing → Does (.killClearDone pc c) d (fun d' =>
      (d'.ctx pc c).act = .idle ∧ (d'.ctx pc c).x = [] ∧ (d'.ctx pc c).sds = [] ∧ Cleared d d' pc c))

/-- R104, R113, R114, R120, R504: END leaves the context DONE with its descriptors released and, with DONE_EN, posts its counter; a time slice gives way to a READY context of equal priority; a command freeze stops issue in every context until it is cleared, and a cell whose slab operations have finished reports FROZEN. Where the spec leaves it open this rests on the model's log entries 27 and 32. -/
def Obligations.TasksEndYieldAndFreeze : Prop :=
  ∀ (pc : Slot) (c : Ctx) (d : Dev),
    (∀ f : FmtS, f = ⟨0, 0, 0, 0, 0⟩ → d.ready pc c = true → d.anyPending pc c = false → Does (.endTask pc c f) d (fun d' =>
      (d'.ctx pc c).phase = .done ∧ (d'.ctx pc c).sds = [] ∧ (d'.ctx pc c).pc = d.seqPc pc c ∧ (d'.ctx pc c).x = (d.ctx pc c).x ∧
      d'.mem = d.mem ∧
      (∀ n, d'.counter pc n = if (d.ctx pc c).doneEn = true ∧ n = (d.ctx pc c).doneCtr then min (d.counter pc n + 1) (2 ^ 64 - 1)
        else d.counter pc n))) ∧
    ((d.ctx pc c).phase = .running → d.isFrozen pc = false → (d.cell pc).lastRun = c → (d.ctx pc c).prio ≤ 3 →
      (∀ k < 32, k ≠ c.val → (d.ctx pc k).phase ≠ .running) →
      (∃ k < 32, k ≠ c.val ∧ (d.ctx pc k).phase = .ready ∧ (d.ctx pc k).prio = (d.ctx pc c).prio) →
      Does (.timeSliceExpiry pc c) d (fun d' =>
        (d'.ctx pc c).phase = .ready ∧ (d'.ctx pc c).kept = { d.ctx pc c with wait := none }.kept ∧
        ∃ k < 32, k ≠ c.val ∧ (d.ctx pc k).phase = .ready ∧ (d'.ctx pc k).phase = .running)) ∧
    (∀ (m : Master) (lc : Nat), d.domOn pc = true → d.hosted pc = some lc → d.migrating lc = false →
      Does (.ctxFreeze m pc c) d (fun d' => (d'.cell pc).freeze.command = true ∧ (∀ k, d'.canIssue pc k = false) ∧
        d'.get F.CELL_CTX_CTL_STATUS_RESULT pc = 0 ∧ d'.mem = d.mem) ∧
      ((d.cell pc).freeze = { command := true, migration := false, hold := false, thermal := false, containment := false } →
        Does (.ctxThaw m pc c) d (fun d' => (d'.cell pc).freeze.any = false ∧ (d'.cell pc).frozen = false ∧
          d'.get F.CELL_CTX_CTL_STATUS_RESULT pc = 0 ∧ d'.mem = d.mem))) ∧
    (d.isFrozen pc = true → (d.cell pc).slabOps = [] → Does (.cellFreezeDone pc) d (fun d' =>
      d' = d.modCell pc (fun s => { s with frozen := true })))

/-! ## Sync counters -/

/-- A counter instruction has committed: XD holds `v`, the next word is next, START is as said, and storage stands. -/
def CounterCommits (d d' : Dev) (pc c rd v : Nat) (start : Bool) : Prop :=
  (∀ r, (d'.ctx pc c).xr r = if r = rd ∧ r ≠ 0 then BitVec.ofNat 64 v else (d.ctx pc c).xr r) ∧ (d'.ctx pc c).pc = d.seqPc pc c ∧
  (d'.ctx pc c).start = start ∧ d'.mem = d.mem ∧ CellsStand d d' pc

/-- R88, R189 to R196: SADD adds and saturates, SSET sets while START is set and nothing waits, SREAD and a satisfied SWAIT deliver the value, and an unsatisfied SWAIT parks at its instruction; every other counter stands. -/
def CounterInstructionsAct : Prop :=
  ∀ (pc : Slot) (c : Ctx) (f : FmtS) (d : Dev), d.ready pc c = true → d.anyPending pc c = false → f.xb = 0 → f.fl = 0 → f.imm.toNat < 256 →
    foreignPrivate c f.imm.toNat = false →
    let n := f.imm.toNat
    let xa := ((d.ctx pc c).xr f.xa.toNat).toNat
    let old := d.counter pc n
    Does (.sadd pc c f) d (fun d' => CounterCommits d d' pc c f.xd.toNat old false ∧
      (∀ k, d'.counter pc k = if k = n then min (old + xa) (2 ^ 64 - 1) else d.counter pc k) ∧
      (2 ^ 64 ≤ old + xa → d'.get F.CELL_SYNC_STATUS_SAT pc = 1)) ∧
    ((d.ctx pc c).start = true → (d.cell pc).waiters n = [] → d.aligned pc n = false → Does (.sset pc c f) d (fun d' =>
      CounterCommits d d' pc c f.xd.toNat old true ∧ ∀ k, d'.counter pc k = if k = n then xa else d.counter pc k)) ∧
    (xa ≤ old → Does (.swait pc c f) d (fun d' =>
      CounterCommits d d' pc c f.xd.toNat old false ∧ ∀ k, d'.counter pc k = d.counter pc k)) ∧
    (old < xa → Does (.swait pc c f) d (fun d' =>
      (d'.ctx pc c).phase = .parked ∧ (d'.ctx pc c).wait = some (.counter n xa) ∧ (d'.ctx pc c).pc = (d.ctx pc c).pc ∧
      (d'.ctx pc c).x = (d.ctx pc c).x ∧ d'.mem = d.mem ∧ ∀ k, d'.counter pc k = d.counter pc k)) ∧
    (f.xa = 0 → Does (.sread pc c f) d (fun d' =>
      CounterCommits d d' pc c f.xd.toNat old false ∧ ∀ k, d'.counter pc k = d.counter pc k))

/-- R191, R200, R203: a remote addition is sent as a packet to the cell it names; an enabled alignment entry sets its counter to BASE; an authorized debug write sets the selected counter, and an unauthorized one does not. -/
def CounterWritesFromElsewhere : Prop :=
  ∀ (pc : Slot) (d : Dev),
    (∀ (c : Ctx) (f : FmtS) (lc host : Nat), d.ready pc c = true → d.anyPending pc c = false → f.fl = 1 → f.imm.toNat < 192 →
      ((d.ctx pc c).xr f.xb.toNat).toNat % 512 = lc → d.hostOf lc = some host → Does (.saddRemote pc c f) d (fun d' =>
        CounterCommits d d' pc c f.xd.toNat 0 false ∧ (∀ k, d'.counter pc k = d.counter pc k) ∧
        ∃ fl, d'.net = d.net ++ [fl] ∧ fl.pkt.typ = 0x0C ∧ fl.pkt.dstUnit.toNat = lc ∧ fl.pkt.dstDev.toNat = d.deviceId % 2 ^ 16 ∧
          fl.pkt.payload = leBytes 4 f.imm.toNat ++ leBytes 4 0 ++ leBytes 8 ((d.ctx pc c).xr f.xa.toNat).toNat)) ∧
    (∀ (m : Master) (k : Fin 16) (v : Word), d.domOn pc = true → v.getLsbD 63 = true → bitsOf v.toNat 61 54 ≤ 191 →
      (∀ j < 16, j ≠ k.val → d.bit (F.CELL_SYNC_ALIGN_EN.nth j) pc = true → d.get (F.CELL_SYNC_ALIGN_COUNTER.nth j) pc ≠ bitsOf v.toNat 61 54) →
      Does (.alignEntryWrite m pc k v) d (fun d' =>
        d'.counter pc (bitsOf v.toNat 61 54) = bitsOf v.toNat 47 32 ∧ d'.bit (F.CELL_SYNC_ALIGN_EN.nth k) pc = true ∧
        d'.get (F.CELL_SYNC_ALIGN_COUNTER.nth k) pc = bitsOf v.toNat 61 54 ∧ d'.mem = d.mem ∧ CellsStand d d' pc)) ∧
    (∀ (m : Master) (v : Word) (lc : Nat), d.domOn pc = true → d.hosted pc = some lc → d.migrating lc = false →
      (d.dbgOk m = true → Does (.syncValueWrite m pc v) d (fun d' =>
        d'.counter pc (d.get F.CELL_SYNC_SEL_CTR pc) = v.toNat ∧ d'.get F.CELL_SYNC_SEL_RESULT pc = 0 ∧ d'.mem = d.mem ∧ CellsStand d d' pc)) ∧
      (d.dbgOk m = false → Does (.syncValueWrite m pc v) d (fun d' =>
        d'.cells = d.cells ∧ d'.get F.CELL_SYNC_SEL_RESULT pc = 1 ∧ d'.mem = d.mem)))

/-- R88, R189 to R196, R200, R203: what changes a counter: the instructions of its cell, the remote form, the alignment table and the debug write. Where the spec leaves it open this rests on the model's log entries 34 and 81. -/
def Obligations.CountersChangeByTheirRules : Prop := CounterInstructionsAct ∧ CounterWritesFromElsewhere

/-! ## Channels, endpoints and combining queues -/

/-- Packets enter the mesh: the device's flights are the old ones and some of this kind to this device and unit. -/
def Launches (d d' : Dev) (typ dev unit : Nat) : Prop :=
  ∃ fs, fs ≠ [] ∧ d'.net = d.net ++ fs ∧ ∀ fl ∈ fs, fl.pkt.typ.toNat = typ ∧ fl.pkt.dstDev.toNat = dev % 2 ^ 16 ∧ fl.pkt.dstUnit.toNat = unit % 2 ^ 16

/-- R222 to R226: CSEND on a bound endpoint with credit and outbox room places the message, takes the units and returns 0, and on an endpoint that is not bound returns its status; CPEEK delivers the head's LEN and payload offset without changing the channel; CADV frees the head message that it names, whose units go back to the sender, and otherwise answers its status and changes nothing; a channel of the near-memory unit answers NOT_READER. Where the spec leaves it open this rests on the model's log entries 27 and 35. -/
def Obligations.ChannelInstructionsSendPeekAndAdvance : Prop :=
  ∀ (pc : Slot) (c : Ctx) (f : FmtS) (d : Dev), d.ready pc c = true → d.anyPending pc c = false → f.xb = 0 → f.fl.toNat ≤ 1 → f.imm.toNat < 64 →
    let k := f.imm.toNat
    let o := Owner.cell pc
    let xa := ((d.ctx pc c).xr f.xa.toNat).toNat
    let xd := f.xd.toNat
    (∀ src len, d.sendDesc pc xa = some (src, len) →
      (d.sendCheck o k len (d.outFree pc) = .go → d.get F.CELL_SEP_STATE_SIZE pc (k + 1) ≤ 8 →
        let u := (16 + len + 63) / 64
        let wr := d.get F.CELL_SEP_STATE_WR pc (k + 1)
        wr + 64 * u ≤ d.sepRing o k →
        Does (.csend pc c f) d (fun d' => CounterCommits d d' pc c xd 0 false ∧
          (∃ it, (d'.cell pc).outbox = (d.cell pc).outbox ++ [it] ∧ it.sep = k ∧ it.seq = (d.sep o k).seq ∧ it.off = wr ∧ it.contrib = false ∧
            it.sent = 0 ∧ it.body.take len = d.spad pc src len) ∧
          d'.get F.CELL_SEP_STATE_WR pc (k + 1) = (wr + 64 * u) % d.sepRing o k ∧ d'.sent o k = (d.sent o k + u) % 2 ^ 32)) ∧
      (d.sepState o k = 0 ∨ d.sepState o k = 4 → Does (.csend pc c f) d (fun d' =>
        CounterCommits d d' pc c xd 4 false ∧ (d'.cell pc).outbox = (d.cell pc).outbox)) ∧
      (d.sepState o k = 3 → Does (.csend pc c f) d (fun d' =>
        CounterCommits d d' pc c xd 1 false ∧ (d'.cell pc).outbox = (d.cell pc).outbox))) ∧
    (f.xa = 0 → d.nmReads pc k = false →
      (d.hasHead o k = true → Does (.cpeek pc c f) d (fun d' =>
        CounterCommits d d' pc c xd (2 ^ 63 + d.headLen o k * 2 ^ 24 + (d.get F.CELL_CHAN_RING_BASE pc (k + 1) + d.chanRd o k + 16)) false ∧
        (d'.cell pc).chans = (d.cell pc).chans)) ∧
      (d.chanOpen o k = false → Does (.cpeek pc c f) d (fun d' => CounterCommits d d' pc c xd 1 false))) ∧
    (f.xa = 0 → d.nmReads pc k = true → Does (.cpeek pc c f) d (fun d' =>
      CounterCommits d d' pc c xd 7 false ∧ (d'.cell pc).chans = (d.cell pc).chans)) ∧
    (f.fl = 0 → d.get F.CELL_CHAN_RING_SIZE pc (k + 1) ≤ 8 →
      let Answers := fun (code : Nat) => Does (.cadv pc c f) d (fun d' => CounterCommits d d' pc c xd code false ∧ (d'.cell pc).chans = (d.cell pc).chans)
      (d.nmReads pc k = true → Answers 7) ∧
      (d.nmReads pc k = false → d.chanOpen o k = false → Answers 1) ∧
      (d.nmReads pc k = false → d.chanOpen o k = true → d.hasHead o k = false → Answers 5) ∧
      (d.nmReads pc k = false → d.hasHead o k = true →
        let off := d.get F.CELL_CHAN_RING_BASE pc (k + 1) + d.chanRd o k + 16
        let u := (16 + d.headLen o k + 63) / 64
        let next := (d.chanRd o k + 64 * u) % d.chanBytes o k
        (xa ≠ off → Answers 6) ∧
        (xa = off → d.headKind o k = 0 → (d.chan o k).visible ≤ u ∨ d.loadNat (d.ringBase o k + next + 10) 1 ≠ 1 →
          Does (.cadv pc c f) d (fun d' => CounterCommits d d' pc c xd 0 false ∧ (d'.chan o k).visible = (d.chan o k).visible - u ∧
            (d'.chan o k).freed = ((d.chan o k).freed + u) % 2 ^ 32 ∧ d'.chanRd o k = next ∧
            ∀ w, (d.chan o k).visible = u → (d.chan o k).returned = (d.chan o k).freed → (d.chan o k).freed < 2 ^ 32 → d.chanSource o k = some w →
              Launches d d' 0x07 (bitsOf w 29 20) (sourceUnit w)))))

/-- What an accepted open leaves of a queue (R235): OPEN at the descriptor's EPOCH and SEQ, with nothing accumulated. -/
def QueueOpened (d' : Dev) (pc q : Nat) (bs : List Byte) : Prop :=
  d'.cqState pc q = 1 ∧ d'.get F.CELL_CQ_EPOCH_EPOCH pc (q + 1) = leNat ((bs.drop 0x0C).take 4) ∧
  d'.get F.CELL_CQ_STATE_SEQ pc (q + 1) = leNat ((bs.drop 0x10).take 4) ∧ (d'.cq pc q).ea = [] ∧ (d'.cq pc q).acc = [] ∧ (d'.cq pc q).ranks = []

/-- R235 to R237, R241: a combining queue opens from a valid descriptor whose store range is free and whose epoch is new, by CQADD or by command; it closes keeping its last epoch; a contribution is committed and its elements leave packet by packet; the end of a post is counted and posted, and the queue is DONE or open for the next round. Where the spec leaves it open this rests on the model's log entry 36. -/
def Obligations.CombiningQueuesOpenCloseContributeAndPost : Prop :=
  ∀ (pc : Slot) (d : Dev),
    (∀ (c : Ctx) (f : FmtS) (off : Nat), d.ready pc c = true → d.anyPending pc c = false → f.xb = 0 → f.imm.toNat < 8 →
      let q := f.imm.toNat
      let xa := ((d.ctx pc c).xr f.xa.toNat).toNat
      (f.fl = 1 → d.ownSpad pc xa 64 = some off → xa % 64 = 0 → cqDescOk (d.spad pc off 64) = true → d.cqState pc q ≠ 2 →
        (d.openCq pc q (d.spad pc off 64)).1 = 0 →
        Does (.cqaddOpen pc c f) d (fun d' => CounterCommits d d' pc c f.xd.toNat 0 false ∧ QueueOpened d' pc q (d.spad pc off 64))) ∧
      (f.fl = 2 → f.xa = 0 → d.cqState pc q ≠ 0 → d.cqState pc q ≠ 2 →
        Does (.cqaddClose pc c f) d (fun d' => CounterCommits d d' pc c f.xd.toNat 0 false ∧ d'.cqState pc q = 0 ∧
          d'.reg F.CELL_CQ_EPOCH.base pc (q + 1) = d.reg F.CELL_CQ_EPOCH.base pc (q + 1))) ∧
      (f.fl = 0 → d.ownSpad pc xa 32 = some off → xa % 32 = 0 → contribDescOk c (d.spad pc off 32) = true →
        (leNat (d.spad pc off 2) = d.deviceId → (d.hostOf (leNat (d.spad pc (off + 2) 2))).isSome) → 1024 ≤ d.outFree pc →
        Does (.cqaddContribute pc c f) d (fun d' => CounterCommits d d' pc c f.xd.toNat 0 false ∧
          ∃ j, (d'.cell pc).contribs = (d.cell pc).contribs ++ [j] ∧ j.queue = q ∧ j.dstDev = leNat (d.spad pc off 2) ∧
            j.dstLc = leNat (d.spad pc (off + 2) 2) ∧ j.rank = leNat (d.spad pc (off + 6) 2) ∧ j.epoch = leNat (d.spad pc (off + 8) 4) ∧
            j.seq = leNat (d.spad pc (off + 12) 4) ∧ j.src = leNat (d.spad pc (off + 16) 4) ∧ j.count = leNat (d.spad pc (off + 20) 4) ∧ j.pos = 0))) ∧
    (∀ (m : Master) (desc : BitVec 24) (lc : Nat), d.domOn pc = true → d.hosted pc = some lc → d.migrating lc = false →
      let q := d.get F.CELL_CHAN_SEL_CQ pc
      d.cqState pc q ≠ 2 →
      (desc.toNat % 64 = 0 → desc.toNat + 64 ≤ 0xB00000 → cqDescOk (d.spad pc desc.toNat 64) = true →
        (d.openCq pc q (d.spad pc desc.toNat 64)).1 = 0 → Does (.queueOpen m pc desc) d (fun d' =>
          d'.get F.CELL_CHAN_SEL_RESULT pc = 0 ∧ QueueOpened d' pc q (d.spad pc desc.toNat 64) ∧ d'.mem = d.mem ∧ CellsStand d d' pc)) ∧
      (d.cqState pc q ≠ 0 → Does (.queueClose m pc) d (fun d' =>
        d'.get F.CELL_CHAN_SEL_RESULT pc = 0 ∧ d'.cqState pc q = 0 ∧ d'.mem = d.mem ∧ CellsStand d d' pc))) ∧
    (∀ (j : ContribJob) (js : List ContribJob), (d.cell pc).contribs = j :: js → j.ranked = true →
      let n := min (j.count - j.pos) 62
      n * 4 ≤ d.outFree pc → Does (.contribSend pc) d (fun d' =>
        (∃ it, (d'.cell pc).outbox = (d.cell pc).outbox ++ [it] ∧ it.contrib = true ∧ it.sep = j.queue ∧ it.dstDev = j.dstDev ∧
          it.body = d.spad pc (j.src + 4 * j.pos) (4 * n)) ∧
        (d'.cell pc).contribs = (if j.pos + n = j.count then js else { j with pos := j.pos + n } :: js) ∧ d'.mem = d.mem ∧
        (j.pos + n = j.count → j.doneEn = true → d'.counter pc j.doneCtr = min (d.counter pc j.doneCtr + 1) (2 ^ 64 - 1)))) ∧
    (∀ q : Fin 8, d.cqState pc q = 2 → (d.cq pc q).sending = [] → (∀ w ∈ (d.cell pc).cqWait, w.1 ≠ q.val) →
      Does (.queuePostDone pc q) d (fun d' =>
        d'.cqState pc q = (if (d.cq pc q).rearm then 1 else 3) ∧ d'.mem = d.mem ∧
        d'.counter pc (d.cq pc q).postCtr = min (d.counter pc (d.cq pc q).postCtr + 1) (2 ^ 64 - 1) ∧
        ((d.cq pc q).rearm = true → d'.get F.CELL_CQ_STATE_SEQ pc (q + 1) = (d.get F.CELL_CQ_STATE_SEQ pc (q + 1) + 1) % 2 ^ 32 ∧
          (d'.cq pc q).ea = [] ∧ (d'.cq pc q).ranks = [])))

/-- R209 to R212, R227, R506: the channel and endpoint commands of a hosted cell that is not MIGRATING, the end of a JOIN that nobody answers, and the release of a U record from the outbox. -/
def CellChannelCommands : Prop :=
  ∀ (pc : Slot) (m : Master) (d : Dev) (lc : Nat), d.domOn pc = true → d.hosted pc = some lc → d.migrating lc = false →
    let o := Owner.cell pc
    let k := d.get F.CELL_CHAN_SEL_CHAN pc
    let e := d.get F.CELL_CHAN_SEL_SEP pc
    let base := d.get F.CELL_CHAN_RING_BASE pc (k + 1)
    (d.chanOpen o k = false → d.get F.CELL_CHAN_RING_SIZE pc (k + 1) ≤ 8 → d.get F.CELL_CHAN_RING_BATCH pc (k + 1) ≤ 6 → base % 4096 = 0 →
      base + 4096 * 2 ^ d.get F.CELL_CHAN_RING_SIZE pc (k + 1) ≤ 0xB00000 →
      (d.get F.CELL_CHAN_RING_POST_EN pc (k + 1) = 1 → d.get F.CELL_CHAN_RING_POST_CTR pc (k + 1) ≤ 191) →
      Does (.chanOpen m pc) d (fun d' => d'.get F.CELL_CHAN_SEL_RESULT pc = 0 ∧ d'.chanOpen o k = true ∧ d'.chanRd o k = 0 ∧
        d'.get F.CELL_CHAN_PTR_ARRIVED pc (k + 1) = 0 ∧ d'.chanSource o k = none ∧ d'.chan o k = ChanState.reset ∧ d'.mem = d.mem)) ∧
    (d.chanOpen o k = true → Does (.chanClose m pc) d (fun d' => d'.get F.CELL_CHAN_SEL_RESULT pc = 0 ∧ d'.chanOpen o k = false ∧
      d'.chanSource o k = none ∧ d'.chanGen o k = (d.chanGen o k + 1) % 2 ^ 32 ∧ d'.mem = d.mem ∧
      ∀ w, d.chanSource o k = some w → Launches d d' 0x0A (bitsOf w 29 20) (sourceUnit w))) ∧
    (d.chanOpen o k = false → Does (.chanClose m pc) d (fun d' => d'.get F.CELL_CHAN_SEL_RESULT pc = 3 ∧ d'.cells = d.cells ∧ d'.mem = d.mem)) ∧
    (d.sepState o e ≠ 1 → d.sepState o e ≠ 2 → d.get F.CELL_SEP_TARGET_MCAST pc (e + 1) = 0 → d.get F.CELL_SEP_TARGET_OS pc (e + 1) = 0 →
      d.get F.CELL_SEP_TARGET_CHAN pc (e + 1) ≤ 63 → Does (.sepBind m pc) d (fun d' =>
        d'.get F.CELL_CHAN_SEL_RESULT pc = 0 ∧ d'.sepState o e = 1 ∧ d'.mem = d.mem ∧
        Launches d d' 0x08 (d.get F.CELL_SEP_TARGET_DEVICE pc (e + 1)) (d.get F.CELL_SEP_TARGET_LC pc (e + 1)))) ∧
    Does (.sepUnbind m pc) d (fun d' => d'.get F.CELL_CHAN_SEL_RESULT pc = 0 ∧ d'.sepState o e = 0 ∧ d'.mem = d.mem) ∧
    (∀ s : Fin 64, d.sepState o s = 1 → Does (.joinTimeout (.cell pc s)) d (fun d' =>
      d'.sepState o s = 4 ∧ d'.get F.CELL_SEP_STATE_REASON pc (s + 1) = 4 ∧ d'.mem = d.mem)) ∧
    (∀ (i : Nat) (it : OutItem), (d.cell pc).outbox[i]? = some it → it.contrib = false → it.sched = false → it.mcast = false → it.sent < 16 + it.body.length →
      (∀ j ∈ (d.cell pc).outbox.take i, j.contrib = true ∨ j.sep ≠ it.sep) →
      Does (.outboxRelease pc i) d (fun d' => (d'.cell pc).outbox = (d.cell pc).outbox.eraseIdx i ∧ d'.mem = d.mem ∧
        Launches d d' 0x06 it.dstDev it.unit))

/-- R244, R245: the OS complex's channels and endpoints follow the same rules in far memory of the carve-out, and OSCH_SEND sends at once. -/
def OsChannelCommands : Prop :=
  ∀ (m : Master) (d : Dev), d.power.mainUp = true →
    let o := Owner.os
    let k := d.get F.DEV_OSCH_SEL_CHAN
    let e := d.get F.DEV_OSCH_SEL_SEP
    (d.chanOpen o k = false → d.get F.DEV_OSCH_RING_SIZE 0 (k + 1) ≤ 8 → d.get F.DEV_OSCH_RING_BATCH 0 (k + 1) ≤ 6 →
      d.inCarve (d.get F.DEV_OSCH_RING_BASE 0 (k + 1) * 4096) (4096 * 2 ^ d.get F.DEV_OSCH_RING_SIZE 0 (k + 1)) = true →
      Does (.oschOpen m) d (fun d' => d'.get F.DEV_OSCH_SEL_RESULT = 0 ∧ d'.chanOpen o k = true ∧ d'.chanRd o k = 0 ∧ d'.chanSource o k = none ∧
        d'.chan o k = ChanState.reset ∧ d'.mem = d.mem ∧ d'.cells = d.cells)) ∧
    (d.chanOpen o k = true → Does (.oschClose m) d (fun d' => d'.get F.DEV_OSCH_SEL_RESULT = 0 ∧ d'.chanOpen o k = false ∧
      d'.chanSource o k = none ∧ d'.chanGen o k = (d.chanGen o k + 1) % 2 ^ 32 ∧ d'.mem = d.mem ∧ d'.cells = d.cells)) ∧
    (d.sepState o e ≠ 1 → d.sepState o e ≠ 2 → d.get F.DEV_OSEP_TARGET_CHAN 0 (e + 1) ≤ 63 → Does (.osepBind m) d (fun d' =>
      d'.get F.DEV_OSCH_SEL_RESULT = 0 ∧ d'.sepState o e = 1 ∧ d'.mem = d.mem ∧
      Launches d d' 0x08 (d.get F.DEV_OSEP_TARGET_DEVICE 0 (e + 1)) (d.get F.DEV_OSEP_TARGET_LC 0 (e + 1)))) ∧
    Does (.osepUnbind m) d (fun d' => d'.get F.DEV_OSCH_SEL_RESULT = 0 ∧ d'.sepState o e = 0 ∧ d'.mem = d.mem ∧ d'.cells = d.cells) ∧
    (d.hasHead o k = true → d.headKind o k = 0 → d.get F.DEV_OSCH_RING_SIZE 0 (k + 1) ≤ 8 → (d.chan o k).visible = (16 + d.headLen o k + 63) / 64 →
      Does (.oschAdv m) d (fun d' => d'.get F.DEV_OSCH_SEL_RESULT = 0 ∧ (d'.chan o k).visible = 0 ∧
        d'.chanRd o k = (d.chanRd o k + 64 * ((16 + d.headLen o k + 63) / 64)) % d.chanBytes o k ∧ d'.mem = d.mem)) ∧
    (d.chanOpen o k = false → Does (.oschAdv m) d (fun d' => d'.get F.DEV_OSCH_SEL_RESULT = 3 ∧ d'.osChans = d.osChans)) ∧
    (∀ v : Word, let s := bitsOf v.toNat 63 56
      let a := bitsOf v.toNat 47 4 * 16
      let len := d.loadNat (a + 8) 4
      d.inCarve a 16 = true → d.inCarve (d.loadNat a 8) len = true → 0 < len → d.sendCheck o s len 32768 = .go →
      d.padUnits o s ((16 + len + 63) / 64) = 0 → Does (.oschSend m v) d (fun d' => d'.get F.DEV_OSCH_SEL_SEND_RESULT = 0 ∧ d'.mem = d.mem ∧
        d'.sent o s = (d.sent o s + (16 + len + 63) / 64) % 2 ^ 32 ∧
        Launches d d' 0x06 (d.get F.DEV_OSEP_TARGET_DEVICE 0 (s + 1)) (d.get F.DEV_OSEP_TARGET_LC 0 (s + 1))))

/-- R209 to R212, R227, R244, R245, R506: the commands of channels and endpoints, of a cell and of the OS complex. Where the spec leaves it open this rests on the model's log entry 35. -/
def Obligations.ChannelCommandsOpenCloseBindAndSend : Prop := CellChannelCommands ∧ OsChannelCommands

/-! ## Engines -/

/-- An item whose operation may run now: in flight on engine `e`, open, neither aborting nor issued, its engine serving it, and all its ranges present. -/
def MayPerform (d : Dev) (it : ItemRef) (op : EngOp) (e : Nat) (i : EngItem) : Prop :=
  d.item (refOf it) = some (e, i) ∧ engOp (e % 16) (itF i.desc 0 1) = some op ∧ i.ending = none ∧ i.aborting = false ∧ i.issued = false ∧
  d.mayRun e i = true ∧ d.lostCell op i.desc = false

/-- The item's end is fixed: DONE with a RESULT (and FLAGS), to be posted by ITEM_POST. -/
def ItemDone (d' : Dev) (it : ItemRef) (e result flags : Nat) : Prop :=
  ∃ i', d'.item (refOf it) = some (e, i') ∧ i'.ending = some { state := 3, error := 0, detail := 0, flags := flags, result := result }

/-- Bytes have been written at a device address that lies in storage outside every enabled ring. -/
def Deposited (d d' : Dev) (a : Nat) (bs : List Byte) : Prop :=
  ∀ t, (d.place false a bs.length).storage = some t → d.ringAt t bs.length = none → d'.load t bs.length = bs

/-- The same, where another range of m bytes at `b` is written afterwards and shares no byte with it. -/
def DepositedBefore (d d' : Dev) (a : Nat) (bs : List Byte) (b m : Nat) : Prop :=
  ∀ t u, (d.place false a bs.length).storage = some t → d.ringAt t bs.length = none →
    (m = 0 ∨ ((d.place false b m).storage = some u ∧ (t + bs.length ≤ u ∨ u + m ≤ t))) → d'.load t bs.length = bs

/-- Every byte of storage outside two device ranges that lie in storage stands. -/
def OnlyDeposited (d d' : Dev) (a n b m : Nat) : Prop :=
  ∀ t u x, (d.place false a n).storage = some t → d.ringAt t n = none → (m = 0 ∨ ((d.place false b m).storage = some u ∧ d.ringAt u m = none)) →
    (x < t ∨ t + n ≤ x) → (m = 0 ∨ x < u ∨ u + m ≤ x) → Memory.byte d'.mem x = Memory.byte d.mem x

/-- R263 to R265, R267, R385: an item of a function, conversion, stream or digest engine writes the result of its operation to its destination and no other byte, and its end is DONE with RESULT and FLAGS. Where the spec leaves it open this rests on the model's log entries 13 and 37. -/
def Obligations.ElementAndDigestItemsWriteTheirResults : Prop :=
  ∀ (it : ItemRef) (d : Dev) (e : Nat) (i : EngItem),
    let b := i.desc
    let n := itF b 0x0C 4
    let dst := itF b 0x18 8
    (∀ x ∈ ([(Instr.expOp it, EngOp.exp, fnExp), (Instr.logOp it, EngOp.log, fnLog), (Instr.rsqrt it, EngOp.rsqrt, fnRsqrt),
        (Instr.erfOp it, EngOp.erf, fnErf)] : List (Instr × EngOp × (Nat → Nat → FnResult))), MayPerform d it x.2.1 e i →
      let f := itF b 0x20 1
      ∀ src, (d.place false (itF b 0x10 8) (packedSize f n)).storage = some src →
        let rs := (unpackElems f n (d.load src (packedSize f n))).map (x.2.2 f)
        let out := packElems f (rs.map Prod.fst)
        Does x.1 d (fun d' => Deposited d d' dst out ∧ OnlyDeposited d d' dst out.length 0 0 ∧
          ItemDone d' it e (packedSize f n) (rs.foldl (fun s r => s ||| r.2) 0))) ∧
    (MayPerform d it .convert e i → ∀ src, (d.place false (itF b 0x10 8) (packedSize (itF b 0x28 1) n)).storage = some src →
      let f := itF b 0x28 1
      let r := reduceExact f (itF b 0x29 1) n false [unpackElems f n (d.load src (packedSize f n))]
      Does (.convert it) d (fun d' => DepositedBefore d d' dst r.1 (itF b 0x20 8) r.2.1.length ∧ Deposited d d' (itF b 0x20 8) r.2.1 ∧
        OnlyDeposited d d' dst r.1.length (itF b 0x20 8) r.2.1.length ∧ ItemDone d' it e (r.1.length + r.2.1.length) (itFlags r.2.2))) ∧
    (MayPerform d it .generate e i →
      let bs := (List.range (itF b 0x30 4)).flatMap (fun k => streamElem (itF b 0x35 1) n
        (streamWord (wOf i.keyLo) (wOf i.keyHi) (wOf (itF b 0x10 8)) (wOf dst) (wOf (itF b 0x20 8 + k))))
      Does (.generate it) d (fun d' => Deposited d d' (itF b 0x28 8) bs ∧ OnlyDeposited d d' (itF b 0x28 8) bs.length 0 0 ∧
        ItemDone d' it e bs.length 0)) ∧
    (∀ src, (d.place false (itF b 0x10 8) n).storage = some src →
      let mode := itF b 0x2A 1
      let save := bitOf mode 1
      let to' := if save then itF b 0x20 8 else dst
      (MayPerform d it .crc64 e i →
        let c := crc64Run (if bitOf mode 0 then leNat ((maskState i.loaded).take 8) else crc64Init) (d.load src n)
        let out := if save then maskState (leBytes 8 c) else leBytes 8 (crc64Final c)
        Does (.crc64 it) d (fun d' => Deposited d d' to' out ∧ OnlyDeposited d d' to' out.length 0 0 ∧
          ItemDone d' it e (if save then 256 else 8) 0)) ∧
      (MayPerform d it .shake256 e i →
        let s := (if bitOf mode 0 then Sponge.ofSaved i.loaded else Sponge.start).absorbAll (d.load src n)
        let out := if save then s.save else s.finish (itF b 0x28 2)
        Does (.shake256 it) d (fun d' => Deposited d d' to' out ∧ OnlyDeposited d d' to' out.length 0 0 ∧
          ItemDone d' it e (if save then 256 else itF b 0x28 2) 0)))

/-- R261, R262: a REDUCE writes the exact sum or the ranked fold of its vectors, and a TOPK the k first elements in the order of R262, ties to the lower index, with their indices; no other byte changes. Where the spec leaves it open this rests on the model's log entry 37. -/
def Obligations.ReductionsWriteSumsAndTopElements : Prop :=
  ∀ (it : ItemRef) (d : Dev) (e : Nat) (i : EngItem),
    let b := i.desc
    let n := itF b 0x0C 4
    let dst := itF b 0x18 8
    (MayPerform d it .reduce e i → ∀ src : Nat → Nat,
      let f := itF b 0x2F 1
      (∀ r < itF b 0x2C 2, (d.place false (itF b 0x10 8 + r * itF b 0x28 4) (packedSize f n)).storage = some (src r)) →
      let rows := (List.range (itF b 0x2C 2)).map (fun r => unpackElems f n (d.load (src r) (packedSize f n)))
      let r := if itF b 0x2E 1 = 1 then reduceRanked (itF b 0x30 1) n rows else reduceExact f (itF b 0x30 1) n (bitOf (itF b 1 1) 2) rows
      Does (.reduce it) d (fun d' => DepositedBefore d d' dst r.1 (itF b 0x20 8) r.2.1.length ∧ Deposited d d' (itF b 0x20 8) r.2.1 ∧
        OnlyDeposited d d' dst r.1.length (itF b 0x20 8) r.2.1.length ∧ ItemDone d' it e (r.1.length + r.2.1.length) (itFlags r.2.2))) ∧
    (MayPerform d it .topk e i → ∀ src,
      let f := itF b 0x2C 1
      let k := itF b 0x28 4
      (d.place false (itF b 0x10 8) (packedSize f n)).storage = some src →
      let vs := unpackElems f n (d.load src (packedSize f n))
      Does (.topk it) d (fun d' => ∃ top : List (Nat × Nat), top.length = min k n ∧
        (∀ x ∈ top, x.1 < n ∧ vs[x.1]? = some x.2) ∧ (top.map Prod.fst).Nodup ∧
        top.Pairwise (fun x y => topKey f y.2 < topKey f x.2 ∨ (topKey f x.2 = topKey f y.2 ∧ x.1 < y.1)) ∧
        (∀ j v, vs[j]? = some v → (j, v) ∈ top ∨ ∀ x ∈ top, topKey f v < topKey f x.2 ∨ (topKey f v = topKey f x.2 ∧ x.1 < j)) ∧
        DepositedBefore d d' dst (packElems f (top.map Prod.snd)) (itF b 0x20 8) (4 * top.length) ∧
        Deposited d d' (itF b 0x20 8) (top.flatMap (fun x => leBytes 4 x.1)) ∧
        OnlyDeposited d d' dst (packElems f (top.map Prod.snd)).length (itF b 0x20 8) (4 * top.length) ∧ ItemDone d' it e k 0))

/-- R257, R259, R260: COPY, COPY3D, TRANSPOSE, GATHER and SCATTER of rows that lie in storage, with destination rows apart from each other, from every source row and from every ring: each destination row holds the source row as it was before. Where the spec leaves it open this rests on the model's log entry 37. -/
def Obligations.MoversMoveEveryRow : Prop :=
  ∀ (it : ItemRef) (d : Dev) (e : Nat) (i : EngItem) (S T : Nat → Nat),
    let b := i.desc
    let n := itF b 0x0C 4
    let rowsAt := fun (count len : Nat) (src dst : Nat → Nat) =>
      (∀ k < count, (d.place false (src k) len).storage = some (S k) ∧ (d.place false (dst k) len).storage = some (T k) ∧ d.ringAt (T k) len = none) ∧
      (∀ k < count, ∀ l < count, (k = l ∨ T k + len ≤ T l ∨ T l + len ≤ T k) ∧ (T k + len ≤ S l ∨ S l + len ≤ T k))
    let moved := fun (count len : Nat) (d' : Dev) =>
      (∀ k < count, d'.load (T k) len = d.load (S k) len) ∧
      (∀ x, (∀ k < count, x < T k ∨ T k + len ≤ x) → Memory.byte d'.mem x = Memory.byte d.mem x)
    (MayPerform d it .copy e i → isRemote (itF b 0x10 8) = false → isRemote (itF b 0x18 8) = false →
      rowsAt 1 n (fun _ => itF b 0x10 8) (fun _ => itF b 0x18 8) →
      Does (.dmaCopy it) d (fun d' => moved 1 n d' ∧ ItemDone d' it e n 0)) ∧
    (MayPerform d it .copy3d e i →
      let d1 := itF b 0x20 2
      let d2 := itF b 0x22 2
      let at' := fun (base : Nat) (t1 t2 : Int) (k : Nat) => ((base : Int) + ((k / d1 : Nat) : Int) * t2 + ((k % d1 : Nat) : Int) * t1).toNat
      0 < d1 → rowsAt (d1 * d2) n (at' (itF b 0x10 8) (itS b 0x24) (itS b 0x28)) (at' (itF b 0x18 8) (itS b 0x2C) (itS b 0x30)) →
      Does (.copy3d it) d (fun d' => moved (d1 * d2) n d' ∧ ItemDone d' it e (n * d1 * d2) 0)) ∧
    (MayPerform d it .transpose e i →
      let rows := itF b 0x20 4
      let cols := itF b 0x24 4
      let m := 2 ^ itF b 0x0C 1
      let at' := fun (base : Nat) (s : Int) (p q : Nat) => ((base : Int) + ((p : Int) * s + ((q * m : Nat) : Int))).toNat
      0 < cols → rowsAt (rows * cols) m (fun k => at' (itF b 0x10 8) (itS b 0x28) (k / cols) (k % cols))
        (fun k => at' (itF b 0x18 8) (itS b 0x2C) (k % cols) (k / cols)) →
      Does (.transpose it) d (fun d' => moved (rows * cols) m d' ∧ ItemDone d' it e (rows * cols * m) 0)) ∧
    (∀ (x : Nat) (g : Nat → Nat), (d.place false (itF b 0x18 8) (4 * itF b 0x28 4)).storage = some x →
      let count := itF b 0x28 4
      let row := fun k => ((itF b 0x10 8 : Int) + (g k : Int) * itS b 0x30).toNat
      let data := fun k => itF b 0x20 8 + k * n
      (∀ k < count, d.loadNat (x + 4 * k) 4 = g k ∧ g k < itF b 0x2C 4 ∧ g k ≠ 0xFFFFFFFF ∧ (T k + n ≤ x ∨ x + 4 * count ≤ T k)) →
      (MayPerform d it .gather e i → rowsAt count n row data → Does (.gather it) d (fun d' => moved count n d' ∧ ItemDone d' it e (count * n) 0)) ∧
      (MayPerform d it .scatter e i → rowsAt count n data row → Does (.scatter it) d (fun d' => moved count n d' ∧ ItemDone d' it e (count * n) 0)))

/-- R266: a COMPRESS whose frames fit writes the frame of every chunk at its 8-byte aligned offset and its length in the length table; a DECOMPRESS of frames that decode to their chunks writes the chunks. Where the spec leaves it open this rests on the model's log entries 14 and 37. -/
def Obligations.CompressionWritesFramesAndChunks : Prop :=
  ∀ (it : ItemRef) (d : Dev) (e : Nat) (i : EngItem) (s t l : Nat),
    let b := i.desc
    let n := itF b 0x0C 4
    let cap := itF b 0x28 4
    (MayPerform d it .compress e i →
      let chunks := (n + 65535) / 65536
      (d.place false (itF b 0x10 8) n).storage = some s → (d.place false (itF b 0x18 8) cap).storage = some t →
      (d.place false (itF b 0x20 8) (4 * chunks)).storage = some l → d.ringAt t cap = none → d.ringAt l (4 * chunks) = none →
      (t + cap ≤ s ∨ s + n ≤ t) → (l + 4 * chunks ≤ s ∨ s + n ≤ l) → (t + cap ≤ l ∨ l + 4 * chunks ≤ t) →
      let frame := fun k => Config.zstdEncode (d.load (s + 65536 * k) (min 65536 (n - 65536 * k)))
      let span := frameSpan ((List.range chunks).map (fun k => (frame k).length))
      0 < n → span.2 ≤ cap →
      Does (.compress it) d (fun d' => ItemDone d' it e span.2 0 ∧
        ∀ k < chunks, d'.load (t + span.1.getD k 0) (frame k).length = frame k ∧ d'.loadNat (l + 4 * k) 4 = (frame k).length % 2 ^ 32)) ∧
    (MayPerform d it .decompress e i → ∀ chunk : Nat → List Byte,
      let lens := (List.range n).map (fun k => d.loadNat (l + 4 * k) 4)
      let span := frameSpan lens
      (d.place false (itF b 0x20 8) (4 * n)).storage = some l → (d.place false (itF b 0x10 8) span.2).storage = some s →
      (d.place false (itF b 0x18 8) cap).storage = some t → d.ringAt t cap = none →
      (t + cap ≤ s ∨ s + span.2 ≤ t) → (t + cap ≤ l ∨ l + 4 * n ≤ t) → 0 < n →
      (∀ k < n, Config.zstdDecode (d.load (s + span.1.getD k 0) (lens.getD k 0)) = some (chunk k) ∧
        (chunk k).length = (if k + 1 = n then (chunk k).length else 65536) ∧ 1 ≤ (chunk k).length ∧ (chunk k).length ≤ 65536) →
      65536 * (n - 1) + (chunk (n - 1)).length ≤ cap →
      Does (.decompress it) d (fun d' => ItemDone d' it e (65536 * (n - 1) + (chunk (n - 1)).length) 0 ∧
        ∀ k < n, d'.load (t + 65536 * k) (chunk k).length = chunk k))

/-- R249 to R252, R265, R268: a queue is enabled with a ring that fits and meets no other, and disabled; a producer's whole line with the next free SEQ becomes a QUEUED item that its engine may then start; a line from anyone else is refused, counted and latched and changes no byte; an abort word stops a RUNNING item; a stream key is committed by its upper half. -/
def QueuesAcceptAndRefuse : Prop :=
  ∀ (m : Master) (e : EngInst) (d : Dev), engReal e = true →
    let q := d.get F.ENG_WQ_SEL_Q e
    let size := d.get F.ENG_WQ_CFG_SIZE e (q + 1)
    let base := d.get F.ENG_WQ_CFG_BASE e (q + 1)
    (d.domOn (544 + e / 16) = true →
      (d.wqOn e q = false → 4 ≤ size → size ≤ 12 → base % (64 * 2 ^ size) = 0 → base + 64 * 2 ^ size ≤ 2 ^ 25 →
        d.ringAt (d.wqBase e q) (64 * 2 ^ size) = none → Does (.wqEnable m e) d (fun d' =>
          d'.get F.ENG_WQ_SEL_RESULT e = 0 ∧ d'.wqOn e q = true ∧ d'.reg F.ENG_WQ_PTR.base e (q + 1) = 0 ∧ d'.mem = d.mem)) ∧
      (d.wqOn e q = true → Does (.wqEnable m e) d (fun d' => d'.get F.ENG_WQ_SEL_RESULT e = 3 ∧ d'.engs = d.engs ∧ d'.mem = d.mem)) ∧
      (d.wqOn e q = true → (∀ k < d.wqSlots e q, d.slotStatus e q k ≠ 1) → d.flying e q = [] → Does (.wqDisable m e) d (fun d' =>
        d'.get F.ENG_WQ_SEL_RESULT e = 0 ∧ d'.wqOn e q = false ∧ d'.mem = d.mem))) ∧
    (∀ (who : Agent) (addr : Word) (line : BitVec 512) (h a j : Nat), d.place false addr.toNat 64 = .commons h a → d.ringAt a 64 = some (e.val, j) →
      (d.ringReason e j (some who) a 64 = 0 → ∀ slot, a = d.slotAddr e j slot → a % 64 = 0 →
        let seq := itF (leBytes 64 line.toNat) 8 4
        d.slotStatus e j slot ≠ 1 → d.slotStatus e j slot ≠ 2 → (seq + 2 ^ 32 - d.get F.ENG_WQ_PTR_NEXT e (j + 1)) % 2 ^ 32 < d.wqSlots e j →
        seq % d.wqSlots e j = slot → itF (leBytes 64 line.toNat) 0x38 8 = 0 →
        Does (.wqSubmit who addr line) d (fun d' => ∃ x : Dev, d' = x.kickQueue e ∧ x.slotStatus e j slot = 1 ∧
          x.load a 56 = (leBytes 64 line.toNat).take 56 ∧ x.loadNat (a + 56) 8 = 2 ^ 60 ∧ BytesStand d x a 64)) ∧
      (d.ringReason e j (some who) a 64 ≠ 0 → Does (.wqSubmit who addr line) d (fun d' =>
        d'.mem = d.mem ∧ d'.engs = d.engs ∧ d'.get F.ENG_REFUSED_LAST_VALID e = 1 ∧
        d'.get F.ENG_REFUSED_LAST_REASON e = d.ringReason e j (some who) a 64 ∧
        d'.reg F.ENG_WRITES_REFUSED.base e = countUp (d.reg F.ENG_WRITES_REFUSED.base e) 1 % 2 ^ 64))) ∧
    (∀ (who : Agent) (addr : Word) (h a j slot : Nat) (i : EngItem), d.place false addr.toNat 8 = .commons h a → d.ringAt a 8 = some (e.val, j) →
      d.ringReason e j (some who) a 8 = 0 → a = d.slotAddr e j slot + 0x38 → d.slotAddr e j slot % 64 = 0 → d.slotStatus e j slot = 2 →
      i ∈ (d.eng e).items → i.home = e → i.q = j → d.slotOf e j i.seq = slot → i.ending = none → i.replayed = false →
      Does (.abortWord who addr) d (fun d' => { i with aborting := true } ∈ (d'.eng e).items ∧ d'.mem = d.mem)) ∧
    (∀ (n : Fin 16) (v : Word), e.val % 16 = 5 → d.domOn (544 + e / 16) = true → Does (.sgKeyCommit m e n v) d (fun d' =>
      d'.reg (F.ENG_SG_KEY_LO.base + 16 * n) e = d.reg (F.ENG_SG_KEY_LO.base + 16 * n) e 1 ∧ d'.reg (F.ENG_SG_KEY_HI.base + 16 * n) e = v.toNat ∧
      d'.mem = d.mem ∧ d'.engs = d.engs))

/-- R254, R258, R268: an item whose end is fixed is posted, its status word written, its counter of ends advanced and the item removed, before the engine starts others; an aborting item ends ABORTED; a remote item without answers ends FAILED. -/
def ItemsEnd : Prop :=
  ∀ (it : ItemRef) (d : Dev) (e : Nat) (i : EngItem), d.item (refOf it) = some (e, i) →
    let at' := d.slotAddr i.home i.q (d.slotOf i.home i.q i.seq)
    let posted := fun (x : ItemEnd) (d' : Dev) => ∃ y : Dev, d' = y.startItems e 4 ∧
      (y.eng e).items = (d.eng e).items.filter (fun j => j.ref != i.ref) ∧
      y.loadNat (at' + 0x38) 8 = statusWord x i.tooLate i.replayed % 2 ^ 64 ∧ BytesStand d y (at' + 0x38) 8
    (∀ x, i.ending = some x → (d.eng e).replay = none → d.halted = false → Does (.itemPost it) d (posted x)) ∧
    (i.ending = none → i.aborting = true →
      Does (.itemAbortStop it) d (posted { state := 4, error := 0, detail := 0, flags := 0, result := 0 })) ∧
    (i.ending = none → d.itemReqs i ≠ [] → Does (.remoteTimeout it) d (fun d' =>
      (∃ j, d'.item (refOf it) = some (e, j) ∧ j.ending = some { state := 5, error := 9, detail := 0, flags := 0, result := 0 }) ∧ d'.mem = d.mem))

/-- R249 to R254, R258, R265, R268: work queues take items and refuse others, and items end and are posted. Where the spec leaves it open this rests on the model's log entries 29 and 37. -/
def Obligations.WorkQueuesTakeItemsAndPostTheirEnds : Prop := QueuesAcceptAndRefuse ∧ ItemsEnd

/-- R385, R386, R437: an integrity indication isolates its engine and makes suspects of the items in flight, each re-run alone; a stalled item is such an indication, counted; the last re-run that reproduces calls for the self-test, and a failed self-test fences the engine and redirects its queues to the partner. Where the spec leaves it open this rests on the model's log entry 38. -/
def Obligations.IndicationsReplayAndFence : Prop :=
  ∀ (e : EngInst) (d : Dev), engReal e = true →
    (d.halted = false → (d.eng e).replay = none → (d.eng e).items ≠ [] → (∀ i ∈ (d.eng e).items, i.guest = false ∧ i.aborting = false) →
      Does (.engineIndication e) d (fun d' => d'.bit F.ENG_CTL_ISOLATE e = true ∧ d'.mem = d.mem ∧
        (d'.eng e).replay = some ⟨(d.eng e).items.map EngItem.ref, [], false, [], false⟩ ∧
        ∀ i ∈ (d'.eng e).items, i.replayed = true) ∧
      (∀ (it : ItemRef) (i : EngItem), d.item (refOf it) = some (e.val, i) → i.ending = none → d.get F.WDOG_CFG_ENG_BEATS ≠ 0 →
        Does (.engStallTimeout it) d (fun d' => d'.bit F.ENG_CTL_ISOLATE e = true ∧ (d'.eng e).replay.isSome ∧ d'.mem = d.mem ∧
          d'.reg F.WDOG_ENG_TIMEOUTS.base = countUp (d.reg F.WDOG_ENG_TIMEOUTS.base) 1 % 2 ^ 64))) ∧
    (∀ (r : Replay) (x : Nat × Nat × Nat) (rest : List (Nat × Nat × Nat)) (bad : Bool), (d.eng e).replay = some r → r.todo = x :: rest →
      (∃ i ∈ (d.eng e).items, i.ref = x ∧ i.ending.isSome) →
      (rest ≠ [] → Does (.replayRunEnd e bad) d (fun d' => d'.mem = d.mem ∧
        d'.reg F.ENG_REPLAYS.base e = countUp (d.reg F.ENG_REPLAYS.base e) 1 % 2 ^ 64 ∧
        (d'.eng e).replay = some ⟨rest, r.done ++ [x], false, (if bad || r.hit then r.repro ++ [x] else r.repro), false⟩)) ∧
      (rest = [] → bad = true → Does (.replayRunEnd e bad) d (fun d' => d'.mem = d.mem ∧
        (d'.eng e).replay = some ⟨[], r.done ++ [x], false, r.repro ++ [x], true⟩))) ∧
    (∀ (r : Replay) (g : Nat × Nat × Nat), (d.eng e).replay = some r → r.selfTest = true → r.repro = [g] →
      d.bit F.ENG_CTL_FENCED (engPartner e) = false →
      Does (.engineSelfTestEnd e false) d (fun d' => d'.bit F.ENG_CTL_FENCED e = true ∧ d'.bit F.ENG_CTL_REDIRECTED e = true ∧
        d'.bit F.ENG_CTL_SERVING (engPartner e) = true ∧ (d'.eng e).replay = none) ∧
      ((d.eng e).guiltyNs = none → Does (.engineSelfTestEnd e true) d (fun d' => d'.bit F.ENG_CTL_ISOLATE e = false ∧
        d'.bit F.ENG_CTL_FENCED e = d.bit F.ENG_CTL_FENCED e ∧ (d'.eng e).replay = none ∧ (d'.eng e).guiltyNs = some d.ns)))

/-! ## The array -/

/-- R129, R132, R139 to R141: loads are taken in order and leave the shadow plane VALID with the image or INVALID; ALOAD delivers its load's result; ALAUNCH queues a checked launch and delivers its handle, waits for the plane, or faults with ARRAY and latches BAD_LAUNCH. Where the spec leaves it open this rests on the model's log entries 31 and 45. -/
def Obligations.ImagesLoadAndLaunchesAreQueued : Prop :=
  ∀ (pc : Slot) (d : Dev),
    let a := d.arr pc
    (∀ (c : Ctx) (f : FmtS), d.ready pc c = true → d.anyPending pc c = false → f.xb = 0 → f.fl = 0 → f.imm = 0 →
      (∀ r, SMap.find c.val a.loadDone = some r → Does (.aload pc c f) d (fun d' =>
        CounterCommits d d' pc c f.xd.toNat r false ∧ SMap.find c.val (d'.arr pc).loadDone = none)) ∧
      (SMap.find c.val a.loadDone = none → a.load.any (fun l => l.ctx = c.val) = false → a.loadWait.any (fun l => l.ctx = c.val) = false →
        Does (.aload pc c f) d (fun d' =>
          (d'.ctx pc c).phase = .parked ∧ (d'.ctx pc c).wait = some .plane ∧ (d'.ctx pc c).pc = (d.ctx pc c).pc ∧
          (d'.ctx pc c).x = (d.ctx pc c).x ∧ (d'.arr pc).loadWait = a.loadWait ++ [⟨c, d.xaOf pc c f⟩] ∧ d'.mem = d.mem ∧ CellsStand d d' pc)) ∧
      (a.pend = none → d.planeState pc 0 ≠ 1 → d.planeState pc 1 ≠ 1 → ∀ st, d.coreAddr (d.xaOf pc c f) 64 = some st →
        let w := launchWords (d.load st 64)
        (∀ sds, d.checkLaunch pc c w = some sds → Does (.alaunch pc c f) d (fun d' =>
          CounterCommits d d' pc c f.xd.toNat a.nextHandle false ∧ (d'.arr pc).nextHandle = (a.nextHandle + 1) % 2 ^ 32 ∧ (d'.arr pc).run = a.run ∧
          ∃ l, (d'.arr pc).pend = some l ∧ l.handle = a.nextHandle ∧ l.ctx = c ∧ l.bindId = (d.ctx pc c).bindId ∧ l.imageId = w.imageId ∧
            l.doneCtr = w.doneCtr ∧ l.ports = sds ∧ (l.m, l.n, l.k) = (w.m, w.n, w.k) ∧ l.statusAddr = d.xaOf pc c f + 0x20)) ∧
        (d.checkLaunch pc c w = none → Does (.alaunch pc c f) d (fun d' =>
          FaultedAt d d' pc c ∧ d'.bit F.CELL_ARR_FAULT_VALID pc = true ∧
          (d.bit F.CELL_ARR_FAULT_VALID pc = false → d'.get F.CELL_ARR_FAULT_KIND pc = 7) ∧ d'.mem = d.mem))) ∧
      (a.pend ≠ none → Does (.alaunch pc c f) d (fun d' =>
        (d'.ctx pc c).phase = .parked ∧ (d'.ctx pc c).wait = some .plane ∧ (d'.ctx pc c).pc = (d.ctx pc c).pc ∧ d'.mem = d.mem ∧ d'.arr pc = a))) ∧
    (∀ l ls, d.domOn pc = true → d.isFrozen pc = false → a.load = none → d.shadowHeld pc = false → a.loadWait = l :: ls →
      Does (.aloadStart pc) d (fun d' =>
        (d'.arr pc).load = some l ∧ (d'.arr pc).loadWait = ls ∧ d'.planeState pc a.shadow = 1 ∧ d'.planeState pc a.activePlane = d.planeState pc a.activePlane ∧
        d'.mem = d.mem ∧ CellsStand d d' pc)) ∧
    (∀ l, a.load = some l →
      (∀ img, d.readImage pc l.addr = some img → Does (.aloadDone pc) d (fun d' =>
        d'.planeHolds pc a.shadow (imgId img) = true ∧ (d'.arr pc).plane a.shadow = img ∧ (d'.arr pc).load = none ∧
        (l.ctx < 32 → SMap.find l.ctx (d'.arr pc).loadDone = some 0) ∧ d'.mem = d.mem ∧ CellsStand d d' pc)) ∧
      (d.readImage pc l.addr = none → Does (.aloadDone pc) d (fun d' =>
        d'.planeState pc a.shadow = 3 ∧ (d'.arr pc).load = none ∧ (l.ctx < 32 → SMap.find l.ctx (d'.arr pc).loadDone = some 1) ∧
        d'.mem = d.mem ∧ CellsStand d d' pc)))

/-- The launch has ended with a state: it is kept among the ended ones with its status word, the word stands at its STATUS address outside every enabled ring, and DONE_CTR has one more (R144). -/
def LaunchEnded (d d' : Dev) (pc : Nat) (l : LaunchDesc) (status : Nat) : Prop :=
  ⟨l.handle, l.ctx, l.bindId, status⟩ ∈ (d'.arr pc).ended ∧ d'.counter pc l.doneCtr = min (d.counter pc l.doneCtr + 1) (2 ^ 64 - 1) ∧
  (∀ a, (d.place false l.statusAddr 8).storage = some a → d.ringAt a 8 = none →
    Memory.read d'.mem a 8 = leBytes 8 status ∧ BytesStand d d' a 8)

/-- R128, R143 to R146, R155 to R157, R436, R505: a pending launch starts on the plane that holds its image; ASTAT and ADRAIN deliver a launch's state; a drain holds or discards; a launch whose end is decided writes its status and posts its counter; a drain that times out clears the array and faults the context with PROGRESS. Where the spec leaves it open this rests on the model's log entry 45. -/
def Obligations.LaunchesStartDrainAndEnd : Prop :=
  ∀ (pc : Slot) (d : Dev),
    let a := d.arr pc
    (∀ l, d.domOn pc = true → d.isFrozen pc = false → a.run = none → a.pend = some l → Does (.launchStart pc) d (fun d' =>
      (d'.arr pc).pend = none ∧ (d'.arr pc).active = (if d.planeHolds pc a.activePlane l.imageId = true then a.active else !a.active) ∧
      (∃ r, (d'.arr pc).run = some r ∧ r.desc = l ∧ r.tile = 0 ∧ r.ending = none ∧ r.drain = none ∧ r.lanes = []) ∧
      Counted d d' F.CELL_ARR_LAUNCHES pc ∧ d'.mem = d.mem ∧ CellsStand d d' pc)) ∧
    (∀ (c : Ctx) (f : FmtS) (h : Nat), d.ready pc c = true → d.anyPending pc c = false → f.xb = 0 → f.imm = 0 → d.xaOf pc c f % 2 ^ 32 = h →
      (f.fl.toNat ≤ 1 → (f.fl = 0 ∨ (a.statusOf h).2 = false) → Does (.astat pc c f) d (fun d' =>
        CounterCommits d d' pc c f.xd.toNat (a.statusOf h).1 false ∧ d'.arr pc = a)) ∧
      (f.fl = 1 → (a.statusOf h).2 = true → Does (.astat pc c f) d (fun d' =>
        (d'.ctx pc c).phase = .parked ∧ (d'.ctx pc c).wait = some (.launchEnd h) ∧ (d'.ctx pc c).pc = (d.ctx pc c).pc ∧ d'.mem = d.mem)) ∧
      (f.fl = 0 → SMap.find c.val a.drains = none →
        (∀ l, a.run = some l → a.pend = none → l.desc.handle = h → l.desc.ctx = c →
          (l.ending = none → Does (.adrain pc c f) d (fun d' =>
            (d'.ctx pc c).phase = .parked ∧ (d'.ctx pc c).wait = some (.launchEnd h) ∧ (d'.arr pc).run = some { l with drain := some .adrain } ∧
            SMap.find c.val (d'.arr pc).drains = some h ∧ d'.mem = d.mem)) ∧
          (l.ending ≠ none → Does (.adrain pc c f) d (fun d' => CounterCommits d d' pc c f.xd.toNat 1 false ∧ (d'.arr pc).run = a.run))) ∧
        (∀ l, a.run = none → a.pend = some l → l.handle = h → l.ctx = c → Does (.adrain pc c f) d (fun d' =>
          (d'.arr pc).pend = none ∧ (d'.ctx pc c).pc = d.seqPc pc c ∧
          (∀ r, (d'.ctx pc c).xr r = if r = f.xd.toNat ∧ r ≠ 0 then 0 else (d.ctx pc c).xr r) ∧
          LaunchEnded d d' pc l (launchStatus l.handle 3 false false false false))) ∧
        (a.run = none → a.pend = none → (∀ e ∈ a.ended, ¬(e.handle = h ∧ e.ctx = c.val)) → Does (.adrain pc c f) d (fun d' =>
          CounterCommits d d' pc c f.xd.toNat 2 false)))) ∧
    (∀ l st, a.run = some l → l.ending = some st → l.drain = none → d.domOn pc = true → Does (.launchEnd pc) d (fun d' =>
      (d'.arr pc).run = none ∧ LaunchEnded d d' pc l.desc (l.status st))) ∧
    (∀ l, a.run = some l → (∀ cause, l.drain = some cause →
      (cause = .freeze → l.held = false → l.ending = none → Does (.drainDone pc) d (fun d' =>
        (d'.arr pc).run = some { l with held := true } ∧ Counted d d' F.CELL_ARR_DRAINS pc ∧ d'.mem = d.mem)) ∧
      (cause ≠ .freeze → Does (.drainDone pc) d (fun d' =>
        (∃ r, (d'.arr pc).run = some r ∧ r.desc = l.desc ∧ r.drain = none ∧ r.lanes = [] ∧ r.units = [] ∧ r.edges = [] ∧ r.tile = l.tile ∧
          r.ending = some (l.ending.getD 3)) ∧ Counted d d' F.CELL_ARR_DRAINS pc ∧ d'.mem = d.mem)) ∧
      (l.held = false → a.pend = none → Does (.drainTimeout pc) d (fun d' =>
        (d'.arr pc).run = none ∧ (d'.arr pc).pend = none ∧ d'.planeState pc 0 = 0 ∧ d'.planeState pc 1 = 0 ∧
        LaunchEnded d d' pc l.desc (l.status 5) ∧ LaunchFaulted d d' pc l.desc ∧ Counted d d' F.WDOG_DRAIN_TIMEOUTS ∧
        Counted d d' F.WDOG_PROGRESS_FAULTS))))

/-- R149 to R154, R382, R505: a tile whose check passes is written, counted and posted; one that fails repeats with its mismatch latched, and nothing is written; a repeat that passes is written and counted as corrected; one that fails again ends the launch FAILED, faults its context and makes the cell a suspect. Where the spec leaves it open this rests on the model's log entry 45. -/
def Obligations.TilesAreCheckedWrittenAndRepeated : Prop :=
  ∀ (pc : Slot) (e : TileErr) (d : Dev) (l : Launch), d.matmulRun pc = some l →
    let g := (d.runTile pc l e).2.1
    let t := (d.runTile pc l e).2.2
    let at' := l.desc.tileAt l.tile
    let Written := fun (d' : Dev) (retried : Bool) =>
      (∃ r, (d'.arr pc).run = some r ∧ r.desc = l.desc ∧ r.tile = l.tile + 1 ∧ r.repeating = none ∧ r.retried = (l.retried || retried) ∧
        (l.desc.tiles ≤ l.tile + 1 → l.drain = none → r.ending = some 2) ∧ (l.tile + 1 < l.desc.tiles → r.ending = none)) ∧
      Counted d d' F.CELL_ARR_TILES pc ∧ d'.mem = (d.writeTile pc l.desc (d.runFmts pc).2.2 at'.1 at'.2 g).1.mem ∧
      (∀ n, d'.counter pc n = if l.desc.tileEn = true ∧ n = l.desc.tileCtr then min (d.counter pc n + 1) (2 ^ 64 - 1) else d.counter pc n)
    (l.repeating = none → t.passed = true → Does (.tileCheck pc e) d (fun d' => Written d' false ∧ CellsStand d d' pc)) ∧
    (l.repeating = none → t.passed = false → Does (.tileCheck pc e) d (fun d' =>
      (d'.arr pc).run = some { l with repeating := some ⟨t.rows, t.cols, t.inexact⟩ } ∧ (l.desc.handle < 2 ^ 32 → d'.bit F.CELL_ARR_CHECK_VALID pc = true) ∧
      (d.bit F.CELL_ARR_CHECK_VALID pc = true → d'.bit F.CELL_ARR_CHECK_LOST pc = true) ∧ d'.mem = d.mem ∧ CellsStand d d' pc)) ∧
    (∀ m, l.repeating = some m → t.passed = true → (d.slotInfo pc).retries < 3 → Does (.tileRepeatDone pc e) d (fun d' =>
      Written d' true ∧ Counted d d' F.CELL_ARR_TILE_RETRIES pc ∧ (d'.slotInfo pc).retries = (d.slotInfo pc).retries + 1 ∧ CellsStand d d' pc)) ∧
    (∀ m, l.repeating = some m → t.passed = false → l.desc.handle < 2 ^ 32 → Does (.tileRepeatDone pc e) d (fun d' =>
      ∃ d1 : Dev, d' = d1.suspectSlot pc ∧ (∃ r, (d1.arr pc).run = some r ∧ r.desc = l.desc ∧ r.tile = l.tile ∧ r.ending = some 4) ∧
        LaunchFaulted d d1 pc l.desc ∧ d1.bit F.CELL_ARR_CHECK_RETRY_FAILED pc = true ∧ d1.get F.CELL_ARR_CHECK_HANDLE pc = l.desc.handle))

/-- The DATAFLOW launch has met a protocol fault: it is latched, the launch is to end FAULTED, and its context is (R137, R158). -/
def ProtocolFaulted (d d' : Dev) (pc : Nat) (l : Launch) (kind : Nat) : Prop :=
  (∃ r, (d'.arr pc).run = some r ∧ r.desc = l.desc ∧ r.ending = some 5 ∧ r.drain = some .fault) ∧ LaunchFaulted d d' pc l.desc ∧
  d'.bit F.CELL_ARR_FAULT_VALID pc = true ∧ (d.bit F.CELL_ARR_FAULT_VALID pc = false → d'.get F.CELL_ARR_FAULT_KIND pc = kind)

/-- R125, R131, R133 to R138, R158: a lane with all operands of one tag fires, takes one word of each input and sends its result with that tag, and different tags are a fault of kind 4; a steering unit takes words up to its depth, sends by PASS or by its token, and drops for route 15; a launch that stands still faults with kind 6. Where the spec leaves it open this rests on the model's log entry 46. -/
def Obligations.DataflowWordsMoveUnderTheirTags : Prop :=
  ∀ (pc : Slot) (d : Dev) (l : Launch) (img : List Byte), d.dataflowRun pc = some (l, img) →
    (∀ (s k : Fin 33) (n : Nat) (ops : List (Option AWord)),
      let i := 33 * s.val + k.val
      let r := laneRec img i
      let x := l.lane i
      let ws := ops.filterMap id
      let tag := (ws.headD ⟨false, 0, 0⟩).tag
      x.out = [] → laneOperands r x = some ops → r.op ≠ 0 → (ops.take r.needs).any Option.isNone = false →
      ((∀ w ∈ ws, w.tag = tag) → Does (.laneFire pc s k n) d (fun d' =>
        let f := laneResult img r (LaneState.consume r x) ops
        let l2 := flushLane img i r 4 ({ l with ovf := l.ovf || (!f.2.1.isEmpty && bitOf f.2.2 1), under := l.under || (!f.2.1.isEmpty && bitOf f.2.2 0) }.setLane i { f.1 with out := f.2.1 })
        (d'.arr pc).run = some (if l2.complete img then l2.finish else l2) ∧ d'.mem = d.mem ∧ CellsStand d d' pc ∧
        (n = 1 → Counted d d' F.CELL_ARR_LINK_CORRECTED pc))) ∧
      (ws.any (fun w => w.tag ≠ tag) = true → tag < 2 ^ 8 → (∀ w ∈ ws, w.tag < 2 ^ 8) → Does (.laneFire pc s k n) d (fun d' => ProtocolFaulted d d' pc l 4))) ∧
    (∀ (u : Fin 66),
      let r := steerRec img u
      let x := l.unit u
      (∀ (src : SteerSrc) (w : AWord) (l' : Launch), r.mode = 1 → steerSrc u r.dataSrc = some src → d.takeSource pc l false src = some (w, l') →
        (x.data.length < r.dataDepth → w.token = false → Does (.steerInputArrival pc u false) d (fun d' =>
          ∃ l2, (d'.arr pc).run = some l2 ∧ (l2.unit u).data = x.data ++ [w] ∧ l2.edges = l'.edges ∧ l2.portPos = l'.portPos ∧
            d'.mem = d.mem ∧ CellsStand d d' pc)) ∧
        (r.dataDepth ≤ x.data.length → Does (.steerInputArrival pc u false) d (fun d' => d' = d))) ∧
      (∀ w ws, x.data = w :: ws → r.mode = 1 → r.routes.getD 0 0 % 4 = 2 →
        let p := bitsOf (r.routes.getD 0 0) 6 4
        (l.moved p < (l.desc.port p).words → Does (.steerFire pc u) d (fun d' =>
          Memory.read d'.mem (l.portAddr pc p (l.moved p)) 8 = leBytes 8 w.data.toNat ∧ BytesStand d d' (l.portAddr pc p (l.moved p)) 8 ∧
          ∃ l2, (d'.arr pc).run = some l2 ∧ (l2.unit u).data = ws ∧ l2.moved p = l.moved p + 1)) ∧
        ((l.desc.port p).words ≤ l.moved p → w.tag < 2 ^ 8 → Does (.steerFire pc u) d (fun d' => ProtocolFaulted d d' pc l 5))) ∧
      (∀ w ws t ts, x.data = w :: ws → x.tokens = t :: ts → r.mode = 2 →
        (t.any = false → t.tag ≠ w.tag → t.tag < 2 ^ 8 → w.tag < 2 ^ 8 → Does (.steerFire pc u) d (fun d' => ProtocolFaulted d d' pc l 1)) ∧
        ((t.any = true ∨ t.tag = w.tag) → t.tokenOk r = true → t.route = 15 → ({ x with data := ws, tokens := ts } : UnitState).clash = none →
          Does (.steerFire pc u) d (fun d' =>
            (∃ l2, (d'.arr pc).run = some l2 ∧ (l2.unit u).data = ws ∧ (l2.unit u).tokens = ts) ∧ d'.mem = d.mem ∧ CellsStand d d' pc)))) ∧
    (l.drain = none → d.isFrozen pc = false → Does (.dataflowDeadlock pc) d (fun d' => ProtocolFaulted d d' pc l 6))

/-! ## The slice and the windows -/

/-- R165, R166, R168, R170: the scrubber reads line after line; a word with one flipped bit is counted, latched and waits for its write-back, with no byte changed; three flipped bits are an uncorrectable error; a promotion counts 64 cycles. Where the spec leaves it open this rests on the model's log entries 12 and 83. -/
def Obligations.ScrubbersCorrectAndReport : Prop :=
  ∀ (pc : Slot) (d : Dev), d.domOn pc = true →
    let k := (d.slotInfo pc).scrub
    Does (.spadScrubRead pc []) d (fun d' => (d'.slotInfo pc).scrub = (k + 1) % 196608 ∧ d'.mem = d.mem ∧ d'.cells = d.cells ∧
      (k + 1 = 196608 → Counted d d' F.SPAD_SCRUB_PASSES pc)) ∧
    (∀ (i : Fin 8) (e : BitVec 80), k < 196608 → (d.hosted pc).isSome = true →
      (flips e = 1 → Does (.spadScrubRead pc [(i.val, e)]) d (fun d' =>
        Counted d d' F.SPAD_CORRECTED pc ∧ d'.bit F.SPAD_ECC_LAST_VALID pc = true ∧ d'.bit F.SPAD_ECC_LAST_DOUBLE pc = false ∧
        d'.get F.SPAD_ECC_LAST_OFFSET pc = 64 * k + 8 * i.val ∧ (d'.slotInfo pc).ecc = (d.slotInfo pc).ecc ++ [64 * k + 8 * i.val] ∧
        d'.mem = d.mem ∧ d'.cells = d.cells)) ∧
      (flips e = 3 → Does (.spadScrubRead pc [(i.val, e)]) d (fun d' =>
        ∃ d1 : Dev, d1.mem = d.mem ∧ d1.cells = d.cells ∧
          d' = d1.uncorrectable 2 pc (if 64 * k + 8 * i.val < 0xB00000 then 0 else 1) (64 * k + 8 * i.val) pc))) ∧
    Does (.eccWriteback pc) d (fun d' => (d'.slotInfo pc).ecc = (d.slotInfo pc).ecc.drop 1 ∧ d'.mem = d.mem ∧ d'.cells = d.cells ∧ d'.regs = d.regs) ∧
    (∀ w : Bool, Does (.narrowPromote pc w) d (fun d' => Counted d d' F.SPAD_NARROW_PROMOTED pc ∧ d'.mem = d.mem ∧ d'.cells = d.cells ∧
      d'.reg F.SPAD_NARROW_WAIT.base pc = countUp (d.reg F.SPAD_NARROW_WAIT.base pc) 64 % 2 ^ 64))

/-- The near-memory command of a slot can act: its cell has power and is not frozen, and it is as given. -/
def NmHas (d : Dev) (pc : Nat) (c : NmCommand) : Prop :=
  d.domOn pc = true ∧ d.isFrozen pc = false ∧ (d.cell pc).nm = some c ∧ c.bytes.length = 64

/-- A passed command that has not acted, with its addresses in order. -/
def NmReady (d : Dev) (pc : Nat) (c : NmCommand) (op : Nat) : Prop :=
  NmHas d pc c ∧ c.result = 0 ∧ c.performed = false ∧ nmOp c.bytes = op ∧ nmFieldsOk c.bytes = true ∧ nmRangeOk c.bytes = true ∧
  nmOverlap c.bytes = false

/-- R173, R175 to R177, R179: the unit takes the head of its channel and checks it; FILL, COPY, STRIDED and TRANSPOSE write each byte of their destination and no other; the end writes TAG and the result at STATUS_OFF and posts DONE_CTR, or neither. -/
def NearMemoryCommands : Prop :=
  ∀ (pc : Slot) (d : Dev),
    (d.domOn pc = true → d.isFrozen pc = false → d.bit F.SPAD_NM_CTL_EN pc = true → (d.cell pc).nm = none → d.bit F.SPAD_OPSET_SWITCHING pc = false →
      let k := d.get F.SPAD_NM_CTL_CHAN pc
      d.hasHead (.cell pc) k = true → Does (.nmCommandStart pc) d (fun d' =>
        d'.bit F.SPAD_NM_STATUS_BUSY pc = true ∧ ∃ c, (d'.cell pc).nm = some c ∧ c.performed = false ∧
          c.bytes = d.load (d.ringBase (.cell pc) k + d.chanRd (.cell pc) k + 16) 64 ∧
          c.result = nmResult (d.headLen (.cell pc) k) (d.bit F.SPAD_OPSET_CUR pc) c.bytes)) ∧
    (∀ c : NmCommand,
      let b := c.bytes
      let dst := sliceBase pc + nmF b 4 4
      let src := sliceBase pc + nmF b 8 4
      let e := nmE b
      let Acted := fun (d' : Dev) => (d'.cell pc).nm = some { c with performed := true } ∧ CellsStand d d' pc ∧ d'.regs = d.regs
      (NmReady d pc c 0x01 → Does (.nmFill pc) d (fun d' => Acted d' ∧ BytesStand d d' dst (nmF b 0x0C 4) ∧
        ∀ i < nmF b 0x0C 4, Memory.byte d'.mem (dst + i) = b.getD (0x10 + i % 8) 0)) ∧
      (NmReady d pc c 0x02 → Does (.nmCopy pc) d (fun d' => Acted d' ∧ BytesStand d d' dst (nmF b 0x0C 4) ∧
        ∀ i < nmF b 0x0C 4, Memory.byte d'.mem (dst + i) = Memory.byte d.mem (src + i))) ∧
      (NmReady d pc c 0x11 → Does (.nmStrided pc) d (fun d' => Acted d' ∧ BytesStand d d' dst (nmF b 0x18 4 * e) ∧
        ∀ n < nmF b 0x18 4, ∀ i < e, Memory.byte d'.mem (dst + n * e + i) = Memory.byte d.mem (src + n * nmF b 0x1C 4 + i))) ∧
      (NmReady d pc c 0x12 → Does (.nmTranspose pc) d (fun d' => Acted d' ∧
        (∀ r < nmF b 0x18 4, ∀ k < nmF b 0x20 4, ∀ i < e,
          Memory.byte d'.mem (dst + k * nmF b 0x24 4 + r * e + i) = Memory.byte d.mem (src + r * nmF b 0x1C 4 + k * e + i)) ∧
        ∀ x, (∀ k < nmF b 0x20 4, x < dst + k * nmF b 0x24 4 ∨ dst + k * nmF b 0x24 4 + nmF b 0x18 4 * e ≤ x) →
          Memory.byte d'.mem x = Memory.byte d.mem x)) ∧
      (NmHas d pc c → (c.result ≠ 0 ∨ c.performed = true) → c.result ≤ 4 → Does (.nmCommandEnd pc) d (fun d' =>
        (d'.cell pc).nm = none ∧ d'.bit F.SPAD_NM_STATUS_BUSY pc = false ∧ d'.get F.SPAD_NM_STATUS_LAST_RESULT pc = c.result ∧
        Counted d d' F.SPAD_NM_CMDS pc ∧ (c.result ≠ 0 → Counted d d' F.SPAD_NM_REFUSED pc) ∧
        (nmStatusOk b = true → Memory.read d'.mem (sliceBase pc + nmF b 0x28 4) 16 = (b.drop 0x30).take 8 ++ leBytes 8 c.result ∧
          BytesStand d d' (sliceBase pc + nmF b 0x28 4) 16) ∧ (nmStatusOk b = false → d'.mem = d.mem) ∧
        ∀ n, d'.counter pc n = if nmStatusOk b = true ∧ nmF b 2 1 ≤ 191 ∧ n = nmF b 2 1 then min (d.counter pc n + 1) (2 ^ 64 - 1)
          else d.counter pc n)))

/-- R174, R179: CHAN changes only while EN reads 0; a request for the other operation set starts a switch between commands, whose end changes CUR and starts a further one if REQ differs. -/
def NearMemorySwitches : Prop :=
  ∀ (m : Master) (pc : Slot) (v : Word) (d : Dev), d.domOn pc = true →
    (d.bit F.SPAD_NM_CTL_EN pc = false ∨ bitsOf v.toNat 5 0 = d.get F.SPAD_NM_CTL_CHAN pc → Does (.spadNmCtlWrite m pc v) d (fun d' =>
      d'.bit F.SPAD_NM_CTL_EN pc = v.getLsbD 63 ∧ d'.get F.SPAD_NM_CTL_CHAN pc = bitsOf v.toNat 5 0 ∧ d'.mem = d.mem ∧ d'.cells = d.cells ∧
      RegsStand d d' [regKey F.SPAD_NM_CTL.base pc 0])) ∧
    (d.bit F.SPAD_NM_CTL_EN pc = true → bitsOf v.toNat 5 0 ≠ d.get F.SPAD_NM_CTL_CHAN pc → Does (.spadNmCtlWrite m pc v) d (fun d' => d' = d)) ∧
    Does (.opsetSwitch m pc v) d (fun d' => d'.get F.SPAD_OPSET_REQ pc = v.toNat % 2 ∧ d'.get F.SPAD_OPSET_CUR pc = d.get F.SPAD_OPSET_CUR pc ∧
      (d'.bit F.SPAD_OPSET_SWITCHING pc = true ↔ d.bit F.SPAD_OPSET_SWITCHING pc = true ∨
        ((d.cell pc).nm = none ∧ v.toNat % 2 ≠ d.get F.SPAD_OPSET_CUR pc)) ∧ d'.mem = d.mem ∧ d'.cells = d.cells ∧
      RegsStand d d' [regKey F.SPAD_OPSET.base pc 0]) ∧
    (d.bit F.SPAD_OPSET_SWITCHING pc = true → Does (.opsetSwitchEnd pc) d (fun d' =>
      d'.get F.SPAD_OPSET_CUR pc = 1 - d.get F.SPAD_OPSET_CUR pc ∧ d'.get F.SPAD_OPSET_REQ pc = d.get F.SPAD_OPSET_REQ pc ∧
      (d'.bit F.SPAD_OPSET_SWITCHING pc = true ↔ (d.cell pc).nm = none ∧ d.get F.SPAD_OPSET_REQ pc = d.get F.SPAD_OPSET_CUR pc) ∧
      d'.mem = d.mem ∧ d'.cells = d.cells ∧ RegsStand d d' [regKey F.SPAD_OPSET.base pc 0]))

/-- R173 to R179: the near-memory unit's commands, its enable and its operation sets. Where the spec leaves it open this rests on the model's log entry 47. -/
def Obligations.NearMemoryUnitsActAndSwitch : Prop := NearMemoryCommands ∧ NearMemorySwitches

/-- R182 to R184: a staged entry that passes its checks opens with GEN one more, and one that fails them, or names an open window, changes no window; a window that closes refuses every packet from then on, and closed it has GEN one more and KEY zero; READ loads D0 to D2 and never KEY. Where the spec leaves it open this rests on the model's log entry 48. -/
def Obligations.WindowsOpenCloseAndRead : Prop :=
  ∀ (m : Master) (w : Fin 1024) (d : Dev), d.power.mainUp = true →
    let i := masterItem m
    let x := d.win w
    let y : Window := { x with d0 := d.reg F.DEV_WIN_D0.base 0 i, d1 := d.reg F.DEV_WIN_D1.base 0 i, d2 := d.reg F.DEV_WIN_D2.base 0 i, key := d.reg F.DEV_WIN_D3.base 0 i }
    let Answers := fun (d' : Dev) (cmd result : Nat) => d'.get F.DEV_WIN_STATUS_CMD 0 i = cmd ∧ d'.get F.DEV_WIN_STATUS_WIN 0 i = w.val ∧
      d'.get F.DEV_WIN_STATUS_RESULT 0 i = result ∧ d'.mem = d.mem ∧ d'.cells = d.cells ∧ ∀ k, k ≠ w.val → d'.win k = d.win k
    let Alone := fun (d' : Dev) => RegsStand d d' [regKey F.DEV_WIN_STATUS.base 0 i]
    (d.bit F.DEV_WIN_STATUS_BUSY 0 i = false →
      (x.isOpen = false → d.winDescOk y = true → Does (.winOpen m w) d (fun d' =>
        Answers d' 1 0 ∧ Alone d' ∧ d'.win w = { y with gen := (x.gen + 1) % 2 ^ 32, isOpen := true, closing := false } ∧
        d'.get F.DEV_WIN_STATUS_GEN 0 i = (x.gen + 1) % 2 ^ 32 ∧ d'.bit F.DEV_WIN_STATUS_BUSY 0 i = false)) ∧
      (x.isOpen = false → d.winDescOk y = false → Does (.winOpen m w) d (fun d' => Answers d' 1 1 ∧ Alone d' ∧ d'.win w = x)) ∧
      (x.isOpen = true → Does (.winOpen m w) d (fun d' => Answers d' 1 2 ∧ Alone d' ∧ d'.win w = x)) ∧
      (x.isOpen = true → x.closing = false → Does (.winClose m w) d (fun d' =>
        Answers d' 2 0 ∧ Alone d' ∧ d'.bit F.DEV_WIN_STATUS_BUSY 0 i = true ∧ d'.win w = { x with closing := true } ∧
        ∀ gen src key wr off len, d'.winCheck w gen src key wr off len = 1)) ∧
      (x.isOpen = false → Does (.winClose m w) d (fun d' => Answers d' 2 3 ∧ Alone d' ∧ d'.win w = x)) ∧
      Does (.winRead m w) d (fun d' => Answers d' 3 0 ∧ d'.win w = x ∧ d'.reg F.DEV_WIN_D0.base 0 i = x.d0 % 2 ^ 64 ∧
        d'.reg F.DEV_WIN_D1.base 0 i = x.d1 % 2 ^ 64 ∧ d'.reg F.DEV_WIN_D2.base 0 i = x.d2 % 2 ^ 64 ∧
        d'.reg F.DEV_WIN_D3.base 0 i = d.reg F.DEV_WIN_D3.base 0 i)) ∧
    (d.bit F.DEV_WIN_STATUS_BUSY 0 i = true → d.get F.DEV_WIN_STATUS_WIN 0 i = w.val → x.closing = true → Does (.winCloseDone m w) d (fun d' =>
      Answers d' 2 0 ∧ Alone d' ∧ d'.bit F.DEV_WIN_STATUS_BUSY 0 i = false ∧ (d'.win w).gen = (x.gen + 1) % 2 ^ 32 ∧ (d'.win w).key = 0 ∧
      (d'.win w).isOpen = false))

/-! ## Far memory -/

/-- R272, R274, R278: the address of a channel's granule lies in that channel, whichever granule it is; and no two channels' or granules' addresses are the same. -/
def Obligations.FarGranulesInterleaveOverTheirChannels : Prop :=
  ∀ (c c' : Fin 32) (g g' : Nat), farChannel (farAddress c.val g) = c.val ∧ (farAddress c.val g = farAddress c'.val g' → c = c' ∧ g = g')

/-- R274, R277 to R279, R441: the scrubbers of far memory and commons read line after line and count passes and corrections; a marked row is repaired within the window, or recorded without resources; a channel that leaves READY starts its partition's reset; shares that exceed 100 set ERR and change nothing. Where the spec leaves it open this rests on the model's log entries 12, 49 and 51. -/
def Obligations.FarMemoryIsScrubbedRepairedAndShared : Prop :=
  ∀ (d : Dev),
    (∀ ch : Fin 32,
      let n := 64 * d.get F.FAR_INFO_GRANULES ch
      let l := SMap.read 0 d.scrubAt ch.val % n
      d.get F.DEV_FAR_SCRUB_HOURS ≠ 0 → d.get F.FAR_STATUS_STATE ch = 2 → n ≠ 0 →
      Does (.farScrubRead ch []) d (fun d' => SMap.read 0 d'.scrubAt ch.val = (l + 1) % n ∧ d'.mem = d.mem ∧ d'.cells = d.cells ∧
        (l + 1 = n → Counted d d' F.FAR_SCRUB_PASSES ch)) ∧
      (∀ (i : Fin 8) (e : BitVec 80), flips e = 1 → d.get F.FAR_INFO_GRANULES ch ≤ 2 ^ 25 → Does (.farScrubRead ch [(i.val, e)]) d (fun d' =>
        Counted d d' F.FAR_CORRECTED ch ∧ d'.bit F.FAR_ECC_LAST_VALID ch = true ∧ d'.bit F.FAR_ECC_LAST_DOUBLE ch = false ∧
        d'.get F.FAR_ECC_LAST_WORD ch = l % 64 * 8 + i.val ∧ d'.mem = d.mem ∧ d'.cells = d.cells))) ∧
    (∀ h : HubId, d.domOn (544 + h) = true →
      let l := SMap.read 0 d.scrubAt (32 + h) % 2 ^ 19
      Does (.commonsScrub h []) d (fun d' => SMap.read 0 d'.scrubAt (32 + h) = (l + 1) % 2 ^ 19 ∧ d'.mem = d.mem ∧ d'.cells = d.cells ∧
        (l + 1 = 2 ^ 19 → Counted d d' F.HUB_SCRUB_PASSES h)) ∧
      (∀ (i : Fin 8) (e : BitVec 80), flips e = 1 → Does (.commonsScrub h [(i.val, e)]) d (fun d' =>
        Counted d d' F.HUB_COMMONS_CORRECTED h ∧ d'.get F.HUB_COMMONS_ECC_LAST_OFFSET h = l * 64 + 8 * i.val ∧ d'.mem = d.mem ∧ d'.cells = d.cells))) ∧
    (∀ (ch : Fin 32) (row bank : Nat), d.inWindow = true → d.get F.FAR_STATUS_STATE ch = 2 → (ch.val, bank, row) ∈ d.spprMarks →
      (d.bit F.FAR_INFO_SPPR_CAP ch = true → d.get F.FAR_SPPR_LEFT ch ≠ 0 → d.defects.length < 32764 → Does (.farSpprRepair ch row bank) d (fun d' =>
        d'.get F.FAR_SPPR_LEFT ch = (if d.get F.FAR_SPPR_LEFT ch = 0xFFFF then 0xFFFF else d.get F.FAR_SPPR_LEFT ch - 1) ∧
        d'.get F.FAR_SPPR_DONE ch = (d.get F.FAR_SPPR_DONE ch + 1) % 2 ^ 16 ∧ (ch.val, bank, row) ∉ d'.spprMarks ∧
        d'.defects = d.defects ++ [⟨6, BitVec.ofNat 16 ch, BitVec.ofNat 32 row, BitVec.ofNat 64 bank⟩] ∧ d'.mem = d.mem)) ∧
      (d.bit F.FAR_INFO_SPPR_CAP ch = false ∨ d.get F.FAR_SPPR_LEFT ch = 0 → Does (.farSpprRepair ch row bank) d (fun d' =>
        d'.defects = d.defects ∧ (ch.val, bank, row) ∉ d'.spprMarks ∧ d'.mem = d.mem ∧
        (d.buffered 5 ch < 4 → ∃ r, d'.reports = d.reports ++ [r] ∧ r.event = 0x0193 ∧ r.inst = ch.val)))) ∧
    (∀ ch : Fin 32, d.get F.FAR_STATUS_STATE ch = 2 →
      (d.deviceResetting = false → d.partResetting (ch / 4) = false → Does (.farChannelFail ch) d (fun d' =>
        d'.partResetting (ch / 4) = true ∧ ∀ c < 4, d'.get F.FAR_STATUS_STATE (4 * (ch.val / 4) + c) = 1)) ∧
      (d.deviceResetting = true → Does (.farChannelFail ch) d (fun d' => Counted d d' F.WDOG_RST_ABSORBED ∧ d'.mem = d.mem ∧ d'.cells = d.cells))) ∧
    (∀ (m : Master) (v : Word), d.power.mainUp = true →
      let s := bitsOf v.toNat 7 0
      let u := bitsOf v.toNat 15 8
      let o := bitsOf v.toNat 23 16
      (s + u + o ≤ 100 → Does (.farShareWrite m v) d (fun d' => d'.get F.DEV_FAR_SHARE_S_PCT = s ∧ d'.get F.DEV_FAR_SHARE_U_PCT = u ∧
        d'.get F.DEV_FAR_SHARE_OS_PCT = o ∧ RegsStand d d' [regKey F.DEV_FAR_SHARE.base 0 0] ∧ d'.mem = d.mem ∧ d'.cells = d.cells)) ∧
      (100 < s + u + o → Does (.farShareWrite m v) d (fun d' => d'.bit F.DEV_FAR_SHARE_ERR = true ∧
        d'.get F.DEV_FAR_SHARE_S_PCT = d.get F.DEV_FAR_SHARE_S_PCT ∧ d'.get F.DEV_FAR_SHARE_U_PCT = d.get F.DEV_FAR_SHARE_U_PCT ∧
        d'.get F.DEV_FAR_SHARE_OS_PCT = d.get F.DEV_FAR_SHARE_OS_PCT ∧ d'.mem = d.mem ∧ d'.cells = d.cells)))

/-- R272, R279, R353, R445, R460: a trained channel is READY with its density and repair resources, and a third failed attempt leaves it FAILED, before the boot goes on; first light of the last partition makes every PART_MAP_GEN 2. Where the spec leaves it open this rests on the model's log entry 74. -/
def Obligations.TrainingAndFirstLightReadyTheMemory : Prop :=
  ∀ (d : Dev),
    (∀ (ch : Fin 32) (gib : Nat) (sppr : Option Nat), d.get F.FAR_STATUS_STATE ch = 1 →
      (gib < 256 → sppr.getD 0 < 2 ^ 16 → Does (.farTrainingDone ch true gib sppr) d (fun d' => ∃ d1 : Dev, d' = d1.bootMemory ∧
        d1.get F.FAR_STATUS_STATE ch = 2 ∧ d1.get F.FAR_INFO_DENSITY ch = gib ∧ d1.get F.FAR_INFO_GRANULES ch = granules gib % 2 ^ 32 ∧
        (d1.bit F.FAR_INFO_SPPR_CAP ch ↔ sppr.isSome) ∧ d1.mem = d.mem ∧ d1.cells = d.cells ∧
        (d.get F.DEV_FAR_SIZE_SIZE ≠ 0 → d1.get F.DEV_FAR_SIZE_SIZE = d.get F.DEV_FAR_SIZE_SIZE) ∧
        (d1.allReady = false → d1.get F.DEV_FAR_SIZE_SIZE = d.get F.DEV_FAR_SIZE_SIZE))) ∧
      (SMap.read 0 d.farTries ch.val < 2 → Does (.farTrainingDone ch false gib sppr) d (fun d' =>
        d'.get F.FAR_STATUS_STATE ch = 1 ∧ SMap.read 0 d'.farTries ch.val = SMap.read 0 d.farTries ch.val + 1 ∧ d'.regs = d.regs ∧ d'.mem = d.mem)) ∧
      (2 ≤ SMap.read 0 d.farTries ch.val → Does (.farTrainingDone ch false gib sppr) d (fun d' => ∃ d1 : Dev, d' = d1.bootMemory ∧
        d1.get F.FAR_STATUS_STATE ch = 3 ∧ d1.mem = d.mem ∧ d1.cells = d.cells))) ∧
    (∀ (p : Part) (failed : List (Nat × Nat)), d.power.mainUp = true → (∃ pc ∈ partSlots p, d.slotState pc = 3) →
      d.bit F.BADGER_STATUS_FIRST_LIGHT = false → (∀ pc < 544, pc ∉ partSlots p → d.slotState pc ≠ 3) → (∀ pc ∈ partSlots p, d.slotState pc = 3) →
      Does (.firstLightDone p failed) d (fun d' => ∃ d1 : Dev, d' = d1.bootMemory ∧ d1.bit F.BADGER_STATUS_FIRST_LIGHT = true ∧
        (∀ q : Part, d1.get F.PART_MAP_GEN_GEN q = 2) ∧ (∀ pc < 544, d1.slotState pc ≠ 3)))

/-! ## The mesh and deliveries -/

/-- R283, R290 to R292: a packet that is not at its unit's router takes a link of a row or column toward it, one hop nearer, as the latest to arrive there, with nothing of it changed but its LOCAL bytes, and its flits are counted; one that must wait changes nothing. -/
def PacketsHop : Prop :=
  ∀ (i : Nat) (rivals : List Nat) (f : Flight) (d : Dev), d.net[i]? = some f → d.realRivals i rivals = [] → d.flightOut f = false → f.node < 544 →
    pktMcast f.pkt = false → f.pkt.dstDev.toNat % 1024 = d.deviceId →
    let dst := dpcRouter f.node (pktDpc f.pkt)
    f.node ≠ dst →
    (∀ o vc, d.route f.node f.pkt = some (o, vc) → d.islandOut (.router (Fin.ofNat 544 (stepTo f.node o))) = false →
      slotHops (stepTo f.node o) dst + 1 = slotHops f.node dst ∧
      Does (.packetHop i rivals []) d (fun d' => (∃ g, d'.net = d.net.eraseIdx i ++ [g] ∧ pktBytes g.pkt = pktBytes f.pkt ∧
          g.pkt.crc = f.pkt.crc ∧ pktDpc g.pkt = pktDpc f.pkt ∧ g.node = stepTo f.node o ∧ g.dir = inputOf o) ∧
        d'.reg F.CELL_RTR_FLITS.base f.node = countUp (d.reg F.CELL_RTR_FLITS.base f.node) (pktFlits f.pkt) % 2 ^ 64 ∧
        d'.mem = d.mem ∧ d'.cells = d.cells)) ∧
    (d.route f.node f.pkt = none → Does (.packetHop i rivals []) d (fun d' => d' = d))

/-- A packet of a type that reaches its unit on this device: its trailer is right, and the unit's island is locked. -/
def Arrives (d : Dev) (p : Packet) (typ : Nat) : Prop :=
  p.typ.toNat = typ ∧ d.unitOut p.dstUnit.toNat = false ∧ pktCrcOk p = true ∧ pktMcast p = false ∧ p.dstDev.toNat % 1024 = d.deviceId

/-- A packet that reaches the cell in a slot. -/
def ArrivesAtCell (d : Dev) (p : Packet) (typ pc : Nat) : Prop :=
  Arrives d p typ ∧ pktKind p = 0 ∧ d.partResetting (p.dstUnit.toNat % 512 / 64) = false ∧ d.hostOf (p.dstUnit.toNat % 512) = some pc

/-- The packet has landed, and exactly one packet has been sent, of a type, to a unit of a device, with a payload. -/
def Answered (d d' : Dev) (p : Packet) (typ dev unit : Nat) (payload : List Byte) : Prop :=
  ∃ fl, d'.net = (d.landed p).net ++ [fl] ∧ fl.pkt.typ.toNat = typ ∧ fl.pkt.dstDev.toNat = dev % 2 ^ 16 ∧ fl.pkt.dstUnit.toNat = unit % 2 ^ 16 ∧
    fl.pkt.payload = payload

/-- The deliveries by their packet's TYPE (R284). -/
def deliveries (p : Packet) (n : Option Port) : List (Nat × Instr) :=
  [(0x01, .writePkt p n), (0x02, .readReqPkt p n), (0x03, .readRespPkt p n), (0x04, .writeAckPkt p n), (0x05, .refusePkt p n), (0x06, .recordPkt p n),
   (0x07, .creditPkt p n), (0x08, .joinPkt p n), (0x09, .joinReplyPkt p n), (0x0A, .closeNoticePkt p n), (0x0B, .contribPkt p n false), (0x0C, .saddPacket p n)]

/-- R286, R292, R392: a packet of any type whose trailer check fails is discarded and counted where it entered the device; a record, credit, join, reply or notice for an UNHOSTED cell is answered with REFUSE and reason 7; neither changes storage or a cell. -/
def PacketsTurnedAway : Prop :=
  ∀ (p : Packet) (n : Option Port) (d : Dev), ∀ x ∈ deliveries p n, p.typ.toNat = x.1 → d.unitOut p.dstUnit.toNat = false →
    (pktCrcOk p = false → Does x.2 d (fun d' => d'.net = (d.landed p).net ∧ d'.mem = d.mem ∧ d'.cells = d.cells ∧
      (∀ k, n = some k → Counted d d' F.TL_E2E_CRC k))) ∧
    (x.1 = 0x06 ∨ x.1 = 0x07 ∨ x.1 = 0x08 ∨ x.1 = 0x09 ∨ x.1 = 0x0A → Arrives d p x.1 → pktKind p = 0 →
      d.partResetting (p.dstUnit.toNat % 512 / 64) = false → d.hostOf (p.dstUnit.toNat % 512) = none →
      Does x.2 d (fun d' => Answered d d' p 0x05 (pktSrc p) p.srcUnit.toNat [7] ∧ d'.mem = d.mem ∧ d'.cells = d.cells))

/-- R283, R286, R290 to R292, R392: packets hop toward their units, and bad or homeless ones are discarded or refused there. Where the spec leaves it open this rests on the model's log entries 40, 41 and 44. -/
def Obligations.PacketsHopAndAreTurnedAway : Prop := PacketsHop ∧ PacketsTurnedAway

/-- R185, R257, R258, R284: a WRITE that passes its checks stores its payload and no other byte and is acknowledged; a READ_REQ that does is answered with the bytes; a window's refusal is counted, names its reason and stores nothing; a READ_RESP, WRITE_ACK or REFUSE reaches the item that asked, which ends when nothing of it is outstanding. Where the spec leaves it open this rests on the model's log entries 39, 40 and 42. -/
def Obligations.RemoteAccessesAreServedRefusedAndAnswered : Prop :=
  ∀ (p : Packet) (n : Option Port) (d : Dev),
    let src := pktSrc p
    let w := extAt p 8 2 % 1024
    (∀ a who, Arrives d p 0x01 → ((d.landed p).landing p true p.payload.length).2 = some (a, who) → d.ringAt a p.payload.length = none →
      Does (.writePkt p n) d (fun d' => Memory.read d'.mem a p.payload.length = p.payload ∧ BytesStand d d' a p.payload.length ∧
        Answered d d' p 0x04 src p.srcUnit.toNat [] ∧ d'.cells = d.cells)) ∧
    (∀ a who, Arrives d p 0x02 → ((d.landed p).landing p false p.len.toNat).2 = some (a, who) → Does (.readReqPkt p n) d (fun d' =>
      Answered d d' p 0x03 src p.srcUnit.toNat (d.load a p.len.toNat) ∧ d'.mem = d.mem ∧ d'.cells = d.cells)) ∧
    (∀ r, r ≠ 0 → p.ext.length = 24 →
      (Arrives d p 0x01 → d.winCheck w (extAt p 12 4) src (extAt p 16 8) true (extAt p 0 8 % 2 ^ 34) p.payload.length = r → Does (.writePkt p n) d (fun d' =>
        Answered d d' p 0x05 src p.srcUnit.toNat (leBytes 1 r) ∧ Counted d d' F.DEV_WIN_DENIED ∧ d'.mem = d.mem ∧ d'.cells = d.cells)) ∧
      (Arrives d p 0x02 → d.winCheck w (extAt p 12 4) src (extAt p 16 8) false (extAt p 0 8 % 2 ^ 34) p.len.toNat = r → Does (.readReqPkt p n) d (fun d' =>
        Answered d d' p 0x05 src p.srcUnit.toNat (leBytes 1 r) ∧ Counted d d' F.DEV_WIN_DENIED ∧ d'.mem = d.mem ∧ d'.cells = d.cells))) ∧
    (∀ (r : RemoteReq) (d1 : Dev) (e : Nat) (i : EngItem), d1.reqItem r = some (e, i) →
      let dst := itF i.desc 0x18 8 + r.off
      let bs := p.payload.take r.len
      let Ends := fun (d' : Dev) (x : ItemEnd) => ∃ i', d'.item r.item = some (e, i') ∧ i'.ending = some x
      (Arrives d p 0x03 → (d.landed p).takeReq p (fun r => !r.write) = some (r, d1) → Does (.readRespPkt p n) d (fun d' =>
        Deposited d d' dst bs ∧ OnlyDeposited d d' dst bs.length 0 0 ∧ d'.cells = d.cells ∧
        (d1.itemReqs i = [] → i.refused = none → Ends d' (doneEnd (itF i.desc 0x0C 4))))) ∧
      (Arrives d p 0x04 → (d.landed p).takeReq p (fun r => r.write) = some (r, d1) → Does (.writeAckPkt p n) d (fun d' =>
        d'.mem = d.mem ∧ d'.cells = d.cells ∧ (d1.itemReqs i = [] → i.refused = none → Ends d' (doneEnd (itF i.desc 0x0C 4))) ∧
        (∀ reason, d1.itemReqs i = [] → i.refused = some reason → Ends d' (failEnd 5 reason)))) ∧
      (Arrives d p 0x05 → (d.landed p).takeReq p (fun _ => true) = some (r, d1) → d1.itemReqs i = [] → i.refused = none →
        Does (.refusePkt p n) d (fun d' => d'.mem = d.mem ∧ d'.cells = d.cells ∧ Ends d' (failEnd 5 (payAt p 0 1)))))

/-- R191, R211, R217, R218, R220, R221, R227 to R229: a whole record of the recorded source that is next in order stands in the ring, moves ARRIVED, is counted and posted, and an orphan is counted and answered with a notice; a credit return moves FREED; a JOIN is accepted by an open channel without a source and answered; a reply binds its endpoint and a notice closes it; a counter addition is applied once. Where the spec leaves it open this rests on the model's log entries 35 and 40. -/
def Obligations.RecordsCreditsJoinsAndNoticesTakeEffect : Prop :=
  ∀ (p : Packet) (n : Option Port) (pc : Slot) (d : Dev),
    let o := Owner.cell pc
    let At := fun (typ : Nat) => ArrivesAtCell d p typ pc
    (∀ k, At 0x06 → extAt p 0 4 / 2 ^ 24 = k →
      let hdr := p.payload.take 16
      let u := recUnits 0 (payAt p 8 2)
      let off := extAt p 0 4 % 2 ^ 24
      let a := d.ringBase o k + off
      (d.chanOpen o k = true → payAt p 0 4 = d.chanGen o k → d.chanSource o k = some (payAt p 12 4) → payAt p 4 4 = (d.chan o k).nextSeq →
        (d.chan o k).parts = [] → payAt p 10 1 = 0 → payAt p 16 4 = 0 → p.payload.length = 4 + 64 * u → d.get F.CELL_CHAN_RING_SIZE pc (k + 1) ≤ 8 →
        Does (.recordPkt p n) d (fun d' => Memory.read d'.mem a 16 = hdr ∧ Memory.read d'.mem (a + 16) (64 * u - 16) = p.payload.drop 20 ∧
          BytesStand d d' a (64 * u) ∧ (d'.chan o k).visible = (d.chan o k).visible + u ∧ (d'.chan o k).nextSeq = ((d.chan o k).nextSeq + 1) % 2 ^ 32 ∧
          d'.get F.CELL_CHAN_PTR_ARRIVED pc (k + 1) = (off + 64 * u) % d.chanBytes o k ∧
          d'.reg F.CELL_CHAN_MSGS_RECV.base pc (k + 1) = countUp (d.reg F.CELL_CHAN_MSGS_RECV.base pc (k + 1)) 1 % 2 ^ 64 ∧
          ∀ c, d'.counter pc c = if d.get F.CELL_CHAN_RING_POST_EN pc (k + 1) = 1 ∧ c = d.get F.CELL_CHAN_RING_POST_CTR pc (k + 1)
            then min (d.counter pc c + 1) (2 ^ 64 - 1) else d.counter pc c)) ∧
      (d.chanOpen o k = false ∨ payAt p 0 4 ≠ d.chanGen o k ∨ d.chanSource o k ≠ some (payAt p 12 4) → 16 ≤ p.payload.length →
        Does (.recordPkt p n) d (fun d' => Answered d d' p 0x0A (bitsOf (payAt p 12 4) 29 20) (sourceUnit (payAt p 12 4))
            (leBytes 2 (bitsOf (payAt p 12 4) 7 0) ++ leBytes 2 k ++ leBytes 4 (payAt p 0 4)) ∧
          d'.reg F.CELL_CHAN_ORPHANS.base pc (k + 1) = countUp (d.reg F.CELL_CHAN_ORPHANS.base pc (k + 1)) 1 % 2 ^ 64 ∧ d'.mem = d.mem ∧ d'.cells = d.cells))) ∧
    (∀ k m, At 0x07 → payAt p 0 2 = k → d.sepState o k = 2 → (d.sep o k).members = [m] → m.dev = pktSrc p → m.lc = pktSrcLc p →
      m.gen = some (payAt p 4 4) → newer32 (payAt p 8 4) m.freed = true →
      (newer32 (payAt p 8 4) (d.sent o k) = false → Does (.creditPkt p n) d (fun d' => d'.freed o k = payAt p 8 4 ∧ d'.sent o k = d.sent o k ∧
        d'.mem = d.mem ∧ CellsStand d d' pc)) ∧
      (newer32 (payAt p 8 4) (d.sent o k) = true → Does (.creditPkt p n) d (fun d' => d'.freed o k = d.freed o k ∧ d'.mem = d.mem ∧ d'.cells = d.cells ∧
        d'.reg F.CELL_SEP_CREDIT_FAULTS.base pc (k + 1) = countUp (d.reg F.CELL_SEP_CREDIT_FAULTS.base pc (k + 1)) 1 % 2 ^ 64))) ∧
    (∀ k src, At 0x08 → payAt p 0 2 % 64 = k → payAt p 4 4 = src → bitsOf src 10 8 = 0 →
      let Reply := fun (d' : Dev) (result : Nat) => Answered d d' p 0x09 (bitsOf src 29 20) (sourceUnit src)
        (leBytes 2 (bitsOf src 7 0) ++ leBytes 1 result ++ leBytes 1 (d.get F.CELL_CHAN_RING_SIZE pc (k + 1)) ++ leBytes 4 (d.chanGen o k)) ∧
        d'.mem = d.mem ∧ d'.cells = d.cells
      (d.chanOpen o k = true → d.chanSource o k = none → Does (.joinPkt p n) d (fun d' => d'.chanSource o k = some src ∧ Reply d' 0)) ∧
      (d.chanOpen o k = true → d.chanSource o k ≠ none → Does (.joinPkt p n) d (fun d' => d'.chanSource o k = d.chanSource o k ∧ Reply d' 2)) ∧
      (d.chanOpen o k = false → Does (.joinPkt p n) d (fun d' => d'.chanSource o k = d.chanSource o k ∧ Reply d' 1))) ∧
    (∀ k, At 0x09 → payAt p 0 2 = k → d.sepState o k = 1 →
      (∀ m, payAt p 2 1 = 0 → payAt p 3 1 ≤ 8 → d.sepMcast o k = false → (d.sep o k).members = [m] → m.dev = pktSrc p → m.lc = pktSrcLc p → m.gen = none →
        Does (.joinReplyPkt p n) d (fun d' => d'.sepState o k = 2 ∧ d'.avail o k = ringBytes (payAt p 3 1) / 64 ∧
          d'.get F.CELL_SEP_STATE_GEN pc (k + 1) = payAt p 4 4 ∧ d'.get F.CELL_SEP_STATE_WR pc (k + 1) = 0 ∧ d'.mem = d.mem ∧ CellsStand d d' pc)) ∧
      (1 ≤ payAt p 2 1 → payAt p 2 1 ≤ 4 → Does (.joinReplyPkt p n) d (fun d' => d'.sepState o k = 4 ∧
        d'.get F.CELL_SEP_STATE_REASON pc (k + 1) = payAt p 2 1 ∧ d'.mem = d.mem ∧ CellsStand d d' pc))) ∧
    (∀ k, At 0x0A → payAt p 0 2 = k → (d.sepState o k = 1 ∨ d.sepState o k = 2) → d.sepMcast o k = false →
      d.get F.CELL_SEP_STATE_GEN pc (k + 1) = payAt p 4 4 → Does (.closeNoticePkt p n) d (fun d' =>
        d'.sepState o k = 3 ∧ d'.mem = d.mem ∧ CellsStand d d' pc)) ∧
    (At 0x0C → pktSrc p = d.deviceId → payAt p 0 4 ≤ 191 → Does (.saddPacket p n) d (fun d' => d'.mem = d.mem ∧ CellsStand d d' pc ∧
      ∀ c, d'.counter pc c = if c = payAt p 0 4 then min (d.counter pc c + payAt p 8 8) (2 ^ 64 - 1) else d.counter pc c))

/-- R238, R239, R383: a whole contribution to an open exact queue adds its accumulators element by element and completes its rank; one to a queue that is not open is discarded and counted; a residue mismatch fails the queue and makes the cell a suspect. Where the spec leaves it open this rests on the model's log entries 36 and 40. -/
def Obligations.ContributionsAreAddedDiscardedOrFailed : Prop :=
  ∀ (p : Packet) (n : Option Port) (pc : Slot) (d : Dev), ArrivesAtCell d p 0x0B pc →
    let q := extAt p 0 4 % 8
    let c := d.cq pc q
    let rank := extAt p 4 4
    (d.cqState pc q = 1 → extAt p 8 4 = d.get F.CELL_CQ_EPOCH_EPOCH pc (q + 1) → extAt p 12 4 = d.get F.CELL_CQ_STATE_SEQ pc (q + 1) →
      bitOf (extAt p 0 4) 8 = false → d.cqRanked pc q = false → payAt p 0 4 = c.count → rank < c.ncontrib → SMap.find rank c.ranks = none →
      payAt p 4 4 = 0 → p.payload.length = 8 + 26 * c.count → c.complete.length + 1 < c.ncontrib → Does (.contribPkt p n false) d (fun d' =>
        (∀ i, SMap.read Ea.zero (d'.cq pc q).ea i = if i < c.count then
          (SMap.read Ea.zero c.ea i).addEa (Ea.ofValue (leNat ((p.payload.drop (8 + 26 * i)).take 26))) else SMap.read Ea.zero c.ea i) ∧
        (d'.cq pc q).complete = c.complete ++ [rank] ∧ d'.cqState pc q = 1 ∧ d'.mem = d.mem ∧ CellsStand d d' pc ∧
        d'.reg F.CELL_CQ_CONTRIB.base pc (q + 1) = countUp (d.reg F.CELL_CQ_CONTRIB.base pc (q + 1)) 1 % 2 ^ 64)) ∧
    (d.cqState pc q ≠ 1 → d.cqState pc q ≠ 2 → payAt p 4 4 = 0 → Does (.contribPkt p n false) d (fun d' =>
      d'.reg F.CELL_CQ_STALE.base pc (q + 1) = countUp (d.reg F.CELL_CQ_STALE.base pc (q + 1)) 1 % 2 ^ 64 ∧ d'.mem = d.mem ∧ d'.cells = d.cells)) ∧
    (d.cqState pc q = 1 → (d.cell pc).cqWait = [] → Does (.contribPkt p n true) d (fun d' => ∃ d1 : Dev, d' = d1.suspectSlot pc ∧
      d1.cqState pc q = 4 ∧ (d1.cq pc q).ea = [] ∧ (d1.cq pc q).acc = [] ∧ d1.mem = d.mem))

/-! ## Thernolink ports -/

/-- R284, R298, Table 09-3: the slots of a packet that may cross a link spell that packet again at the far end, whatever its header, extension and payload. Where the spec leaves it open this rests on the model's log entries 42 and 43. -/
def Obligations.PacketsSurviveTheirSlots : Prop :=
  ∀ p : Packet, p.ext.length = extBytes p.typ.toNat → p.payload.length = payBytes p.typ.toNat p.len.toNat →
    let slots := slotsOfBytes (pktFlits p) (pktAll p)
    let need := wireBytes (bytesOfSlots (slots.take 1))
    need = (pktAll p).length ∧ slots.length = flitsOf need ∧ pktOfBytes ((bytesOfSlots slots).take need) = p

/-- The port has lost its link: it is DOWN, what it held is discarded and counted, and the loss is counted (R302). -/
def LinkLost (d d' : Dev) (n : Port) : Prop :=
  d'.portState n = 6 ∧ (d'.link n).replay = [] ∧ (d'.link n).parts = [] ∧ Counted d d' F.TL_LINK_DOWNS n ∧
  d'.reg F.TL_LOST.base n = countUp (d.reg F.TL_LOST.base n) (d.link n).packets % 2 ^ 64 ∧ d'.mem = d.mem ∧ ∀ k, k ≠ n.val → d'.link k = d.link k

/-- R296 to R303: a codeword's slots in sequence are taken, and a whole packet enters the die with its bytes; one that does not decode calls for a NAK; the sixteenth matching control flit brings a port up, one that differs makes it MISMATCH, an acknowledgement frees the slots before it, and one with a wrong CRC changes nothing; GOING_DOWN, silence and lost lanes lose the link. -/
def PortsTakeCodewords : Prop :=
  ∀ (n : Port) (d : Dev),
    let l := d.link n
    (∀ cw : Codeword, d.portState n = 3 →
      (∀ s, cw.decodes = true → cw.slots = [s] → cw.first.toNat % 2 ^ 32 = l.rxNext → s.idle = false →
        (s.vc = 3 → Does (.codewordRx n cw) d (fun d' => (d'.link n).rxNext = (l.rxNext + 1) % 2 ^ 32 ∧ (d'.link n).nak = false ∧ d'.net = d.net ∧
          Counted d d' F.TL_CW_RX n ∧ Counted d d' F.TL_RX_C n ∧ d'.mem = d.mem ∧ d'.cells = d.cells)) ∧
        (s.vc ≠ 3 → SMap.read [] l.parts s.vc.val = [] → flitsOf (wireBytes (leBytes 64 s.bytes.toNat)) = 1 → Does (.codewordRx n cw) d (fun d' =>
          (d'.link n).rxNext = (l.rxNext + 1) % 2 ^ 32 ∧ (∃ fl, d'.net = d.net ++ [fl] ∧ fl.via = some n.val ∧
            pktBytes fl.pkt = pktBytes (pktOfBytes ((leBytes 64 s.bytes.toNat).take (wireBytes (leBytes 64 s.bytes.toNat))))) ∧
          Counted d d' (if s.vc = 0 then F.TL_RX_S else F.TL_RX_U) n ∧ d'.mem = d.mem ∧ d'.cells = d.cells))) ∧
      (cw.decodes = false → Does (.codewordRx n cw) d (fun d' => (d'.link n).nak = true ∧ (d'.link n).rxNext = l.rxNext ∧
        Counted d d' F.TL_CW_UNCORR n ∧ d'.net = d.net ∧ d'.mem = d.mem ∧ d'.cells = d.cells))) ∧
    (∀ (f : LinkFlit) (at' : Nat),
      let half := d.get F.TL_LINK_STATUS_LANES n ≠ 0xFF ∨ bitOf f.flags.toNat 1 = true
      (f.crc.toNat ≠ crc32c (linkFlitFront f) → Does (.linkControlFlit n f at') d (fun d' => d' = d)) ∧
      (f.crc.toNat = crc32c (linkFlitFront f) →
        (bitOf f.flags.toNat 2 = true → d.portUp n = true → Does (.linkControlFlit n f at') d (fun d' => LinkLost d d' n)) ∧
        (bitOf f.flags.toNat 2 = false → d.flitWhy n f = 0 →
          (d.portState n = 2 → l.good = 15 → Does (.linkControlFlit n f at') d (fun d' =>
            (half → d'.portState n = 4) ∧ (¬ half → d'.portState n = 3) ∧ (d'.link n).rxNext = f.firstSeq.toNat ∧
            d'.get F.TL_LINK_STATUS_WHY n = 0 ∧ d'.mem = d.mem ∧ d'.cells = d.cells)) ∧
          (d.portState n = 2 → l.good < 15 → Does (.linkControlFlit n f at') d (fun d' =>
            d'.portState n = 2 ∧ (d'.link n).good = l.good + 1 ∧ d'.mem = d.mem ∧ d'.cells = d.cells)) ∧
          (d.portState n = 3 → ¬ half → bitOf f.flags.toNat 0 = false → Does (.linkControlFlit n f at') d (fun d' =>
            d'.portState n = 3 ∧ (d'.link n).replay = l.replay.filter (fun r => !older32 r.1 f.ack.toNat) ∧ d'.mem = d.mem ∧ d'.cells = d.cells))) ∧
        (∀ why, bitOf f.flags.toNat 2 = false → d.flitWhy n f = why → why ≠ 0 → (d.portState n = 2 ∨ d.portUp n = true) →
          Does (.linkControlFlit n f at') d (fun d' => d'.portState n = 5 ∧ d'.get F.TL_LINK_STATUS_WHY n = why ∧
            d'.reg F.TL_SHAPE_SEEN.base n = f.shape.toNat ∧ (d'.link n).good = 0 ∧ d'.mem = d.mem)))) ∧
    (∀ c ∈ [Instr.controlFlitTimeout n, Instr.laneLockLoss n], (d.portUp n = true → Does c d (fun d' => LinkLost d d' n)) ∧
      (d.portUp n = false → Does c d (fun d' => d' = d)))

/-- R297, R301, R305, R307: a port enables with its fields if R307 holds, else sets CFG_ERR; it is disabled, retrained and trained as its state says, and sends its control flit with a right CRC; the identity takes a value while no port is enabled, and VALID says whether R305 holds. -/
def PortsEnable : Prop :=
  ∀ (n : Port) (m : Master) (v : Word) (d : Dev),
    (d.domOn (560 + n) = true →
      (d.bit F.TL_CFG_EN n = false →
        ((d.writeTlCfg n v.toNat).tlCfgOk n = true → Does (.tlEnable m n v) d (fun d' => d'.bit F.TL_CFG_EN n = true ∧ d'.portState n = 1 ∧
          d'.link n = LinkState.reset ∧ d'.get F.TL_CFG_NEIGH_ID n = bitsOf v.toNat 57 48 ∧ d'.get F.TL_CFG_DIM n = bitsOf v.toNat 61 59 ∧ d'.mem = d.mem)) ∧
        ((d.writeTlCfg n v.toNat).tlCfgOk n = false → Does (.tlEnable m n v) d (fun d' => d'.bit F.TL_CFG_EN n = false ∧
          d'.bit F.TL_LINK_STATUS_CFG_ERR n = true ∧ d'.portState n = d.portState n ∧ d'.links = d.links ∧ d'.mem = d.mem)) ∧
        Does (.tlDisable m n v) d (fun d' => d'.bit F.TL_CFG_EN n = false ∧ d'.get F.TL_CFG_NEIGH_ID n = bitsOf v.toNat 57 48 ∧
          d'.portState n = d.portState n ∧ d'.links = d.links ∧ d'.mem = d.mem)) ∧
      (d.bit F.TL_CFG_EN n = true → Does (.tlDisable m n v) d (fun d' => d'.bit F.TL_CFG_EN n = false ∧ d'.portState n = 0 ∧
        d'.link n = LinkState.reset ∧ d'.get F.TL_CFG_NEIGH_ID n = d.get F.TL_CFG_NEIGH_ID n ∧ d'.mem = d.mem ∧ d'.cells = d.cells)) ∧
      (d.portState n ≠ 0 → Does (.tlRetrain m n) d (fun d' => d'.portState n = 1 ∧ d'.link n = LinkState.reset ∧ d'.mem = d.mem ∧
        (d.portUp n = true → ∃ f pre post, d'.out = d.out ++ pre ++ [Output.linkFlit n f] ++ post ∧ bitOf f.flags.toNat 2 = true)))) ∧
    (∀ now, d.portState n = 2 ∨ d.portUp n = true ∨ d.portState n = 5 → Does (.linkControlFlitTx n now) d (fun d' =>
      ∃ f, d'.out = d.out ++ [Output.linkFlit n f] ∧ f.crc.toNat = crc32c (linkFlitFront f) ∧ f.ack.toNat = (d.link n).rxNext % 2 ^ 32 ∧
        f.tTx.toNat = now % 2 ^ 48 ∧ (d'.link n).goingDown = false ∧ d'.regs = d.regs ∧ d'.mem = d.mem)) ∧
    (d.portState n = 1 →
      (∀ lo hi : Bool, lo = true ∨ hi = true → Does (.trainingDone n lo hi) d (fun d' => d'.portState n = 2 ∧
        d'.get F.TL_LINK_STATUS_LANES n = 15 * b2n lo + 240 * b2n hi ∧ d'.mem = d.mem ∧ d'.cells = d.cells)) ∧
      Does (.trainingTimeout n) d (fun d' => d'.portState n = 6 ∧ d'.mem = d.mem ∧ d'.cells = d.cells)) ∧
    (d.portState n = 6 → Does (.retrainTimer n) d (fun d' => d'.portState n = 1 ∧ d'.link n = LinkState.reset ∧ d'.mem = d.mem)) ∧
    (∀ shape : Bool, d.power.mainUp = true →
      ((∀ k < 12, d.bit F.TL_CFG_EN k = false) → Does (.domainIdentityWrite m shape v) d (fun d' =>
        (shape = true → d'.reg F.DEV_DOMAIN_SHAPE.base = bitsOf v.toNat 59 0 ∧ d'.deviceId = d.deviceId) ∧
        (shape = false → d'.deviceId = bitsOf v.toNat 9 0 ∧ d'.masterId = bitsOf v.toNat 25 16 ∧ d'.reg F.DEV_DOMAIN_SHAPE.base = d.reg F.DEV_DOMAIN_SHAPE.base) ∧
        (d'.bit F.DEV_DOMAIN_ID_VALID = true ↔ d'.identityOk = true) ∧ (d'.bit F.DEV_DOMAIN_ID_ERR = true ↔ d'.identityOk = false) ∧
        (d'.isMaster = true ↔ d'.identityOk = true ∧ d'.deviceId = d'.masterId) ∧ d'.mem = d.mem ∧ d'.cells = d.cells)) ∧
      (∀ k, k < 12 → d.bit F.TL_CFG_EN k = true → Does (.domainIdentityWrite m shape v) d (fun d' => d' = d)))

/-- R296 to R303, R305, R307: a port's enabling, training, codewords, control flits and losses, and the device's identity. Where the spec leaves it open this rests on the model's log entry 43. -/
def Obligations.PortsTrainCarryAndLoseTheirLinks : Prop := PortsTakeCodewords ∧ PortsEnable

/-! ## The schedule unit -/

/-- R22, R311, R317, R320 to R324, R340, R341, R345, R350: at a beat boundary the beat counter advances and an announced S takes effect; an armed job starts at its start beat at position 0, a running one takes the next position, completes at LENGTH, or is held with every hosted cell frozen, and an armed one is held at position 0; an unload ends the job; a beat without a marker is counted in MISSED. Where the spec leaves it open this rests on the model's log entries 54, 55 and 56. -/
def Obligations.BeatBoundariesDriveTheJob : Prop :=
  ∀ (d : Dev), d.power.mainUp = true →
    let next := (d.beat + 1) % 2 ^ 64
    let p := d.reg F.SCHED_POS.base + 1
    (d.sched.unload = true → Does .beatBoundary d (fun d' => d'.schedState = 0 ∧ d'.reg F.SCHED_STEP.base = 0 ∧ d'.get F.SCHED_STATUS_VARIANT = 0 ∧
      d'.sched.loaded = false ∧ d'.sched.unload = false ∧ d'.sched.hold = none)) ∧
    (d.schedState = 0 → d.sched.unload = false → Does .beatBoundary d (fun d' => d'.get F.DEV_BEAT_STATUS_MISSED =
      if d.beatMissed then min 0xFFFF (d.get F.DEV_BEAT_STATUS_MISSED + 1) else d.get F.DEV_BEAT_STATUS_MISSED)) ∧
    (d.sched.unload = false →
      (d.schedState = 0 → Does .beatBoundary d (fun d' => d'.beat = next ∧ d'.schedState = 0 ∧ d'.mem = d.mem ∧ d'.cells = d.cells ∧
        d'.get F.SCHED_STRETCH_CUR = if d.reg F.SCHED_STRETCH_BEAT.base ≤ next ∧ next % 4 = 0 then d.get F.SCHED_STRETCH_NEXT else d.get F.SCHED_STRETCH_CUR)) ∧
      (∀ h, d.schedState = 2 → d.sched.hold = some h → d.suspects = [] → Does .beatBoundary d (fun d' => d'.beat = next ∧ d'.schedState = 4 ∧
        d'.reg F.SCHED_HOLD_POS.base = 0 ∧ d'.reg F.SCHED_HOLD_BEAT.base = next)) ∧
      (d.schedState = 2 → d.sched.hold = none → d.reg F.SCHED_START_BEAT.base = next → Does .beatBoundary d (fun d' => d'.beat = next ∧ d'.schedState = 3 ∧ d'.reg F.SCHED_POS.base = 0)) ∧
      (d.schedState = 2 → d.sched.hold = none → d.reg F.SCHED_START_BEAT.base ≠ next → Does .beatBoundary d (fun d' => d'.beat = next ∧ d'.schedState = 2 ∧ d'.mem = d.mem ∧ d'.cells = d.cells)) ∧
      (d.schedState = 3 → p < 2 ^ 64 →
        (∀ h, d.sched.hold = some h → h.cause < 256 → h.port < 256 → h.origin < 1024 → h.lc < 512 → h.coll < 2 ^ 16 → d.suspects = [] → Does .beatBoundary d (fun d' =>
          d'.schedState = 4 ∧ d'.reg F.SCHED_HOLD_POS.base = p ∧ d'.reg F.SCHED_HOLD_BEAT.base = next ∧ d'.get F.SCHED_HOLD_CAUSE = h.cause ∧
          d'.get F.SCHED_HOLD_ORIGIN = h.origin ∧ d'.get F.SCHED_HOLD_LC = h.lc ∧ d'.bit F.SCHED_HOLD_VALID = true ∧
          Counted d d' F.SCHED_HOLDS ∧ ∀ pc ∈ d.hostedSlots, (d'.cell pc).freeze.hold = true)) ∧
        (d.sched.hold = none → d.imgLength ≤ p → d.imgLoop = false → Does .beatBoundary d (fun d' =>
          d'.beat = next ∧ d'.schedState = 6 ∧ d'.reg F.SCHED_POS.base = p ∧ d'.sched.windows = [])) ∧
        (d.sched.hold = none → p < d.imgLength ∨ d.imgLoop = true → Does .beatBoundary d (fun d' =>
          d'.beat = next ∧ d'.schedState = 3 ∧ d'.reg F.SCHED_POS.base = p))))

/-- A HOLD with this origin and SEQ has been seen in the last 1,024 beats (R318). -/
def HoldSeen (d : Dev) (f : CFlit) : Prop :=
  ∃ h ∈ d.holdSeen, h.1 = f.origin.toNat % 1024 ∧ h.2.1 = f.seq.toNat ∧ d.beat ≤ h.2.2 + 1024

/-- R314 to R318, R323, R324, R344 to R346: the first marker of the source sets the beat counter and LOCKED, a later one corrects the phase within its limits, and silence turns to the other neighbour; a new HOLD is counted and kept by a unit that is armed, runs or resumes, and one seen before changes nothing; stretch requests are clamped, and kept at the master. Where the spec leaves it open this rests on the model's log entries 55 and 56. -/
def Obligations.MarkersHoldsAndStretchRequests : Prop :=
  ∀ (n : Port) (f : CFlit) (m : Master) (v : Word) (d : Dev),
    (∀ corr : Int, d.cFlitIn n 0x10 f = true → d.isMaster = false → d.bit F.DEV_BEAT_STATUS_ALT = false → d.parentPort = some n.val →
      Does (.beatMarker n f corr) d (fun d' => d'.bit F.DEV_BEAT_STATUS_LOCKED = true ∧ d'.get F.DEV_BEAT_STATUS_MISSED = 0 ∧
        d'.get F.DEV_BEAT_STATUS_PARENT_PORT = n.val ∧ d'.get F.SCHED_STRETCH_NEXT = cField f 0x14 1 ∧ d'.sched.noSource = false ∧
        d'.sched.marker = some (n.val, d.cycle, f) ∧ d'.mem = d.mem ∧ d'.cells = d.cells ∧
        (d.bit F.DEV_BEAT_STATUS_LOCKED = false → d'.beat = f.beat.toNat) ∧
        (d.bit F.DEV_BEAT_STATUS_LOCKED = true → d'.beat = d.beat ∧
          d'.get F.DEV_BEAT_STATUS_LAST_CORR = (BitVec.ofInt 16 (max (-60) (min 60 corr))).toNat))) ∧
    (d.isMaster = false →
      (d.bit F.DEV_BEAT_STATUS_ALT = false → d.altPort ≠ none → Does .markerTimeout d (fun d' => d'.bit F.DEV_BEAT_STATUS_ALT = true ∧
        d'.sched.goodMarkers = 0 ∧ d'.sched.noSource = d.sched.noSource ∧ d'.mem = d.mem ∧ d'.cells = d.cells)) ∧
      (d.altPort = none → d.sched.noSource = false → Does .markerTimeout d (fun d' => d'.sched.noSource = true ∧ d'.mem = d.mem ∧ d'.cells = d.cells ∧
        (d.buffered 0 0 < 4 → ∃ r, d'.reports = d.reports ++ [r] ∧ r.event = 0x0162)))) ∧
    (d.cFlitIn n 0x11 f = true →
      (HoldSeen d f → Does (.holdFlit n f) d (fun d' => d' = d)) ∧
      (¬ HoldSeen d f → d.schedState = 2 ∨ d.schedState = 3 ∨ d.schedState = 5 → Does (.holdFlit n f) d (fun d' => Counted d d' F.SCHED_HOLD_MSGS ∧ d'.mem = d.mem ∧ d'.cells = d.cells ∧
        d'.sched.hold = d.sched.hold.orElse (fun _ => some ⟨false, cField f 0x10 1, cField f 0x11 1, f.origin.toNat % 1024, cField f 0x12 2 % 512, cField f 0x18 2⟩)))) ∧
    (d.noticeIn n 1 f = true →
      (d.isMaster = true → Does (.stretchReq n f) d (fun d' =>
        SMap.find (f.origin.toNat % 1024) d'.sched.stretch = some (cField f 0x11 1, d.beat) ∧ d'.regs = d.regs ∧ d'.mem = d.mem)) ∧
      (∀ k, d.isMaster = false → d.parentPort = some k → SMap.read 0 d.cSent k < 9 → Does (.stretchReq n f) d (fun d' =>
        d'.out = d.out ++ [Output.cFlit k (hopped f)] ∧ d'.sched = d.sched ∧ d'.mem = d.mem))) ∧
    (d.power.mainUp = true →
      Does (.stretchRequestWrite m v) d (fun d' => d'.get F.SCHED_STRETCH_OS_REQ = max 16 (min 64 (bitsOf v.toNat 7 0)) ∧
        (m = .slolis → d'.get F.SCHED_STRETCH_SYS_REQ = max 16 (min 64 (bitsOf v.toNat 15 8))) ∧
        (m = .os → d'.get F.SCHED_STRETCH_SYS_REQ = d.get F.SCHED_STRETCH_SYS_REQ) ∧ d'.sched.lastReq = d'.stretchRequest ∧ d'.mem = d.mem ∧ d'.cells = d.cells) ∧
      (d.running = true → d.sched.hold = none → Does (.holdCommand m) d (fun d' =>
        (∃ h, d'.sched.hold = some h ∧ h.isLocal = true ∧ h.cause = 8 ∧ h.origin = d.deviceId) ∧ d'.mem = d.mem ∧ d'.cells = d.cells)) ∧
      (d.running = false → Does (.holdCommand m) d (fun d' => d' = d)))

/-- R326, R337, R347, R350, R393, R464: a LOAD is refused BUSY or BAD_IMAGE, or the unit is LOADING; it fails at its digest, its signature or the first later check, or it is accepted: FLOG_TAINT is cleared, the epoch is taken and the job arms; a RESUME of a held job at its latest resume point arms again; an unload is noted in every state but LOADING. Where the spec leaves it open this rests on the model's log entries 52 and 53. -/
def Obligations.JobsLoadResumeAndUnload : Prop :=
  ∀ (m : Master) (epoch : BitVec 32) (d : Dev),
    let base := d.get F.SCHED_IMAGE_BASE_BASE * 64
    let b := d.sched.base
    let Fails := fun (d' : Dev) (r : Nat) => d'.schedState = 0 ∧ d'.get F.SCHED_STATUS_RESULT = r ∧ d'.sched.loaded = false
    (d.power.mainUp = true →
      (d.schedState ≠ 0 ∨ d.shapeBusy base = true → Does (.schedLoad m epoch) d (fun d' => d'.get F.SCHED_STATUS_RESULT = 1 ∧ d'.schedState = d.schedState ∧
        d'.sched = d.sched ∧ d'.mem = d.mem ∧ d'.cells = d.cells)) ∧
      (d.schedState = 0 → d.shapeBusy base = false → d.imageOk base = false → Does (.schedLoad m epoch) d (fun d' =>
        d'.get F.SCHED_STATUS_RESULT = 2 ∧ d'.schedState = 0 ∧ d'.sched = d.sched ∧ d'.mem = d.mem ∧ d'.cells = d.cells)) ∧
      (d.schedState = 0 → d.shapeBusy base = false → d.imageOk base = true → Does (.schedLoad m epoch) d (fun d' =>
        d'.schedState = 1 ∧ d'.sched.stage = .digest ∧ d'.sched.base = base ∧ d'.sched.newEpoch = epoch.toNat ∧ d'.reg F.FLOG_TAINT.base = d.reg F.FLOG_TAINT.base ∧
        d'.mem = d.mem ∧ d'.cells = d.cells)) ∧
      (d.schedState ≠ 1 → Does (.schedUnload m) d (fun d' => d'.sched = { d.sched with unload := true } ∧ d'.regs = d.regs ∧ d'.mem = d.mem ∧ d'.cells = d.cells)) ∧
      (d.schedState = 1 → Does (.schedUnload m) d (fun d' => d' = d)) ∧
      (d.schedState ≠ 4 → Does (.schedResume m epoch) d (fun d' => d'.get F.SCHED_STATUS_RESULT = 12 ∧ d'.schedState = d.schedState ∧ d'.sched = d.sched ∧ d'.mem = d.mem)) ∧
      (∀ i pos, d.schedState = 4 → newer32 epoch.toNat (d.get F.SCHED_STATUS_EPOCH) = true →
        d.latestPoint (d.reg F.SCHED_HOLD_POS.base) = some (i, pos) → d.get F.SCHED_RESUME_POS_POS = pos →
        d.get F.SCHED_RESUME_POS_VARIANT ≤ d.sectionCount 4 → d.reg F.SCHED_RESUME_BEAT.base % 1024 = pos % 1024 → d.beat + 128 ≤ d.reg F.SCHED_RESUME_BEAT.base →
        d.shapeFits b = true → d.imagePortsUp b (d.get F.SCHED_RESUME_POS_VARIANT) = true → Does (.schedResume m epoch) d (fun d' => ∃ d1 : Dev, d' = d1.phaseA ∧
          d1.schedState = 5 ∧ d1.get F.SCHED_STATUS_EPOCH = epoch.toNat ∧ d1.get F.SCHED_STATUS_VARIANT = d.get F.SCHED_RESUME_POS_VARIANT ∧
          d1.reg F.SCHED_POS.base = pos ∧ d1.reg F.SCHED_START_BEAT.base = d.reg F.SCHED_RESUME_BEAT.base ∧ d1.sched.resuming = true ∧ d1.sched.point = i))) ∧
    (d.sched.stage = .digest →
      (d.imageDigest b ≠ d.load (b + 0xC0) 32 → Does .loadDigestDone d (fun d' => Fails d' 3 ∧ d'.mem = d.mem ∧ d'.cells = d.cells)) ∧
      (d.imageDigest b = d.load (b + 0xC0) 32 → Does .loadDigestDone d (fun d' => d'.sched = { d.sched with stage := .signature } ∧ d'.regs = d.regs ∧ d'.mem = d.mem))) ∧
    (d.sched.stage = .signature → d.slolisUp = true → d.img b 0xE0 8 = 0 →
      (d.bit F.SEC_STATUS_SIG_SCHED_REQ = true → Does .loadSignatureDone d (fun d' => Fails d' 4)) ∧
      (∀ r, d.bit F.SEC_STATUS_SIG_SCHED_REQ = false → d.lateChecks b = r → r ≠ 0 → Does .loadSignatureDone d (fun d' => Fails d' r ∧ d'.mem = d.mem)) ∧
      (d.bit F.SEC_STATUS_SIG_SCHED_REQ = false → d.lateChecks b = 0 → Does .loadSignatureDone d (fun d' => ∃ d1 : Dev, d' = d1.phaseA ∧
        d1.get F.SCHED_STATUS_EPOCH = d.sched.newEpoch % 2 ^ 32 ∧ d1.get F.SCHED_STATUS_VARIANT = 0 ∧ d1.reg F.FLOG_TAINT.base = 0 ∧ d1.sched.loaded = true ∧ d1.mem = d.mem ∧ d1.cells = d.cells)))

/-- R329, R338 to R340, R347: with every endpoint bound the device comes to barrier B, and with one failed the arming fails; arrivals are kept by port; the release from the parent for the barrier waited at ends the phase, and arms with its start beat; a barrier that times out fails the arming; a window releases the item that its entry covers. Where the spec leaves it open this rests on the model's log entry 57. -/
def Obligations.BarriersAndWindowsActInTurn : Prop :=
  ∀ (n : Port) (f : CFlit) (d : Dev),
    let states := d.sched.setupEps.map (fun e => match d.hostOf e.1 with | some pc => d.sepState (.cell pc) e.2 | none => 4)
    let ArmFails := fun (d' : Dev) (r : Nat) => d'.get F.SCHED_STATUS_RESULT = r ∧ d'.schedState = (if d.sched.resuming = true then 4 else 0) ∧
      d'.sched.stage = .none ∧ (d.sched.resuming = false → d'.sched.loaded = false)
    (d.sched.stage = .phaseB → (∀ st ∈ states, st ≠ 1) →
      ((d.sched.setupFailed = true ∨ ∃ st ∈ states, st ≠ 2) → Does .phaseBJoinsDone d (fun d' => ArmFails d' 10)) ∧
      (d.sched.setupFailed = false → (∀ st ∈ states, st = 2) → Does .phaseBJoinsDone d (fun d' => ∃ d1 : Dev, d' = d1.tryArrive ∧
        d1.sched = { d.sched with stage := .barrierB } ∧ d1.regs = d.regs ∧ d1.mem = d.mem))) ∧
    (d.cFlitIn n 0x13 f = true → n.val ∈ d.childPorts → Does (.barrierArrive n f) d (fun d' => ∃ d1 : Dev, d' = d1.tryArrive ∧
      SMap.find n.val d1.sched.arrives = some (cField f 0x10 4, cField f 0x14 1, cField f 0x16 2) ∧
      (∀ k, k ≠ n.val → SMap.find k d1.sched.arrives = SMap.find k d.sched.arrives) ∧ d1.regs = d.regs ∧ d1.mem = d.mem)) ∧
    (d.cFlitIn n 0x14 f = true → d.parentPort = some n.val → cField f 0x10 4 = d.sched.newEpoch →
      (d.sched.stage = .barrierB → cField f 0x14 1 = 1 → d.sched.resuming = false → Does (.barrierRelease n f) d (fun d' =>
        d'.schedState = 2 ∧ d'.get F.SCHED_STATUS_RESULT = 0 ∧ d'.reg F.SCHED_START_BEAT.base = f.beat.toNat ∧ d'.sched.stage = .none ∧
        d'.mem = d.mem ∧ d'.cells = d.cells)) ∧
      (d.sched.stage = .barrierA → cField f 0x14 1 = 0 → Does (.barrierRelease n f) d (fun d' => ∃ d1 : Dev, d' = d1.applyPhase 1 ∧
        d1.sched.stage = .phaseB ∧ d1.mem = d.mem ∧ d1.cells = d.cells))) ∧
    (d.sched.stage = .barrierA ∨ d.sched.stage = .barrierB → Does .barrierTimeout d (fun d' => ArmFails d' 11)) ∧
    (∀ e w pc it, SMap.find e d.sched.windows = some w → d.running = true → d.hostOf (d.transfer e).lc = some pc → (d.cell pc).outbox = [it] →
      covers (d.transfer e) it = true → 16 ≤ itemBytes it - it.sent → itemBytes it - it.sent ≤ (d.transfer e).bytes - w.released →
      Does (.windowRelease e) d (fun d' => (d'.cell pc).outbox = [] ∧ d'.mem = d.mem ∧ CellsStand d d' pc ∧
        SMap.find e d'.sched.windows = some { w with released := w.released + (itemBytes it - it.sent) }))

/-! ## Patrol -/

/-- A slot has been fenced with a result (R367): FENCED, with no test, counted; by Slolis its domain is switched off and the FENCE entry is added. -/
def SlotFenced (d d' : Dev) (pc result : Nat) : Prop :=
  d'.slotState pc = 5 ∧ (d'.slotInfo pc).test = none ∧ Counted d d' F.BADGER_FENCES ∧
  (d.slolisUp = true → d'.domOn pc = false ∧ ∃ l, d'.defects = l ++ [⟨1, BitVec.ofNat 16 pc, BitVec.ofNat 32 result, wOf d.ptpSec⟩])

/-- A test of a slot has failed (R365 to R367): the fail is counted and shown, and the slot is fenced, with no strike and no second test. -/
def TestFailed (d d' : Dev) (pc result : Nat) : Prop :=
  SlotFenced d d' pc result ∧ Counted d d' F.BADGER_TESTS_FAILED ∧ d'.slotFld F.BADGER_SLOT_LAST_FAIL pc = result ∧
  d'.reg F.BADGER_STRIKES.base = d.reg F.BADGER_STRIKES.base ∧ d'.strikes pc = d.strikes pc

/-- A test of a slot goes on to a step. -/
def TestGoesOn (d' : Dev) (pc step : Nat) (t : SlotTest) : Prop := (d'.slotInfo pc).test = some { t with step := step }

/-- R352, R365 to R368, R370: each step of a test passes to the next, repairs what it may, or fails and fences the slot; the last clears it and leaves it STANDBY, or with a strike, the third of which fences; BADGER_FENCE needs debug authorization; headroom samples and trends are shown. Where the spec leaves it open this rests on the model's log entry 59. -/
def Obligations.TestsRepairPassOrFenceTheirSlot : Prop :=
  ∀ (pc : Slot) (m : Master) (d : Dev),
    (∀ t : SlotTest, d.domOn pc = true → (d.slotInfo pc).test = some t →
      (∀ pw pll h, t.step = 1 → Does (.testStepDone pc (.settle pw pll h)) d (fun d' =>
        d'.slotFld F.BADGER_SLOT_HEADROOM pc = min 255 h ∧ (pw = false → TestFailed d d' pc 7) ∧ (pw = true → pll = false → TestFailed d d' pc 8) ∧
        (pw = true → pll = true → h < 10 → TestFailed d d' pc 6) ∧ (pw = true → pll = true → 10 ≤ h → TestGoesOn d' pc 2 t ∧ d'.mem = d.mem))) ∧
      (∀ ok, t.step = 2 → Does (.testStepDone pc (.logic ok)) d (fun d' =>
        (ok = true → TestGoesOn d' pc 3 t ∧ d'.mem = d.mem) ∧ (ok = false → TestFailed d d' pc 2))) ∧
      (∀ bad common, t.step = 3 → Does (.testStepDone pc (.array bad common)) d (fun d' =>
        (common = true ∨ (∃ a ∈ bad, ∃ b ∈ bad, a ≠ b) ∨ (∃ a ∈ bad, d.bit F.CELL_ARR_STRIP_MAP_REPAIRED pc = true ∧ d.get F.CELL_ARR_STRIP_MAP_BAD pc ≠ a.val) →
          TestFailed d d' pc 3) ∧
        (common = false → bad = [] → TestGoesOn d' pc 4 t ∧ d'.mem = d.mem) ∧
        (∀ b, common = false → bad = [b] → (d.bit F.CELL_ARR_STRIP_MAP_REPAIRED pc = true → d.get F.CELL_ARR_STRIP_MAP_BAD pc = b.val) → (∃ t', (d'.slotInfo pc).test = some t' ∧ t'.step = 4 ∧ t'.suspect = t.suspect) ∧
          d'.bit F.CELL_ARR_STRIP_MAP_REPAIRED pc = true ∧ d'.get F.CELL_ARR_STRIP_MAP_BAD pc = b.val ∧ d'.mem = d.mem))) ∧
      (∀ lines unc, t.step = 4 → Does (.testStepDone pc (.march lines unc)) d (fun d' =>
        (unc = true → TestFailed d d' pc 4) ∧ (unc = false → lines = [] → TestGoesOn d' pc 5 t ∧ d'.mem = d.mem) ∧
        (∀ store bank line, unc = false → lines = [(store, bank, line)] →
          (d.sparesUsed pc store bank < spareLines store → (∃ l, d'.defects = l ++ [⟨3, BitVec.ofNat 16 pc, BitVec.ofNat 32 (lineField store bank line), wOf (d.sparesUsed pc store bank)⟩]) ∧
            TestGoesOn d' pc 5 { t with repaired := true } ∧ Counted d d' F.BADGER_REPAIRS) ∧
          (spareLines store ≤ d.sparesUsed pc store bank → TestFailed d d' pc 4)))) ∧
      (∀ ok, t.step = 5 → Does (.testStepDone pc (.margin ok)) d (fun d' =>
        (ok = true → TestGoesOn d' pc 6 t ∧ d'.mem = d.mem) ∧
        (ok = false → d.slotFld F.BADGER_SLOT_GUARD pc < 3 → TestGoesOn d' pc 6 { t with repaired := true } ∧
          d'.slotFld F.BADGER_SLOT_GUARD pc = d.slotFld F.BADGER_SLOT_GUARD pc + 1 ∧ d'.slotFld F.BADGER_SLOT_MARGIN_LOW pc = 1) ∧
        (ok = false → 3 ≤ d.slotFld F.BADGER_SLOT_GUARD pc → TestFailed d d' pc 5))) ∧
      (t.step = 6 → d.suspects = [] → Does (.testStepDone pc .clear) d (fun d' =>
        (∀ x < sliceSize, Memory.byte d'.mem (sliceBase pc + x) = Memory.byte [] 0) ∧ (d'.slotInfo pc).test = none ∧
        Counted d d' F.BADGER_TESTS_PASSED ∧ d'.slotFld F.BADGER_SLOT_LAST_PASS pc = d.reg F.BADGER_PERIOD.base % 2 ^ 16 ∧
        (t.suspect = false ∨ t.repaired = true → d'.slotState pc = 1 ∧ BytesStand d d' (sliceBase pc) sliceSize) ∧
        (t.suspect = true → t.repaired = false → Counted d d' F.BADGER_STRIKES ∧
          (d.strikes pc < 2 → d'.slotState pc = 1) ∧ (2 ≤ d.strikes pc → d.ptpSec < 2 ^ 64 → SlotFenced d d' pc 0))))) ∧
    (d.domOn pc = false ∨ (d.slotInfo pc).test = none → ∀ o, Does (.testStepDone pc o) d (fun d' => d' = d)) ∧
    (d.power.mainUp = true →
      (d.dbgScope m 3 = false → Does (.badgerFence m pc) d (fun d' => d'.get F.BADGER_CMD_STATUS_RESULT = 1 ∧ d'.mem = d.mem ∧ d'.cells = d.cells ∧
        d'.slotState pc = d.slotState pc)) ∧
      (d.dbgScope m 3 = true → Does (.badgerFence m pc) d (fun d' => d'.get F.BADGER_CMD_STATUS_RESULT = 0 ∧ d'.slotState pc = 5 ∧
        (d.slotState pc = 5 → d'.mem = d.mem ∧ d'.cells = d.cells ∧ d'.defects = d.defects) ∧
        (d.slotState pc ≠ 5 → d.hosted pc = none → (∀ g ∈ d.migrations, g.dst ≠ pc) → SlotFenced d d' pc 0)))) ∧
    (Does (.headroomTrend []) d (fun d' => d'.mem = d.mem ∧ d'.cells = d.cells ∧
      ((d.slotInfo pc).dayMean.2 = 0 → d'.slotInfo pc = d.slotInfo pc) ∧
      ((d.slotInfo pc).dayMean.2 ≠ 0 →
        let means := (((d.slotInfo pc).means ++ [(d.slotInfo pc).dayMean.1 / (d.slotInfo pc).dayMean.2]).reverse.take 30).reverse
        (d'.slotInfo pc).means = means ∧ (d'.slotInfo pc).dayMean = (0, 0) ∧
        d'.slotFld F.BADGER_SLOT_TREND pc = (BitVec.ofInt 8 (max (-128) (min 127 (trendOf means)))).toNat)))

/-- R321, R354 to R361, R363, R370, R378, R379: in the first beat of a window every row whose source has an eligible slot in its own row starts that migration; the copy moves the slice, the switch moves the cell and the mapping, and an abort leaves the cell in place; a period's end is counted; suspects move, wait or are refused; the published level follows its condition, HOLD keeps it from rising, and its notices keep their interval. Where the spec leaves it open this rests on the model's log entries 58, 61 and 62. -/
def Obligations.MigrationsWindowsAndLevelsFollowTheirRules : Prop :=
  ∀ (d : Dev) (lc : Lc),
    (d.suspects = [] →
      (d.inWindow = true → d.periodPos = 40832 → Does .maintenanceWindow d (fun d' => d'.windowOpen = true ∧ Counted d d' F.SCHED_WINDOWS ∧
        (∀ g ∈ d.migrations, g ∈ d'.migrations) ∧
        (∀ r src dst c, (r, src) ∈ d.patrolRows → d.homeRow src = r → d.hosted src = some c → nearestSlot src ((rowSlots r).filter d.eligible) = some dst →
          (⟨r, c, src, dst, false, false, .freeze⟩ : Migration) ∈ d'.migrations ∧ (d'.cell src).freeze.migration = true))) ∧
      (d.inWindow = false ∨ d.periodPos ≠ 40832 → Does .maintenanceWindow d (fun d' => d' = d))) ∧
    (d.windowOpen = false → ∀ hs, Does (.maintenancePeriodEnd hs) d (fun d' => d' = d)) ∧
    (d.windowOpen = true → ∀ (pc : Slot) (h : Nat), 10 ≤ h → d.slotState pc = 0 → Does (.maintenancePeriodEnd [(pc.val, h)]) d (fun d' =>
      d'.windowOpen = false ∧ d'.reg F.BADGER_PERIOD.base = (d.reg F.BADGER_PERIOD.base + 1) % 2 ^ 64 ∧ d'.slotFld F.BADGER_SLOT_HEADROOM pc = min 255 h ∧
      (d'.slotInfo pc).dayMean = ((d.slotInfo pc).dayMean.1 + h, (d.slotInfo pc).dayMean.2 + 1) ∧
      (∀ p, (d'.slotInfo p).retries = 0) ∧ d'.mem = d.mem ∧ d'.cells = d.cells)) ∧
    (∀ g : Migration, d.migrationOf lc = some g → g.src < 544 → g.dst < 544 → g.src ≠ g.dst → g.row < 16 →
      (g.phase = .freeze → (d.cell g.src).frozen = true → (d.cell g.src).arr.run = none → Does (.migrationCopy lc []) d (fun d' =>
        (∀ x < sliceSize, Memory.byte d'.mem (sliceBase g.dst + x) = Memory.byte d.mem (sliceBase g.src + x)) ∧
        BytesStand d d' (sliceBase g.dst) sliceSize ∧ d'.cells = d.cells ∧ d'.migrationOf lc = some { g with phase := .copy })) ∧
      (g.phase = .copy → d.suspects = [] → Does (.migrationSwitch lc) d (fun d' =>
        d'.hostOf lc = some g.dst ∧ d'.migrating lc = false ∧ d'.slotState g.dst = 0 ∧ d'.slotState g.src = 2 ∧
        (∀ x < sliceSize, Memory.byte d'.mem (sliceBase g.dst + x) = Memory.byte d.mem (sliceBase g.src + x)) ∧
        BytesStand d d' (sliceBase g.dst) sliceSize ∧ (∀ c, (d'.ctx g.dst c).x = (d.ctx g.src c).x) ∧ (d'.cell g.dst).freeze.migration = false ∧
        d'.get F.PART_MAP_GEN_GEN (g.src / 68) = (d.get F.PART_MAP_GEN_GEN (g.src / 68) + 2) % 2 ^ 32 ∧ d'.migrationOf lc = none ∧
        (g.live = true → Counted d d' F.BADGER_LIVE_MIGRATIONS) ∧ (g.live = false → Counted d d' F.BADGER_MIGRATIONS))) ∧
      (g.phase ≠ .copy → Does (.migrationSwitch lc) d (fun d' => d' = d))) ∧
    (d.migrationOf lc = none → (∀ u, Does (.migrationCopy lc u) d (fun d' => d' = d)) ∧ Does (.migrationSwitch lc) d (fun d' => d' = d)) ∧
    (∀ row : Fin 16,
      (∀ g : Migration, d.migrations.find? (fun x => x.row = row.val && !x.live) = some g → d.schedState ≠ 4 → 40956 ≤ d.periodPos → d.suspects = [] →
        g.lc < 512 → g.src < 544 → g.dst < 544 → g.src ≠ g.dst → Does (.migrationAbort row) d (fun d' =>
          d'.hostOf g.lc = some g.src ∧ d'.migrating g.lc = false ∧ d'.slotState g.dst = 1 ∧ Counted d d' F.BADGER_MIG_ABORTED ∧
          (d'.cell g.src).freeze.migration = false ∧ (∀ x < sliceSize, Memory.byte d'.mem (sliceBase g.dst + x) = Memory.byte [] 0) ∧
          BytesStand d d' (sliceBase g.dst) sliceSize ∧ g ∉ d'.migrations)) ∧
      ((∀ g ∈ d.migrations, g.row = row.val → g.live = true) ∨ d.schedState = 4 ∨ d.periodPos < 40956 → Does (.migrationAbort row) d (fun d' => d' = d))) ∧
    (∀ m, d.power.mainUp = true →
      (d.hostOf lc = none → Does (.badgerSuspect m lc) d (fun d' => d'.get F.BADGER_CMD_STATUS_RESULT = 2 ∧ d'.mem = d.mem ∧ d'.cells = d.cells ∧ d'.suspects = d.suspects)) ∧
      (d.hostOf lc ≠ none → d.migrating lc = true ∨ lc.val ∈ d.suspects → Does (.badgerSuspect m lc) d (fun d' =>
        d'.get F.BADGER_CMD_STATUS_RESULT = 3 ∧ d'.mem = d.mem ∧ d'.cells = d.cells ∧ d'.suspects = d.suspects)) ∧
      (∀ src, d.hostOf lc = some src → d.migrating lc = false → lc.val ∉ d.suspects →
        (d.rowBusy (rowOf src) = true → Does (.badgerSuspect m lc) d (fun d' => d'.get F.BADGER_CMD_STATUS_RESULT = 0 ∧ d'.suspects = d.suspects ++ [lc.val] ∧
          d'.mem = d.mem ∧ d'.cells = d.cells)) ∧
        (d.rowBusy (rowOf src) = false → d.running = true → d.inWindow = false → d.sched.hold = none → Does (.badgerSuspect m lc) d (fun d' =>
          d'.get F.BADGER_CMD_STATUS_RESULT = 0 ∧ d'.suspects = d.suspects ++ [lc.val] ∧ (∃ h, d'.sched.hold = some h ∧ h.cause = 7 ∧ h.lc = lc.val) ∧
          d'.mem = d.mem ∧ d'.cells = d.cells)) ∧
        (∀ dst, d.rowBusy (rowOf src) = false → d.running = false → d.suspectTarget src = some dst → Does (.badgerSuspect m lc) d (fun d' =>
          d'.get F.BADGER_CMD_STATUS_RESULT = 0 ∧ d'.migrations = d.migrations ++ [⟨rowOf src, lc.val, src, dst, true, false, .freeze⟩] ∧
          d'.slotState dst = 4 ∧ d'.migrating lc = true ∧ d'.hostOf lc = some src ∧ (d'.cell src).freeze.migration = true ∧ d'.mem = d.mem)))) ∧
    Does .replaceLevelPublish d (fun d' => d'.get F.BADGER_REQ_RAW = topLevel d.levelHolds ∧ d'.get F.BADGER_REQ_DAYS = d.daysLeft ∧ d'.mem = d.mem ∧ d'.cells = d.cells ∧
      (d.bit F.BADGER_REQ_CFG_HOLD = true → d'.get F.BADGER_REQ_LEVEL ≤ d.get F.BADGER_REQ_LEVEL) ∧
      (d.bit F.BADGER_REQ_CFG_HOLD = false → d.levelHolds 3 = true → d'.get F.BADGER_REQ_LEVEL = 3) ∧
      (d'.get F.BADGER_REQ_LEVEL ≠ d.get F.BADGER_REQ_LEVEL → d.buffered 8 0 < 4 → ∃ r, d'.reports = d.reports ++ [r] ∧ r.event = 0x0184)) ∧
    (d.get F.BADGER_REQ_LEVEL = 0 → Does .replaceNoticeRepeat d (fun d' => d' = d)) ∧
    (d.get F.BADGER_REQ_LEVEL ≠ 0 → Does .replaceNoticeRepeat d (fun d' => d'.mem = d.mem ∧ d'.cells = d.cells ∧
      (d.slolisUp = true → (∀ t, d.replace.lastNotice = some t → t + 60 * d.get F.BADGER_REQ_CFG_CAP_MIN ≤ d.ptpSec) →
        d'.out = d.out ++ [.notice 2 [d.get F.BADGER_REQ_LEVEL, d.get F.BADGER_REQ_DAYS] []] ∧ Counted d d' F.BADGER_NOTICES ∧ d'.replace.lastNotice = some d.ptpSec) ∧
      (∀ t, d.replace.lastNotice = some t → d.ptpSec < t + 60 * d.get F.BADGER_REQ_CFG_CAP_MIN → d'.out = d.out ∧ d'.replace.due = true)))

/-! ## The fault log and Squirrel -/

/-- R399, R401 to R405: the intake makes an entry of the oldest waiting record under the next SEQ, opens a coalescing slot for it or joins the slot of its signature, mirrors and taints; a closed slot streams its first entry again; a datagram takes the entries that wait, in SEQ order. Where the spec leaves it open this rests on the model's log entry 68. -/
def Obligations.RecordsBecomeEntriesAndDatagrams : Prop :=
  ∀ (d : Dev),
    let seq := d.nextSeq
    let es := ((d.ringSeqs.filterMap d.logEntry).filter d.sendable).take 16
    (d.reports = [] → Does .logIntake d (fun d' => d' = d)) ∧
    (∀ r rs, d.reports = r :: rs → Does .logIntake d (fun d' => d'.reports = rs ∧ Counted d d' F.FLOG_RECORDS ∧ d'.cells = d.cells ∧
      (d.bit F.FLOG_MIRROR_BASE_EN = false → d'.mem = d.mem) ∧
      (r.sev = 4 ∨ d.findSlot r = none → d'.nextSeq = (seq + 1) % 2 ^ 32 ∧ Counted d d' F.FLOG_ENTRIES ∧
        (∃ e, d'.logEntry seq = some e ∧ e.body = r ∧ e.count = 1 ∧ e.latest = false ∧
          (d.bit F.FLOG_MIRROR_BASE_EN = true → d.inCarve (d.get F.FLOG_MIRROR_BASE_BASE * 2 ^ 18) 0x40000 = true →
            d'.load (d.get F.FLOG_MIRROR_BASE_BASE * 2 ^ 18 + seq % 4096 * 64) 64 = e.bytes)) ∧
        (3 ≤ r.sev → d.bit F.FLOG_TAINT_VALID = false → d'.bit F.FLOG_TAINT_VALID = true ∧ d'.get F.FLOG_TAINT_SEQ = seq) ∧
        (d.bit F.FLOG_TAINT_VALID = true → d'.get F.FLOG_TAINT_SEQ = d.get F.FLOG_TAINT_SEQ)) ∧
      (∀ i, r.sev ≠ 4 → d.findSlot r = none → d.get F.FLOG_CFG_COALESCE_MS ≠ 0 → d.freeSlot = some i →
        SMap.find i d'.logSlots = some ⟨r.event, r.key, r.cls, r.inst, seq, none, d.ns, d.get F.FLOG_CFG_COALESCE_MS⟩) ∧
      (∀ i s e, r.sev ≠ 4 → d.findSlot r = some (i, s) → d.logEntry s.first = some e → s.latest = none → s.first % 4096 ≠ seq % 4096 →
        (∃ e', d'.logEntry s.first = some e' ∧ e'.count = min (e.count + 1) 0xFFFFFFFF ∧ e'.coalesced = true ∧ e'.body = e.body) ∧
        (∃ e', d'.logEntry seq = some e' ∧ e'.latest = true ∧ e'.body = r) ∧ Counted d d' F.FLOG_COALESCED))) ∧
    (∀ i : Fin 256,
      (SMap.find i.val d.logSlots = none → Does (.coalesceSlotClose i) d (fun d' => d' = d)) ∧
      (∀ s, SMap.find i.val d.logSlots = some s → Does (.coalesceSlotClose i) d (fun d' => SMap.find i.val d'.logSlots = none ∧ d'.regs = d.regs ∧ d'.mem = d.mem ∧
        ∀ e, d.logEntry s.first = some e → d'.logEntry s.first = some { e with due := e.due || e.coalesced }))) ∧
    (es = [] → Does .logDatagram d (fun d' => d' = d)) ∧
    (es ≠ [] → d.bit F.FLOG_MIRROR_BASE_EN = false → Does .logDatagram d (fun d' => d'.mem = d.mem ∧ d'.cells = d.cells ∧
      (d.anyCollector = true → d.mgmtUp 0 = true ∨ d.mgmtUp 1 = true → d'.dgramSeq = (d.dgramSeq + 1) % 2 ^ 32 ∧
        (d.collectorOn 0 = true → Output.datagram 0 (d.datagramBytes es) ∈ d'.out) ∧
        (d.collectorOn 1 = true → Output.datagram 1 (d.datagramBytes es) ∈ d'.out) ∧
        ∀ e ∈ es, d'.logEntry e.seq = some { e with due := false, sentNs := some d.ns }) ∧
      (d.anyCollector = false ∨ (d.mgmtUp 0 = false ∧ d.mgmtUp 1 = false) → d' = d)))

/-- Squirrel has turned to the superblocks for a purpose: both copies are asked of every enabled drive, and storage below the staging areas stands. -/
def SuperblocksAsked (d d' : Dev) (stage : SnapStage) : Prop :=
  d'.snap.stage = stage ∧ d'.snap.reqs = d.drives.map (fun n => ⟨n, 2, 0, 2, 0⟩) ∧
  (∀ n ∈ d.drives, d'.get (F.SNAP_DRIVE_LINK_STATE.nth n 32) = 2) ∧ ∀ x < 0x100200000000, Memory.byte d'.mem x = Memory.byte d.mem x

/-- Squirrel is in a state with a result and keeps nothing of what it was doing. -/
def SnapEnded (d' : Dev) (state result : Nat) : Prop :=
  d'.snapState = state ∧ d'.get F.SNAP_STATUS_RESULT = result ∧ d'.snap.stage = .none ∧ d'.snap.reqs = []

/-- R407, R422, R427, R428, R432, R433: ARM, DISARM, RESTORE and the buddy commands are refused with their result, or start with the superblocks; a served shard stands in the buddy window, and a newer shard of the group is kept. Where the spec leaves it open this rests on the model's log entries 69 and 72. -/
def Obligations.SquirrelArmsDisarmsRestoresAndServes : Prop :=
  ∀ (m : Master) (d : Dev),
    (d.power.mainUp = true →
      (d.armResult ≠ 0 → Does (.snapArm m) d (fun d' => d'.get F.SNAP_STATUS_RESULT = d.armResult ∧ d'.snapState = d.snapState ∧ d'.snap = d.snap ∧ d'.mem = d.mem)) ∧
      (d.armResult = 0 → Does (.snapArm m) d (fun d' => d'.get F.SNAP_STATUS_RESULT = 0 ∧ d'.snap.plan = d.readPlan ∧ SuperblocksAsked d d' .loadArm)) ∧
      (2 ≤ d.snapState ∨ d.snap.stage ≠ .none → Does (.snapDisarm m) d (fun d' => d'.get F.SNAP_STATUS_RESULT = 1 ∧ d'.snapState = d.snapState ∧ d'.snap = d.snap ∧ d'.mem = d.mem)) ∧
      (d.snapState < 2 → d.snap.stage = .none → Does (.snapDisarm m) d (fun d' => d'.get F.SNAP_STATUS_RESULT = 0 ∧ d'.snapState = 0 ∧
        d'.bit F.SNAP_STATUS_PENDING = false ∧ d'.reg F.SNAP_NEXT.base = 0 ∧ d'.get F.SNAP_STATUS_LIVE = d.get F.SNAP_STATUS_LIVE ∧ d'.snap = d.snap ∧ d'.mem = d.mem)) ∧
      (d.snapState ≠ 0 ∨ d.snap.stage ≠ .none ∨ d.schedState ≠ 0 ∨ d.failedChannels ≠ [] → Does (.snapRestore m) d (fun d' =>
        d'.get F.SNAP_STATUS_RESULT = 1 ∧ d'.snapState = d.snapState ∧ d'.snap = d.snap ∧ d'.mgmt = d.mgmt ∧ d'.mem = d.mem)) ∧
      (d.snapState = 0 → d.snap.stage = .none → d.schedState = 0 → d.failedChannels = [] → Does (.snapRestore m) d (fun d' =>
        d'.mgmt.interrupts = d.mgmt.interrupts ++ [d.ptpSec] ∧ (d.drivesOk = true → d'.snapState = 4 ∧ SuperblocksAsked d d' .loadRestore) ∧
        (d.drivesOk = false → SnapEnded d' 0 8 ∧ d'.mem = d.mem ∧ (d.buffered 10 0 < 4 → ∃ r, d'.reports = d.reports ++ [r] ∧ r.event = 0x01A4)))) ∧
      (2 ≤ d.snapState ∨ d.snap.stage ≠ .none → Does (.buddyServe m) d (fun d' => d'.get F.SNAP_STATUS_RESULT = 1 ∧ d'.mem = d.mem)) ∧
      (d.snapState < 2 → d.snap.stage = .none → Does (.buddyServe m) d (fun d' => d'.snap = d.snap ∧
        (SMap.find (d.get F.SNAP_BUDDY_SOURCE) d.snap.shards = none → d'.get F.SNAP_STATUS_RESULT = 11 ∧ d'.mem = d.mem) ∧
        (∀ x, SMap.find (d.get F.SNAP_BUDDY_SOURCE) d.snap.shards = some x → d'.get F.SNAP_STATUS_RESULT = 0 ∧
          d'.load d.buddyBase x.data.length = x.data ∧ BytesStand d d' d.buddyBase x.data.length))) ∧
      (d.snapState ≠ 0 ∨ d.snap.stage ≠ .none → Does (.buddyRestore m) d (fun d' => d'.get F.SNAP_STATUS_RESULT = 1 ∧ d'.snapState = d.snapState ∧ d'.snap = d.snap ∧ d'.mem = d.mem)) ∧
      (d.snapState = 0 → d.snap.stage = .none → Does (.buddyRestore m) d (fun d' =>
        (d.drivesOk = false → d'.get F.SNAP_STATUS_RESULT = 4 ∧ d'.snapState = 0 ∧ d'.snap = d.snap ∧ d'.mem = d.mem) ∧
        (d.drivesOk = true → d'.snapState = 5 ∧ SuperblocksAsked d d' .loadBuddy)))) ∧
    (∀ (sender : BitVec 10) (j : Fin 10) (step : Word) (data : List Byte),
      (d.bit F.SNAP_BUDDY_EN = false ∨ d.buddyIndex sender.toNat ≠ some j.val ∨ (∃ x, SMap.find sender.toNat d.snap.shards = some x ∧ step.toNat < x.step) →
        Does (.buddyShardStore sender j step data) d (fun d' => d' = d)) ∧
      (d.bit F.SNAP_BUDDY_EN = true → d.buddyIndex sender.toNat = some j.val → (∀ x, SMap.find sender.toNat d.snap.shards = some x → x.step ≤ step.toNat) →
        Does (.buddyShardStore sender j step data) d (fun d' => SMap.find sender.toNat d'.snap.shards = some ⟨step.toNat, j.val, data⟩ ∧
          d'.load d.buddyBase data.length = data ∧ BytesStand d d' d.buddyBase data.length ∧ Counted d d' F.SNAP_BUDDY_HELD)))

/-- R412 to R415, R425: proposals reach the master and are kept there; the timer sends the device's own; an announcement is taken by an armed device that has not passed its step and skipped by one that has; the master counts the outcomes and announces the next step. Where the spec leaves it open this rests on the model's log entry 73. -/
def Obligations.SnapshotStepsAreAgreed : Prop :=
  ∀ (n : Port) (f : CFlit) (d : Dev),
    let o := f.origin.toNat % 1024
    let t := cField f 0x18 8
    (∀ c k, (c = Instr.snapPropose n f ∧ d.noticeIn n 2 f = true) ∨ (c = Instr.snapDone n f ∧ d.noticeIn n 4 f = true) →
      d.isMaster = false → d.parentPort = some k → SMap.read 0 d.cSent k < 9 → Does c d (fun d' =>
        d'.out = d.out ++ [Output.cFlit k (hopped f)] ∧ d'.snap = d.snap ∧ d'.mem = d.mem)) ∧
    (d.noticeIn n 2 f = false → Does (.snapPropose n f) d (fun d' => d' = d)) ∧
    (d.noticeIn n 2 f = true → d.isMaster = true → Does (.snapPropose n f) d (fun d' =>
      SMap.find o d'.snap.proposals = some (cField f 0x14 4, d.beat) ∧ RegsStand d d' [regKey F.SNAP_INTERVAL.base 0 0] ∧ d'.mem = d.mem)) ∧
    (d.snapArmed = false → Does .snapProposeTimer d (fun d' => d' = d)) ∧
    (d.snapArmed = true → Does .snapProposeTimer d (fun d' => bitsOf (d'.reg F.SNAP_INTERVAL.base) 63 32 = min d.proposal (2 ^ 32 - 1) ∧
      d'.snap = d.snap ∧ d'.mem = d.mem ∧ d'.cells = d.cells ∧
      (∀ k, d.isMaster = false → d.parentPort = some k → SMap.read 0 d.cSent k < 9 → ∃ g, d'.out = d.out ++ [Output.cFlit k g] ∧ cField g 0x14 4 = min d.proposal (2 ^ 32 - 1)))) ∧
    (d.noticeIn n 3 f = false ∨ d.isMaster = true → Does (.snapStep n f) d (fun d' => d' = d)) ∧
    (d.noticeIn n 3 f = true → d.isMaster = false → Does (.snapStep n f) d (fun d' =>
      bitsOf (d'.reg F.SNAP_INTERVAL.base) 31 0 = cField f 0x14 4 ∧ d'.mem = d.mem ∧ d'.cells = d.cells ∧
      (t ≤ d.snap.acted → d'.snap.acted = d.snap.acted ∧ d'.bit F.SNAP_STATUS_PENDING = d.bit F.SNAP_STATUS_PENDING) ∧
      (d.snap.acted < t → d.snapState = 1 → d.step ≤ t → d'.reg F.SNAP_NEXT.base = t ∧ d'.bit F.SNAP_STATUS_PENDING = true ∧ d'.snap.acted = t) ∧
      (d.snap.acted < t → d.snapState = 2 ∨ d.snapState = 3 ∨ t < d.step → d'.snap.acted = t ∧ d'.snap.doneMsg = some (2, t) ∧
        Counted d d' F.SNAP_SKIPPED ∧ d'.bit F.SNAP_STATUS_PENDING = d.bit F.SNAP_STATUS_PENDING))) ∧
    (d.isMaster = false ∨ d.snap.announced = 0 ∨ d.snap.announced < d.step → Does .snapStepResend d (fun d' => d' = d)) ∧
    (d.isMaster = true → d.snap.announced ≠ 0 → d.step ≤ d.snap.announced → d.snap.announced < 2 ^ 64 → Does .snapStepResend d (fun d' => d'.snap = d.snap ∧ d'.mem = d.mem ∧
      ∀ k ∈ d.childPorts, SMap.read 0 d.cSent k < 9 → ∃ g, Output.cFlit k g ∈ d'.out ∧ cField g 0x18 8 = d.snap.announced)) ∧
    (d.noticeIn n 4 f = false ∨ (d.isMaster = true ∧ (t ≠ d.snap.announced ∨ o ∈ d.snap.doneFrom)) → Does (.snapDone n f) d (fun d' => d' = d)) ∧
    (d.noticeIn n 4 f = true → d.isMaster = true → t = d.snap.announced → d.snap.announced ≠ 0 → o ∉ d.snap.doneFrom →
      (d.snap.doneFrom.length + 1 < d.domainSize → Does (.snapDone n f) d (fun d' => d'.snap.doneFrom = d.snap.doneFrom ++ [o] ∧ d'.regs = d.regs ∧ d'.mem = d.mem)) ∧
      (∀ i, d.domainSize ≤ d.snap.doneFrom.length + 1 → d.domainInterval = some i → Does (.snapDone n f) d (fun d' =>
        d'.snap.announced = max (d.snap.announced + i) (d.step + 2) ∧ d'.mem = d.mem))) ∧
    (d.snap.doneMsg = none → Does .snapDoneResend d (fun d' => d' = d)) ∧
    (∀ st u k, d.snap.doneMsg = some (st, u) → d.isMaster = false → d.parentPort = some k → SMap.read 0 d.cSent k < 9 → st < 256 → u < 2 ^ 64 →
      Does .snapDoneResend d (fun d' => d'.snap = d.snap ∧ d'.mem = d.mem ∧
        ∃ g, d'.out = d.out ++ [Output.cFlit k g] ∧ cField g 0x12 1 = st ∧ cField g 0x18 8 = u)) ∧
    (d.isMaster = false ∨ d.snap.announced = 0 → Does .snapAnnounceTimeout d (fun d' => d' = d)) ∧
    (∀ i, d.isMaster = true → d.snap.announced ≠ 0 → d.domainInterval = some i → Does .snapAnnounceTimeout d (fun d' =>
      d'.snap.announced = max (d.snap.announced + i) (d.step + 2) ∧ d'.mem = d.mem))

/-- R416, R418, R426, R428 to R430: each piece of the drain is packed into the slot's space, and a segment ends with its digest; a queue that is not enabled or a full slot fails the snapshot; completions arm Squirrel and commit the snapshot, and an error or a timeout fails the drive and what Squirrel was doing; a segment of a restore reaches BASE0, and the last derives the position. Where the spec leaves it open this rests on the model's log entries 70 and 71. -/
def Obligations.SnapshotsDrainCommitFailAndRestore : Prop :=
  ∀ (d : Dev),
    (∀ (h : HubId) (w : SnapWork) (g : SnapSeg), d.snapState = 2 → d.snap.stage = .data → d.halted = false → d.snapServed h = true → d.hubWork h = some w →
      (segmentsOf d.snap.plan)[w.seg]? = some g →
      let n := min (2 ^ 22) (g.len - w.done)
      let bs := d.load (g.region.drained d.snap.buf + g.start + w.done) n
      let out := (packChunks (bitOf g.region.flags 0) 65 bs [] []).1
      (d.hubQueuesOk h = false → Does (.drainPiece h) d (fun d' => SnapEnded d' 1 9 ∧ Counted d d' F.SNAP_FAILED ∧ d'.snap.doneMsg = some (1, d.snap.t) ∧ d'.mem = d.mem)) ∧
      (d.hubQueuesOk h = true → d.slotBytes < d.snap.used + out.length → Does (.drainPiece h) d (fun d' => SnapEnded d' 1 6 ∧ Counted d d' F.SNAP_FAILED ∧
        d'.snap.doneMsg = some (1, d.snap.t))) ∧
      (d.hubQueuesOk h = true → d.snap.used + out.length ≤ d.slotBytes → Does (.drainPiece h) d (fun d' =>
        d'.snap.used = roundUp (d.snap.used + out.length) (2 ^ 20) ∧ d'.snap.space = padTo d.snap.used d.snap.space ++ out ∧
        d'.reg F.SNAP_BYTES_RAW.base = countUp (d.reg F.SNAP_BYTES_RAW.base) n % 2 ^ 64 ∧
        (w.done + n = g.len → SMap.find w.seg d'.snap.segs = some (shake256 (w.bytes ++ bs) 32)) ∧
        (w.done + n ≠ g.len → SMap.find h.val d'.snap.works = some ⟨w.seg, w.done + n, w.bytes ++ bs⟩) ∧
        (∃ rs, d'.snap.reqs = d.snap.reqs ++ rs) ∧ ∀ x < 0x100200000000, Memory.byte d'.mem x = Memory.byte d.mem x))) ∧
    (∀ h : HubId, d.snapState ≠ 2 ∨ d.snap.stage ≠ .data ∨ d.halted = true ∨ d.snapServed h = false ∨ d.hubWork h = none → Does (.drainPiece h) d (fun d' => d' = d)) ∧
    (∀ (dr : Fin 8) (cq : NvmeDone),
      (takeNvme dr cq.opcode.toNat d.snap.reqs = none → Does (.nvmeCompletion dr cq) d (fun d' => d' = d)) ∧
      (∀ r rest, takeNvme dr cq.opcode.toNat d.snap.reqs = some (r, rest) →
        (cq.status ≠ 0 → Does (.nvmeCompletion dr cq) d (fun d' => SnapEnded d' 0 5 ∧ d'.get (F.SNAP_DRIVE_LINK_STATE.nth dr 32) = 3 ∧
          Counted d d' F.SNAP_NVME_ERRORS ∧ d'.mem = d.mem ∧ (d.snapState = 2 ∨ d.snapState = 3 → Counted d d' F.SNAP_FAILED ∧ d'.snap.doneMsg = some (1, d.snap.t)))) ∧
        (cq.status = 0 → rest ≠ [] → Does (.nvmeCompletion dr cq) d (fun d' => d'.snap.reqs = rest ∧ d'.snap.stage = d.snap.stage ∧ d'.mem = d.mem ∧
          ((∀ x ∈ rest, x.drive ≠ dr.val) → d'.get (F.SNAP_DRIVE_LINK_STATE.nth dr 32) = 1) ∧
          (r.opcode = 2 → (d.snap.stage = .readManifest ∨ d.snap.stage = .readData) → SMap.find r.off d'.snap.read = some (padTo (4096 * r.blocks) cq.data)))) ∧
        (cq.status = 0 → rest = [] → d.snap.stage = .loadArm → d.sched.loaded = false → Does (.nvmeCompletion dr cq) d (fun d' =>
          d'.snapState = 1 ∧ d'.snap.stage = .none ∧ d'.mem = d.mem)) ∧
        (cq.status = 0 → rest = [] → d.snap.stage = .commit → d.snapState ≠ 5 → d.snap.t < 2 ^ 64 → Does (.nvmeCompletion dr cq) d (fun d' =>
          SnapEnded d' 1 0 ∧ d'.reg F.SNAP_LAST.base = d.snap.t ∧ Counted d d' F.SNAP_TAKEN ∧ d'.snap.doneMsg = some (0, d.snap.t) ∧ d'.mem = d.mem))) ∧
      ((∀ r ∈ d.snap.reqs, r.drive ≠ dr.val) → Does (.nvmeTimeout dr) d (fun d' => d' = d)) ∧
      ((∃ r ∈ d.snap.reqs, r.drive = dr.val) → Does (.nvmeTimeout dr) d (fun d' => SnapEnded d' 0 5 ∧ d'.get (F.SNAP_DRIVE_LINK_STATE.nth dr 32) = 3 ∧
        Counted d d' F.SNAP_NVME_ERRORS ∧ d'.mem = d.mem))) ∧
    (∀ g : Nat,
      (d.snapState ≠ 4 ∨ d.snap.stage ≠ .readData ∨ d.mf 0x58 4 ≤ g ∨ g ∈ d.snap.restored ∨ d.snap.reqs ≠ [] → Does (.restoreSegmentDone g) d (fun d' => d' = d)) ∧
      (d.snapState = 4 → d.snap.stage = .readData → g < d.mf 0x58 4 → g ∉ d.snap.restored → d.snap.reqs = [] → ∀ r s0 c0 p bs,
        ((List.range (d.mf 0x0C 2)).map d.mfRegion).find? (fun x => x.2.1 ≤ g && g < x.2.1 + ceilDiv x.1.len segSize) = some (r, s0, c0) →
        d.snap.plan.find? (fun x => x.id = r.id) = some p →
        d.segBytes (c0 + (g - s0) * (segSize / chunkSize)) (min segSize (r.len - (g - s0) * segSize)) (segSize / chunkSize) = some bs →
        Does (.restoreSegmentDone g) d (fun d' =>
          (shake256 bs 32 ≠ d.mfDigest g → SnapEnded d' 0 7) ∧
          (shake256 bs 32 = d.mfDigest g → d.snap.restored.length + 1 ≠ d.mf 0x58 4 → d'.snap.restored = d.snap.restored ++ [g] ∧ d'.snapState = 4 ∧
            d'.load (p.base0 + (g - s0) * segSize) bs.length = bs ∧ BytesStand d d' (p.base0 + (g - s0) * segSize) bs.length) ∧
          (shake256 bs 32 = d.mfDigest g → d.snap.restored.length + 1 = d.mf 0x58 4 → SnapEnded d' 0 0 ∧ d'.step = d.mf 0x10 8 ∧
            d'.get F.SNAP_STATUS_LIVE = 0 ∧ Counted d d' F.SNAP_RESTORES)))
    )

/-! ## Watchdogs, resets and Slolis's services -/

/-- R434, R435, R438, R439: the heartbeat advances and its absence resets the OS complex by ACTION; a context without progress faults and one parked long is recorded; kicks restart Slolis's timer, and an expiry resets or stops Slolis. R230, R440 to R448: each reset starts where its unit may be reset, is absorbed by one in progress, clears what its unit holds and ends with its counter. Where the spec leaves it open this rests on the model's log entries 63, 64, 65, 66 and 67. -/
def Obligations.WatchdogsAndResetsActOnTheirUnits : Prop :=
  ∀ (m : Master) (pc : Slot) (c : Ctx) (p : Part) (d : Dev),
    let absorbed := fun (d' : Dev) => Counted d d' F.WDOG_RST_ABSORBED ∧ d'.resets = d.resets ∧ d'.mem = d.mem ∧ d'.cells = d.cells
    let inPart := (List.range 4).map (fun k => 4 * p.val + k)
    (d.domOn pc = true → d.isFrozen pc = false → (d.ctx pc c).phase = .running → d.get F.WDOG_CFG_PROG_BEATS ≠ 0 →
      Does (.progressTimeout pc c) d (fun d' => FaultedAt d d' pc c ∧ Counted d d' F.WDOG_PROGRESS_FAULTS)) ∧
    (d.domOn pc = false ∨ d.isFrozen pc = true ∨ (d.ctx pc c).phase ≠ .running ∨ d.get F.WDOG_CFG_PROG_BEATS = 0 → Does (.progressTimeout pc c) d (fun d' => d' = d)) ∧
    (∀ beats, d.domOn pc = true → d.isFrozen pc = false → (d.ctx pc c).phase = .parked → d.get F.WDOG_CFG_PARK_BEATS ≠ 0 →
      (d.get F.WDOG_CFG_PARK_BEATS ≤ beats → Does (.parkLongTimeout pc c beats) d (fun d' => Counted d d' F.WDOG_PARK_LONG ∧ d'.mem = d.mem ∧ d'.cells = d.cells ∧
        (d.buffered 2 pc < 4 → ∃ r, d'.reports = d.reports ++ [r] ∧ r.event = 0x0206))) ∧
      (beats < d.get F.WDOG_CFG_PARK_BEATS → Does (.parkLongTimeout pc c beats) d (fun d' => d' = d))) ∧
    Does (.osHeartbeatWrite m) d (fun d' => d'.get F.WDOG_OS_HB_COUNT = (d.get F.WDOG_OS_HB_COUNT + 1) % 2 ^ 32 ∧ d'.mgmt.hbOn = true ∧ d'.mem = d.mem ∧ d'.cells = d.cells ∧
      (m = .slolis → d'.resets = d.resets) ∧ (m = .os → d'.resetting 2 0 = false ∧ (d.resetting 2 0 = true → Counted d d' F.WDOG_RST_OS))) ∧
    (d.slolisUp = false ∨ d.bit F.WDOG_OS_CFG_EN = false ∨ d.mgmt.hbOn = false → Does .osHbCheck d (fun d' => d' = d)) ∧
    (d.slolisUp = true → d.bit F.WDOG_OS_CFG_EN = true → d.mgmt.hbOn = true →
      (d.computeResetting = true ∨ d.get F.WDOG_OS_HB_COUNT ≠ d.mgmt.hbCount → Does .osHbCheck d (fun d' => d'.mgmt.hbCount = d.get F.WDOG_OS_HB_COUNT ∧
        d'.mgmt.hbNs = d.ns ∧ d'.regs = d.regs ∧ d'.mem = d.mem)) ∧
      (d.computeResetting = false → d.get F.WDOG_OS_HB_COUNT = d.mgmt.hbCount →
        ((d.ns - d.mgmt.hbNs) / 1000000 < d.get F.WDOG_OS_CFG_HB_MS → Does .osHbCheck d (fun d' => d' = d)) ∧
        (d.get F.WDOG_OS_CFG_HB_MS ≤ (d.ns - d.mgmt.hbNs) / 1000000 → Does .osHbCheck d (fun d' => Counted d d' F.WDOG_OS_MISSES ∧
          (d.get F.WDOG_OS_CFG_ACTION = 0 → d'.resets = d.resets ∧ d'.mem = d.mem) ∧
          (d.get F.WDOG_OS_CFG_ACTION = 1 → d.resetting 2 0 = false → d.mgmt.loaderOk = true → d'.resetting 2 0 = true ∧ d'.domOn 584 = true))))) ∧
    (m = .slolis → d.slolisUp = true → Does (.slolisKick m) d (fun d' => d'.mgmt.kickNs = d.ns ∧ d'.regs = d.regs ∧ d'.mem = d.mem)) ∧
    (m = .os ∨ d.slolisUp = false → Does (.slolisKick m) d (fun d' => d' = d)) ∧
    (d.slolisUp = false ∨ d.ns < d.mgmt.kickNs + 500000000 → Does .slolisTimerExpiry d (fun d' => d' = d)) ∧
    (d.slolisUp = true → d.mgmt.kickNs + 500000000 ≤ d.ns → d.resetting 1 0 = false →
      let n := (d.mgmt.expiries.filter (fun t => decide (d.ptpNs < t + 600000000000))).length + 1
      Does .slolisTimerExpiry d (fun d' => d'.get F.WDOG_SLOLIS_EXPIRIES_N = min 255 n ∧ Counted d d' F.WDOG_SLOLIS_EXPIRIES ∧ d'.slolisUp = false ∧
        d'.bit F.SEC_DEBUG_ACTIVE = false ∧ (4 ≤ n → d'.bit F.WDOG_SLOLIS_STOPPED = true ∧ d'.resets = d.resets) ∧ (n < 4 → d'.resetting 1 0 = true))) ∧
    Does (.rstSlolis .slolis) d (fun d' => d'.resets = d.resets ∧ d'.slolisUp = d.slolisUp ∧ d'.mem = d.mem ∧ d'.cells = d.cells ∧
      (d.buffered 9 0 < 4 → ∃ r, d'.reports = d.reports ++ [r] ∧ r.event = 0x0140)) ∧
    (d.bit F.WDOG_SLOLIS_STOPPED = true ∨ d.resetting 1 0 = true → Does (.rstSlolis .os) d absorbed) ∧
    (d.bit F.WDOG_SLOLIS_STOPPED = false → d.resetting 1 0 = false → Does (.rstSlolis .os) d (fun d' => d'.resetting 1 0 = true ∧ d'.slolisUp = false ∧
      d'.mgmt.quotes = [] ∧ d'.mgmt.taken = [] ∧ d'.mgmt.challenges = [] ∧ d'.bit F.MGMT_PTP_LOCKED = false ∧ d'.bit F.SEC_DEBUG_ACTIVE = false ∧
      d'.mem = d.mem ∧ d'.cells = d.cells)) ∧
    (d.power.mainUp = false → ∀ cmd ∈ [Instr.rstOs m, .rstPartition m p, .rstDevice m], Does cmd d (fun d' => d' = d)) ∧
    (d.power.mainUp = true →
      (d.resetting 2 0 = true → Does (.rstOs m) d absorbed) ∧
      (d.resetting 2 0 = false → Does (.rstOs m) d (fun d' => d'.osChans = [] ∧ d'.bit F.MBOX_CFG_EN = false ∧
        (d.mgmt.loaderOk = true → d'.resetting 2 0 = true ∧ d'.domOn 584 = true) ∧
        (d.mgmt.loaderOk = false → d'.resetting 2 0 = false ∧ d'.domOn 584 = false ∧ Counted d d' F.WDOG_RST_OS))) ∧
      (d.deviceResetting = true ∨ d.partResetting p = true → Does (.rstPartition m p) d absorbed) ∧
      (d.deviceResetting = false → d.partResetting p = false → Does (.rstPartition m p) d (fun d' => d'.partResetting p = true ∧
        d'.get F.DEV_CHAN_EPOCH_EPOCH = (d.get F.DEV_CHAN_EPOCH_EPOCH + 1) % 2 ^ 8 ∧ d'.get F.PART_MAP_GEN_GEN p = (d.get F.PART_MAP_GEN_GEN p + 1) % 2 ^ 32 ∧
        (∀ s ∈ partSlots p, d'.cell s = CellState.reset ∧ (d'.slotState s = 3 ∨ d'.slotState s = 5) ∧
          ∀ x < sliceSize, Memory.byte d'.mem (sliceBase s + x) = Memory.byte [] 0) ∧
        (∀ n ∈ inPart, d'.get F.FAR_STATUS_STATE n = 1) ∧ ∀ x < 0x100200000000, Memory.byte d'.mem x = Memory.byte d.mem x)) ∧
      (d.deviceResetting = true → Does (.rstDevice m) d absorbed)) ∧
    (∀ cmd, (cmd = Instr.rstDevice m ∧ d.power.mainUp = true) ∨ (cmd = Instr.resetEscalate ∧ ∃ r ∈ d.resets, r.unit = 3) → d.deviceResetting = false →
      Does cmd d (fun d' => d'.deviceResetting = true ∧ (∀ q, d'.partResetting q = false) ∧ d'.halted = true ∧ d'.cells = [] ∧ d'.schedState = 0 ∧
        d'.get F.WDOG_RST_STATUS_RESET_EPOCH = (d.get F.WDOG_RST_STATUS_RESET_EPOCH + 1) % 2 ^ 16 ∧
        d'.get F.DEV_CHAN_EPOCH_EPOCH = (d.get F.DEV_CHAN_EPOCH_EPOCH + 1) % 2 ^ 8 ∧
        (∀ k : Fin 32, d'.get F.FAR_STATUS_STATE k = 1) ∧ (∀ q : Part, d'.get F.PART_MAP_GEN_GEN q = 1) ∧
        (∀ x < 0x100000000000, Memory.byte d'.mem x = Memory.byte d.mem x) ∧ ∀ x, 0x100000000000 ≤ x → Memory.byte d'.mem x = Memory.byte [] x)) ∧
    ((∀ r ∈ d.resets, r.unit ≠ 3) → Does .resetEscalate d (fun d' => d' = d)) ∧
    (d.partResetting p = false ∨ d.resetGoes = false ∨ (∃ s ∈ partSlots p, d.slotState s = 3) ∨ (∃ n ∈ inPart, d.trained n = false) →
      Does (.partitionResetDone p) d (fun d' => d' = d)) ∧
    (d.partResetting p = true → d.resetGoes = true → (∀ s ∈ partSlots p, d.slotState s ≠ 3) → (∀ n ∈ inPart, d.trained n = true) →
      Does (.partitionResetDone p) d (fun d' => d'.partResetting p = false ∧ Counted d d' F.WDOG_RST_PART ∧ d'.mem = d.mem ∧ d'.cells = d.cells ∧
        d'.get F.PART_MAP_GEN_GEN p = (d.get F.PART_MAP_GEN_GEN p + 1) % 2 ^ 32 ∧
        ∀ s ∈ partSlots p, d.hosted s ≠ none → ∀ k < 64, d'.get F.CELL_CHAN_GEN_GEN s (k + 1) = d.get F.DEV_CHAN_EPOCH_EPOCH * 2 ^ 24)) ∧
    (d.deviceResetting = false ∨ d.resetGoes = false ∨ d.bit F.BADGER_STATUS_FIRST_LIGHT = false ∨ d.allTrained = false → Does .deviceResetDone d (fun d' => d' = d)) ∧
    (d.deviceResetting = true → d.resetGoes = true → d.bit F.BADGER_STATUS_FIRST_LIGHT = true → d.allTrained = true → Does .deviceResetDone d (fun d' =>
      d'.deviceResetting = false ∧ d'.halted = false ∧ Counted d d' F.WDOG_RST_DEV ∧ d'.mem = d.mem ∧ d'.cells = d.cells ∧
      ∀ k < 256, d'.get F.DEV_OSCH_GEN_GEN 0 (k + 1) = d.get F.DEV_CHAN_EPOCH_EPOCH * 2 ^ 24)) ∧
    (d.slolisUp = true ∨ d.resetting 1 0 = false → Does .slolisRestartDone d (fun d' => d' = d)) ∧
    (d.slolisUp = false → d.resetting 1 0 = true → (∀ r ∈ d.resets, r.unit ≤ 2) → d.fencePending = [] → d.resetWaits = false → d.power.mainUp = true →
      d.power.rising = false → Does .slolisRestartDone d (fun d' => d'.slolisUp = true ∧ d'.resetting 1 0 = false ∧ Counted d d' F.WDOG_RST_SLOLIS ∧
        d'.power.reqP = d.get F.SCHED_STRETCH_SYS_REQ ∧ d'.power.reqT = d.get F.SCHED_STRETCH_SYS_REQ ∧ d'.bit F.DEV_PWR_STATUS_MONITOR = false ∧ d'.mem = d.mem))

/-- R367, R379, R403, R441, R454, R455, R457, R461, R463, R466 to R469, R475: a Redfish action is counted and refused to a role without the right, or acts as the command of Slolis that it names; quotes, challenges, tokens, fences, policies and firmware images are taken or refused; the mailbox takes its slots in order and serves each operation; PTP locks and is lost, and management links change. Where the spec leaves it open this rests on the model's log entries 23, 24, 25 and 26. -/
def Obligations.SlolisServesItsRequests : Prop :=
  ∀ (role : Role) (m : Master) (d : Dev),
    let q := d.count F.MGMT_REDFISH_REQS
    (∀ (nonce : BitVec 256) (tok image : List Byte) (pc : Slot) (hold loader : Bool) (cap days : BitVec 16) (a : SchedAction) (b : SnapAction) (c : DomainAction) (e : ResetAction),
      ∀ cr ∈ [(Instr.attest role nonce, 0), (.debugChallenge role, 3), (.debugAuthorize role tok, 3), (.debugRevoke role, 3), (.clearFence role pc, 3),
        (.replacementPolicy role hold cap days, 1), (.scheduleAction role a, 2), (.snapshotAction role b, 2), (.domainAction role c, 2),
        (.systemResetAction role e, 1), (.firmwareUpdate role loader image, 1)],
      (d.slolisUp = false → Does cr.1 d (fun d' => d' = d)) ∧
      (d.slolisUp = true → roleHas role cr.2 = false → Does cr.1 d (fun d' => d' = q.answer (.http 403)))) ∧
    (d.slolisUp = true → roleHas role 0 = true → ∀ nonce : BitVec 256,
      (d.bit F.SEC_STATUS_PUF_OK = false ∨ d.quotesFull = true → Does (.attest role nonce) d (fun d' => d' = q.answer (.http 503))) ∧
      (d.bit F.SEC_STATUS_PUF_OK = true → d.quotesFull = false → Does (.attest role nonce) d (fun d' =>
        d'.mgmt.quotes = d.mgmt.quotes ++ [⟨leBytes 32 nonce.toNat, none⟩] ∧ d'.mem = d.mem ∧ d'.cells = d.cells))) ∧
    (d.slolisUp = false ∨ d.mgmt.quotes = [] → Does .quoteSigned d (fun d' => d' = d)) ∧
    (∀ r rs, d.slolisUp = true → d.mgmt.quotes = r :: rs → Does .quoteSigned d (fun d' => d'.mgmt.quotes = rs ∧ Counted d d' F.SEC_QUOTES ∧
      (r.mbox = none → d'.reply = .bytes (d.quote r.nonce) ∧ d'.mem = d.mem) ∧
      (∀ tag buf, r.mbox = some (tag, buf) → d.mboxUp = true → d'.load buf (d.quote r.nonce).length = d.quote r.nonce ∧
        BytesStand d d' buf (d.quote r.nonce).length))) ∧
    (d.slolisUp = true → roleHas role 3 = true →
      Does (.debugChallenge role) d (fun d' => ∃ bs, d'.reply = .bytes bs ∧ bs.length = 32 ∧ d'.outstanding bs = true ∧ d'.mgmt.challenges.length ≤ 4) ∧
      (∀ tok, Does (.debugAuthorize role tok) d (fun d' => d'.outstanding (blockBytes tok 0x28 32) = false ∧
        (d.tokenCheck tok = 0 → d'.reply = .value 0 ∧ d'.bit F.SEC_DEBUG_ACTIVE = true ∧ d'.get F.SEC_DEBUG_HOLDER = blockNat (tok.take tokenBody) 0x48 1 ∧
          d'.get F.SEC_DEBUG_SCOPE = blockNat (tok.take tokenBody) 0x49 1 ∧ Counted d d' F.SEC_DEBUG_GRANTS) ∧
        (d.tokenCheck tok ≠ 0 → d'.reply = .http 403 ∧ d'.reg F.SEC_DEBUG.base = d.reg F.SEC_DEBUG.base ∧ Counted d d' F.SEC_DEBUG_DENIED))) ∧
      Does (.debugRevoke role) d (fun d' => d'.bit F.SEC_DEBUG_ACTIVE = false ∧ d'.reply = .value 0 ∧ d'.mem = d.mem) ∧
      (∀ pc : Slot,
        (d.bit F.SEC_DEBUG_ACTIVE = true → bitOf (d.get F.SEC_DEBUG_SCOPE) 3 = true → Does (.clearFence role pc) d (fun d' => d'.reply = .value 0 ∧
          d'.mem = d.mem ∧ ∃ l, d'.defects = l ++ [⟨7, BitVec.ofNat 16 pc, 0, wOf d.ptpSec⟩])) ∧
        (d.bit F.SEC_DEBUG_ACTIVE = false ∨ bitOf (d.get F.SEC_DEBUG_SCOPE) 3 = false → Does (.clearFence role pc) d (fun d' => d' = q.answer (.http 403))))) ∧
    (∀ cmd ∈ [Instr.secDebugRevoke m, .debugGrantExpiry],
      (d.bit F.SEC_DEBUG_ACTIVE = false → Does cmd d (fun d' => d' = d)) ∧
      (d.bit F.SEC_DEBUG_ACTIVE = true → Does cmd d (fun d' => d'.reg F.SEC_DEBUG.base = 0 ∧ d'.mem = d.mem ∧ d'.cells = d.cells ∧
        (d.buffered 14 0 < 4 → ∃ r, d'.reports = d.reports ++ [r] ∧ r.event = 0x0215)))) ∧
    (d.slolisUp = true → roleHas role 1 = true →
      (∀ (hold : Bool) (cap days : BitVec 16), Does (.replacementPolicy role hold cap days) d (fun d' => d'.reply = .value 0 ∧ d'.bit F.BADGER_REQ_CFG_HOLD = hold ∧
        d'.get F.BADGER_REQ_CFG_CAP_MIN = cap.toNat ∧ d'.get F.BADGER_REQ_CFG_ADVISE_DAYS = days.toNat ∧ d'.mem = d.mem ∧ d'.cells = d.cells)) ∧
      (∀ (a : ResetAction) (d1 : Dev),
        exec (match a with | .osComplex => .rstOs .slolis | .partition p => .rstPartition .slolis p | .device => .rstDevice .slolis) ⟨q, []⟩ = .next ⟨d1, []⟩ →
        Does (.systemResetAction role a) d (fun d' => d' = d1.answer (.value 0))) ∧
      (∀ (loader : Bool) (image : List Byte),
        let k : Bank := ⟨(Config.bankParse image).1, (Config.bankParse image).2.1, (Config.bankParse image).2.2⟩
        let f := d.mgmt.flash
        (loader = false → Does (.firmwareUpdate role loader image) d (fun d' => fwBank d'.mgmt.flash (!f.fwActive) = k ∧
          fwBank d'.mgmt.flash f.fwActive = fwBank f f.fwActive ∧ d'.mem = d.mem ∧
          (sigCheck 1 k.sig (shake32 k.image) (k.keys.filter (fun x => Config.vendorKey x)) = 0 → d'.reply = .value 0 ∧ d'.mgmt.flash.fwTrial = some (!f.fwActive)) ∧
          (sigCheck 1 k.sig (shake32 k.image) (k.keys.filter (fun x => Config.vendorKey x)) ≠ 0 → d'.reply = .http 400 ∧ d'.mgmt.flash.fwTrial = f.fwTrial))) ∧
        (loader = true → Does (.firmwareUpdate role loader image) d (fun d' => ldrBank d'.mgmt.flash (!f.ldrActive) = k ∧
          ldrBank d'.mgmt.flash f.ldrActive = ldrBank f f.ldrActive ∧ d'.mem = d.mem)))) ∧
    (d.slolisUp = true → roleHas role 2 = true →
      (∀ (v : Word) (c : Instr) (d1 : Dev),
        (bitsOf v.toNat 2 0 = 1 ∧ c = .schedLoad .slolis (BitVec.ofNat 32 (bitsOf v.toNat 63 32))) ∨
          (bitsOf v.toNat 2 0 = 2 ∧ c = .schedResume .slolis (BitVec.ofNat 32 (bitsOf v.toNat 63 32))) ∨
          (bitsOf v.toNat 2 0 = 3 ∧ c = .holdCommand .slolis) ∨ (bitsOf v.toNat 2 0 = 4 ∧ c = .schedUnload .slolis) →
        exec c ⟨q, []⟩ = .next ⟨d1, []⟩ → Does (.scheduleAction role (.cmd v)) d (fun d' => d' = d1.answer (.value (d1.get F.SCHED_STATUS_RESULT)))) ∧
      (∀ v : Word, d.power.mainUp = true →
        Does (.scheduleAction role (.imageBase v)) d (fun d' => d'.get F.SCHED_IMAGE_BASE_BASE = bitsOf v.toNat 47 6 ∧ d'.mem = d.mem) ∧
        Does (.scheduleAction role (.resumePos v)) d (fun d' => d'.get F.SCHED_RESUME_POS_POS = bitsOf v.toNat 47 0 ∧ d'.mem = d.mem) ∧
        Does (.scheduleAction role (.resumeBeat v)) d (fun d' => d'.reg F.SCHED_RESUME_BEAT.base = v.toNat ∧ d'.mem = d.mem) ∧
        Does (.snapshotAction role (.mdom v)) d (fun d' => d'.get F.SNAP_MDOM_V = bitsOf v.toNat 31 0 ∧ d'.mem = d.mem) ∧
        Does (.snapshotAction role (.restoreSel v)) d (fun d' => d'.reg F.SNAP_RESTORE_SEL.base = v.toNat ∧ d'.mem = d.mem)) ∧
      (∀ (v : Word) (c : Instr) (d1 : Dev), (bitsOf v.toNat 2 0 = 2 ∧ c = .snapDisarm .slolis) ∨ (bitsOf v.toNat 2 0 = 3 ∧ c = .snapRestore .slolis) →
        exec c ⟨q, []⟩ = .next ⟨d1, []⟩ → Does (.snapshotAction role (.cmd v)) d (fun d' => d' = d1.answer (.value (d1.get F.SNAP_STATUS_RESULT)))) ∧
      (∀ v : Word, bitsOf v.toNat 2 0 ≠ 2 → bitsOf v.toNat 2 0 ≠ 3 → Does (.snapshotAction role (.cmd v)) d (fun d' => d' = q.answer (.http 400))) ∧
      (∀ (n : Port) (v : Word) (a : DomainAction) (c : Instr) (d1 : Dev),
        (a = .domainId v ∧ c = .domainIdentityWrite .slolis false v) ∨ (a = .domainShape v ∧ c = .domainIdentityWrite .slolis true v) ∨
          (a = .tlCfg n v ∧ bitOf v.toNat 63 = true ∧ c = .tlEnable .slolis n v) ∨ (a = .tlCfg n v ∧ bitOf v.toNat 63 = false ∧ c = .tlDisable .slolis n v) →
        exec c ⟨q, []⟩ = .next ⟨d1, []⟩ → Does (.domainAction role a) d (fun d' => d' = d1.answer (.value 0)))) ∧
    (∀ v : Word,
      (d.bit F.MBOX_CFG_EN = true ∨ bitOf v.toNat 63 = false → Does (.mboxEnable m v) d (fun d' => d' = d)) ∧
      (d.bit F.MBOX_CFG_EN = false → bitOf v.toNat 63 = true → Does (.mboxEnable m v) d (fun d' => d'.mem = d.mem ∧
        d'.get F.MBOX_CFG_BASE = bitsOf v.toNat 47 12 ∧ d'.get F.MBOX_CFG_SIZE = bitsOf v.toNat 59 56 ∧
        (d.mboxCfgOk v.toNat = true → d'.bit F.MBOX_CFG_EN = true ∧ d'.get F.MBOX_STATUS_NEXT = 0) ∧
        (d.mboxCfgOk v.toNat = false → d'.bit F.MBOX_CFG_EN = false ∧ d'.bit F.MBOX_STATUS_ERR = true)))) ∧
    (let next := d.get F.MBOX_STATUS_NEXT
     let a := d.get F.MBOX_CFG_BASE * 4096 + 64 * (next % 2 ^ d.get F.MBOX_CFG_SIZE)
     let op := d.loadNat (a + 4) 2
     (d.mboxUp = false ∨ d.loadNat a 4 ≠ next → Does .mboxPoll d (fun d' => d' = d)) ∧
     (d.mboxUp = true → d.loadNat a 4 = next → Does .mboxPoll d (fun d' => d'.get F.MBOX_STATUS_NEXT = (next + 1) % 2 ^ 32 ∧ Counted d d' F.MBOX_REQS ∧ d'.mem = d.mem ∧
       d'.mgmt.taken = if 1 ≤ op ∧ op ≤ 6 then d.mgmt.taken ++ [(op, d.loadNat (a + 8) 8)] else d.mgmt.taken))) ∧
    (∀ (tag addr : Word) (dig : BitVec 256) (len : Nat) (dom : BitVec 16) (on : Bool) (kind : BitVec 8),
      (d.mboxUp = false → ∀ cmd ∈ [Instr.extendMeas tag dig, .mboxAttest tag dig addr, .mboxDebugChallenge tag, .debugToken tag addr len, .powerReq tag dom on, .reportReq tag addr len kind],
        Does cmd d (fun d' => d' = d)) ∧
      (d.mboxUp = true →
        Does (.extendMeas tag dig) d (fun d' => d'.measReg 4 = shake32 (d.measReg 4 ++ leBytes 32 dig.toNat) ∧ (∀ i, i ≠ 4 → d'.measReg i = d.measReg i) ∧
          d'.mgmt.taken = d.mgmt.taken.erase (1, tag.toNat) ∧ d'.mem = d.mem) ∧
        (d.inCarve addr.toNat quoteSize = true → d.bit F.SEC_STATUS_PUF_OK = true → d.quotesFull = false → Does (.mboxAttest tag dig addr) d (fun d' =>
          d'.mgmt.quotes = d.mgmt.quotes ++ [⟨leBytes 32 dig.toNat, some (tag.toNat, addr.toNat)⟩] ∧ d'.mem = d.mem)) ∧
        (d.inCarve addr.toNat quoteSize = false ∨ d.bit F.SEC_STATUS_PUF_OK = false ∨ d.quotesFull = true → Does (.mboxAttest tag dig addr) d (fun d' =>
          d'.mgmt.quotes = d.mgmt.quotes ∧ d'.mem = d.mem)) ∧
        Does (.mboxDebugChallenge tag) d (fun d' => d'.mgmt.challenges.length ≤ 4 ∧ (∃ bs, bs.length = 32 ∧ d'.outstanding bs = true) ∧ d'.mem = d.mem) ∧
        Does (.debugToken tag addr len) d (fun d' => d'.mem = d.mem ∧
          (d.inCarve addr.toNat len = false → d'.reg F.SEC_DEBUG.base = d.reg F.SEC_DEBUG.base) ∧
          (d.inCarve addr.toNat len = true → d.tokenCheck (d.load addr.toNat len) = 0 → d'.bit F.SEC_DEBUG_ACTIVE = true ∧ Counted d d' F.SEC_DEBUG_GRANTS) ∧
          (d.inCarve addr.toNat len = true → d.tokenCheck (d.load addr.toNat len) ≠ 0 → d'.reg F.SEC_DEBUG.base = d.reg F.SEC_DEBUG.base ∧ Counted d d' F.SEC_DEBUG_DENIED)) ∧
        (dom.toNat ≤ 584 →
          (on = false → d.domOn dom.toNat = true → Does (.powerReq tag dom on) d (fun d' =>
            (d.domBusy dom.toNat = false → d'.domOn dom.toNat = false) ∧ (d.domBusy dom.toNat = true → d'.domOn dom.toNat = true ∧ d'.mem = d.mem ∧ d'.cells = d.cells))) ∧
          (on = true → d.domOn dom.toNat = false → dom.toNat ≠ 584 → Does (.powerReq tag dom on) d (fun d' =>
            d'.domOn dom.toNat = (d.power.mainUp && d.domEnabled dom.toNat && !(decide (dom.toNat < 544) && d.slotState dom.toNat = 5))))) ∧
        Does (.reportReq tag addr len kind) d (fun d' => d'.mem = d.mem ∧
          (d.inCarve addr.toNat len = true → Output.notice 7 [kind.toNat] (d.load addr.toNat len) ∈ d'.out)))) ∧
    (∀ (n : Fin 2) (t : Nat) (off : BitVec 32) (up : Bool),
      (d.slolisUp = false ∨ d.mgmtUp n = false → Does (.ptpLock n t off) d (fun d' => d' = d)) ∧
      (d.slolisUp = true → d.mgmtUp n = true → Does (.ptpLock n t off) d (fun d' => d'.ptpNs = t ∧ d'.bit F.MGMT_PTP_LOCKED = true ∧ d'.bit F.MGMT_PTP_EVER = true ∧
        d'.get F.MGMT_PTP_OFFSET = off.toNat ∧ d'.ptpPort = some n.val ∧ d'.mem = d.mem)) ∧
      (d.power.aonUp = false ∨ d.mgmtUp n = up → Does (.mgmtLinkChange n up) d (fun d' => d' = d)) ∧
      (d.power.aonUp = true → d.mgmtUp n ≠ up → Does (.mgmtLinkChange n up) d (fun d' => d'.mgmtUp n = up ∧ d'.mem = d.mem ∧ d'.cells = d.cells ∧
        (up = false → d.ptpPort = some n.val → d'.bit F.MGMT_PTP_LOCKED = false) ∧
        (up = true → d.buffered 15 0 < 4 → ∃ r, d'.reports = d.reports ++ [r] ∧ r.event = 0x021A)))) ∧
    (d.slolisUp = false ∨ d.bit F.MGMT_PTP_LOCKED = false → Does .ptpLoss d (fun d' => d' = d)) ∧
    (d.slolisUp = true → d.bit F.MGMT_PTP_LOCKED = true → Does .ptpLoss d (fun d' => d'.bit F.MGMT_PTP_LOCKED = false ∧ d'.ptpPort = none ∧
      Counted d d' F.MGMT_PTP_LOSSES ∧ d'.ptpBase = d.ptpBase ∧ d'.mem = d.mem)) ∧
    (d.mgmt.fwTrial = false ∨ d.slolisUp = false → Does .firmwareReady d (fun d' => d' = d)) ∧
    (d.mgmt.fwTrial = true → d.slolisUp = true → Does .firmwareReady d (fun d' => d'.mgmt.flash.fwActive = d.bit F.SEC_STATUS_FW_BANK ∧
      d'.mgmt.flash.fwTrial = none ∧ d'.mgmt.fwTrial = false ∧ d'.regs = d.regs ∧ d'.mem = d.mem))

/-! ## Power, and the ports of the OS complex -/

/-- Main power is off, and with it everything that switched domains, the mesh supply and far memory held (R487, R488, R493). -/
def MainOff (d' : Dev) : Prop :=
  d'.power.mainUp = false ∧ d'.cells = [] ∧ d'.mem = [] ∧ d'.power.offNs = none ∧ ∀ dom < 640, d'.domOn dom = false

/-- A FATAL record of an event has entered the log under the next SEQ. -/
def FatalLogged (d d' : Dev) (event : Nat) : Prop := ∃ e, d'.logEntry d.nextSeq = some e ∧ e.body.event = event ∧ e.body.sev = 4

/-- R458, R461, R483 to R494: the always-on rails start the ROM, which takes a bank or ends in RECOVERY; main power rises, fails, is retried, is lost or is switched off with its grace, and each loss clears what it held; a trip lasts to a power cycle; readings are published, requests for stretch follow the loop, and the device holds or freezes at its limits. Where the spec leaves it open this rests on the model's log entries 74, 75 and 76. -/
def Obligations.PowerRisesFallsAndIsControlled : Prop :=
  ∀ (m : Master) (d : Dev),
    (∀ f : FlashImage,
      let ok := fun (b : Bool) => sigCheck 1 (fwBank f b).sig (shake32 (fwBank f b).image) ((fwBank f b).keys.filter (fun x => Config.vendorKey x)) = 0
      (d.power.aonUp = true → Does (.powerOn f) d (fun d' => d' = d)) ∧
      (d.power.aonUp = false → f.fwTrial = none → Does (.powerOn f) d (fun d' => d'.power.aonUp = true ∧ d'.mem = [] ∧ d'.cells = [] ∧ d'.bit F.SEC_STATUS_PUF_OK = f.pufOk ∧
        (ok f.fwActive → d'.slolisUp = true ∧ d'.power.mainEn = true ∧ d'.power.rising = true ∧ d'.bit F.SEC_STATUS_FW_BANK = f.fwActive ∧ d'.get F.SEC_STATUS_STAGE = 1 ∧
          d'.measReg 0 = shake32 (List.replicate 32 0 ++ shake32 (fwBank f f.fwActive).image) ∧
          (f.torn = false → d'.defects = f.defectMap.takeWhile (fun e => 1 ≤ e.kind.toNat && e.kind.toNat ≤ 7))) ∧
        (¬ ok f.fwActive → ok (!f.fwActive) → d'.slolisUp = true ∧ d'.bit F.SEC_STATUS_FW_BANK = !f.fwActive ∧ d'.bit F.SEC_STATUS_FW_FALLBACK = true) ∧
        (¬ ok f.fwActive → ¬ ok (!f.fwActive) → d'.slolisUp = false ∧ d'.power.mainEn = false ∧ d'.get F.SEC_STATUS_STAGE = 15)))) ∧
    (d.power.mainEn = false ∨ d.power.mainUp = true → Does .mainPwrgdRise d (fun d' => d' = d)) ∧
    (d.power.mainEn = true → d.power.mainUp = false →
      (d.slolisUp = false → Does .mainPwrgdRise d (fun d' => d'.power.mainUp = true ∧ d'.regs = d.regs ∧ d'.mem = d.mem)) ∧
      (d.slolisUp = true → Does .mainPwrgdRise d (fun d' => d'.power.mainUp = true ∧ d'.cells = [] ∧ d'.get F.SEC_STATUS_STAGE = 2 ∧
        (∀ dom < 584, d'.domOn dom = d.domEnabled dom) ∧ (∀ k : Fin 32, d'.get F.FAR_STATUS_STATE k = 1) ∧ (∀ p : Part, d'.get F.PART_MAP_GEN_GEN p = 1) ∧
        (2 ≤ d.get F.SEC_STATUS_STAGE → d'.get F.WDOG_RST_STATUS_RESET_EPOCH = (d.get F.WDOG_RST_STATUS_RESET_EPOCH + 1) % 2 ^ 16) ∧
        (d.get F.SEC_STATUS_STAGE < 2 → d'.get F.WDOG_RST_STATUS_RESET_EPOCH = d.get F.WDOG_RST_STATUS_RESET_EPOCH)))) ∧
    (d.power.mainEn = false ∨ d.power.mainUp = true ∨ d.slolisUp = false → Does .mainPwrgdTimeout d (fun d' => d' = d)) ∧
    (d.power.mainEn = true → d.power.mainUp = false → d.slolisUp = true → Does .mainPwrgdTimeout d (fun d' =>
      d'.power.mainEn = false ∧ d'.power.attempts = d.power.attempts + 1 ∧ d'.power.rising = decide (d.power.attempts + 1 < 2) ∧
      d'.power.dead = decide (2 ≤ d.power.attempts + 1) ∧ (d.buffered 0 0 < 4 → ∃ r, d'.reports = d.reports ++ [r] ∧ r.event = 0x0223))) ∧
    (d.slolisUp = false ∨ d.power.rising = false ∨ d.power.mainEn = true ∨ d.power.dead = true ∨ d.power.offReq = true → Does .mainPowerRetry d (fun d' => d' = d)) ∧
    (d.slolisUp = true → d.power.rising = true → d.power.mainEn = false → d.power.dead = false → d.power.offReq = false →
      let recent := d.power.retries.filter (fun t => decide (d.ptpNs < t + 600000000000))
      (d.power.attempts ≠ 0 ∨ recent.length < 3 → Does .mainPowerRetry d (fun d' => d'.power.mainEn = true ∧ d'.power.dead = false ∧ d'.regs = d.regs ∧ d'.mem = d.mem ∧
        (d.power.attempts = 0 → d'.power.retries = recent ++ [d.ptpNs]))) ∧
      (d.power.attempts = 0 → 3 ≤ recent.length → Does .mainPowerRetry d (fun d' => d'.power.mainEn = false ∧ d'.power.dead = true ∧ d'.regs = d.regs ∧ d'.mem = d.mem))) ∧
    (d.power.mainEn = false ∨ d.power.mainUp = false → Does .mainPowerLoss d (fun d' => d' = d)) ∧
    (d.power.mainEn = true → d.power.mainUp = true → Does .mainPowerLoss d (fun d' => MainOff d' ∧ d'.power.mainEn = false ∧ d'.power.rising = true ∧ FatalLogged d d' 0x0223)) ∧
    (d.power.aonUp = false → Does .offRequest d (fun d' => d' = d)) ∧
    (d.power.aonUp = true →
      (d.power.mainUp = false ∨ d.power.rising = true ∨ d.power.offNs ≠ none → Does .offRequest d (fun d' => d' = { d with power := { d.power with offReq := true } })) ∧
      (d.power.mainUp = true → d.power.rising = false → d.power.offNs = none →
        (d.domOn 584 = false ∨ d.bit F.MBOX_CFG_EN = false → Does .offRequest d (fun d' => MainOff d' ∧ d'.power.mainEn = false ∧ d'.power.offReq = true)) ∧
        (d.domOn 584 = true → d.bit F.MBOX_CFG_EN = true → Does .offRequest d (fun d' => d'.power.mainUp = true ∧ d'.power.offNs = some d.ns ∧ d'.power.offReq = true ∧
          d'.bit F.DEV_PWR_STATUS_OFF_PENDING = true ∧ d'.mem = d.mem ∧ (∀ r ∈ d'.resets, r.unit < 3) ∧ (d.running = true → Counted d d' F.DEV_PWR_HOLDS))))) ∧
    (∀ cmd ∈ [Instr.offAck m, .offGraceTimeout],
      (d.power.offNs = none → Does cmd d (fun d' => d' = d)) ∧
      (d.power.offNs ≠ none → Does cmd d (fun d' => MainOff d' ∧ d'.power.mainEn = (d.slolisUp && d.power.aonUp && !d.power.dead && !d.power.offReq)))) ∧
    Does .offRelease d (fun d' => d'.power.offReq = false ∧ d'.regs = d.regs ∧ d'.mem = d.mem ∧ d'.cells = d.cells ∧
      (d.slolisUp = true → d.power.aonUp = true → d.power.mainUp = false → d.power.dead = false → d'.power.mainEn = true ∨ d.power.rising = true) ∧
      (d.power.mainUp = true → d'.power = { d.power with offReq := false })) ∧
    (∀ (t : Int) (dom : Nat),
      (t < 110 ∨ d.power.aonUp = false ∨ d.power.tripped = true → Does (.thermalTrip t dom) d (fun d' => d' = d)) ∧
      (110 ≤ t → d.power.aonUp = true → d.power.tripped = false → Does (.thermalTrip t dom) d (fun d' => MainOff d' ∧ d'.power.tripped = true ∧ d'.power.dead = true ∧
        FatalLogged d d' 0x0222))) ∧
    Does .alwaysOnPowerOff d (fun d' => d'.power = Power.reset ∧ d'.regs = Dev.reset.regs ∧ d'.mem = [] ∧ d'.cells = [] ∧ d'.slolisUp = false ∧
      d'.snap.shards = d.snap.shards ∧ d'.cycle = d.cycle) ∧
    (∀ r : SensorSample,
      (d.power.aonUp = false → Does (.powerMonitorSample r) d (fun d' => d' = d)) ∧
      (d.power.aonUp = true → Does (.powerMonitorSample r) d (fun d' => d'.get F.DEV_PWR_STATUS_PKG_W = min 65535 r.pkgW ∧ d'.get F.DEV_PWR_STATUS_PKG_AVG_W = min 65535 r.pkgAvgW ∧
        d'.bit F.DEV_PWR_STATUS_THROT_IN = r.throtLow ∧ d'.get F.DEV_PWR_STATUS_TJ_MAX = byteOf r.tjMax ∧ d'.mem = d.mem ∧ d'.cells = d.cells ∧
        (d.bit F.DEV_PWR_STATUS_MONITOR = true → d.power.mainUp = true →
          (d.get F.DEV_PWR_CFG_T_CTL : Int) ≤ r.tjMax ∨ d.get F.DEV_PWR_CFG_TDP_W < r.pkgW ∨ r.throtLow = true → d'.get F.SCHED_STRETCH_SYS_REQ = 64) ∧
        (d.bit F.DEV_PWR_STATUS_MONITOR = false → d'.get F.SCHED_STRETCH_SYS_REQ = d.get F.SCHED_STRETCH_SYS_REQ)))) ∧
    (d.slolisUp = false ∨ d.power.mainUp = false → Does .stretchControl d (fun d' => d' = d)) ∧
    (d.slolisUp = true → d.power.mainUp = true → d.power.reqP ≤ 64 → d.power.reqT ≤ 64 →
      let w := d.get F.DEV_PWR_STATUS_PKG_W
      let p := (d.power.powerRule w (d.get F.SCHED_STRETCH_CUR) (d.get F.DEV_PWR_CFG_PEAK_W) (d.get F.DEV_PWR_CFG_TDP_W)).thermalRule d.tjMax (d.get F.DEV_PWR_CFG_T_CTL)
      let req := if d.bit F.DEV_PWR_STATUS_THROT_IN then 64 else max p.reqP p.reqT
      Does .stretchControl d (fun d' => d'.get F.SCHED_STRETCH_SYS_REQ = req ∧ d'.power.reqP = p.reqP ∧ d'.power.reqT = p.reqT ∧ d'.mem = d.mem ∧ d'.cells = d.cells ∧
        (d.get F.DEV_PWR_CFG_PEAK_W < w → p.reqP = 64 ∧ Counted d d' F.DEV_PWR_PEAK_EVENTS) ∧ (16 < req → Counted d d' F.DEV_PWR_STRETCH_MS))) ∧
    (d.power.mainUp = true →
      (d.mustProtect = false ∨ d.bit F.DEV_PWR_STATUS_FREEZE = true ∨ d.sched.hold ≠ none → Does .thermalProtect d (fun d' => d' = d)) ∧
      (d.mustProtect = true → d.bit F.DEV_PWR_STATUS_FREEZE = false → d.sched.hold = none → 
        (d.suspects = [] → Does .thermalProtect d (fun d' => d'.bit F.DEV_PWR_STATUS_ALERT = true ∧ d'.mem = d.mem)) ∧
        (d.schedState = 2 ∨ d.schedState = 3 ∨ d.schedState = 5 → Does .thermalProtect d (fun d' => (∃ h, d'.sched.hold = some h ∧ h.cause = 10) ∧
          d'.schedState = d.schedState ∧ Counted d d' F.DEV_PWR_HOLDS ∧ d'.cells = d.cells)) ∧
        (d.schedState ≠ 2 → d.schedState ≠ 3 → d.schedState ≠ 5 → Does .thermalProtect d (fun d' => d'.bit F.DEV_PWR_STATUS_FREEZE = true ∧ Counted d d' F.DEV_PWR_FREEZES ∧
          ∀ pc ∈ d.hostedSlots, (d'.cell pc).freeze.thermal = true))) ∧
      (d.bit F.DEV_PWR_STATUS_FREEZE = false ∨ (d.get F.DEV_PWR_CFG_T_CTL : Int) - 10 < d.tjMax ∨ d.get F.DEV_PWR_CFG_TDP_W * 90 < d.get F.DEV_PWR_STATUS_PKG_AVG_W * 100 →
        Does .thermalFreezeExit d (fun d' => d' = d)) ∧
      (d.bit F.DEV_PWR_STATUS_FREEZE = true → d.tjMax ≤ (d.get F.DEV_PWR_CFG_T_CTL : Int) - 10 → d.get F.DEV_PWR_STATUS_PKG_AVG_W * 100 ≤ d.get F.DEV_PWR_CFG_TDP_W * 90 →
        Does .thermalFreezeExit d (fun d' => d'.bit F.DEV_PWR_STATUS_FREEZE = false ∧ ∀ pc : Slot, (d'.cell pc).freeze.thermal = false)))

/-- R468, R473, R474, R499 to R502: an inbound request reaches the carve-out or commons, an MSI, or an error; an outbound access reaches a root port's own space, the link or an error; links change; the transport registers answer, and frames take buffers or are dropped; the boundary-scan chain takes an instruction or BYPASS. Where the spec leaves it open this rests on the model's log entries 18, 19, 20, 21 and 22. -/
def Obligations.PortsOfTheOsComplexAnswer : Prop :=
  ∀ (n : Fin 4) (e : Fin 2) (m : Master) (d : Dev),
    let up := d.pcieOn n = true ∧ d.halted = false
    (¬ up → (∀ v, Does (.msiWrite n v) d (fun d' => d' = d)) ∧ ∀ r, Does (.pcieInboundRequest n r) d (fun d' => d' = d)) ∧
    (up → ∀ v : BitVec 32, Does (.msiWrite n v) d (fun d' => d'.mem = d.mem ∧ d'.cells = d.cells ∧
      (v.toNat < 256 → bitOf (d'.reg (F.PCIE_MSI_PEND.nth (v.toNat / 64)).base n) (v.toNat % 64) = true) ∧ (256 ≤ v.toNat → Counted d d' F.PCIE_UNCORRECTABLE n))) ∧
    (up → ∀ r : PcieReq,
      (r.memory = true → r.write = true → d.inboundMapped r.addr.toNat r.data.length = true → Does (.pcieInboundRequest n r) d (fun d' => d'.reply = d.reply ∧
        Deposited d d' r.addr.toNat r.data ∧ OnlyDeposited d d' r.addr.toNat r.data.length 0 0)) ∧
      (r.memory = true → r.write = false → d.inboundMapped r.addr.toNat r.len = true → Does (.pcieInboundRequest n r) d (fun d' => d'.mem = d.mem ∧
        ∀ t, (d.place false r.addr.toNat r.len).storage = some t → d'.reply = .bytes (d.load t r.len))) ∧
      (r.memory = false ∨ (d.inboundMapped r.addr.toNat (if r.write then r.data.length else r.len) = false ∧
          (r.write = false ∨ r.addr.toNat ≠ 0x3FFFFFFF000 ∨ r.data.length ≠ 4)) → Does (.pcieInboundRequest n r) d (fun d' => d'.reply = .addressFault ∧ Counted d d' F.PCIE_UNCORRECTABLE n ∧ d'.mem = d.mem))) ∧
    (∀ (who : Agent) (off : Nat) (write : Bool) (data : List Byte),
      let out := Output.pcie n write off data.length (if write then data else [])
      let mine := who = .os ∨ who = .slolis ∨ who = .squirrel
      (¬ mine ∨ ¬ up ∨ 2 ^ 42 < off + data.length ∨ (0x10000000 ≤ off ∧ 0x3FFFFFFF000 < off + data.length) → Does (.pcieOutboundRequest who n off write data) d (fun d' =>
        d' = d.answer .addressFault)) ∧
      (mine → up → (0x100000 ≤ off ∧ off < 0x10000000) ∨ (0x10000000 ≤ off ∧ off + data.length ≤ 0x3FFFFFFF000) → off + data.length ≤ 2 ^ 42 →
        Does (.pcieOutboundRequest who n off write data) d (fun d' => d'.out = d.out ++ [out] ∧ d'.mem = d.mem ∧ d'.regs = d.regs ∧
          (write = false → ∃ bs, d'.reply = .bytes bs ∧ bs.length = data.length))) ∧
      (mine → up → off < 4096 → off + data.length ≤ 4096 → write = false → Does (.pcieOutboundRequest who n off write data) d (fun d' =>
        d' = d.answer (.bytes ((List.range data.length).map (fun i => d.cfgByte (cfgKey n 0 (off + i))))))) ∧
      (∀ b : Byte, mine → up → off < 4096 → write = true → data = [b] → off ≠ 0x0E → aerStatus off = false → Does (.pcieOutboundRequest who n off write data) d (fun d' =>
        d'.cfgByte (cfgKey n 0 off) = (d.cfgByte (cfgKey n 0 off) &&& ~~~ Config.pcieWritable off) ||| (b &&& Config.pcieWritable off) ∧ d'.mem = d.mem ∧ d'.regs = d.regs)) ∧
      (mine → up → 0x10000 ≤ off → off < 0x100000 → off + data.length ≤ 2 ^ 42 → Does (.pcieOutboundRequest who n off write data) d (fun d' =>
        d' = if write then d else d.answer (.bytes (List.replicate data.length 0xFF))))) ∧
    (∀ (second lk : Bool) (rate width : BitVec 4),
      let st := if second then F.PCIE_STATUS_STATE1 else F.PCIE_STATUS_STATE0
      let rt := if second then F.PCIE_STATUS_RATE1 else F.PCIE_STATUS_RATE0
      let wd := if second then F.PCIE_STATUS_WIDTH1 else F.PCIE_STATUS_WIDTH0
      (d.pcieOn n = false ∨ (second = true ∧ d.bifur n = false) → Does (.pcieLinkChange n second lk rate width) d (fun d' => d' = d)) ∧
      (d.pcieOn n = true → second = false ∨ d.bifur n = true → Does (.pcieLinkChange n second lk rate width) d (fun d' => d'.mem = d.mem ∧
        (lk = true → d'.get st n = 3 ∧ d'.get rt n = rate.toNat ∧ d'.get wd n = width.toNat) ∧
        (lk = false → d'.get st n = 4 ∧ d'.get rt n = 0 ∧ d'.get wd n = 0 ∧ (d.get st n = 3 → Counted d d' F.PCIE_LINK_DOWNS n))))) ∧
    (∀ lk : Bool,
      (d.domOn (580 + e) = false ∨ d.bit F.ETH_STATUS_UP e = lk → Does (.frontEndLinkChange e lk) d (fun d' => d' = d)) ∧
      (d.domOn (580 + e) = true → d.bit F.ETH_STATUS_UP e ≠ lk → Does (.frontEndLinkChange e lk) d (fun d' => d'.bit F.ETH_STATUS_UP e = lk ∧
        d'.bit F.ETH_STATUS_FEC_LOCK e = lk ∧ d'.mem = d.mem ∧ (lk = false → Counted d d' F.ETH_LINK_DOWNS e)))) ∧
    (∀ frame : List Byte,
      (d.domOn (580 + e) = false ∨ d.bit F.ETH_STATUS_UP e = false ∨ d.halted = true → Does (.frontEndFrameRx e frame) d (fun d' => d' = d)) ∧
      (d.domOn (580 + e) = true → d.bit F.ETH_STATUS_UP e = true → d.halted = false →
        ((d.eth e).live = false ∨ ((d.eth e).queue 0).ready = false ∨ 9234 < frame.length → Does (.frontEndFrameRx e frame) d (fun d' =>
          Counted d d' F.ETH_RX_FRAMES e ∧ Counted d d' F.ETH_RX_DROPPED e ∧ d'.mem = d.mem ∧ d'.eths = d.eths)) ∧
        (∀ cs, (d.eth e).live = true → ((d.eth e).queue 0).ready = true → frame.length ≤ 9234 → d.queueOk ((d.eth e).queue 0) = true →
          d.rxChains ((d.eth e).queue 0) ((d.eth e).has 15) ((d.eth e).queue 0).num 0 (12 + frame.length) = some (some cs) → Does (.frontEndFrameRx e frame) d (fun d' =>
            Counted d d' F.ETH_RX_FRAMES e ∧ d'.reg F.ETH_RX_DROPPED.base e = d.reg F.ETH_RX_DROPPED.base e ∧
            ((d'.eth e).queue 0).used = (((d.eth e).queue 0).used + cs.length) % 65536 ∧ ((d'.eth e).queue 0).seen = (((d.eth e).queue 0).seen + cs.length) % 65536)))) ∧
    (∀ (off : Nat) (write : Bool) (v : Word),
      (off % 8 ≠ 0 → Does (.virtioNetAccess m e off write v) d (fun d' => d' = d.answer .addressFault)) ∧
      (off % 8 = 0 → d.domOn (580 + e) = false ∨ 0x800 ≤ off → Does (.virtioNetAccess m e off write v) d (fun d' => d' = if write then d else d.answer (.value 0))) ∧
      (off % 8 = 0 → off < 0x800 → d.domOn (580 + e) = true →
        (write = false → Does (.virtioNetAccess m e off write v) d (fun d' => d' = d.answer (.value (d.virtioRead e (off / 2))))) ∧
        (write = true → off = 0xE0 → v.toNat % 2 ^ 32 = 0 → Does (.virtioNetAccess m e off write v) d (fun d' =>
          d'.eth e = { EthState.reset with configGen := (d.eth e).configGen } ∧ d'.regs = d.regs ∧ d'.mem = d.mem)) ∧
        (write = true → off = 0x60 → Does (.virtioNetAccess m e off write v) d (fun d' => (d'.eth e).queueSel = v.toNat % 2 ^ 32 ∧ d'.regs = d.regs ∧ d'.mem = d.mem)) ∧
        (write = true → off = 0xC8 → Does (.virtioNetAccess m e off write v) d (fun d' =>
          (d'.eth e).intStatus = (d.eth e).intStatus &&& (2 ^ 32 - 1 - v.toNat % 2 ^ 32) ∧ d'.regs = d.regs ∧ d'.mem = d.mem)))) ∧
    (∀ ir : JtagInstr, Does (.jtagInstruction ir) d (fun d' => { d' with jtag := d.jtag } = d ∧
      (ir = .extest → d'.jtag = if d.domOn 584 then d.jtag else .extest) ∧
      (∀ code, ir = .privateInstr code → d'.jtag =
        if d.bit F.SEC_DEBUG_ACTIVE ∧ d.get F.SEC_DEBUG_HOLDER = 2 ∧ bitOf (d.get F.SEC_DEBUG_SCOPE) 2 then ir else .bypass) ∧
      (ir = .bypass ∨ ir = .samplePreload ∨ ir = .idcode → d'.jtag = ir)))

/-! ## Control space and the domains -/

/-- The address of a register of control space (Table 00-4). -/
def ctlAddr (cls inst off : Nat) : Nat := 0x180000000000 + cls * 2 ^ 24 + inst * 2 ^ 12 + off

/-- The command that a write of a command register stands for: class, instance, offset and value written (R12, and the tables of these registers). -/
def CommandWrite (m : Master) (cls inst off v : Nat) (c : Instr) : Prop :=
  (∃ pc : Slot, cls = 2 ∧ inst = pc.val ∧ ((off = 0x060 ∧ v = 0x200 ∧ c = .ctxKill m pc 0) ∨ (off = 0x728 ∧ v = 1 ∧ c = .chanOpen m pc) ∨
    (off = 0x728 ∧ v = 3 ∧ c = .sepBind m pc))) ∨
  (cls = 0 ∧ inst = 0 ∧ ((off = 0x420 ∧ v = 1 ∧ c = .winOpen m 0) ∨ (off = 0x810 ∧ v = 1 ∧ c = .oschOpen m))) ∨
  (∃ n : Port, cls = 6 ∧ inst = n.val ∧ off = 0x020 ∧ v = 1 ∧ c = .tlRetrain m n) ∨ (cls = 7 ∧ inst = 0 ∧ off = 0x008 ∧ v = 4 ∧ c = .schedUnload m) ∨
  (cls = 8 ∧ inst = 0 ∧ off = 0x038 ∧ ((∃ lc : Lc, v = lc * 2 ^ 16 + 1 ∧ c = .badgerSuspect m lc) ∨ ∃ pc : Slot, v = pc * 2 ^ 16 + 2 ∧ c = .badgerFence m pc)) ∨
  (cls = 9 ∧ inst = 0 ∧ off = 0x020 ∧ ((∃ p : Part, v = p * 2 ^ 8 + 3 ∧ c = .rstPartition m p) ∨ (v = 4 ∧ c = .rstDevice m))) ∨
  (cls = 10 ∧ inst = 0 ∧ off = 0x008 ∧ ((v = 1 ∧ c = .snapArm m) ∨ (v = 3 ∧ c = .snapRestore m)))

/-- R9, R12, R15, R497: an access that control space does not decode has an address fault, one to an absent or unpowered block reads zero and writes nothing; a plain write changes its register by its access codes alone, a command register's write is that command, and a wide value is latched whole. Where the spec leaves it open this rests on the model's log entries 78 and 81. -/
def Obligations.RegistersAreWrittenAndReadByTheirCodes : Prop :=
  ∀ (m : Master) (addr v : Word) (size : Nat) (d : Dev),
    (size ≠ 8 ∨ addr.toNat % 8 ≠ 0 ∨ addr.toNat < 0x180000000000 ∨ 0x180010000000 ≤ addr.toNat →
      Does (.registerWrite m addr size v) d (fun d' => d' = d.answer .addressFault) ∧ Does (.wideValueRead m addr size) d (fun d' => d' = d.answer .addressFault)) ∧
    (∀ cls inst off, size = 8 → off % 8 = 0 → cls < 16 → inst < 4096 → off < 4096 → addr.toNat = ctlAddr cls inst off →
      let base := cls * 2 ^ 24 + off
      (instAbsent cls inst = true ∨ d.blockOn cls inst off = false →
        Does (.registerWrite m addr size v) d (fun d' => d' = d.answer .none) ∧ Does (.wideValueRead m addr size) d (fun d' => d' = d.answer (.value 0))) ∧
      (instAbsent cls inst = false → d.blockOn cls inst off = true →
        (∀ r, cls ∈ [1, 3, 5, 11, 13] → findReg cls inst off = some r → r.bank = .none → Does (.registerWrite m addr size v) d (fun d' =>
          d'.reg base inst = maskWrite (r.rw &&& (2 ^ 64 - 1 - r.dbg)) r.w1c (d.reg base inst) v.toNat ∧ RegsStand d d' [regKey base inst 0] ∧
          d'.mem = d.mem ∧ d'.cells = d.cells)) ∧
        (∀ c d1, CommandWrite m cls inst off v.toNat c → exec c ⟨d.answer .none, []⟩ = .next ⟨d1, []⟩ →
          Does (.registerWrite m addr size v) d (fun d' => d' = d1)) ∧
        (∀ r, cls ∈ [1, 3, 5, 11] → findReg cls inst off = some r → r.bank = .none → Does (.wideValueRead m addr size) d (fun d' =>
          d' = d.answer (.value (d.reg base inst)))) ∧
        (∀ e, cls = 13 → off = 0x020 → d.logEntry (d.get F.FLOG_READ_SEL_SEQ) = some e → Does (.wideValueRead m addr size) d (fun d' =>
          d'.reply = .value (leNat (e.bytes.take 8)) ∧ d'.regs = d.regs ∧ d'.mem = d.mem ∧
          ∀ k < 8, SMap.read 0 d'.latch (regKey (base + 8 * k) inst 0) = wOf (leNat ((e.bytes.drop (8 * k)).take 8)))) ∧
        (cls = 13 → 0x020 < off → off < 0x060 → Does (.wideValueRead m addr size) d (fun d' =>
          d' = d.answer (.value (SMap.read 0 d.latch (regKey base inst 0)).toNat)))))

/-- The rows of the distance table stand at `b` as the mapping gives them, under an odd GEN, and nothing else has changed in storage (R37 to R40). -/
def DistRowsWritten (d d' : Dev) (b : Nat) : Prop :=
  d'.distRun = some b ∧ d'.load b 4 = leBytes 4 (d.get F.DEV_DIST_GEN_GEN + 1) ∧ (∀ lc : Lc, d'.load (b + 0x80 + 128 * lc) 128 = d.distRow lc) ∧
  (∀ x, x < b ∨ (b + 4 ≤ x ∧ x < b + 0x80) ∨ b + distSize ≤ x → Memory.byte d'.mem x = Memory.byte d.mem x) ∧ d'.distSeen = d.mapGens

/-- R37 to R42, R49 to R51, R480, R481: the distance table is checked, written and completed; an island out of its clock band is recorded and returns; Slolis switches a domain on or off unless it must refuse, and a regulator's fault costs a cell its slot and any other domain the device. Where the spec leaves it open this rests on the model's log entries 75, 77 and 79. -/
def Obligations.DistancesBandsAndDomainsFollowTheirRules : Prop :=
  ∀ (m : Master) (v : Word) (i : Island) (dom : Fin 585) (d : Dev),
    let start := (d.distRun = none ∧ d.deviceResetting = false ∧ d.get F.DEV_FAR_SIZE_SIZE ≠ 0)
    (d.power.mainUp = true →
      (bitOf v.toNat 63 = false → Does (.distBaseWrite m v) d (fun d' => d'.bit F.DEV_DIST_BASE_EN = false ∧ d'.mem = d.mem ∧ d'.distRun = d.distRun)) ∧
      (bitOf v.toNat 63 = true → d.inCarve (bitsOf v.toNat 47 12 * 4096) distSize = false → Does (.distBaseWrite m v) d (fun d' =>
        d'.bit F.DEV_DIST_BASE_ERR = true ∧ d'.distBad = true ∧ d'.mem = d.mem ∧ d'.distRun = d.distRun)) ∧
      (bitOf v.toNat 63 = true → d.inCarve (bitsOf v.toNat 47 12 * 4096) distSize = true → start → Does (.distBaseWrite m v) d (fun d' =>
        d'.bit F.DEV_DIST_BASE_ERR = (d.bit F.DEV_DIST_BASE_ERR && !bitOf v.toNat 1) ∧ d'.distBad = false ∧ d'.get F.DEV_DIST_BASE_BASE = bitsOf v.toNat 47 12 ∧ DistRowsWritten d d' (bitsOf v.toNat 47 12 * 4096))) ∧
      (d.bit F.DEV_DIST_BASE_EN = false ∨ d.distDue = false ∨ d.distBad = true ∨ ¬ start → Does .distUpdateStart d (fun d' => d' = d)) ∧
      (d.bit F.DEV_DIST_BASE_EN = true → d.distDue = true → d.distBad = false → start →
        (d.inCarve d.distBase distSize = true → Does .distUpdateStart d (fun d' => DistRowsWritten d d' d.distBase)) ∧
        (d.inCarve d.distBase distSize = false → Does .distUpdateStart d (fun d' => d'.bit F.DEV_DIST_BASE_ERR = true ∧ d'.mem = d.mem))) ∧
      (d.distRun = none → Does .distUpdateEnd d (fun d' => d' = d)) ∧
      (∀ b, d.distRun = some b → d.distDue = false → Does .distUpdateEnd d (fun d' => d'.distRun = none ∧ d'.load b 4 = leBytes 4 (d.get F.DEV_DIST_GEN_GEN + 1) ∧
        d'.load (b + 4) 8 = leBytes 2 1 ++ leBytes 2 128 ++ leBytes 2 28 ++ leBytes 2 4 ∧ d'.load (b + 0x10) 8 = leBytes 8 d.beat ∧ BytesStand d d' b 0x80))) ∧
    (d.islandOn i = false ∨ d.islandOut i = true → ∀ k, Does (.clockBandExit i k) d (fun d' => d' = d)) ∧
    (d.islandOn i = true → d.islandOut i = false → ∀ k, Does (.clockBandExit i k) d (fun d' => d'.bandOut = d.bandOut ++ [i] ∧
      ((∀ pc, i ≠ .cell pc) → d'.mem = d.mem ∧ d'.cells = d.cells ∧ d'.suspects = d.suspects ∧
        (d.buffered (islandBlock i).1 (islandBlock i).2 < 4 → ∃ r, d'.reports = d.reports ++ [r] ∧ r.event = 0x0190)) ∧
      (∀ pc lc, i = .cell pc → d.hosted pc = some lc → d.migrating lc = false → d.rowBusy (rowOf pc) = true → lc ∉ d.suspects → d'.suspects = d.suspects ++ [lc]))) ∧
    Does (.clockBandReturn i) d (fun d' => (∀ x, x ∈ d'.bandOut ↔ x ∈ d.bandOut ∧ x ≠ i) ∧ d'.regs = d.regs ∧ d'.mem = d.mem ∧ d'.cells = d.cells) ∧
    (d.slolisUp = false ∨ d.domOn dom = true → Does (.domainSwitchOn dom) d (fun d' => d' = d)) ∧
    (d.slolisUp = true → d.domOn dom = false →
      let may := d.power.mainUp = true ∧ (dom.val = 584 ∨ d.domEnabled dom = true) ∧ (544 ≤ dom.val ∨ d.slotState dom ≠ 5)
      (¬ may → Does (.domainSwitchOn dom) d (fun d' => d' = d)) ∧
      (may → dom.val ≠ 584 ∨ d.mgmt.loaderOk = true → Does (.domainSwitchOn dom) d (fun d' => d'.domOn dom = true)) ∧
      (may → 572 ≤ dom.val → dom.val < 580 → Does (.domainSwitchOn dom) d (fun d' => ∀ k < 4, d'.get F.FAR_STATUS_STATE (4 * (dom.val - 572) + k) = 1))) ∧
    (d.slolisUp = false ∨ d.domOn dom = false → Does (.domainSwitchOff dom) d (fun d' => d' = d)) ∧
    (d.slolisUp = true → d.domOn dom = true →
      (d.domBusy dom = true → Does (.domainSwitchOff dom) d (fun d' => d'.domOn dom = true ∧ d'.mem = d.mem ∧ d'.cells = d.cells ∧
          (d.buffered 0 0 < 4 → ∃ r, d'.reports = d.reports ++ [r] ∧ r.event = 0x0191))) ∧
      (d.domBusy dom = false → Does (.domainSwitchOff dom) d (fun d' => d'.domOn dom = false ∧
        (dom.val < 544 → d'.cell dom = CellState.reset ∧ (∀ x < sliceSize, Memory.byte d'.mem (sliceBase dom + x) = Memory.byte [] 0) ∧ BytesStand d d' (sliceBase dom) sliceSize) ∧
        (544 ≤ dom.val → dom.val < 560 → ∀ x, 0x100200000000 + (dom.val - 544) * 2 ^ 25 ≤ x → x < 0x100200000000 + (dom.val - 543) * 2 ^ 25 →
          Memory.byte d'.mem x = Memory.byte [] x)))) ∧
    (∀ oor,
      (d.domOn dom = false → Does (.domainRegulatorFault dom oor) d (fun d' => d' = d)) ∧
      (d.domOn dom = true → dom.val < 544 → Does (.domainRegulatorFault dom oor) d (fun d' => d'.domOn dom = false ∧ d'.deviceResetting = d.deviceResetting ∧
        (d.hosted dom = none → (∀ g ∈ d.migrations, g.dst ≠ dom.val) → d'.slotState dom = (if d.slotState dom = 5 then 5 else 2) ∧
          (d.buffered 0 0 < 4 → ∃ r, d'.reports = d.reports ++ [r] ∧ r.event = 0x0225)))) ∧
      (d.domOn dom = true → 544 ≤ dom.val → d.deviceResetting = false → Does (.domainRegulatorFault dom oor) d (fun d' =>
        d'.deviceResetting = true ∧ d'.halted = true ∧ d'.cells = [])) ∧
      (d.domOn dom = true → 544 ≤ dom.val → d.deviceResetting = true → Does (.domainRegulatorFault dom oor) d (fun d' => Counted d d' F.WDOG_RST_ABSORBED ∧ d'.domOn dom = false)))
end

