-- ==== Sys2Proof/Laws/SMap.lean ====
section
/-! SUPPORT. What sparse maps and memory do: a read after a write, and the canonical form that every operation keeps. -/

namespace Sys2Proof.Machine

/-! ## Reading -/

theorem SMap.find_insert_same {α : Type} (k : Nat) (v : α) (m : SMap α) : SMap.find k (SMap.insert k v m) = some v := by
  induction m with
  | nil => simp [SMap.insert, SMap.find]
  | cons e m ih =>
    obtain ⟨k', v'⟩ := e
    simp only [SMap.insert]
    split
    · simp [SMap.find]
    · split
      · simp [SMap.find]
      · rename_i h
        simp [SMap.find, ih, Ne.symm h]

theorem SMap.find_insert_other {α : Type} {k k' : Nat} (h : k' ≠ k) (v : α) (m : SMap α) :
    SMap.find k' (SMap.insert k v m) = SMap.find k' m := by
  induction m with
  | nil => simp [SMap.insert, SMap.find, h.symm]
  | cons e m ih =>
    obtain ⟨j, w⟩ := e
    simp only [SMap.insert]
    split
    · simp [SMap.find, h.symm]
    · split
      · rename_i hk; subst hk; simp [SMap.find, h.symm]
      · simp [SMap.find, ih]

theorem SMap.find_erase_other {α : Type} {k k' : Nat} (h : k' ≠ k) (m : SMap α) : SMap.find k' (SMap.erase k m) = SMap.find k' m := by
  induction m with
  | nil => rfl
  | cons e m ih =>
    obtain ⟨j, w⟩ := e
    simp only [SMap.erase]
    split
    · rename_i hj; subst hj; simp [SMap.find, h.symm, ih]
    · simp [SMap.find, ih]

theorem SMap.find_erase_same {α : Type} (k : Nat) (m : SMap α) : SMap.find k (SMap.erase k m) = none := by
  induction m with
  | nil => rfl
  | cons e m ih =>
    obtain ⟨j, w⟩ := e
    simp only [SMap.erase]
    split
    · exact ih
    · rename_i hj; simp [SMap.find, hj, ih]

/-- A read of another key is as before a write. -/
theorem SMap.read_write_other {α : Type} [DecidableEq α] {k k' : Nat} (h : k' ≠ k) (d d' v : α) (m : SMap α) :
    SMap.read d' (SMap.write d m k v) k' = SMap.read d' m k' := by
  unfold SMap.read SMap.write
  split
  · rw [SMap.find_erase_other h]
  · rw [SMap.find_insert_other h]

/-- A read of the written key gives the written value. -/
theorem SMap.read_write_same {α : Type} [DecidableEq α] (m : SMap α) (k : Nat) (d v : α) :
    SMap.read d (SMap.write d m k v) k = v := by
  unfold SMap.read SMap.write
  split
  · rename_i hv; rw [SMap.find_erase_same k m]; simp [hv]
  · rw [SMap.find_insert_same]; rfl

/-! ## Canonical form -/

theorem SMap.okFrom_weaken {α : Type} [DecidableEq α] {dflt : Nat → α} (m : SMap α) {lo lo' : Nat} (h : SMap.okFrom dflt lo m = true)
    (hl : lo' ≤ lo) : SMap.okFrom dflt lo' m = true := by
  cases m with
  | nil => rfl
  | cons e m =>
    obtain ⟨j, w⟩ := e
    simp only [SMap.okFrom, Bool.and_eq_true, decide_eq_true_eq] at h ⊢
    exact ⟨⟨by omega, h.1.2⟩, h.2⟩

theorem SMap.okFrom_insert {α : Type} [DecidableEq α] {dflt : Nat → α} (m : SMap α) {lo k : Nat} {v : α}
    (h : SMap.okFrom dflt lo m = true) (hk : lo ≤ k) (hv : v ≠ dflt k) : SMap.okFrom dflt lo (SMap.insert k v m) = true := by
  induction m generalizing lo with
  | nil => simp [SMap.insert, SMap.okFrom, hk, hv]
  | cons e m ih =>
    obtain ⟨j, w⟩ := e
    simp only [SMap.okFrom, Bool.and_eq_true, decide_eq_true_eq] at h
    simp only [SMap.insert]
    split
    · simp only [SMap.okFrom, Bool.and_eq_true, decide_eq_true_eq]
      exact ⟨⟨hk, hv⟩, ⟨⟨by omega, h.1.2⟩, h.2⟩⟩
    · split
      · rename_i hj; subst hj
        simp only [SMap.okFrom, Bool.and_eq_true, decide_eq_true_eq]
        exact ⟨⟨hk, hv⟩, h.2⟩
      · simp only [SMap.okFrom, Bool.and_eq_true, decide_eq_true_eq]
        exact ⟨h.1, ih h.2 (by omega)⟩

theorem SMap.okFrom_erase {α : Type} [DecidableEq α] {dflt : Nat → α} (m : SMap α) {lo : Nat} (k : Nat)
    (h : SMap.okFrom dflt lo m = true) : SMap.okFrom dflt lo (SMap.erase k m) = true := by
  induction m generalizing lo with
  | nil => rfl
  | cons e m ih =>
    obtain ⟨j, w⟩ := e
    simp only [SMap.okFrom, Bool.and_eq_true, decide_eq_true_eq] at h
    simp only [SMap.erase]
    split
    · exact SMap.okFrom_weaken _ (ih h.2) (by omega)
    · simp only [SMap.okFrom, Bool.and_eq_true, decide_eq_true_eq]
      exact ⟨h.1, ih h.2⟩

/-- A write keeps the canonical form. -/
theorem SMap.ok_write {α : Type} [DecidableEq α] {dflt : Nat → α} (m : SMap α) (k : Nat) (v : α) (h : SMap.ok dflt m = true) :
    SMap.ok dflt (SMap.write (dflt k) m k v) = true := by
  unfold SMap.write SMap.ok
  split
  · exact SMap.okFrom_erase m k h
  · rename_i hv; exact SMap.okFrom_insert m h (Nat.zero_le k) hv

/-- Keeping some of the entries keeps the canonical form. -/
theorem SMap.okFrom_filter {α : Type} [DecidableEq α] {dflt : Nat → α} (p : Nat × α → Bool) (m : SMap α) {lo : Nat}
    (h : SMap.okFrom dflt lo m = true) : SMap.okFrom dflt lo (m.filter p) = true := by
  induction m generalizing lo with
  | nil => rfl
  | cons e m ih =>
    obtain ⟨j, w⟩ := e
    simp only [SMap.okFrom, Bool.and_eq_true, decide_eq_true_eq] at h
    simp only [List.filter]
    split
    · simp only [SMap.okFrom, Bool.and_eq_true, decide_eq_true_eq]
      exact ⟨h.1, ih h.2⟩
    · exact SMap.okFrom_weaken _ (ih h.2) (by omega)

/-- Laying entries that hold no unlisted value over a map keeps its canonical form. -/
theorem SMap.ok_overlay {α : Type} [DecidableEq α] {dflt : Nat → α} (top m : SMap α) (h : SMap.ok dflt m = true)
    (ht : ∀ e ∈ top, e.2 ≠ dflt e.1) : SMap.ok dflt (SMap.overlay top m) = true := by
  unfold SMap.overlay
  induction top with
  | nil => exact h
  | cons e top ih =>
    exact SMap.okFrom_insert _ (ih (fun x hx => ht x (List.mem_cons_of_mem _ hx))) (Nat.zero_le _) (ht e (List.mem_cons_self ..))

/-- Laid over a map, the entries of the upper one are found first. -/
theorem SMap.find_overlay {α : Type} (top m : SMap α) (k : Nat) : SMap.find k (SMap.overlay top m) = (SMap.find k top).orElse (fun _ => SMap.find k m) := by
  unfold SMap.overlay
  induction top with
  | nil => rfl
  | cons e top ih =>
    obtain ⟨j, v⟩ := e
    simp only [List.foldr_cons]
    by_cases h : j = k
    · subst h; simp [SMap.find_insert_same, SMap.find]
    · rw [SMap.find_insert_other (Ne.symm h), ih]; simp [SMap.find, h]

/-- No entry of a map in canonical form holds its unlisted value. -/
theorem SMap.okFrom_values {α : Type} [DecidableEq α] {dflt : Nat → α} (m : SMap α) {lo : Nat} (h : SMap.okFrom dflt lo m = true) :
    ∀ e ∈ m, e.2 ≠ dflt e.1 := by
  induction m generalizing lo with
  | nil => intro e he; cases he
  | cons x m ih =>
    obtain ⟨j, w⟩ := x
    simp only [SMap.okFrom, Bool.and_eq_true, decide_eq_true_eq] at h
    intro e he
    cases he with
    | head => exact h.1.2
    | tail _ he => exact ih h.2 e he

/-! ## Memory -/

/-- Storing bytes keeps the canonical form of memory. -/
theorem Memory.wf_write (m : List (Nat × Byte)) (a : Nat) (bs : List Byte) (h : Memory.wf m = true) : Memory.wf (Memory.write m a bs) = true := by
  induction bs generalizing m a with
  | nil => exact h
  | cons b bs ih => exact ih _ _ (SMap.ok_write (dflt := fun _ => memReset) m a b h)

/-- Zero-filling keeps the canonical form of memory. -/
theorem Memory.wf_zero (m : List (Nat × Byte)) (lo hi : Nat) (h : Memory.wf m = true) : Memory.wf (Memory.zero m lo hi) = true :=
  SMap.okFrom_filter _ m h

/-- Copying keeps the canonical form of memory. -/
theorem Memory.wf_copy (m : List (Nat × Byte)) (src dst len : Nat) (h : Memory.wf m = true) : Memory.wf (Memory.copy m src dst len) = true := by
  refine SMap.ok_overlay _ _ (SMap.okFrom_filter _ m h) ?_
  intro e he
  obtain ⟨x, hx, rfl⟩ := List.mem_map.1 he
  exact SMap.okFrom_values m h x (List.mem_filter.1 hx).1

/-- Dropping entries keeps the canonical form of memory. -/
theorem Memory.wf_filter (p : Nat × Byte → Bool) (m : List (Nat × Byte)) (h : Memory.wf m = true) : Memory.wf (m.filter p) = true :=
  SMap.okFrom_filter p m h

/-- A store leaves every byte outside its range as it was. -/
theorem Memory.byte_write_outside (m : List (Nat × Byte)) (a x : Nat) (bs : List Byte) (h : x < a ∨ a + bs.length ≤ x) :
    Memory.byte (Memory.write m a bs) x = Memory.byte m x := by
  induction bs generalizing m a with
  | nil => rfl
  | cons b bs ih =>
    simp only [List.length_cons] at h
    rw [Memory.write, ih _ _ (by omega)]
    exact SMap.read_write_other (by omega) memReset memReset b m

theorem SMap.find_filter_key {α : Type} (p : Nat → Bool) (m : SMap α) (k : Nat) :
    SMap.find k (m.filter (fun e => p e.1)) = if p k then SMap.find k m else none := by
  induction m with
  | nil => simp [SMap.find]
  | cons e m ih =>
    obtain ⟨j, v⟩ := e
    by_cases hp : p j
    · by_cases hj : j = k
      · subst hj; simp [SMap.find, hp]
      · simp [SMap.find, hp, hj, ih]
    · by_cases hj : j = k
      · subst hj; simp [hp, ih]
      · simp [SMap.find, hp, hj, ih]

/-- A zero-filled byte reads zero, and every other byte is as before. -/
theorem Memory.byte_zero (m : List (Nat × Byte)) (lo hi x : Nat) :
    Memory.byte (Memory.zero m lo hi) x = if lo ≤ x ∧ x < hi then 0 else Memory.byte m x := by
  simp only [Memory.byte, SMap.read, Memory.zero, SMap.dropRange]
  rw [SMap.find_filter_key (fun a => !(decide (lo ≤ a) && decide (a < hi)))]
  by_cases h : lo ≤ x ∧ x < hi
  · simp [h, memReset]
  · rw [if_neg h, if_pos]
    simp only [Bool.not_eq_true', Bool.and_eq_false_iff, decide_eq_false_iff_not]
    omega

theorem SMap.find_slice {α : Type} (m : SMap α) (lo n base k : Nat) :
    SMap.find k (SMap.slice m lo (lo + n) base) = if base ≤ k ∧ k < base + n then SMap.find (k - base + lo) m else none := by
  unfold SMap.slice
  induction m with
  | nil => simp [SMap.find]
  | cons e m ih =>
    obtain ⟨j, v⟩ := e
    by_cases hp : lo ≤ j ∧ j < lo + n
    · simp only [List.filter, hp.1, hp.2, decide_true, Bool.and_self, List.map_cons, SMap.find]
      by_cases hk : j - lo + base = k
      · rw [if_pos hk, if_pos (by omega), if_pos (by omega)]
      · rw [if_neg hk, ih]
        by_cases hb : base ≤ k ∧ k < base + n
        · rw [if_pos hb, if_pos hb, if_neg (by omega)]
        · rw [if_neg hb, if_neg hb]
    · have : (decide (lo ≤ j) && decide (j < lo + n)) = false := by
        simp only [Bool.and_eq_false_iff, decide_eq_false_iff_not]; omega
      simp only [List.filter, this, SMap.find]
      rw [ih]
      by_cases hb : base ≤ k ∧ k < base + n
      · rw [if_pos hb, if_pos hb, if_neg (by omega)]
      · rw [if_neg hb, if_neg hb]

/-- A copied byte is the source's as before the copy, and every other byte is as before. -/
theorem Memory.byte_copy (m : List (Nat × Byte)) (src dst n x : Nat) :
    Memory.byte (Memory.copy m src dst n) x = if dst ≤ x ∧ x < dst + n then Memory.byte m (x - dst + src) else Memory.byte m x := by
  simp only [Memory.byte, SMap.read, Memory.copy, SMap.find_overlay, SMap.find_slice, SMap.dropRange]
  rw [SMap.find_filter_key (fun a => !(decide (dst ≤ a) && decide (a < dst + n)))]
  by_cases h : dst ≤ x ∧ x < dst + n
  · rw [if_pos h, if_pos h, if_neg (by simp only [Bool.not_eq_true', Bool.and_eq_false_iff, decide_eq_false_iff_not]; omega)]
    cases SMap.find (x - dst + src) m <;> rfl
  · rw [if_neg h, if_neg h, if_pos (by simp only [Bool.not_eq_true', Bool.and_eq_false_iff, decide_eq_false_iff_not]; omega)]
    rfl

/-- The bytes that a store wrote are read back. -/
theorem Memory.read_write_same (m : List (Nat × Byte)) (a : Nat) (bs : List Byte) :
    Memory.read (Memory.write m a bs) a bs.length = bs := by
  induction bs generalizing m a with
  | nil => rfl
  | cons b bs ih =>
    simp only [Memory.write, List.length_cons, Memory.read]
    rw [ih _ _, Memory.byte_write_outside _ _ _ _ (by omega)]
    rw [show Memory.byte (SMap.write memReset m a b) a = b from SMap.read_write_same m a memReset b]

end Sys2Proof.Machine
end

