-- ==== Sys2Proof/Laws/State.lean ====
section
/-! SUPPORT. Which parts of the device each plain update leaves alone, so that no proof unfolds a record update. -/

namespace Sys2Proof.Machine

/-! ## Dev.setReg -/

@[simp] theorem Dev.setReg_latch (d : Dev) (base inst item v : Nat) : (d.setReg base inst item v).latch = d.latch := by unfold Dev.setReg; rfl
@[simp] theorem Dev.setReg_mem (d : Dev) (base inst item v : Nat) : (d.setReg base inst item v).mem = d.mem := by unfold Dev.setReg; rfl
@[simp] theorem Dev.setReg_cells (d : Dev) (base inst item v : Nat) : (d.setReg base inst item v).cells = d.cells := by unfold Dev.setReg; rfl
@[simp] theorem Dev.setReg_reports (d : Dev) (base inst item v : Nat) : (d.setReg base inst item v).reports = d.reports := by unfold Dev.setReg; rfl
@[simp] theorem Dev.setReg_sched (d : Dev) (base inst item v : Nat) : (d.setReg base inst item v).sched = d.sched := by unfold Dev.setReg; rfl
@[simp] theorem Dev.setReg_cSeq (d : Dev) (base inst item v : Nat) : (d.setReg base inst item v).cSeq = d.cSeq := by unfold Dev.setReg; rfl
@[simp] theorem Dev.setReg_holdSeen (d : Dev) (base inst item v : Nat) : (d.setReg base inst item v).holdSeen = d.holdSeen := by unfold Dev.setReg; rfl
@[simp] theorem Dev.setReg_cSent (d : Dev) (base inst item v : Nat) : (d.setReg base inst item v).cSent = d.cSent := by unfold Dev.setReg; rfl
@[simp] theorem Dev.setReg_cWait (d : Dev) (base inst item v : Nat) : (d.setReg base inst item v).cWait = d.cWait := by unfold Dev.setReg; rfl
@[simp] theorem Dev.setReg_wins (d : Dev) (base inst item v : Nat) : (d.setReg base inst item v).wins = d.wins := by unfold Dev.setReg; rfl
@[simp] theorem Dev.setReg_engs (d : Dev) (base inst item v : Nat) : (d.setReg base inst item v).engs = d.engs := by unfold Dev.setReg; rfl
@[simp] theorem Dev.setReg_remotes (d : Dev) (base inst item v : Nat) : (d.setReg base inst item v).remotes = d.remotes := by unfold Dev.setReg; rfl
@[simp] theorem Dev.setReg_spprMarks (d : Dev) (base inst item v : Nat) : (d.setReg base inst item v).spprMarks = d.spprMarks := by unfold Dev.setReg; rfl
@[simp] theorem Dev.setReg_rowErrors (d : Dev) (base inst item v : Nat) : (d.setReg base inst item v).rowErrors = d.rowErrors := by unfold Dev.setReg; rfl
@[simp] theorem Dev.setReg_scrubAt (d : Dev) (base inst item v : Nat) : (d.setReg base inst item v).scrubAt = d.scrubAt := by unfold Dev.setReg; rfl
@[simp] theorem Dev.setReg_net (d : Dev) (base inst item v : Nat) : (d.setReg base inst item v).net = d.net := by unfold Dev.setReg; rfl
@[simp] theorem Dev.setReg_links (d : Dev) (base inst item v : Nat) : (d.setReg base inst item v).links = d.links := by unfold Dev.setReg; rfl
@[simp] theorem Dev.setReg_osChans (d : Dev) (base inst item v : Nat) : (d.setReg base inst item v).osChans = d.osChans := by unfold Dev.setReg; rfl
@[simp] theorem Dev.setReg_osSeps (d : Dev) (base inst item v : Nat) : (d.setReg base inst item v).osSeps = d.osSeps := by unfold Dev.setReg; rfl
@[simp] theorem Dev.setReg_migrations (d : Dev) (base inst item v : Nat) : (d.setReg base inst item v).migrations = d.migrations := by unfold Dev.setReg; rfl
@[simp] theorem Dev.setReg_slots (d : Dev) (base inst item v : Nat) : (d.setReg base inst item v).slots = d.slots := by unfold Dev.setReg; rfl
@[simp] theorem Dev.setReg_windowOpen (d : Dev) (base inst item v : Nat) : (d.setReg base inst item v).windowOpen = d.windowOpen := by unfold Dev.setReg; rfl
@[simp] theorem Dev.setReg_scoreAt (d : Dev) (base inst item v : Nat) : (d.setReg base inst item v).scoreAt = d.scoreAt := by unfold Dev.setReg; rfl
@[simp] theorem Dev.setReg_replace (d : Dev) (base inst item v : Nat) : (d.setReg base inst item v).replace = d.replace := by unfold Dev.setReg; rfl
@[simp] theorem Dev.setReg_suspects (d : Dev) (base inst item v : Nat) : (d.setReg base inst item v).suspects = d.suspects := by unfold Dev.setReg; rfl
@[simp] theorem Dev.setReg_fencePending (d : Dev) (base inst item v : Nat) : (d.setReg base inst item v).fencePending = d.fencePending := by unfold Dev.setReg; rfl
@[simp] theorem Dev.setReg_slolisUp (d : Dev) (base inst item v : Nat) : (d.setReg base inst item v).slolisUp = d.slolisUp := by unfold Dev.setReg; rfl
@[simp] theorem Dev.setReg_resets (d : Dev) (base inst item v : Nat) : (d.setReg base inst item v).resets = d.resets := by unfold Dev.setReg; rfl
@[simp] theorem Dev.setReg_snap (d : Dev) (base inst item v : Nat) : (d.setReg base inst item v).snap = d.snap := by unfold Dev.setReg; rfl
@[simp] theorem Dev.setReg_mgmt (d : Dev) (base inst item v : Nat) : (d.setReg base inst item v).mgmt = d.mgmt := by unfold Dev.setReg; rfl
@[simp] theorem Dev.setReg_power (d : Dev) (base inst item v : Nat) : (d.setReg base inst item v).power = d.power := by unfold Dev.setReg; rfl
@[simp] theorem Dev.setReg_eths (d : Dev) (base inst item v : Nat) : (d.setReg base inst item v).eths = d.eths := by unfold Dev.setReg; rfl
@[simp] theorem Dev.setReg_pcieCfg (d : Dev) (base inst item v : Nat) : (d.setReg base inst item v).pcieCfg = d.pcieCfg := by unfold Dev.setReg; rfl
@[simp] theorem Dev.setReg_jtag (d : Dev) (base inst item v : Nat) : (d.setReg base inst item v).jtag = d.jtag := by unfold Dev.setReg; rfl
@[simp] theorem Dev.setReg_farTries (d : Dev) (base inst item v : Nat) : (d.setReg base inst item v).farTries = d.farTries := by unfold Dev.setReg; rfl
@[simp] theorem Dev.setReg_bandOut (d : Dev) (base inst item v : Nat) : (d.setReg base inst item v).bandOut = d.bandOut := by unfold Dev.setReg; rfl
@[simp] theorem Dev.setReg_halted (d : Dev) (base inst item v : Nat) : (d.setReg base inst item v).halted = d.halted := by unfold Dev.setReg; rfl
@[simp] theorem Dev.setReg_resetWaits (d : Dev) (base inst item v : Nat) : (d.setReg base inst item v).resetWaits = d.resetWaits := by unfold Dev.setReg; rfl
@[simp] theorem Dev.setReg_defects (d : Dev) (base inst item v : Nat) : (d.setReg base inst item v).defects = d.defects := by unfold Dev.setReg; rfl
@[simp] theorem Dev.setReg_logRing (d : Dev) (base inst item v : Nat) : (d.setReg base inst item v).logRing = d.logRing := by unfold Dev.setReg; rfl
@[simp] theorem Dev.setReg_logSlots (d : Dev) (base inst item v : Nat) : (d.setReg base inst item v).logSlots = d.logSlots := by unfold Dev.setReg; rfl
@[simp] theorem Dev.setReg_dgramSeq (d : Dev) (base inst item v : Nat) : (d.setReg base inst item v).dgramSeq = d.dgramSeq := by unfold Dev.setReg; rfl
@[simp] theorem Dev.setReg_distSeen (d : Dev) (base inst item v : Nat) : (d.setReg base inst item v).distSeen = d.distSeen := by unfold Dev.setReg; rfl
@[simp] theorem Dev.setReg_distRun (d : Dev) (base inst item v : Nat) : (d.setReg base inst item v).distRun = d.distRun := by unfold Dev.setReg; rfl
@[simp] theorem Dev.setReg_distBad (d : Dev) (base inst item v : Nat) : (d.setReg base inst item v).distBad = d.distBad := by unfold Dev.setReg; rfl
@[simp] theorem Dev.setReg_out (d : Dev) (base inst item v : Nat) : (d.setReg base inst item v).out = d.out := by unfold Dev.setReg; rfl
@[simp] theorem Dev.setReg_reply (d : Dev) (base inst item v : Nat) : (d.setReg base inst item v).reply = d.reply := by unfold Dev.setReg; rfl
@[simp] theorem Dev.setReg_config (d : Dev) (base inst item v : Nat) : (d.setReg base inst item v).config = d.config := by unfold Dev.setReg; rfl
@[simp] theorem Dev.setReg_ptpBase (d : Dev) (base inst item v : Nat) : (d.setReg base inst item v).ptpBase = d.ptpBase := by unfold Dev.setReg; rfl
@[simp] theorem Dev.setReg_cycle (d : Dev) (base inst item v : Nat) : (d.setReg base inst item v).cycle = d.cycle := by unfold Dev.setReg; rfl
@[simp] theorem Dev.setReg_freeCtr (d : Dev) (base inst item v : Nat) : (d.setReg base inst item v).freeCtr = d.freeCtr := by unfold Dev.setReg; rfl

/-! ## Dev.set -/

@[simp] theorem Dev.set_latch (d : Dev) (f : Fld) (v inst item : Nat) : (d.set f v inst item).latch = d.latch := by unfold Dev.set Dev.setReg; rfl
@[simp] theorem Dev.set_mem (d : Dev) (f : Fld) (v inst item : Nat) : (d.set f v inst item).mem = d.mem := by unfold Dev.set Dev.setReg; rfl
@[simp] theorem Dev.set_cells (d : Dev) (f : Fld) (v inst item : Nat) : (d.set f v inst item).cells = d.cells := by unfold Dev.set Dev.setReg; rfl
@[simp] theorem Dev.set_reports (d : Dev) (f : Fld) (v inst item : Nat) : (d.set f v inst item).reports = d.reports := by unfold Dev.set Dev.setReg; rfl
@[simp] theorem Dev.set_sched (d : Dev) (f : Fld) (v inst item : Nat) : (d.set f v inst item).sched = d.sched := by unfold Dev.set Dev.setReg; rfl
@[simp] theorem Dev.set_cSeq (d : Dev) (f : Fld) (v inst item : Nat) : (d.set f v inst item).cSeq = d.cSeq := by unfold Dev.set Dev.setReg; rfl
@[simp] theorem Dev.set_holdSeen (d : Dev) (f : Fld) (v inst item : Nat) : (d.set f v inst item).holdSeen = d.holdSeen := by unfold Dev.set Dev.setReg; rfl
@[simp] theorem Dev.set_cSent (d : Dev) (f : Fld) (v inst item : Nat) : (d.set f v inst item).cSent = d.cSent := by unfold Dev.set Dev.setReg; rfl
@[simp] theorem Dev.set_cWait (d : Dev) (f : Fld) (v inst item : Nat) : (d.set f v inst item).cWait = d.cWait := by unfold Dev.set Dev.setReg; rfl
@[simp] theorem Dev.set_wins (d : Dev) (f : Fld) (v inst item : Nat) : (d.set f v inst item).wins = d.wins := by unfold Dev.set Dev.setReg; rfl
@[simp] theorem Dev.set_engs (d : Dev) (f : Fld) (v inst item : Nat) : (d.set f v inst item).engs = d.engs := by unfold Dev.set Dev.setReg; rfl
@[simp] theorem Dev.set_remotes (d : Dev) (f : Fld) (v inst item : Nat) : (d.set f v inst item).remotes = d.remotes := by unfold Dev.set Dev.setReg; rfl
@[simp] theorem Dev.set_spprMarks (d : Dev) (f : Fld) (v inst item : Nat) : (d.set f v inst item).spprMarks = d.spprMarks := by unfold Dev.set Dev.setReg; rfl
@[simp] theorem Dev.set_rowErrors (d : Dev) (f : Fld) (v inst item : Nat) : (d.set f v inst item).rowErrors = d.rowErrors := by unfold Dev.set Dev.setReg; rfl
@[simp] theorem Dev.set_scrubAt (d : Dev) (f : Fld) (v inst item : Nat) : (d.set f v inst item).scrubAt = d.scrubAt := by unfold Dev.set Dev.setReg; rfl
@[simp] theorem Dev.set_net (d : Dev) (f : Fld) (v inst item : Nat) : (d.set f v inst item).net = d.net := by unfold Dev.set Dev.setReg; rfl
@[simp] theorem Dev.set_links (d : Dev) (f : Fld) (v inst item : Nat) : (d.set f v inst item).links = d.links := by unfold Dev.set Dev.setReg; rfl
@[simp] theorem Dev.set_osChans (d : Dev) (f : Fld) (v inst item : Nat) : (d.set f v inst item).osChans = d.osChans := by unfold Dev.set Dev.setReg; rfl
@[simp] theorem Dev.set_osSeps (d : Dev) (f : Fld) (v inst item : Nat) : (d.set f v inst item).osSeps = d.osSeps := by unfold Dev.set Dev.setReg; rfl
@[simp] theorem Dev.set_migrations (d : Dev) (f : Fld) (v inst item : Nat) : (d.set f v inst item).migrations = d.migrations := by unfold Dev.set Dev.setReg; rfl
@[simp] theorem Dev.set_slots (d : Dev) (f : Fld) (v inst item : Nat) : (d.set f v inst item).slots = d.slots := by unfold Dev.set Dev.setReg; rfl
@[simp] theorem Dev.set_windowOpen (d : Dev) (f : Fld) (v inst item : Nat) : (d.set f v inst item).windowOpen = d.windowOpen := by unfold Dev.set Dev.setReg; rfl
@[simp] theorem Dev.set_scoreAt (d : Dev) (f : Fld) (v inst item : Nat) : (d.set f v inst item).scoreAt = d.scoreAt := by unfold Dev.set Dev.setReg; rfl
@[simp] theorem Dev.set_replace (d : Dev) (f : Fld) (v inst item : Nat) : (d.set f v inst item).replace = d.replace := by unfold Dev.set Dev.setReg; rfl
@[simp] theorem Dev.set_suspects (d : Dev) (f : Fld) (v inst item : Nat) : (d.set f v inst item).suspects = d.suspects := by unfold Dev.set Dev.setReg; rfl
@[simp] theorem Dev.set_fencePending (d : Dev) (f : Fld) (v inst item : Nat) : (d.set f v inst item).fencePending = d.fencePending := by unfold Dev.set Dev.setReg; rfl
@[simp] theorem Dev.set_slolisUp (d : Dev) (f : Fld) (v inst item : Nat) : (d.set f v inst item).slolisUp = d.slolisUp := by unfold Dev.set Dev.setReg; rfl
@[simp] theorem Dev.set_resets (d : Dev) (f : Fld) (v inst item : Nat) : (d.set f v inst item).resets = d.resets := by unfold Dev.set Dev.setReg; rfl
@[simp] theorem Dev.set_snap (d : Dev) (f : Fld) (v inst item : Nat) : (d.set f v inst item).snap = d.snap := by unfold Dev.set Dev.setReg; rfl
@[simp] theorem Dev.set_mgmt (d : Dev) (f : Fld) (v inst item : Nat) : (d.set f v inst item).mgmt = d.mgmt := by unfold Dev.set Dev.setReg; rfl
@[simp] theorem Dev.set_power (d : Dev) (f : Fld) (v inst item : Nat) : (d.set f v inst item).power = d.power := by unfold Dev.set Dev.setReg; rfl
@[simp] theorem Dev.set_eths (d : Dev) (f : Fld) (v inst item : Nat) : (d.set f v inst item).eths = d.eths := by unfold Dev.set Dev.setReg; rfl
@[simp] theorem Dev.set_pcieCfg (d : Dev) (f : Fld) (v inst item : Nat) : (d.set f v inst item).pcieCfg = d.pcieCfg := by unfold Dev.set Dev.setReg; rfl
@[simp] theorem Dev.set_jtag (d : Dev) (f : Fld) (v inst item : Nat) : (d.set f v inst item).jtag = d.jtag := by unfold Dev.set Dev.setReg; rfl
@[simp] theorem Dev.set_farTries (d : Dev) (f : Fld) (v inst item : Nat) : (d.set f v inst item).farTries = d.farTries := by unfold Dev.set Dev.setReg; rfl
@[simp] theorem Dev.set_bandOut (d : Dev) (f : Fld) (v inst item : Nat) : (d.set f v inst item).bandOut = d.bandOut := by unfold Dev.set Dev.setReg; rfl
@[simp] theorem Dev.set_halted (d : Dev) (f : Fld) (v inst item : Nat) : (d.set f v inst item).halted = d.halted := by unfold Dev.set Dev.setReg; rfl
@[simp] theorem Dev.set_resetWaits (d : Dev) (f : Fld) (v inst item : Nat) : (d.set f v inst item).resetWaits = d.resetWaits := by unfold Dev.set Dev.setReg; rfl
@[simp] theorem Dev.set_defects (d : Dev) (f : Fld) (v inst item : Nat) : (d.set f v inst item).defects = d.defects := by unfold Dev.set Dev.setReg; rfl
@[simp] theorem Dev.set_logRing (d : Dev) (f : Fld) (v inst item : Nat) : (d.set f v inst item).logRing = d.logRing := by unfold Dev.set Dev.setReg; rfl
@[simp] theorem Dev.set_logSlots (d : Dev) (f : Fld) (v inst item : Nat) : (d.set f v inst item).logSlots = d.logSlots := by unfold Dev.set Dev.setReg; rfl
@[simp] theorem Dev.set_dgramSeq (d : Dev) (f : Fld) (v inst item : Nat) : (d.set f v inst item).dgramSeq = d.dgramSeq := by unfold Dev.set Dev.setReg; rfl
@[simp] theorem Dev.set_distSeen (d : Dev) (f : Fld) (v inst item : Nat) : (d.set f v inst item).distSeen = d.distSeen := by unfold Dev.set Dev.setReg; rfl
@[simp] theorem Dev.set_distRun (d : Dev) (f : Fld) (v inst item : Nat) : (d.set f v inst item).distRun = d.distRun := by unfold Dev.set Dev.setReg; rfl
@[simp] theorem Dev.set_distBad (d : Dev) (f : Fld) (v inst item : Nat) : (d.set f v inst item).distBad = d.distBad := by unfold Dev.set Dev.setReg; rfl
@[simp] theorem Dev.set_out (d : Dev) (f : Fld) (v inst item : Nat) : (d.set f v inst item).out = d.out := by unfold Dev.set Dev.setReg; rfl
@[simp] theorem Dev.set_reply (d : Dev) (f : Fld) (v inst item : Nat) : (d.set f v inst item).reply = d.reply := by unfold Dev.set Dev.setReg; rfl
@[simp] theorem Dev.set_config (d : Dev) (f : Fld) (v inst item : Nat) : (d.set f v inst item).config = d.config := by unfold Dev.set Dev.setReg; rfl
@[simp] theorem Dev.set_ptpBase (d : Dev) (f : Fld) (v inst item : Nat) : (d.set f v inst item).ptpBase = d.ptpBase := by unfold Dev.set Dev.setReg; rfl
@[simp] theorem Dev.set_cycle (d : Dev) (f : Fld) (v inst item : Nat) : (d.set f v inst item).cycle = d.cycle := by unfold Dev.set Dev.setReg; rfl
@[simp] theorem Dev.set_freeCtr (d : Dev) (f : Fld) (v inst item : Nat) : (d.set f v inst item).freeCtr = d.freeCtr := by unfold Dev.set Dev.setReg; rfl

/-! ## Dev.count -/

@[simp] theorem Dev.count_latch (d : Dev) (f : Fld) (inst item n : Nat) : (d.count f inst item n).latch = d.latch := by unfold Dev.count Dev.setReg; rfl
@[simp] theorem Dev.count_mem (d : Dev) (f : Fld) (inst item n : Nat) : (d.count f inst item n).mem = d.mem := by unfold Dev.count Dev.setReg; rfl
@[simp] theorem Dev.count_cells (d : Dev) (f : Fld) (inst item n : Nat) : (d.count f inst item n).cells = d.cells := by unfold Dev.count Dev.setReg; rfl
@[simp] theorem Dev.count_reports (d : Dev) (f : Fld) (inst item n : Nat) : (d.count f inst item n).reports = d.reports := by unfold Dev.count Dev.setReg; rfl
@[simp] theorem Dev.count_sched (d : Dev) (f : Fld) (inst item n : Nat) : (d.count f inst item n).sched = d.sched := by unfold Dev.count Dev.setReg; rfl
@[simp] theorem Dev.count_cSeq (d : Dev) (f : Fld) (inst item n : Nat) : (d.count f inst item n).cSeq = d.cSeq := by unfold Dev.count Dev.setReg; rfl
@[simp] theorem Dev.count_holdSeen (d : Dev) (f : Fld) (inst item n : Nat) : (d.count f inst item n).holdSeen = d.holdSeen := by unfold Dev.count Dev.setReg; rfl
@[simp] theorem Dev.count_cSent (d : Dev) (f : Fld) (inst item n : Nat) : (d.count f inst item n).cSent = d.cSent := by unfold Dev.count Dev.setReg; rfl
@[simp] theorem Dev.count_cWait (d : Dev) (f : Fld) (inst item n : Nat) : (d.count f inst item n).cWait = d.cWait := by unfold Dev.count Dev.setReg; rfl
@[simp] theorem Dev.count_wins (d : Dev) (f : Fld) (inst item n : Nat) : (d.count f inst item n).wins = d.wins := by unfold Dev.count Dev.setReg; rfl
@[simp] theorem Dev.count_engs (d : Dev) (f : Fld) (inst item n : Nat) : (d.count f inst item n).engs = d.engs := by unfold Dev.count Dev.setReg; rfl
@[simp] theorem Dev.count_remotes (d : Dev) (f : Fld) (inst item n : Nat) : (d.count f inst item n).remotes = d.remotes := by unfold Dev.count Dev.setReg; rfl
@[simp] theorem Dev.count_spprMarks (d : Dev) (f : Fld) (inst item n : Nat) : (d.count f inst item n).spprMarks = d.spprMarks := by unfold Dev.count Dev.setReg; rfl
@[simp] theorem Dev.count_rowErrors (d : Dev) (f : Fld) (inst item n : Nat) : (d.count f inst item n).rowErrors = d.rowErrors := by unfold Dev.count Dev.setReg; rfl
@[simp] theorem Dev.count_scrubAt (d : Dev) (f : Fld) (inst item n : Nat) : (d.count f inst item n).scrubAt = d.scrubAt := by unfold Dev.count Dev.setReg; rfl
@[simp] theorem Dev.count_net (d : Dev) (f : Fld) (inst item n : Nat) : (d.count f inst item n).net = d.net := by unfold Dev.count Dev.setReg; rfl
@[simp] theorem Dev.count_links (d : Dev) (f : Fld) (inst item n : Nat) : (d.count f inst item n).links = d.links := by unfold Dev.count Dev.setReg; rfl
@[simp] theorem Dev.count_osChans (d : Dev) (f : Fld) (inst item n : Nat) : (d.count f inst item n).osChans = d.osChans := by unfold Dev.count Dev.setReg; rfl
@[simp] theorem Dev.count_osSeps (d : Dev) (f : Fld) (inst item n : Nat) : (d.count f inst item n).osSeps = d.osSeps := by unfold Dev.count Dev.setReg; rfl
@[simp] theorem Dev.count_migrations (d : Dev) (f : Fld) (inst item n : Nat) : (d.count f inst item n).migrations = d.migrations := by unfold Dev.count Dev.setReg; rfl
@[simp] theorem Dev.count_slots (d : Dev) (f : Fld) (inst item n : Nat) : (d.count f inst item n).slots = d.slots := by unfold Dev.count Dev.setReg; rfl
@[simp] theorem Dev.count_windowOpen (d : Dev) (f : Fld) (inst item n : Nat) : (d.count f inst item n).windowOpen = d.windowOpen := by unfold Dev.count Dev.setReg; rfl
@[simp] theorem Dev.count_scoreAt (d : Dev) (f : Fld) (inst item n : Nat) : (d.count f inst item n).scoreAt = d.scoreAt := by unfold Dev.count Dev.setReg; rfl
@[simp] theorem Dev.count_replace (d : Dev) (f : Fld) (inst item n : Nat) : (d.count f inst item n).replace = d.replace := by unfold Dev.count Dev.setReg; rfl
@[simp] theorem Dev.count_suspects (d : Dev) (f : Fld) (inst item n : Nat) : (d.count f inst item n).suspects = d.suspects := by unfold Dev.count Dev.setReg; rfl
@[simp] theorem Dev.count_fencePending (d : Dev) (f : Fld) (inst item n : Nat) : (d.count f inst item n).fencePending = d.fencePending := by unfold Dev.count Dev.setReg; rfl
@[simp] theorem Dev.count_slolisUp (d : Dev) (f : Fld) (inst item n : Nat) : (d.count f inst item n).slolisUp = d.slolisUp := by unfold Dev.count Dev.setReg; rfl
@[simp] theorem Dev.count_resets (d : Dev) (f : Fld) (inst item n : Nat) : (d.count f inst item n).resets = d.resets := by unfold Dev.count Dev.setReg; rfl
@[simp] theorem Dev.count_snap (d : Dev) (f : Fld) (inst item n : Nat) : (d.count f inst item n).snap = d.snap := by unfold Dev.count Dev.setReg; rfl
@[simp] theorem Dev.count_mgmt (d : Dev) (f : Fld) (inst item n : Nat) : (d.count f inst item n).mgmt = d.mgmt := by unfold Dev.count Dev.setReg; rfl
@[simp] theorem Dev.count_power (d : Dev) (f : Fld) (inst item n : Nat) : (d.count f inst item n).power = d.power := by unfold Dev.count Dev.setReg; rfl
@[simp] theorem Dev.count_eths (d : Dev) (f : Fld) (inst item n : Nat) : (d.count f inst item n).eths = d.eths := by unfold Dev.count Dev.setReg; rfl
@[simp] theorem Dev.count_pcieCfg (d : Dev) (f : Fld) (inst item n : Nat) : (d.count f inst item n).pcieCfg = d.pcieCfg := by unfold Dev.count Dev.setReg; rfl
@[simp] theorem Dev.count_jtag (d : Dev) (f : Fld) (inst item n : Nat) : (d.count f inst item n).jtag = d.jtag := by unfold Dev.count Dev.setReg; rfl
@[simp] theorem Dev.count_farTries (d : Dev) (f : Fld) (inst item n : Nat) : (d.count f inst item n).farTries = d.farTries := by unfold Dev.count Dev.setReg; rfl
@[simp] theorem Dev.count_bandOut (d : Dev) (f : Fld) (inst item n : Nat) : (d.count f inst item n).bandOut = d.bandOut := by unfold Dev.count Dev.setReg; rfl
@[simp] theorem Dev.count_halted (d : Dev) (f : Fld) (inst item n : Nat) : (d.count f inst item n).halted = d.halted := by unfold Dev.count Dev.setReg; rfl
@[simp] theorem Dev.count_resetWaits (d : Dev) (f : Fld) (inst item n : Nat) : (d.count f inst item n).resetWaits = d.resetWaits := by unfold Dev.count Dev.setReg; rfl
@[simp] theorem Dev.count_defects (d : Dev) (f : Fld) (inst item n : Nat) : (d.count f inst item n).defects = d.defects := by unfold Dev.count Dev.setReg; rfl
@[simp] theorem Dev.count_logRing (d : Dev) (f : Fld) (inst item n : Nat) : (d.count f inst item n).logRing = d.logRing := by unfold Dev.count Dev.setReg; rfl
@[simp] theorem Dev.count_logSlots (d : Dev) (f : Fld) (inst item n : Nat) : (d.count f inst item n).logSlots = d.logSlots := by unfold Dev.count Dev.setReg; rfl
@[simp] theorem Dev.count_dgramSeq (d : Dev) (f : Fld) (inst item n : Nat) : (d.count f inst item n).dgramSeq = d.dgramSeq := by unfold Dev.count Dev.setReg; rfl
@[simp] theorem Dev.count_distSeen (d : Dev) (f : Fld) (inst item n : Nat) : (d.count f inst item n).distSeen = d.distSeen := by unfold Dev.count Dev.setReg; rfl
@[simp] theorem Dev.count_distRun (d : Dev) (f : Fld) (inst item n : Nat) : (d.count f inst item n).distRun = d.distRun := by unfold Dev.count Dev.setReg; rfl
@[simp] theorem Dev.count_distBad (d : Dev) (f : Fld) (inst item n : Nat) : (d.count f inst item n).distBad = d.distBad := by unfold Dev.count Dev.setReg; rfl
@[simp] theorem Dev.count_out (d : Dev) (f : Fld) (inst item n : Nat) : (d.count f inst item n).out = d.out := by unfold Dev.count Dev.setReg; rfl
@[simp] theorem Dev.count_reply (d : Dev) (f : Fld) (inst item n : Nat) : (d.count f inst item n).reply = d.reply := by unfold Dev.count Dev.setReg; rfl
@[simp] theorem Dev.count_config (d : Dev) (f : Fld) (inst item n : Nat) : (d.count f inst item n).config = d.config := by unfold Dev.count Dev.setReg; rfl
@[simp] theorem Dev.count_ptpBase (d : Dev) (f : Fld) (inst item n : Nat) : (d.count f inst item n).ptpBase = d.ptpBase := by unfold Dev.count Dev.setReg; rfl
@[simp] theorem Dev.count_cycle (d : Dev) (f : Fld) (inst item n : Nat) : (d.count f inst item n).cycle = d.cycle := by unfold Dev.count Dev.setReg; rfl
@[simp] theorem Dev.count_freeCtr (d : Dev) (f : Fld) (inst item n : Nat) : (d.count f inst item n).freeCtr = d.freeCtr := by unfold Dev.count Dev.setReg; rfl

/-! ## Dev.setCell -/

@[simp] theorem Dev.setCell_regs (d : Dev) (pc : Nat) (c : CellState) : (d.setCell pc c).regs = d.regs := rfl
@[simp] theorem Dev.setCell_latch (d : Dev) (pc : Nat) (c : CellState) : (d.setCell pc c).latch = d.latch := rfl
@[simp] theorem Dev.setCell_mem (d : Dev) (pc : Nat) (c : CellState) : (d.setCell pc c).mem = d.mem := rfl
@[simp] theorem Dev.setCell_reports (d : Dev) (pc : Nat) (c : CellState) : (d.setCell pc c).reports = d.reports := rfl
@[simp] theorem Dev.setCell_sched (d : Dev) (pc : Nat) (c : CellState) : (d.setCell pc c).sched = d.sched := rfl
@[simp] theorem Dev.setCell_cSeq (d : Dev) (pc : Nat) (c : CellState) : (d.setCell pc c).cSeq = d.cSeq := rfl
@[simp] theorem Dev.setCell_holdSeen (d : Dev) (pc : Nat) (c : CellState) : (d.setCell pc c).holdSeen = d.holdSeen := rfl
@[simp] theorem Dev.setCell_cSent (d : Dev) (pc : Nat) (c : CellState) : (d.setCell pc c).cSent = d.cSent := rfl
@[simp] theorem Dev.setCell_cWait (d : Dev) (pc : Nat) (c : CellState) : (d.setCell pc c).cWait = d.cWait := rfl
@[simp] theorem Dev.setCell_wins (d : Dev) (pc : Nat) (c : CellState) : (d.setCell pc c).wins = d.wins := rfl
@[simp] theorem Dev.setCell_engs (d : Dev) (pc : Nat) (c : CellState) : (d.setCell pc c).engs = d.engs := rfl
@[simp] theorem Dev.setCell_remotes (d : Dev) (pc : Nat) (c : CellState) : (d.setCell pc c).remotes = d.remotes := rfl
@[simp] theorem Dev.setCell_spprMarks (d : Dev) (pc : Nat) (c : CellState) : (d.setCell pc c).spprMarks = d.spprMarks := rfl
@[simp] theorem Dev.setCell_rowErrors (d : Dev) (pc : Nat) (c : CellState) : (d.setCell pc c).rowErrors = d.rowErrors := rfl
@[simp] theorem Dev.setCell_scrubAt (d : Dev) (pc : Nat) (c : CellState) : (d.setCell pc c).scrubAt = d.scrubAt := rfl
@[simp] theorem Dev.setCell_net (d : Dev) (pc : Nat) (c : CellState) : (d.setCell pc c).net = d.net := rfl
@[simp] theorem Dev.setCell_links (d : Dev) (pc : Nat) (c : CellState) : (d.setCell pc c).links = d.links := rfl
@[simp] theorem Dev.setCell_osChans (d : Dev) (pc : Nat) (c : CellState) : (d.setCell pc c).osChans = d.osChans := rfl
@[simp] theorem Dev.setCell_osSeps (d : Dev) (pc : Nat) (c : CellState) : (d.setCell pc c).osSeps = d.osSeps := rfl
@[simp] theorem Dev.setCell_migrations (d : Dev) (pc : Nat) (c : CellState) : (d.setCell pc c).migrations = d.migrations := rfl
@[simp] theorem Dev.setCell_slots (d : Dev) (pc : Nat) (c : CellState) : (d.setCell pc c).slots = d.slots := rfl
@[simp] theorem Dev.setCell_windowOpen (d : Dev) (pc : Nat) (c : CellState) : (d.setCell pc c).windowOpen = d.windowOpen := rfl
@[simp] theorem Dev.setCell_scoreAt (d : Dev) (pc : Nat) (c : CellState) : (d.setCell pc c).scoreAt = d.scoreAt := rfl
@[simp] theorem Dev.setCell_replace (d : Dev) (pc : Nat) (c : CellState) : (d.setCell pc c).replace = d.replace := rfl
@[simp] theorem Dev.setCell_suspects (d : Dev) (pc : Nat) (c : CellState) : (d.setCell pc c).suspects = d.suspects := rfl
@[simp] theorem Dev.setCell_fencePending (d : Dev) (pc : Nat) (c : CellState) : (d.setCell pc c).fencePending = d.fencePending := rfl
@[simp] theorem Dev.setCell_slolisUp (d : Dev) (pc : Nat) (c : CellState) : (d.setCell pc c).slolisUp = d.slolisUp := rfl
@[simp] theorem Dev.setCell_resets (d : Dev) (pc : Nat) (c : CellState) : (d.setCell pc c).resets = d.resets := rfl
@[simp] theorem Dev.setCell_snap (d : Dev) (pc : Nat) (c : CellState) : (d.setCell pc c).snap = d.snap := rfl
@[simp] theorem Dev.setCell_mgmt (d : Dev) (pc : Nat) (c : CellState) : (d.setCell pc c).mgmt = d.mgmt := rfl
@[simp] theorem Dev.setCell_power (d : Dev) (pc : Nat) (c : CellState) : (d.setCell pc c).power = d.power := rfl
@[simp] theorem Dev.setCell_eths (d : Dev) (pc : Nat) (c : CellState) : (d.setCell pc c).eths = d.eths := rfl
@[simp] theorem Dev.setCell_pcieCfg (d : Dev) (pc : Nat) (c : CellState) : (d.setCell pc c).pcieCfg = d.pcieCfg := rfl
@[simp] theorem Dev.setCell_jtag (d : Dev) (pc : Nat) (c : CellState) : (d.setCell pc c).jtag = d.jtag := rfl
@[simp] theorem Dev.setCell_farTries (d : Dev) (pc : Nat) (c : CellState) : (d.setCell pc c).farTries = d.farTries := rfl
@[simp] theorem Dev.setCell_bandOut (d : Dev) (pc : Nat) (c : CellState) : (d.setCell pc c).bandOut = d.bandOut := rfl
@[simp] theorem Dev.setCell_halted (d : Dev) (pc : Nat) (c : CellState) : (d.setCell pc c).halted = d.halted := rfl
@[simp] theorem Dev.setCell_resetWaits (d : Dev) (pc : Nat) (c : CellState) : (d.setCell pc c).resetWaits = d.resetWaits := rfl
@[simp] theorem Dev.setCell_defects (d : Dev) (pc : Nat) (c : CellState) : (d.setCell pc c).defects = d.defects := rfl
@[simp] theorem Dev.setCell_logRing (d : Dev) (pc : Nat) (c : CellState) : (d.setCell pc c).logRing = d.logRing := rfl
@[simp] theorem Dev.setCell_logSlots (d : Dev) (pc : Nat) (c : CellState) : (d.setCell pc c).logSlots = d.logSlots := rfl
@[simp] theorem Dev.setCell_dgramSeq (d : Dev) (pc : Nat) (c : CellState) : (d.setCell pc c).dgramSeq = d.dgramSeq := rfl
@[simp] theorem Dev.setCell_distSeen (d : Dev) (pc : Nat) (c : CellState) : (d.setCell pc c).distSeen = d.distSeen := rfl
@[simp] theorem Dev.setCell_distRun (d : Dev) (pc : Nat) (c : CellState) : (d.setCell pc c).distRun = d.distRun := rfl
@[simp] theorem Dev.setCell_distBad (d : Dev) (pc : Nat) (c : CellState) : (d.setCell pc c).distBad = d.distBad := rfl
@[simp] theorem Dev.setCell_out (d : Dev) (pc : Nat) (c : CellState) : (d.setCell pc c).out = d.out := rfl
@[simp] theorem Dev.setCell_reply (d : Dev) (pc : Nat) (c : CellState) : (d.setCell pc c).reply = d.reply := rfl
@[simp] theorem Dev.setCell_config (d : Dev) (pc : Nat) (c : CellState) : (d.setCell pc c).config = d.config := rfl
@[simp] theorem Dev.setCell_ptpBase (d : Dev) (pc : Nat) (c : CellState) : (d.setCell pc c).ptpBase = d.ptpBase := rfl
@[simp] theorem Dev.setCell_cycle (d : Dev) (pc : Nat) (c : CellState) : (d.setCell pc c).cycle = d.cycle := rfl
@[simp] theorem Dev.setCell_freeCtr (d : Dev) (pc : Nat) (c : CellState) : (d.setCell pc c).freeCtr = d.freeCtr := rfl

/-! ## Dev.store -/

@[simp] theorem Dev.store_regs (d : Dev) (a : Nat) (bs : List Byte) : (d.store a bs).regs = d.regs := rfl
@[simp] theorem Dev.store_latch (d : Dev) (a : Nat) (bs : List Byte) : (d.store a bs).latch = d.latch := rfl
@[simp] theorem Dev.store_cells (d : Dev) (a : Nat) (bs : List Byte) : (d.store a bs).cells = d.cells := rfl
@[simp] theorem Dev.store_reports (d : Dev) (a : Nat) (bs : List Byte) : (d.store a bs).reports = d.reports := rfl
@[simp] theorem Dev.store_sched (d : Dev) (a : Nat) (bs : List Byte) : (d.store a bs).sched = d.sched := rfl
@[simp] theorem Dev.store_cSeq (d : Dev) (a : Nat) (bs : List Byte) : (d.store a bs).cSeq = d.cSeq := rfl
@[simp] theorem Dev.store_holdSeen (d : Dev) (a : Nat) (bs : List Byte) : (d.store a bs).holdSeen = d.holdSeen := rfl
@[simp] theorem Dev.store_cSent (d : Dev) (a : Nat) (bs : List Byte) : (d.store a bs).cSent = d.cSent := rfl
@[simp] theorem Dev.store_cWait (d : Dev) (a : Nat) (bs : List Byte) : (d.store a bs).cWait = d.cWait := rfl
@[simp] theorem Dev.store_wins (d : Dev) (a : Nat) (bs : List Byte) : (d.store a bs).wins = d.wins := rfl
@[simp] theorem Dev.store_engs (d : Dev) (a : Nat) (bs : List Byte) : (d.store a bs).engs = d.engs := rfl
@[simp] theorem Dev.store_remotes (d : Dev) (a : Nat) (bs : List Byte) : (d.store a bs).remotes = d.remotes := rfl
@[simp] theorem Dev.store_spprMarks (d : Dev) (a : Nat) (bs : List Byte) : (d.store a bs).spprMarks = d.spprMarks := rfl
@[simp] theorem Dev.store_rowErrors (d : Dev) (a : Nat) (bs : List Byte) : (d.store a bs).rowErrors = d.rowErrors := rfl
@[simp] theorem Dev.store_scrubAt (d : Dev) (a : Nat) (bs : List Byte) : (d.store a bs).scrubAt = d.scrubAt := rfl
@[simp] theorem Dev.store_net (d : Dev) (a : Nat) (bs : List Byte) : (d.store a bs).net = d.net := rfl
@[simp] theorem Dev.store_links (d : Dev) (a : Nat) (bs : List Byte) : (d.store a bs).links = d.links := rfl
@[simp] theorem Dev.store_osChans (d : Dev) (a : Nat) (bs : List Byte) : (d.store a bs).osChans = d.osChans := rfl
@[simp] theorem Dev.store_osSeps (d : Dev) (a : Nat) (bs : List Byte) : (d.store a bs).osSeps = d.osSeps := rfl
@[simp] theorem Dev.store_migrations (d : Dev) (a : Nat) (bs : List Byte) : (d.store a bs).migrations = d.migrations := rfl
@[simp] theorem Dev.store_slots (d : Dev) (a : Nat) (bs : List Byte) : (d.store a bs).slots = d.slots := rfl
@[simp] theorem Dev.store_windowOpen (d : Dev) (a : Nat) (bs : List Byte) : (d.store a bs).windowOpen = d.windowOpen := rfl
@[simp] theorem Dev.store_scoreAt (d : Dev) (a : Nat) (bs : List Byte) : (d.store a bs).scoreAt = d.scoreAt := rfl
@[simp] theorem Dev.store_replace (d : Dev) (a : Nat) (bs : List Byte) : (d.store a bs).replace = d.replace := rfl
@[simp] theorem Dev.store_suspects (d : Dev) (a : Nat) (bs : List Byte) : (d.store a bs).suspects = d.suspects := rfl
@[simp] theorem Dev.store_fencePending (d : Dev) (a : Nat) (bs : List Byte) : (d.store a bs).fencePending = d.fencePending := rfl
@[simp] theorem Dev.store_slolisUp (d : Dev) (a : Nat) (bs : List Byte) : (d.store a bs).slolisUp = d.slolisUp := rfl
@[simp] theorem Dev.store_resets (d : Dev) (a : Nat) (bs : List Byte) : (d.store a bs).resets = d.resets := rfl
@[simp] theorem Dev.store_snap (d : Dev) (a : Nat) (bs : List Byte) : (d.store a bs).snap = d.snap := rfl
@[simp] theorem Dev.store_mgmt (d : Dev) (a : Nat) (bs : List Byte) : (d.store a bs).mgmt = d.mgmt := rfl
@[simp] theorem Dev.store_power (d : Dev) (a : Nat) (bs : List Byte) : (d.store a bs).power = d.power := rfl
@[simp] theorem Dev.store_eths (d : Dev) (a : Nat) (bs : List Byte) : (d.store a bs).eths = d.eths := rfl
@[simp] theorem Dev.store_pcieCfg (d : Dev) (a : Nat) (bs : List Byte) : (d.store a bs).pcieCfg = d.pcieCfg := rfl
@[simp] theorem Dev.store_jtag (d : Dev) (a : Nat) (bs : List Byte) : (d.store a bs).jtag = d.jtag := rfl
@[simp] theorem Dev.store_farTries (d : Dev) (a : Nat) (bs : List Byte) : (d.store a bs).farTries = d.farTries := rfl
@[simp] theorem Dev.store_bandOut (d : Dev) (a : Nat) (bs : List Byte) : (d.store a bs).bandOut = d.bandOut := rfl
@[simp] theorem Dev.store_halted (d : Dev) (a : Nat) (bs : List Byte) : (d.store a bs).halted = d.halted := rfl
@[simp] theorem Dev.store_resetWaits (d : Dev) (a : Nat) (bs : List Byte) : (d.store a bs).resetWaits = d.resetWaits := rfl
@[simp] theorem Dev.store_defects (d : Dev) (a : Nat) (bs : List Byte) : (d.store a bs).defects = d.defects := rfl
@[simp] theorem Dev.store_logRing (d : Dev) (a : Nat) (bs : List Byte) : (d.store a bs).logRing = d.logRing := rfl
@[simp] theorem Dev.store_logSlots (d : Dev) (a : Nat) (bs : List Byte) : (d.store a bs).logSlots = d.logSlots := rfl
@[simp] theorem Dev.store_dgramSeq (d : Dev) (a : Nat) (bs : List Byte) : (d.store a bs).dgramSeq = d.dgramSeq := rfl
@[simp] theorem Dev.store_distSeen (d : Dev) (a : Nat) (bs : List Byte) : (d.store a bs).distSeen = d.distSeen := rfl
@[simp] theorem Dev.store_distRun (d : Dev) (a : Nat) (bs : List Byte) : (d.store a bs).distRun = d.distRun := rfl
@[simp] theorem Dev.store_distBad (d : Dev) (a : Nat) (bs : List Byte) : (d.store a bs).distBad = d.distBad := rfl
@[simp] theorem Dev.store_out (d : Dev) (a : Nat) (bs : List Byte) : (d.store a bs).out = d.out := rfl
@[simp] theorem Dev.store_reply (d : Dev) (a : Nat) (bs : List Byte) : (d.store a bs).reply = d.reply := rfl
@[simp] theorem Dev.store_config (d : Dev) (a : Nat) (bs : List Byte) : (d.store a bs).config = d.config := rfl
@[simp] theorem Dev.store_ptpBase (d : Dev) (a : Nat) (bs : List Byte) : (d.store a bs).ptpBase = d.ptpBase := rfl
@[simp] theorem Dev.store_cycle (d : Dev) (a : Nat) (bs : List Byte) : (d.store a bs).cycle = d.cycle := rfl
@[simp] theorem Dev.store_freeCtr (d : Dev) (a : Nat) (bs : List Byte) : (d.store a bs).freeCtr = d.freeCtr := rfl

/-! ## Dev.emit -/

@[simp] theorem Dev.emit_regs (d : Dev) (o : Output) : (d.emit o).regs = d.regs := rfl
@[simp] theorem Dev.emit_latch (d : Dev) (o : Output) : (d.emit o).latch = d.latch := rfl
@[simp] theorem Dev.emit_mem (d : Dev) (o : Output) : (d.emit o).mem = d.mem := rfl
@[simp] theorem Dev.emit_cells (d : Dev) (o : Output) : (d.emit o).cells = d.cells := rfl
@[simp] theorem Dev.emit_reports (d : Dev) (o : Output) : (d.emit o).reports = d.reports := rfl
@[simp] theorem Dev.emit_sched (d : Dev) (o : Output) : (d.emit o).sched = d.sched := rfl
@[simp] theorem Dev.emit_cSeq (d : Dev) (o : Output) : (d.emit o).cSeq = d.cSeq := rfl
@[simp] theorem Dev.emit_holdSeen (d : Dev) (o : Output) : (d.emit o).holdSeen = d.holdSeen := rfl
@[simp] theorem Dev.emit_cSent (d : Dev) (o : Output) : (d.emit o).cSent = d.cSent := rfl
@[simp] theorem Dev.emit_cWait (d : Dev) (o : Output) : (d.emit o).cWait = d.cWait := rfl
@[simp] theorem Dev.emit_wins (d : Dev) (o : Output) : (d.emit o).wins = d.wins := rfl
@[simp] theorem Dev.emit_engs (d : Dev) (o : Output) : (d.emit o).engs = d.engs := rfl
@[simp] theorem Dev.emit_remotes (d : Dev) (o : Output) : (d.emit o).remotes = d.remotes := rfl
@[simp] theorem Dev.emit_spprMarks (d : Dev) (o : Output) : (d.emit o).spprMarks = d.spprMarks := rfl
@[simp] theorem Dev.emit_rowErrors (d : Dev) (o : Output) : (d.emit o).rowErrors = d.rowErrors := rfl
@[simp] theorem Dev.emit_scrubAt (d : Dev) (o : Output) : (d.emit o).scrubAt = d.scrubAt := rfl
@[simp] theorem Dev.emit_net (d : Dev) (o : Output) : (d.emit o).net = d.net := rfl
@[simp] theorem Dev.emit_links (d : Dev) (o : Output) : (d.emit o).links = d.links := rfl
@[simp] theorem Dev.emit_osChans (d : Dev) (o : Output) : (d.emit o).osChans = d.osChans := rfl
@[simp] theorem Dev.emit_osSeps (d : Dev) (o : Output) : (d.emit o).osSeps = d.osSeps := rfl
@[simp] theorem Dev.emit_migrations (d : Dev) (o : Output) : (d.emit o).migrations = d.migrations := rfl
@[simp] theorem Dev.emit_slots (d : Dev) (o : Output) : (d.emit o).slots = d.slots := rfl
@[simp] theorem Dev.emit_windowOpen (d : Dev) (o : Output) : (d.emit o).windowOpen = d.windowOpen := rfl
@[simp] theorem Dev.emit_scoreAt (d : Dev) (o : Output) : (d.emit o).scoreAt = d.scoreAt := rfl
@[simp] theorem Dev.emit_replace (d : Dev) (o : Output) : (d.emit o).replace = d.replace := rfl
@[simp] theorem Dev.emit_suspects (d : Dev) (o : Output) : (d.emit o).suspects = d.suspects := rfl
@[simp] theorem Dev.emit_fencePending (d : Dev) (o : Output) : (d.emit o).fencePending = d.fencePending := rfl
@[simp] theorem Dev.emit_slolisUp (d : Dev) (o : Output) : (d.emit o).slolisUp = d.slolisUp := rfl
@[simp] theorem Dev.emit_resets (d : Dev) (o : Output) : (d.emit o).resets = d.resets := rfl
@[simp] theorem Dev.emit_snap (d : Dev) (o : Output) : (d.emit o).snap = d.snap := rfl
@[simp] theorem Dev.emit_mgmt (d : Dev) (o : Output) : (d.emit o).mgmt = d.mgmt := rfl
@[simp] theorem Dev.emit_power (d : Dev) (o : Output) : (d.emit o).power = d.power := rfl
@[simp] theorem Dev.emit_eths (d : Dev) (o : Output) : (d.emit o).eths = d.eths := rfl
@[simp] theorem Dev.emit_pcieCfg (d : Dev) (o : Output) : (d.emit o).pcieCfg = d.pcieCfg := rfl
@[simp] theorem Dev.emit_jtag (d : Dev) (o : Output) : (d.emit o).jtag = d.jtag := rfl
@[simp] theorem Dev.emit_farTries (d : Dev) (o : Output) : (d.emit o).farTries = d.farTries := rfl
@[simp] theorem Dev.emit_bandOut (d : Dev) (o : Output) : (d.emit o).bandOut = d.bandOut := rfl
@[simp] theorem Dev.emit_halted (d : Dev) (o : Output) : (d.emit o).halted = d.halted := rfl
@[simp] theorem Dev.emit_resetWaits (d : Dev) (o : Output) : (d.emit o).resetWaits = d.resetWaits := rfl
@[simp] theorem Dev.emit_defects (d : Dev) (o : Output) : (d.emit o).defects = d.defects := rfl
@[simp] theorem Dev.emit_logRing (d : Dev) (o : Output) : (d.emit o).logRing = d.logRing := rfl
@[simp] theorem Dev.emit_logSlots (d : Dev) (o : Output) : (d.emit o).logSlots = d.logSlots := rfl
@[simp] theorem Dev.emit_dgramSeq (d : Dev) (o : Output) : (d.emit o).dgramSeq = d.dgramSeq := rfl
@[simp] theorem Dev.emit_distSeen (d : Dev) (o : Output) : (d.emit o).distSeen = d.distSeen := rfl
@[simp] theorem Dev.emit_distRun (d : Dev) (o : Output) : (d.emit o).distRun = d.distRun := rfl
@[simp] theorem Dev.emit_distBad (d : Dev) (o : Output) : (d.emit o).distBad = d.distBad := rfl
@[simp] theorem Dev.emit_reply (d : Dev) (o : Output) : (d.emit o).reply = d.reply := rfl
@[simp] theorem Dev.emit_config (d : Dev) (o : Output) : (d.emit o).config = d.config := rfl
@[simp] theorem Dev.emit_ptpBase (d : Dev) (o : Output) : (d.emit o).ptpBase = d.ptpBase := rfl
@[simp] theorem Dev.emit_cycle (d : Dev) (o : Output) : (d.emit o).cycle = d.cycle := rfl
@[simp] theorem Dev.emit_freeCtr (d : Dev) (o : Output) : (d.emit o).freeCtr = d.freeCtr := rfl

/-! ## Dev.answer -/

@[simp] theorem Dev.answer_regs (d : Dev) (r : Reply) : (d.answer r).regs = d.regs := rfl
@[simp] theorem Dev.answer_latch (d : Dev) (r : Reply) : (d.answer r).latch = d.latch := rfl
@[simp] theorem Dev.answer_mem (d : Dev) (r : Reply) : (d.answer r).mem = d.mem := rfl
@[simp] theorem Dev.answer_cells (d : Dev) (r : Reply) : (d.answer r).cells = d.cells := rfl
@[simp] theorem Dev.answer_reports (d : Dev) (r : Reply) : (d.answer r).reports = d.reports := rfl
@[simp] theorem Dev.answer_sched (d : Dev) (r : Reply) : (d.answer r).sched = d.sched := rfl
@[simp] theorem Dev.answer_cSeq (d : Dev) (r : Reply) : (d.answer r).cSeq = d.cSeq := rfl
@[simp] theorem Dev.answer_holdSeen (d : Dev) (r : Reply) : (d.answer r).holdSeen = d.holdSeen := rfl
@[simp] theorem Dev.answer_cSent (d : Dev) (r : Reply) : (d.answer r).cSent = d.cSent := rfl
@[simp] theorem Dev.answer_cWait (d : Dev) (r : Reply) : (d.answer r).cWait = d.cWait := rfl
@[simp] theorem Dev.answer_wins (d : Dev) (r : Reply) : (d.answer r).wins = d.wins := rfl
@[simp] theorem Dev.answer_engs (d : Dev) (r : Reply) : (d.answer r).engs = d.engs := rfl
@[simp] theorem Dev.answer_remotes (d : Dev) (r : Reply) : (d.answer r).remotes = d.remotes := rfl
@[simp] theorem Dev.answer_spprMarks (d : Dev) (r : Reply) : (d.answer r).spprMarks = d.spprMarks := rfl
@[simp] theorem Dev.answer_rowErrors (d : Dev) (r : Reply) : (d.answer r).rowErrors = d.rowErrors := rfl
@[simp] theorem Dev.answer_scrubAt (d : Dev) (r : Reply) : (d.answer r).scrubAt = d.scrubAt := rfl
@[simp] theorem Dev.answer_net (d : Dev) (r : Reply) : (d.answer r).net = d.net := rfl
@[simp] theorem Dev.answer_links (d : Dev) (r : Reply) : (d.answer r).links = d.links := rfl
@[simp] theorem Dev.answer_osChans (d : Dev) (r : Reply) : (d.answer r).osChans = d.osChans := rfl
@[simp] theorem Dev.answer_osSeps (d : Dev) (r : Reply) : (d.answer r).osSeps = d.osSeps := rfl
@[simp] theorem Dev.answer_migrations (d : Dev) (r : Reply) : (d.answer r).migrations = d.migrations := rfl
@[simp] theorem Dev.answer_slots (d : Dev) (r : Reply) : (d.answer r).slots = d.slots := rfl
@[simp] theorem Dev.answer_windowOpen (d : Dev) (r : Reply) : (d.answer r).windowOpen = d.windowOpen := rfl
@[simp] theorem Dev.answer_scoreAt (d : Dev) (r : Reply) : (d.answer r).scoreAt = d.scoreAt := rfl
@[simp] theorem Dev.answer_replace (d : Dev) (r : Reply) : (d.answer r).replace = d.replace := rfl
@[simp] theorem Dev.answer_suspects (d : Dev) (r : Reply) : (d.answer r).suspects = d.suspects := rfl
@[simp] theorem Dev.answer_fencePending (d : Dev) (r : Reply) : (d.answer r).fencePending = d.fencePending := rfl
@[simp] theorem Dev.answer_slolisUp (d : Dev) (r : Reply) : (d.answer r).slolisUp = d.slolisUp := rfl
@[simp] theorem Dev.answer_resets (d : Dev) (r : Reply) : (d.answer r).resets = d.resets := rfl
@[simp] theorem Dev.answer_snap (d : Dev) (r : Reply) : (d.answer r).snap = d.snap := rfl
@[simp] theorem Dev.answer_mgmt (d : Dev) (r : Reply) : (d.answer r).mgmt = d.mgmt := rfl
@[simp] theorem Dev.answer_power (d : Dev) (r : Reply) : (d.answer r).power = d.power := rfl
@[simp] theorem Dev.answer_eths (d : Dev) (r : Reply) : (d.answer r).eths = d.eths := rfl
@[simp] theorem Dev.answer_pcieCfg (d : Dev) (r : Reply) : (d.answer r).pcieCfg = d.pcieCfg := rfl
@[simp] theorem Dev.answer_jtag (d : Dev) (r : Reply) : (d.answer r).jtag = d.jtag := rfl
@[simp] theorem Dev.answer_farTries (d : Dev) (r : Reply) : (d.answer r).farTries = d.farTries := rfl
@[simp] theorem Dev.answer_bandOut (d : Dev) (r : Reply) : (d.answer r).bandOut = d.bandOut := rfl
@[simp] theorem Dev.answer_halted (d : Dev) (r : Reply) : (d.answer r).halted = d.halted := rfl
@[simp] theorem Dev.answer_resetWaits (d : Dev) (r : Reply) : (d.answer r).resetWaits = d.resetWaits := rfl
@[simp] theorem Dev.answer_defects (d : Dev) (r : Reply) : (d.answer r).defects = d.defects := rfl
@[simp] theorem Dev.answer_logRing (d : Dev) (r : Reply) : (d.answer r).logRing = d.logRing := rfl
@[simp] theorem Dev.answer_logSlots (d : Dev) (r : Reply) : (d.answer r).logSlots = d.logSlots := rfl
@[simp] theorem Dev.answer_dgramSeq (d : Dev) (r : Reply) : (d.answer r).dgramSeq = d.dgramSeq := rfl
@[simp] theorem Dev.answer_distSeen (d : Dev) (r : Reply) : (d.answer r).distSeen = d.distSeen := rfl
@[simp] theorem Dev.answer_distRun (d : Dev) (r : Reply) : (d.answer r).distRun = d.distRun := rfl
@[simp] theorem Dev.answer_distBad (d : Dev) (r : Reply) : (d.answer r).distBad = d.distBad := rfl
@[simp] theorem Dev.answer_out (d : Dev) (r : Reply) : (d.answer r).out = d.out := rfl
@[simp] theorem Dev.answer_config (d : Dev) (r : Reply) : (d.answer r).config = d.config := rfl
@[simp] theorem Dev.answer_ptpBase (d : Dev) (r : Reply) : (d.answer r).ptpBase = d.ptpBase := rfl
@[simp] theorem Dev.answer_cycle (d : Dev) (r : Reply) : (d.answer r).cycle = d.cycle := rfl
@[simp] theorem Dev.answer_freeCtr (d : Dev) (r : Reply) : (d.answer r).freeCtr = d.freeCtr := rfl

end Sys2Proof.Machine
end

