-- ==== Sys2Proof/Laws/Cells.lean ====
section
/-! SUPPORT. What setting a cell or a context does, what the choice of the next context leaves alone, and how an instruction ends. -/

namespace Sys2Proof.Machine

/-! ## Cells and contexts -/

@[simp] theorem Dev.cell_setCell_same (d : Dev) (pc : Nat) (s : CellState) : (d.setCell pc s).cell pc = s := by
  simp [Dev.cell, Dev.setCell, SMap.read_write_same]

theorem Dev.cell_setCell_other (d : Dev) {pc pc' : Nat} (h : pc' ≠ pc) (s : CellState) : (d.setCell pc s).cell pc' = d.cell pc' := by
  simp [Dev.cell, Dev.setCell, SMap.read_write_other h]

@[simp] theorem CellState.ctx_setCtx_same (s : CellState) (c : Nat) (x : CtxState) : (s.setCtx c x).ctx c = x := by
  simp [CellState.ctx, CellState.setCtx, SMap.read_write_same]

theorem CellState.ctx_setCtx_other (s : CellState) {c c' : Nat} (h : c' ≠ c) (x : CtxState) : (s.setCtx c x).ctx c' = s.ctx c' := by
  simp [CellState.ctx, CellState.setCtx, SMap.read_write_other h]

@[simp] theorem Dev.cell_modCell_same (d : Dev) (pc : Nat) (f : CellState → CellState) : (d.modCell pc f).cell pc = f (d.cell pc) := by
  simp [Dev.modCell]

@[simp] theorem Dev.ctx_setCtx_same (d : Dev) (pc c : Nat) (x : CtxState) : (d.setCtx pc c x).ctx pc c = x := by
  simp [Dev.ctx, Dev.setCtx]

theorem Dev.ctx_setCtx_other (d : Dev) (pc : Nat) {c c' : Nat} (h : c' ≠ c) (x : CtxState) : (d.setCtx pc c x).ctx pc c' = d.ctx pc c' := by
  simp [Dev.ctx, Dev.setCtx, CellState.ctx_setCtx_other _ h]

@[simp] theorem Dev.ctx_modCtx_same (d : Dev) (pc c : Nat) (f : CtxState → CtxState) : (d.modCtx pc c f).ctx pc c = f (d.ctx pc c) := by
  simp [Dev.modCtx]

theorem Dev.ctx_modCtx_other (d : Dev) (pc : Nat) {c c' : Nat} (h : c' ≠ c) (f : CtxState → CtxState) :
    (d.modCtx pc c f).ctx pc c' = d.ctx pc c' := by
  simp [Dev.modCtx, Dev.ctx_setCtx_other _ _ h]

@[simp] theorem Dev.cell_setReg (d : Dev) (base inst item v pc : Nat) : (d.setReg base inst item v).cell pc = d.cell pc := by
  simp [Dev.cell]

@[simp] theorem Dev.cell_count (d : Dev) (f : Fld) (inst item n pc : Nat) : (d.count f inst item n).cell pc = d.cell pc := by
  simp [Dev.cell]

@[simp] theorem Dev.ctx_setReg (d : Dev) (base inst item v pc c : Nat) : (d.setReg base inst item v).ctx pc c = d.ctx pc c := by
  simp [Dev.ctx]

@[simp] theorem Dev.ctx_count (d : Dev) (f : Fld) (inst item n pc c : Nat) : (d.count f inst item n).ctx pc c = d.ctx pc c := by
  simp [Dev.ctx]

/-! ## Scalar registers (R85) -/

/-- A written register reads back, and x0 reads zero. -/
theorem CtxState.xr_setX (x : CtxState) (r r' : Nat) (v : Word) :
    (x.setX r v).xr r' = if r' = r then (if r = 0 then 0 else v) else x.xr r' := by
  unfold CtxState.setX CtxState.xr
  by_cases h : r = 0
  · by_cases h' : r' = 0
    · simp [h, h']
    · simp [h, h']
  · by_cases h' : r' = r
    · subst h'; simp [h, SMap.read_write_same]
    · simp [h, h', SMap.read_write_other h']

/-- Register x0 reads as zero. -/
@[simp] theorem CtxState.xr_zero (x : CtxState) : x.xr 0 = 0 := by simp [CtxState.xr]

/-- Writing a register changes registers alone. -/
@[simp] theorem CtxState.setX_pc (x : CtxState) (r : Nat) (v : Word) : (x.setX r v).pc = x.pc := by
  unfold CtxState.setX; split <;> rfl

/-! ## The choice of the next context (R114) -/

theorem CellState.ctx_start (s : CellState) (c c' : Nat) : ((s.start c).ctx c').kept = (s.ctx c').kept := by
  have h : (s.start c).ctx c' = (s.setCtx c { s.ctx c with phase := .running }).ctx c' := rfl
  rw [h]
  by_cases hc : c' = c
  · subst hc; simp [CtxState.kept]
  · rw [CellState.ctx_setCtx_other _ hc]

/-- The choice of the next context changes phases and read-ahead alone. -/
theorem CellState.ctx_reselect (s : CellState) (c : Nat) : (s.reselect.ctx c).kept = (s.ctx c).kept := by
  unfold CellState.reselect
  split
  · rfl
  · split
    · exact CellState.ctx_start s _ c
    · split
      · rename_i r _ _ _ _
        rw [CellState.ctx_start]
        by_cases hc : c = r
        · subst hc; simp [CtxState.kept, CtxState.dropAhead]
        · rw [CellState.ctx_setCtx_other _ hc]
      · rfl
    · rfl

theorem Dev.ctx_reselect (d : Dev) (pc c : Nat) : ((d.reselect pc).ctx pc c).kept = (d.ctx pc c).kept := by
  simp [Dev.ctx, Dev.reselect, CellState.ctx_reselect]

@[simp] theorem Dev.reselect_pc (d : Dev) (pc c : Nat) : ((d.reselect pc).ctx pc c).pc = (d.ctx pc c).pc :=
  congrArg (fun k => k.1) (Dev.ctx_reselect d pc c)

@[simp] theorem Dev.reselect_x (d : Dev) (pc c : Nat) : ((d.reselect pc).ctx pc c).x = (d.ctx pc c).x :=
  congrArg (fun k => k.2.1) (Dev.ctx_reselect d pc c)

@[simp] theorem Dev.reselect_xr (d : Dev) (pc c r : Nat) : ((d.reselect pc).ctx pc c).xr r = (d.ctx pc c).xr r := by
  simp [CtxState.xr]

@[simp] theorem Dev.reselect_mem (d : Dev) (pc : Nat) : (d.reselect pc).mem = d.mem := rfl

@[simp] theorem Dev.reselect_regs (d : Dev) (pc : Nat) : (d.reselect pc).regs = d.regs := rfl

@[simp] theorem Dev.reselect_power (d : Dev) (pc : Nat) : (d.reselect pc).power = d.power := rfl

/-! ## How an instruction ends (R91, R115, R117) -/

/-- An instruction that commits goes on at the next word. -/
theorem Dev.issue_next {d d' : Dev} {pc c : Nat} {body : Dev → CoreEnd} (hr : d.ready pc c = true) (hb : body d = .next d') :
    d.issue pc c true body = ((d'.modCtx pc c (fun x => { x with pc := x.nextPc })).retire pc c).reselect pc := by
  simp only [Dev.ready, Bool.and_eq_true] at hr
  simp [Dev.issue, hr.1, hr.2, hb]

/-- An instruction that jumps goes on at its target. -/
theorem Dev.issue_jump {d d' : Dev} {pc c : Nat} {t : Word} {body : Dev → CoreEnd} (hr : d.ready pc c = true) (hb : body d = .jump d' t) :
    d.issue pc c true body = ((d'.modCtx pc c (fun x => { x with pc := t })).retire pc c).reselect pc := by
  simp only [Dev.ready, Bool.and_eq_true] at hr
  simp [Dev.issue, hr.1, hr.2, hb]

/-- An ill-formed word faults ILLEGAL_INSTR. -/
theorem Dev.issue_illegal {d : Dev} {pc c : Nat} {body : Dev → CoreEnd} (hr : d.ready pc c = true) :
    d.issue pc c false body = d.fault pc c 0x01 := by
  simp only [Dev.ready, Bool.and_eq_true] at hr
  simp [Dev.issue, hr.1, hr.2]

/-- A context that may not issue leaves the device as it is. -/
theorem Dev.issue_idle {d : Dev} {pc c : Nat} {legal : Bool} {body : Dev → CoreEnd} (h : d.canIssue pc c = false) :
    d.issue pc c legal body = d := by
  simp [Dev.issue, h]

end Sys2Proof.Machine
end

