-- ==== Sys2Proof/Laws/Words.lean ====
section
/-! SUPPORT. What reading and replacing a bit field of a number does. -/

namespace Sys2Proof

/-- Bits above a field do not matter to it. -/
theorem bitsOf_mod {hi n : Nat} (v lo : Nat) (h : hi < n) : bitsOf (v % 2 ^ n) hi lo = bitsOf v hi lo := by
  unfold bitsOf
  apply Nat.eq_of_testBit_eq
  intro i
  simp only [Nat.testBit_mod_two_pow, Nat.testBit_shiftRight]
  by_cases hi' : i < hi + 1 - lo
  · have : lo + i < n := by omega
    simp [hi', this]
  · simp [hi']

/-- The parts of a number with a field replaced: what lies above, the field, and what lies below. -/
theorem setBitsOf_parts (v hi lo x : Nat) :
    setBitsOf v hi lo x = v / 2 ^ (hi + 1) * 2 ^ (hi + 1) + x % 2 ^ (hi + 1 - lo) * 2 ^ lo + v % 2 ^ lo := by
  simp [setBitsOf, Nat.shiftRight_eq_div_pow, Nat.shiftLeft_eq]

/-- The field and what lies below it fit below the rest. -/
theorem setBitsOf_low_lt (v x : Nat) {hi lo : Nat} (h : lo ≤ hi) :
    x % 2 ^ (hi + 1 - lo) * 2 ^ lo + v % 2 ^ lo < 2 ^ (hi + 1) := by
  have h1 : x % 2 ^ (hi + 1 - lo) + 1 ≤ 2 ^ (hi + 1 - lo) := Nat.mod_lt _ (Nat.two_pow_pos _)
  have h2 : v % 2 ^ lo < 2 ^ lo := Nat.mod_lt _ (Nat.two_pow_pos _)
  have h3 : 2 ^ (hi + 1) = 2 ^ (hi + 1 - lo) * 2 ^ lo := by rw [← Nat.pow_add]; congr 1; omega
  have h4 := Nat.mul_le_mul_right (2 ^ lo) h1
  rw [Nat.add_mul, Nat.one_mul] at h4
  omega

/-- A replaced field reads back, cut to its width. -/
theorem bitsOf_setBitsOf_same (v x : Nat) {hi lo : Nat} (h : lo ≤ hi) : bitsOf (setBitsOf v hi lo x) hi lo = x % 2 ^ (hi + 1 - lo) := by
  have h3 : 2 ^ (hi + 1) = 2 ^ (hi + 1 - lo) * 2 ^ lo := by rw [← Nat.pow_add]; congr 1; omega
  have h2 : v % 2 ^ lo < 2 ^ lo := Nat.mod_lt _ (Nat.two_pow_pos _)
  unfold bitsOf
  rw [setBitsOf_parts, Nat.shiftRight_eq_div_pow]
  rw [show v / 2 ^ (hi + 1) * 2 ^ (hi + 1) + x % 2 ^ (hi + 1 - lo) * 2 ^ lo + v % 2 ^ lo
      = (v / 2 ^ (hi + 1) * 2 ^ (hi + 1 - lo) + x % 2 ^ (hi + 1 - lo)) * 2 ^ lo + v % 2 ^ lo from by rw [h3, Nat.add_mul, Nat.mul_assoc]]
  rw [Nat.mul_comm _ (2 ^ lo), Nat.mul_add_div (Nat.two_pow_pos _), Nat.div_eq_of_lt h2, Nat.add_zero, Nat.mul_comm,
    Nat.mul_add_mod, Nat.mod_mod]

/-- A field below a replaced one keeps its value. -/
theorem bitsOf_setBitsOf_below (v x : Nat) {hi lo hi' : Nat} (lo' : Nat) (hlt : hi' < lo) (h : lo ≤ hi) :
    bitsOf (setBitsOf v hi lo x) hi' lo' = bitsOf v hi' lo' := by
  rw [← bitsOf_mod _ lo' hlt, ← bitsOf_mod v lo' hlt]
  congr 1
  have h3 : 2 ^ (hi + 1) = 2 ^ (hi + 1 - lo) * 2 ^ lo := by rw [← Nat.pow_add]; congr 1; omega
  rw [setBitsOf_parts, h3, ← Nat.mul_assoc, ← Nat.add_mul, Nat.mul_comm _ (2 ^ lo), Nat.mul_add_mod, Nat.mod_mod]

/-- A field above a replaced one keeps its value. -/
theorem bitsOf_setBitsOf_above (v x : Nat) {hi lo lo' : Nat} (hi' : Nat) (hlt : hi < lo') (h : lo ≤ hi) :
    bitsOf (setBitsOf v hi lo x) hi' lo' = bitsOf v hi' lo' := by
  have key : setBitsOf v hi lo x / 2 ^ (hi + 1) = v / 2 ^ (hi + 1) := by
    rw [setBitsOf_parts, Nat.add_assoc, Nat.mul_comm (v / 2 ^ (hi + 1)), Nat.mul_add_div (Nat.two_pow_pos _),
      Nat.div_eq_of_lt (setBitsOf_low_lt v x h), Nat.add_zero]
  have split : ∀ w : Nat, w / 2 ^ lo' = w / 2 ^ (hi + 1) / 2 ^ (lo' - (hi + 1)) := by
    intro w
    rw [Nat.div_div_eq_div_mul, ← Nat.pow_add]
    congr 2
    omega
  unfold bitsOf
  rw [Nat.shiftRight_eq_div_pow, Nat.shiftRight_eq_div_pow, split, key, ← split]

end Sys2Proof
end

