-- ==== Sys2Proof/Laws/Registers.lean ====
section
/-! SUPPORT. What writing a register or a field does: it reads back, and every other register and field keeps its value. -/

namespace Sys2Proof.Machine

/-- A written register reads back, cut to 64 bits. -/
@[simp] theorem Dev.reg_setReg_same (d : Dev) (base inst item v : Nat) : (d.setReg base inst item v).reg base inst item = v % 2 ^ 64 := by
  simp [Dev.reg, Dev.setReg, SMap.read_write_same, wOf]

/-- Every other register keeps its value. -/
theorem Dev.reg_setReg_other (d : Dev) {base inst item base' inst' item' : Nat} (v : Nat)
    (h : regKey base' inst' item' ≠ regKey base inst item) :
    (d.setReg base inst item v).reg base' inst' item' = d.reg base' inst' item' := by
  simp [Dev.reg, Dev.setReg, SMap.read_write_other h]

/-- A written field reads back, cut to its width. -/
theorem Dev.get_set_same (d : Dev) (f : Fld) (v inst item : Nat) (h : f.lo ≤ f.hi) (h' : f.hi ≤ 63) :
    (d.set f v inst item).get f inst item = v % 2 ^ (f.hi + 1 - f.lo) := by
  simp only [Dev.get, Dev.set, Dev.reg_setReg_same]
  rw [bitsOf_mod _ _ (by omega), bitsOf_setBitsOf_same _ _ h]

/-- A field of another register keeps its value. -/
theorem Dev.get_set_other (d : Dev) (f g : Fld) (v inst item inst' item' : Nat)
    (h : regKey g.base inst' item' ≠ regKey f.base inst item) :
    (d.set f v inst item).get g inst' item' = d.get g inst' item' := by
  simp only [Dev.get, Dev.set, Dev.reg_setReg_other d _ h]

/-- A field of the same register that does not overlap keeps its value. -/
theorem Dev.get_set_disjoint (d : Dev) (f g : Fld) (v inst item : Nat) (hb : g.base = f.base) (hf : f.lo ≤ f.hi)
    (hg : g.hi ≤ 63) (h : g.hi < f.lo ∨ f.hi < g.lo) : (d.set f v inst item).get g inst item = d.get g inst item := by
  simp only [Dev.get, Dev.set, hb, Dev.reg_setReg_same]
  rw [bitsOf_mod _ _ (by omega)]
  cases h with
  | inl h => exact bitsOf_setBitsOf_below _ _ _ h hf
  | inr h => exact bitsOf_setBitsOf_above _ _ _ h hf

/-- Writing a register touches the register map alone. -/
theorem Dev.setReg_eq (d : Dev) (base inst item v : Nat) : d.setReg base inst item v = { d with regs := (d.setReg base inst item v).regs } := rfl

/-- What an operation's answer is: a next state with the queue as it was. -/
theorem State.run_eq (s : State) (f : Dev → Dev) : s.run f = .next { dev := f s.dev, pending := s.pending } := rfl

/-- With main power on, a command to a unit on the mesh supply has its effect. -/
theorem State.runMain_up (s : State) (f : Dev → Dev) (h : s.dev.power.mainUp = true) : s.runMain f = .next { dev := f s.dev, pending := s.pending } := by
  simp [State.runMain, State.run, h]

/-- With main power off it has none (R497). -/
theorem State.runMain_off (s : State) (f : Dev → Dev) (h : s.dev.power.mainUp = false) : s.runMain f = .next s := by
  simp [State.runMain, State.run, h]

end Sys2Proof.Machine
end

