-- ==== Sys2Proof/Laws/Commit.lean ====
section
/-! SUPPORT. How an instruction that commits leaves the device: what stands, and what its context holds. -/

namespace Sys2Proof.Machine

theorem CellState.start_same (s : CellState) (c : Nat) : { s.start c with ctxs := s.ctxs, lastRun := s.lastRun } = s := rfl
theorem CellState.reselect_same (s : CellState) : { s.reselect with ctxs := s.ctxs, lastRun := s.lastRun } = s := by
  unfold CellState.reselect
  split
  · rfl
  · split
    · rfl
    · split <;> rfl
    · rfl

theorem CellState.reselect_same' (s : CellState) (a : SMap CtxState) (b : Nat) : { s.reselect with ctxs := a, lastRun := b } = { s with ctxs := a, lastRun := b } := by
  have := CellState.reselect_same s
  conv => rhs; rw [← this]

theorem Dev.reg_modCell (d : Dev) (pc : Nat) (g) (b i n) : (d.modCell pc g).reg b i n = d.reg b i n := rfl

theorem CtxState.rest_of_kept {x y : CtxState} (h : x.kept = y.kept) : x.rest = y.rest := by
  simp only [CtxState.kept, Prod.mk.injEq] at h
  obtain ⟨-, -, h1, h2, h3, h4, h5, h6, -, h7, h8, h9, h10⟩ := h
  simp only [CtxState.rest, h1, h2, h3, h4, h5, h6, h7, h8, h9, h10]

theorem CtxState.pc_of_kept {x y : CtxState} (h : x.kept = y.kept) : x.pc = y.pc := congrArg (fun k => k.1) h
theorem CtxState.x_of_kept {x y : CtxState} (h : x.kept = y.kept) : x.x = y.x := congrArg (fun k => k.2.1) h
theorem CtxState.retired_of_kept {x y : CtxState} (h : x.kept = y.kept) : x.retired = y.retired := congrArg (fun k => k.2.2.2.2.2.2.2.2.1) h
/-- The last part of an instruction that commits. -/
def Dev.commitAt (d1 : Dev) (pc c : Nat) (t : Word) : Dev := ((d1.modCtx pc c (fun x => { x with pc := t })).retire pc c).reselect pc

theorem Dev.commitAt_kept (d1 : Dev) (pc c : Nat) (t : Word) (k : Nat) : ((Dev.commitAt d1 pc c t).ctx pc k).kept =
      (if k = c then { d1.ctx pc c with pc := t, retired := (d1.ctx pc c).retired + 1 } else d1.ctx pc k).kept := by
    unfold Dev.commitAt
    rw [Dev.ctx_reselect]
    by_cases hk : k = c
    · subst hk; simp only [Dev.retire, Dev.ctx_count, Dev.ctx_modCtx_same, if_true]
    · simp only [Dev.retire, Dev.ctx_count, Dev.ctx_modCtx_other _ _ hk, hk, if_false]

theorem Dev.commitAt_regs (d1 : Dev) (pc c : Nat) (t : Word) : (Dev.commitAt d1 pc c t).regs = (d1.count F.CELL_RETIRED pc).regs := by
  unfold Dev.commitAt Dev.retire
  simp only [Dev.reselect_regs]
  generalize hx : (d1.modCtx pc c fun x => { x with pc := t }).modCtx pc c (fun x => { x with retired := x.retired + 1 }) = d2
  have : d2.regs = d1.regs := by rw [← hx]; rfl
  simp only [Dev.count, Dev.setReg, Dev.reg, this]

theorem Dev.reg_of_regs {d d' : Dev} (h : d.regs = d'.regs) (b i n : Nat) : d.reg b i n = d'.reg b i n := by simp only [Dev.reg, h]

theorem Dev.commitAt_cell (d1 : Dev) (pc c : Nat) (t : Word) (p : Nat) (hp : p ≠ pc) : (Dev.commitAt d1 pc c t).cell p = d1.cell p := by
  simp only [Dev.commitAt, Dev.reselect, Dev.modCell, Dev.cell_setCell_other _ hp, Dev.retire, Dev.cell_count, Dev.modCtx, Dev.setCtx]

theorem Dev.commitAt_same (d1 : Dev) (pc c : Nat) (t : Word) (a : SMap CtxState) (b : Nat) :
    { (Dev.commitAt d1 pc c t).cell pc with ctxs := a, lastRun := b } = { d1.cell pc with ctxs := a, lastRun := b } := by
  unfold Dev.commitAt
  simp only [Dev.reselect, Dev.cell_modCell_same, CellState.reselect_same']
  simp only [Dev.retire, Dev.cell_count, Dev.modCtx, Dev.setCtx, Dev.cell_modCell_same, CellState.setCtx]

theorem Dev.cellsRegs_trans {d d1 d2 : Dev} (h : { d1 with cells := d.cells, regs := d.regs } = d) (h' : { d2 with cells := d1.cells, regs := d1.regs } = d1) :
    { d2 with cells := d.cells, regs := d.regs } = d := by
  have : { d2 with cells := d.cells, regs := d.regs } = { ({ d2 with cells := d1.cells, regs := d1.regs } : Dev) with cells := d.cells, regs := d.regs } := rfl
  rw [this, h', h]
theorem Dev.cellsRegs_cells (d : Dev) (x) : { ({ d with cells := x } : Dev) with cells := d.cells, regs := d.regs } = d := rfl
theorem Dev.cellsRegs_regs (d : Dev) (x) : { ({ d with regs := x } : Dev) with cells := d.cells, regs := d.regs } = d := rfl
theorem Dev.cellsRegs_modCell (d : Dev) (pc f) : { d.modCell pc f with cells := d.cells, regs := d.regs } = d := Dev.cellsRegs_cells d _
theorem Dev.cellsRegs_modCtx (d : Dev) (pc c f) : { d.modCtx pc c f with cells := d.cells, regs := d.regs } = d := Dev.cellsRegs_cells d _
theorem Dev.cellsRegs_count (d : Dev) (f i n k) : { d.count f i n k with cells := d.cells, regs := d.regs } = d := Dev.cellsRegs_regs d _
theorem Dev.commitAt_dev (d1 : Dev) (pc c : Nat) (t : Word) : { Dev.commitAt d1 pc c t with cells := d1.cells, regs := d1.regs } = d1 :=
  Dev.cellsRegs_trans (Dev.cellsRegs_trans (Dev.cellsRegs_trans (Dev.cellsRegs_modCtx _ _ _ _) (Dev.cellsRegs_modCtx _ _ _ _)) (Dev.cellsRegs_count _ _ _ _ _)) (Dev.cellsRegs_modCell _ _ _)

/-- The end of an instruction, in terms of the device before its last step. -/
theorem Commits.of_commitAt {d d1 : Dev} {pc c : Nat} {keys : List Nat} {rd : Nat} {v t : Word}
    (h0 : { d1 with cells := d.cells, regs := d.regs } = d) (h1 : CellsStand d d1 pc)
    (h2 : { d1.cell pc with ctxs := (d.cell pc).ctxs, lastRun := (d.cell pc).lastRun } = d.cell pc)
    (h3 : ∀ k, k ≠ c → (d1.ctx pc k).kept = (d.ctx pc k).kept) (h4 : RegsStand d d1 keys)
    (h5 : ∀ r, (d1.ctx pc c).xr r = if r = rd ∧ r ≠ 0 then v else (d.ctx pc c).xr r)
    (h6 : (d1.ctx pc c).rest = (d.ctx pc c).rest) (h7 : (d1.ctx pc c).retired = (d.ctx pc c).retired)
    (h8 : d1.reg F.CELL_RETIRED.base pc = d.reg F.CELL_RETIRED.base pc) :
    Commits d (Dev.commitAt d1 pc c t) pc c rd v t ∧ OnlyContext d (Dev.commitAt d1 pc c t) pc c (retiredKey pc :: keys) := by
  have hc := Dev.commitAt_kept d1 pc c t c
  simp only [if_true] at hc
  refine ⟨⟨?_, ?_, ?_, ?_, ?_⟩, ?_, ?_, ?_, ?_, ?_⟩
  · intro r
    rw [← h5 r]
    have : ((Dev.commitAt d1 pc c t).ctx pc c).x = (d1.ctx pc c).x := (CtxState.x_of_kept hc).trans rfl
    simp only [CtxState.xr, this]
  · exact CtxState.pc_of_kept hc
  · rw [← h7]; exact CtxState.retired_of_kept hc
  · rw [← h6]
    exact (CtxState.rest_of_kept hc).trans rfl
  · rw [Dev.reg_of_regs (Dev.commitAt_regs d1 pc c t)]
    simp only [Dev.count, Dev.reg_setReg_same, h8]
  · exact Dev.cellsRegs_trans h0 (Dev.commitAt_dev _ _ _ _)
  · intro p hp
    rw [Dev.commitAt_cell _ _ _ _ _ hp, h1 p hp]
  · rw [Dev.commitAt_same, h2]
  · intro k hkc
    rw [Dev.commitAt_kept, if_neg hkc, h3 k hkc]
  · intro b i n hn
    simp only [List.mem_cons, not_or] at hn
    rw [← h4 b i n hn.2, Dev.reg_of_regs (Dev.commitAt_regs d1 pc c t)]
    exact Dev.reg_setReg_other _ _ hn.1

theorem Does.of_run {i : Instr} {d : Dev} {f : Dev → Dev} {post : Dev → Prop} (h : ∀ s, exec i s = s.run f) (hp : post (f d)) : Does i d post := by
  intro q
  exact ⟨f d, by rw [h]; rfl, hp⟩

/-- A value for XD. -/
theorem Commits.of_writeX {d : Dev} {pc c rd : Nat} {v t : Word} :
    Commits d (Dev.commitAt (d.writeX pc c rd v) pc c t) pc c rd v t ∧
    OnlyContext d (Dev.commitAt (d.writeX pc c rd v) pc c t) pc c [retiredKey pc] := by
  apply Commits.of_commitAt
  · rfl
  · intro p hp; simp [Dev.writeX, Dev.modCtx, Dev.setCtx, Dev.modCell, Dev.cell_setCell_other _ hp]
  · simp [Dev.writeX, Dev.modCtx, Dev.setCtx, CellState.setCtx]
  · intro k hk; rw [Dev.writeX, Dev.ctx_modCtx_other _ _ hk]
  · intro b i n _; rfl
  · intro r
    simp only [Dev.writeX, Dev.ctx_modCtx_same, CtxState.xr_setX]
    by_cases h : r = rd
    · subst h; by_cases h : r = 0 <;> simp [h]
    · simp [h]
  · simp only [Dev.writeX, Dev.ctx_modCtx_same]; unfold CtxState.setX; split <;> rfl
  · simp only [Dev.writeX, Dev.ctx_modCtx_same]; unfold CtxState.setX; split <;> rfl
  · rfl

theorem Dev.writeX_nextPc {d : Dev} {pc c rd : Nat} {v : Word} :
   (d.writeX pc c rd v).modCtx pc c (fun x => { x with pc := x.nextPc }) = (d.writeX pc c rd v).modCtx pc c (fun x => { x with pc := (d.ctx pc c).pc + 8 }) := by
  simp only [Dev.modCtx]
  congr 1
  simp [CtxState.nextPc, Dev.writeX]

theorem Dev.issueScalar_write {d : Dev} {pc : Slot} {c : Ctx} {regs : List Nat} {rd : Nat} {v : Word} {legal : Bool} {body : Dev → CoreEnd}
    (hr : d.ready pc c = true) (hl : legal = true) (hp : d.scalarsPending pc c regs = false) (hb : body d = .next (d.writeX pc c rd v)) :
    Commits d (d.issueScalar pc c legal regs body) pc c rd v (d.seqPc pc c) ∧ OnlyContext d (d.issueScalar pc c legal regs body) pc c [retiredKey pc] := by
  subst hl
  unfold Dev.issueScalar
  rw [Dev.issue_next hr (d' := d.writeX pc c rd v) (by simp [hp, hb]), Dev.writeX_nextPc]
  exact Commits.of_writeX (t := d.seqPc pc c)

end Sys2Proof.Machine
end

