-- ==== Sys2Proof/Tests/Slice0.lean ====
section
/-! SUPPORT. Tests: ill-formed commands are refused, words and worked examples of the spec come out as it gives them, and the hypotheses of the statements can be met. -/

namespace Sys2Proof.Tests

-- One theorem after the other: each evaluation waits for the definitions before it.
set_option Elab.async false

open Sys2Proof Sys2Proof.Machine

/-! ## Small devices -/

/-- A device with main power, slots 0 and 1 and hub 0 on. -/
def tDev : Dev := ((({ Dev.reset with power := { Power.reset with aonUp := true, mainUp := true }, slolisUp := true }.setDom 0 true).setDom 1 true).setDom 544 true)

/-- A task's context that runs in a code range of 4 KiB. -/
def tCtx : CtxState := { CtxState.reset with phase := .running, pc := 64, codeLimit := 4096, bindId := 1, x := [(1, 5), (2, 7), (4, 0x100000000000)] }

/-- The device with context 3 of slot 0 running. -/
def tRun : Dev := tDev.setCtx 0 3 tCtx

/-- Fields of an instruction word in format S. -/
abbrev tF (xd xa xb : BitVec 5) (fl : BitVec 5 := 0) (imm : BitVec 32 := 0) : FmtS := ⟨xd, xa, xb, fl, imm⟩

/-! ## Well-formedness: each check refuses an ill-formed command -/

/-- A packet whose LEN counts three bytes that it does not carry. -/
def badPkt : Packet := ⟨0x02, 0, 3, 0, 0, 0, 0, 0, 0, [], [], 0⟩

/-- A packet whose extension is no whole number of 8-byte words. -/
def oddPkt : Packet := ⟨0x02, 0, 0, 0, 0, 0, 0, 0, 0, [0, 0, 0], [], 0⟩

/-- A C flit with an empty body. -/
def badFlit : CFlit := ⟨0x10, 0, 0, 0, 0, [], 0⟩

theorem test_wf_register_access : Instr.wf (.registerWrite .os 0 0 0) = false ∧ Instr.wf (.wideValueRead .os 0 0) = false ∧
    Instr.wf (.registerWrite .os 0 8 0) = true := by decide

theorem test_wf_upsets : ∀ i ∈ [Instr.ld 0 0 (tF 1 2 0) [(0, 0)], .st 0 0 (tF 0 2 1) [(0, 0)], .ldm 0 0 (tF 8 2 0) [(0, 0)],
    .stm 0 0 (tF 0 2 8) [(0, 0)], .vld 0 0 ⟨0, 0, 0, 0, 0, 0, false, 0, 0, 0, 0⟩ [(0, 0)],
    .vst 0 0 ⟨0, 0, 0, 0, 0, 0, false, 0, 0, 0, 0⟩ [(0, 0)], .packetHop 0 [] [(0, 0)]], Instr.wf i = false := by decide

theorem test_wf_shared_words : ∀ i ∈ [Instr.sadd 0 0 (tF 0 1 2 1), .saddRemote 0 0 (tF 0 1 2 0), .cqaddContribute 0 0 (tF 0 1 2 1),
    .cqaddContribute 0 0 (tF 0 1 2 2), .cqaddOpen 0 0 (tF 0 1 2 0), .cqaddClose 0 0 (tF 0 1 2 0)], Instr.wf i = false := by decide

theorem test_wf_packets : ∀ p ∈ [badPkt, oddPkt], ∀ i ∈ [Instr.writePkt p none, .readReqPkt p none, .readRespPkt p none, .writeAckPkt p none,
    .refusePkt p none, .recordPkt p none, .creditPkt p none, .joinPkt p none, .joinReplyPkt p none, .closeNoticePkt p none,
    .contribPkt p none false, .saddPacket p none], Instr.wf i = false := by decide

theorem test_wf_flits : ∀ i ∈ [Instr.beatMarker 0 badFlit 0, .holdFlit 0 badFlit, .stretchReq 0 badFlit, .barrierArrive 0 badFlit,
    .barrierRelease 0 badFlit, .snapPropose 0 badFlit, .snapStep 0 badFlit, .snapDone 0 badFlit], Instr.wf i = false := by decide

theorem test_wf_codewords : Instr.wf (.codewordRx 0 ⟨false, false, 0, 0, [⟨0, true, 0⟩]⟩) = false ∧
    Instr.wf (.codewordRx 0 ⟨true, false, 0, 0, List.replicate 6 ⟨0, true, 0⟩⟩) = false ∧
    Instr.wf (.codewordRx 0 ⟨true, false, 0, 0, List.replicate 5 ⟨0, true, 0⟩⟩) = true := by decide

theorem test_wf_sensors : Instr.wf (.thermalTrip 100 585) = false ∧ Instr.wf (.thermalTrip 100 584) = true ∧
    Instr.wf (.powerMonitorSample ⟨0, 0, 0, 0, false, [(1022, 0)]⟩) = false := by decide

theorem test_wf_ports : Instr.wf (.pcieInboundRequest 0 ⟨true, true, 0, 2, [0]⟩) = false ∧
    Instr.wf (.pcieInboundRequest 0 ⟨true, false, 0, 1, [0]⟩) = false ∧
    Instr.wf (.pcieOutboundRequest .os 0 (2 ^ 42) false [0]) = false ∧ Instr.wf (.virtioNetAccess .os 0 4 false 0) = false ∧
    Instr.wf (.virtioNetAccess .os 0 0x400 false 0) = false := by decide

/-! ## Words and worked examples of the spec -/

/-- The worked example of chapter 03: VFMA FP32 v2 := v0 × v1 + v2. -/
theorem test_word_vfma : decodeCore 0 0 0x40340A0000000000 = some (.vfma 0 0 ⟨2, 0, 1, 2, 0, 0, false, 0, 0, 0, 0⟩) := rfl

/-- The worked example of chapter 03: VMUL BF16 v5 := v4 × x9, broadcast. -/
theorem test_word_vmul : decodeCore 0 0 0x402B000A60000000 = some (.vmul 0 0 ⟨5, 4, 0, 0, 1, 9, true, 0, 0, 0, 0⟩) := rfl

/-- The worked example of chapter 06: the remote SADD of x5 into counter 20 of the cell in x6. -/
theorem test_word_sadd_remote : decodeCore 0 0 0x800014C100000014 = some (.saddRemote 0 0 (tF 0 5 6 1 20)) := rfl

/-- Words of no listed operation decode to nothing: OP 0x10 of class 0x0 and class 0xF. -/
theorem test_word_unlisted : decodeCore 0 0 0x0100000000000000 = none ∧ decodeCore 0 0 0xF000000000000000 = none := by decide

/-- R25's worked example: the check bits of the data word 1. -/
theorem test_w80_check : w80Check 1 = 0xC377 := by decide +kernel

/-! ## Scalar instructions: the hypotheses can be met -/

theorem test_met_scalar_register : tRun.ready 0 3 = true ∧ (tF 3 1 2).fl = 0 ∧ (tF 3 1 2).imm = 0 ∧
    tRun.scalarsPending 0 3 (tF 3 1 2).regs = false := by decide +kernel

theorem test_met_scalar_immediate : tRun.ready 0 3 = true ∧ (tF 3 0 0 0 9).fl = 0 ∧ (tF 3 0 0 0 9).xb = 0 ∧ (tF 3 0 0 0 9).xa = 0 ∧
    tRun.scalarsPending 0 3 (tF 3 0 0 0 9).regs = false := by decide +kernel

theorem test_met_ill_formed : tRun.ready 0 3 = true ∧ (tF 3 1 2 1 0).fl ≠ 0 ∧ 7 < (tF 3 1 1 0 8).imm.toNat ∧ (tF 3 1 1 0 8).xb ≠ 0 ∧
    (tF 3 1 1 0 8).xd ≠ 0 ∧ (tRun.cell 0).arr.pend = none := by decide +kernel

theorem test_met_branches : tRun.ready 0 3 = true ∧ (tF 0 0 0 0 2).fl = 0 ∧ tRun.scalarsPending 0 3 (tF 0 0 0 0 2).regs = false ∧
    (tF 0 0 0 0 2).xd = 0 ∧ (tF 0 0 0 0 2).xa = 0 ∧ (tF 0 0 0 0 2).xb = 0 := by decide +kernel

theorem test_met_simple : tRun.ready 0 3 = true ∧ (tF 0 0 0 1 0).fl.toNat ≤ 1 ∧ tRun.anyPending 0 3 = false ∧ tRun.hosted 0 = some 0 ∧
    tRun.scalarsPending 0 3 (tF 3 0 0 0 1).regs = false := by decide +kernel

theorem test_met_yield : ((tRun.modCell 0 (fun s => { s with lastRun := 3 })).cell 0).lastRun = 3 ∧
    (∀ k ∈ List.range 32, k ≠ 3 → (tRun.ctx 0 k).phase ≠ .running) ∧
    (((tRun.setCtx 0 4 { tCtx with phase := .ready }).ctx 0 4).phase = .ready ∧ tCtx.prio ≤ 3) := by decide +kernel

/-! ## Loads, stores, streams and slab operations: the hypotheses can be met -/

theorem test_met_load : tRun.ready 0 3 = true ∧ (tF 3 4 0 3 16).xb = 0 ∧ (tF 3 4 0 3 16).fl.toNat < 8 ∧
    tRun.scalarsPending 0 3 (tF 3 4 0 3 16).regs = false ∧ (((tRun.ctx 0 3).xr 4 + (16 : BitVec 32).signExtend 64).toNat % 8 = 0) ∧
    tRun.coreAddr ((tRun.ctx 0 3).xr 4 + (16 : BitVec 32).signExtend 64).toNat 8 = some (sliceBase 0 + 16) := by decide +kernel

theorem test_met_ldm : (tF 8 4 0 0 64).fl = 0 ∧ (8 : BitVec 5).toNat % 8 = 0 ∧
    tRun.scalarsPending 0 3 (4 :: (List.range 8).map (fun i => 8 + i)) = false ∧
    (((tRun.ctx 0 3).xr 4 + (64 : BitVec 32).signExtend 64).toNat % 64 = 0) ∧
    tRun.coreAddr ((tRun.ctx 0 3).xr 4 + (64 : BitVec 32).signExtend 64).toNat 64 = some (sliceBase 0 + 64) := by decide +kernel

theorem test_met_store : tRun.ready 0 3 = true ∧ (tF 0 4 1 3 0xAFFFF8).xd = 0 ∧ tRun.anyPending 0 3 = false ∧ (tF 0 4 1 3 0xAFFFF8).fl.toNat < 4 ∧
    tRun.coreAddr ((tRun.ctx 0 3).xr 4 + (0xAFFFF8 : BitVec 32).signExtend 64).toNat 8 = some (sliceBase 0 + 0xAFFFF8) ∧
    tRun.ringAt (sliceBase 0 + 0xAFFFF8) 8 = none := by decide +kernel

theorem test_met_stm : (tF 0 4 8 0 0xAFFFC0).fl = 0 ∧ (8 : BitVec 5).toNat % 8 = 0 ∧
    tRun.coreAddr ((tRun.ctx 0 3).xr 4 + (0xAFFFC0 : BitVec 32).signExtend 64).toNat 64 = some (sliceBase 0 + 0xAFFFC0) ∧
    tRun.ringAt (sliceBase 0 + 0xAFFFC0) 64 = none := by decide +kernel

/-- A misaligned address, the first address past the scratchpad, and the last with its bytes past it. -/
theorem test_met_bad_addresses : tRun.bit F.CELL_CTX_FAULT_CAUSE_VALID 0 = false ∧
    ((tRun.ctx 0 3).xr 4 + (1 : BitVec 32).signExtend 64).toNat % 8 ≠ 0 ∧
    tRun.coreAddr ((tRun.ctx 0 3).xr 4 + (0xB00000 : BitVec 32).signExtend 64).toNat 8 = none ∧
    tRun.coreAddr ((tRun.ctx 0 3).xr 0 + (8 : BitVec 32).signExtend 64).toNat 8 = none := by decide +kernel

/-- A descriptor of one row of 64 bytes at the start of the own scratchpad, for reading ahead. -/
def tStreamBytes : List Byte := leBytes 8 0x100000000000 ++ leBytes 4 64 ++ leBytes 4 64 ++ leBytes 4 1 ++ [0, 0, 1, 0] ++ leBytes 8 0

theorem test_met_sdecl : (tRun.store (sliceBase 0) tStreamBytes).coreAddr ((tRun.ctx 0 3).xr 4).toNat 32 = some (sliceBase 0) ∧
    (tRun.store (sliceBase 0) tStreamBytes).load (sliceBase 0) 32 = tStreamBytes ∧ tRun.streamOk 0 tStreamBytes = true ∧
    fmtKnown ((tRun.store (sliceBase 0) tStreamBytes).loadNat (sliceBase 0 + 21) 1) = true := by decide +kernel

theorem test_met_runahead : SMap.find 7 [(7, streamOf tStreamBytes)] = some (streamOf tStreamBytes) ∧
    7 ∈ ({ tCtx with sds := [(7, streamOf tStreamBytes)] }).aheadSds := by decide +kernel

/-- The fields of a slab instruction: format, XS, BX, IW. -/
abbrev tV (fmt xs : BitVec 5) (bx : Bool) (iw : BitVec 4) (vb : BitVec 3 := 0) (vc : BitVec 3 := 0) : FmtV := ⟨1, 0, vb, vc, fmt, xs, bx, 0, iw, 0, 0⟩

theorem test_met_slab : tRun.slabsPending 0 3 [1, 0, 2, 3] = false ∧ tRun.slabsPending 0 3 [1, 0, 0, 0] = false ∧
    tRun.scalarPending 0 3 9 = false ∧ tRun.scalarPending 0 3 0 = false ∧ (tV 1 9 true 0).vb = 0 ∧ (tV 0 0 false 3 2 3).xs = 0 ∧
    condOk true 0 = true ∧ condOk false 0 = true ∧ (3 : BitVec 4).toNat ≤ 3 := by decide +kernel

/-- A slab operation of context 3 that has issued. -/
def tSlabOp (dst : SlabDst) : SlabOp := ⟨3, 64, dst, leBytes 8 9, 0, tCtx.x⟩

/-- The device while a job runs. -/
def tJob (d : Dev) : Dev := d.setSched 3

theorem test_met_writeback : ((tRun.modCell 0 (fun s => { s with slabOps := [tSlabOp (.slab 7)] })).cell 0).slabOps = [tSlabOp (.slab 7)] ∧
    (tSlabOp (.scalar 31)).dst = .scalar 31 ∧ ((tJob tRun).hosted 0).isSome ∧ (tJob tRun).running = true ∧ (tJob tRun).inWindow = false := by
  decide +kernel

theorem test_met_vld : (((tRun.ctx 0 3).xr 4 + (0 : BitVec 16).signExtend 64 * 256).toNat % 256 = 0) ∧
    tRun.ownSpad 0 ((tRun.ctx 0 3).xr 4 + (0xAFF0 : BitVec 16).setWidth 64 * 256).toNat 4096 = some 0xAFF000 := by decide +kernel

/-! ## Tasks and counters: the hypotheses can be met -/

/-- A task descriptor at the last place of the scratchpad part: entry 64, code [0, 4096). -/
def tTask : List Byte := leBytes 4 64 ++ leBytes 4 0 ++ leBytes 4 4096 ++ [1, 3, 1, 0] ++ leBytes 48 0

theorem test_met_bind : tRun.domOn 0 = true ∧ tRun.hosted 0 = some 0 ∧ tRun.migrating 0 = false ∧ (tRun.ctx 0 31).busy = false ∧
    (0xAFFFC0 : BitVec 24).toNat % 64 = 0 ∧ (0xAFFFC0 : BitVec 24).toNat + 64 ≤ 0xB00000 ∧
    taskOk 31 ((tRun.store (sliceBase 0 + 0xAFFFC0) tTask).spad 0 0xAFFFC0 64) = true := by decide +kernel

theorem test_met_bind_instruction : ((tRun.ctx 0 3).xr 2).toNat = 7 ∧ (tRun.ctx 0 7).busy = false ∧ tRun.anyPending 0 3 = false ∧
    tRun.ownSpad 0 ((tRun.ctx 0 3).xr 4).toNat 64 = some 0 ∧ taskOk 7 ((tRun.store (sliceBase 0) tTask).spad 0 0 64) = true := by decide +kernel

theorem test_met_switch : ((tRun.setCtx 0 5 { tCtx with act := .switching (taskOf tTask) none }).ctx 0 5).act = .switching (taskOf tTask) none ∧
    ((tRun.setCtx 0 5 { tCtx with act := .clearing }).ctx 0 5).act = .clearing := by decide +kernel

/-- Two contexts of one priority, the other READY. -/
def tTwo : Dev := (tRun.setCtx 0 4 { tCtx with phase := .ready }).modCell 0 (fun s => { s with lastRun := 3 })

theorem test_met_time_slice : (tTwo.ctx 0 3).phase = .running ∧ tTwo.isFrozen 0 = false ∧ (tTwo.cell 0).lastRun = 3 ∧ (tTwo.ctx 0 3).prio ≤ 3 ∧
    (∀ k ∈ List.range 32, k ≠ 3 → (tTwo.ctx 0 k).phase ≠ .running) ∧ (tTwo.ctx 0 4).phase = .ready ∧ (tTwo.ctx 0 4).prio = (tTwo.ctx 0 3).prio := by
  decide +kernel

theorem test_met_freeze : ((tRun.setFreeze 0 (fun f => { f with command := true })).cell 0).freeze = ⟨true, false, false, false, false⟩ ∧
    (tRun.setFreeze 0 (fun f => { f with command := true })).isFrozen 0 = true ∧
    ((tRun.setFreeze 0 (fun f => { f with command := true })).cell 0).slabOps = [] := by decide +kernel

theorem test_met_counters : (tF 3 1 0 0 255).fl = 0 ∧ (255 : BitVec 32).toNat < 256 ∧ foreignPrivate 31 255 = false ∧ foreignPrivate 3 191 = false ∧
    ((tRun.setCtx 0 3 { tCtx with start := true }).ctx 0 3).start = true ∧ (tRun.cell 0).waiters 191 = [] ∧ tRun.aligned 0 191 = false := by
  decide +kernel

/-- SWAIT at the boundary: a threshold equal to the counter is met, and one above it is not. -/
theorem test_met_swait : ((tRun.ctx 0 3).xr 1).toNat ≤ (tRun.putCounter 0 191 5).counter 0 191 ∧
    (tRun.putCounter 0 191 4).counter 0 191 < ((tRun.ctx 0 3).xr 1).toNat := by decide +kernel

theorem test_met_sadd_remote : (tF 0 5 2 1 191).fl = 1 ∧ (tF 0 5 2 1 191).imm.toNat < 192 ∧ ((tRun.ctx 0 3).xr 2).toNat % 512 = 7 ∧
    tRun.hostOf 7 = some 7 := by decide +kernel

/-- An enabled entry for counter 191 with BASE 16. -/
def tAlign : Word := 0xAFC0001000000000

theorem test_met_align : tRun.domOn 0 = true ∧ tAlign.getLsbD 63 = true ∧ bitsOf tAlign.toNat 61 54 = 191 ∧
    (∀ j ∈ List.range 16, j ≠ 2 → tRun.bit (F.CELL_SYNC_ALIGN_EN.nth j) 0 = true → tRun.get (F.CELL_SYNC_ALIGN_COUNTER.nth j) 0 ≠ 191) := by
  decide +kernel

theorem test_met_debug_write : tRun.dbgOk .os = false ∧
    (((tRun.set F.SEC_DEBUG_ACTIVE 1).set F.SEC_DEBUG_HOLDER (masterHolder .slolis)).set F.SEC_DEBUG_SCOPE 1).dbgOk .slolis = true := by
  decide +kernel

/-! ## Channels, endpoints and queues: the hypotheses can be met -/

/-- Context 3 with the address of a send descriptor in x4, endpoint 63 bound with credit, and channel 63 open with a visible message. -/
def tChan : Dev := (((tRun.store (sliceBase 0) (leBytes 8 0x100000000100 ++ leBytes 4 48 ++ leBytes 4 0)).set F.CELL_SEP_STATE_STATE 2 0 64).set
  F.CELL_CHAN_RING_OPEN 1 0 64).modChan (.cell 0) 63 (fun c => { c with visible := 1 })

theorem test_met_csend : tChan.sendDesc 0 ((tChan.ctx 0 3).xr 4).toNat = some (0x100, 48) ∧ tChan.sendCheck (.cell 0) 63 48 (tChan.outFree 0) = .go ∧
    tChan.get F.CELL_SEP_STATE_SIZE 0 64 ≤ 8 ∧ tChan.get F.CELL_SEP_STATE_WR 0 64 + 64 * 1 ≤ tChan.sepRing (.cell 0) 63 := by decide +kernel

theorem test_met_csend_unbound : tChan.sepState (.cell 0) 62 = 0 ∧ (tChan.set F.CELL_SEP_STATE_STATE 4 0 64).sepState (.cell 0) 63 = 4 ∧
    (tChan.set F.CELL_SEP_STATE_STATE 3 0 64).sepState (.cell 0) 63 = 3 := by decide +kernel

theorem test_met_cpeek : tChan.nmReads 0 63 = false ∧ tChan.hasHead (.cell 0) 63 = true ∧ tChan.chanOpen (.cell 0) 62 = false ∧
    ((tChan.set F.SPAD_NM_CTL_EN 1 0).set F.SPAD_NM_CTL_CHAN 63 0).nmReads 0 63 = true := by decide +kernel

/-- CADV on an open channel without a message, on its head message of length zero, and past it. -/
theorem test_met_cadv : tChan.get F.CELL_CHAN_RING_SIZE 0 64 ≤ 8 ∧ tChan.headKind (.cell 0) 63 = 0 ∧
    (tChan.chan (.cell 0) 63).visible ≤ (16 + tChan.headLen (.cell 0) 63 + 63) / 64 ∧
    ((tChan.modChan (.cell 0) 63 (fun c => { c with visible := 0 })).hasHead (.cell 0) 63 = false) ∧
    ((tChan.ctx 0 3).xr 0).toNat ≠ tChan.get F.CELL_CHAN_RING_BASE 0 64 + tChan.chanRd (.cell 0) 63 + 16 ∧
    ((((tChan.setCtx 0 3 { tCtx with x := [(1, 16)] })).ctx 0 3).xr 1).toNat = tChan.get F.CELL_CHAN_RING_BASE 0 64 + tChan.chanRd (.cell 0) 63 + 16 := by
  decide +kernel

theorem test_met_cadv_credit : (tChan.chan (.cell 0) 63).visible = 1 ∧ (tChan.chan (.cell 0) 63).returned = (tChan.chan (.cell 0) 63).freed ∧
    (tChan.chan (.cell 0) 63).freed < 2 ^ 32 ∧ (tChan.setSource (.cell 0) 63 (some 0x1000)).chanSource (.cell 0) 63 = some 0x1000 := by
  decide +kernel

/-- A descriptor of an exact BF16 queue: one contribution of two elements, posted to counter 191. -/
def tQueue : List Byte := [0, 1, 0, 0, 191, 0, 1, 0] ++ leBytes 4 2 ++ leBytes 4 1 ++ leBytes 4 0 ++ leBytes 4 0 ++ leBytes 4 0x1000 ++ leBytes 4 0 ++ leBytes 32 0

theorem test_met_queue_open : cqDescOk tQueue = true ∧ (tRun.openCq 0 7 tQueue).1 = 0 ∧ tRun.cqState 0 7 ≠ 2 ∧
    (tRun.store (sliceBase 0) tQueue).spad 0 0 64 = tQueue ∧ tRun.ownSpad 0 ((tRun.ctx 0 3).xr 4).toNat 64 = some 0 ∧
    (tRun.openCq 0 7 tQueue).2.cqState 0 7 = 1 := by decide +kernel

/-- A contribution of one FP32 element from offset 0x40 of the own scratchpad to cell 1. -/
def tContrib : List Byte := leBytes 2 0 ++ leBytes 2 1 ++ [1, 0] ++ leBytes 2 0 ++ leBytes 4 1 ++ leBytes 4 0 ++ leBytes 4 0x40 ++ leBytes 4 1 ++ leBytes 8 0

theorem test_met_contribute : contribDescOk 3 tContrib = true ∧ (tRun.store (sliceBase 0) tContrib).spad 0 0 32 = tContrib ∧
    (tRun.hostOf (leNat ((tRun.store (sliceBase 0) tContrib).spad 0 2 2))).isSome ∧ 1024 ≤ tRun.outFree 0 := by decide +kernel

/-- A ranked contribution of 63 elements that has been committed. -/
def tJob1 : ContribJob := ⟨0, 1, 7, true, 0, 0, 1, 0, 0x40, 63, false, 191, true, 62⟩

theorem test_met_contrib_send : ((tRun.modCell 0 (fun s => { s with contribs := [tJob1] })).cell 0).contribs = [tJob1] ∧ tJob1.ranked = true ∧
    tJob1.pos + min (tJob1.count - tJob1.pos) 62 = tJob1.count ∧ min (tJob1.count - tJob1.pos) 62 * 4 ≤ tRun.outFree 0 := by decide +kernel

theorem test_met_post_done : (tRun.setCqState 0 7 2).cqState 0 7 = 2 ∧ (tRun.cq 0 7).sending = [] ∧ (tRun.cell 0).cqWait = [] ∧
    ((tRun.modCq 0 7 (fun c => { c with rearm := true })).cq 0 7).rearm = true := by decide +kernel

theorem test_met_chan_open : tRun.chanOpen (.cell 0) 63 = false ∧ tRun.get F.CELL_CHAN_RING_SIZE 0 64 ≤ 8 ∧ tRun.get F.CELL_CHAN_RING_BATCH 0 64 ≤ 6 ∧
    (tRun.set F.CELL_CHAN_RING_BASE 0xAFF000 0 64).get F.CELL_CHAN_RING_BASE 0 64 + 4096 * 2 ^ tRun.get F.CELL_CHAN_RING_SIZE 0 64 ≤ 0xB00000 ∧
    ((tRun.set F.CELL_CHAN_RING_POST_EN 1 0 64).set F.CELL_CHAN_RING_POST_CTR 191 0 64).get F.CELL_CHAN_RING_POST_CTR 0 64 ≤ 191 := by decide +kernel

theorem test_met_sep_bind : tRun.sepState (.cell 0) 63 = 0 ∧ tRun.get F.CELL_SEP_TARGET_MCAST 0 64 = 0 ∧ tRun.get F.CELL_SEP_TARGET_OS 0 64 = 0 ∧
    (tRun.set F.CELL_SEP_TARGET_CHAN 63 0 64).get F.CELL_SEP_TARGET_CHAN 0 64 = 63 ∧
    (tRun.set F.CELL_SEP_STATE_STATE 1 0 64).sepState (.cell 0) 63 = 1 := by decide +kernel

/-- A U record of 48 bytes to cell 1 in the outbox. -/
def tOut : OutItem := ⟨false, 63, 0, 0, List.replicate 12 0, List.replicate 48 1, 0, 64, 0, 1, 5, false, false, 0, false⟩

theorem test_met_release : ((tRun.modCell 0 (fun s => { s with outbox := [tOut] })).cell 0).outbox[0]? = some tOut ∧ tOut.contrib = false ∧
    tOut.sched = false ∧ tOut.mcast = false ∧ tOut.sent < 16 + tOut.body.length ∧ ([tOut].take 0).all (fun j => j.contrib || j.sep != tOut.sep) = true := by
  decide +kernel

/-- The device with far memory of 64 GiB and a carve-out. -/
def tFar : Dev := (tRun.set F.DEV_FAR_SIZE_SIZE 0x1000000000)

theorem test_met_osch_open : tFar.power.mainUp = true ∧ tFar.chanOpen .os 255 = false ∧ tFar.get F.DEV_OSCH_RING_SIZE 0 256 ≤ 8 ∧
    tFar.get F.DEV_OSCH_RING_BATCH 0 256 ≤ 6 ∧
    tFar.inCarve ((tFar.set F.DEV_OSCH_RING_BASE 16 0 256).get F.DEV_OSCH_RING_BASE 0 256 * 4096) (4096 * 2 ^ tFar.get F.DEV_OSCH_RING_SIZE 0 256) = true ∧
    (tFar.set F.DEV_OSCH_RING_OPEN 1 0 256).chanOpen .os 255 = true := by decide +kernel

theorem test_met_osep : tFar.sepState .os 255 = 0 ∧ (tFar.set F.DEV_OSEP_TARGET_CHAN 63 0 256).get F.DEV_OSEP_TARGET_CHAN 0 256 ≤ 63 := by
  decide +kernel

/-- The OS complex's channel 0 open with one visible message of length zero. -/
def tOsHead : Dev := (tFar.set F.DEV_OSCH_RING_OPEN 1 0 1).modChan .os 0 (fun c => { c with visible := 1 })

theorem test_met_osch_adv : tOsHead.hasHead .os 0 = true ∧ tOsHead.headKind .os 0 = 0 ∧ tOsHead.get F.DEV_OSCH_RING_SIZE 0 1 ≤ 8 ∧
    (tOsHead.chan .os 0).visible = (16 + tOsHead.headLen .os 0 + 63) / 64 := by decide +kernel

/-- A send descriptor of 48 bytes in the carve-out, and endpoint 255 bound. -/
def tOsSend : Dev := (tFar.store 0x2000 (leBytes 8 0x3000 ++ leBytes 4 48)).set F.DEV_OSEP_STATE_STATE 2 0 256

theorem test_met_osch_send : bitsOf (0xFF00000000002000 : Nat) 63 56 = 255 ∧ bitsOf (0xFF00000000002000 : Nat) 47 4 * 16 = 0x2000 ∧
    tOsSend.inCarve 0x2000 16 = true ∧ tOsSend.loadNat (0x2000 + 8) 4 = 48 ∧ tOsSend.inCarve (tOsSend.loadNat 0x2000 8) 48 = true ∧
    tOsSend.sendCheck .os 255 48 32768 = .go ∧ tOsSend.padUnits .os 255 ((16 + 48 + 63) / 64) = 0 := by decide +kernel

/-! ## Engines: the hypotheses can be met -/

/-- An item's descriptor: OP, COUNT, source and destination in the scratchpad window of cell 0, and the 32 bytes from 0x20. -/
def tDesc (op : Byte) (n src dst : Nat) (rest : List Byte) : List Byte :=
  [op] ++ leBytes 11 0 ++ leBytes 4 n ++ leBytes 8 (0x100000000000 + src) ++ leBytes 8 (0x100000000000 + dst) ++ padTo 32 rest

/-- An item of queue 63 of an engine, with SEQ 0, in flight there. -/
def tItem (e : Nat) (desc : List Byte) : EngItem := ⟨e, 63, 0, desc, 0, 0, leBytes 256 0, none, false, false, false, false, 0, false, none⟩

/-- The device with that item in flight. -/
def tEng (e : Nat) (desc : List Byte) : Dev := tRun.modEng e (fun s => { s with items := [tItem e desc] })

/-- The conditions under which the item's operation may run, as a Boolean. -/
def tMay (e : Nat) (op : EngOp) (desc : List Byte) : Bool :=
  (tEng e desc).item (e, 63, 0) = some (e, tItem e desc) && engOp (e % 16) (itF desc 0 1) = some op && (tEng e desc).mayRun e (tItem e desc) &&
    !(tEng e desc).lostCell op desc

/-- The storage address of a range in a device without items. -/
def tAt (a n : Nat) : Option Nat := (tRun.place false a n).storage

/-- EXP, LOG, RSQRT and ERF of two FP32 elements; the range ends at the last byte of the scratchpad part. -/
theorem test_met_functions : tMay 3 .exp (tDesc 1 2 0xAFFFF8 0x1000 []) = true ∧ tMay 3 .log (tDesc 2 2 0xAFFFF8 0x1000 []) = true ∧
    tMay 3 .rsqrt (tDesc 3 2 0xAFFFF8 0x1000 []) = true ∧ tMay 3 .erf (tDesc 4 2 0xAFFFF8 0x1000 []) = true ∧ packedSize 0 2 = 8 ∧
    tAt 0x100000AFFFF8 8 = some (sliceBase 0 + 0xAFFFF8) ∧ tRun.ringAt (sliceBase 0 + 0x1000) 8 = none := by decide +kernel

/-- CONVERT of 32 FP32 elements to MXFP8 with scales, GENERATE, CRC64 and SHAKE256 with saved states. -/
theorem test_met_convert_and_digests :
    tMay 4 .convert (tDesc 1 32 0 0x1000 (leBytes 8 0x100000002000 ++ [0, 8])) = true ∧ tAt 0x100000000000 (packedSize 0 32) = some (sliceBase 0) ∧
    tMay 5 .generate (tDesc 1 0 0 0 (leBytes 8 0 ++ leBytes 8 0x100000001000 ++ leBytes 4 16 ++ [0, 3])) = true ∧
    tMay 7 .crc64 (tDesc 1 64 0 0x1000 []) = true ∧ tMay 7 .shake256 (tDesc 2 64 0 0x1000 (leBytes 8 0x100000002000 ++ leBytes 2 32 ++ [3])) = true ∧
    tAt 0x100000000000 64 = some (sliceBase 0) := by decide +kernel

/-- REDUCE of two vectors, exact and ranked, and TOPK. -/
theorem test_met_reductions :
    tMay 2 .reduce (tDesc 1 4 0 0x1000 (leBytes 8 0 ++ leBytes 4 64 ++ leBytes 2 2 ++ [0, 0, 1])) = true ∧
    tMay 2 .reduce (tDesc 1 4 0 0x1000 (leBytes 8 0 ++ leBytes 4 64 ++ leBytes 2 2 ++ [1, 0, 0])) = true ∧
    (∀ r ∈ List.range 2, tAt (0x100000000000 + r * 64) (packedSize 0 4) = some (sliceBase 0 + r * 64)) ∧
    tMay 2 .topk (tDesc 2 4 0 0x1000 (leBytes 8 0x100000002000 ++ leBytes 4 4 ++ [0])) = true := by decide +kernel

/-- Movers: COPY, COPY3D of 2 × 2 rows of 16 bytes, TRANSPOSE of 2 × 2 elements of 8 bytes. -/
theorem test_met_copies : tMay 8 .copy (tDesc 1 64 0 0x1000 []) = true ∧ isRemote 0x100000000000 = false ∧
    tAt 0x100000001000 64 = some (sliceBase 0 + 0x1000) ∧ tRun.ringAt (sliceBase 0 + 0x1000) 64 = none ∧
    tMay 0 .copy3d (tDesc 1 16 0 0x1000 (leBytes 2 2 ++ leBytes 2 2 ++ leBytes 4 16 ++ leBytes 4 32 ++ leBytes 4 16 ++ leBytes 4 32)) = true ∧
    (∀ k ∈ List.range 4, tAt (0x100000000000 + 16 * k) 16 = some (sliceBase 0 + 16 * k) ∧ tAt (0x100000001000 + 16 * k) 16 = some (sliceBase 0 + 0x1000 + 16 * k)) ∧
    tMay 0 .transpose (tDesc 2 3 0 0x1000 (leBytes 4 2 ++ leBytes 4 2 ++ leBytes 4 16 ++ leBytes 4 16)) = true := by decide +kernel

/-- GATHER and SCATTER of two rows of 16 bytes by indices 1 and 0 at offset 0x2000. -/
theorem test_met_gather : tMay 1 .gather (tDesc 1 16 0 0x2000 (leBytes 8 0x100000001000 ++ leBytes 4 2 ++ leBytes 4 2 ++ leBytes 4 16)) = true ∧
    tMay 1 .scatter (tDesc 2 16 0 0x2000 (leBytes 8 0x100000001000 ++ leBytes 4 2 ++ leBytes 4 2 ++ leBytes 4 16)) = true ∧
    tAt 0x100000002000 8 = some (sliceBase 0 + 0x2000) ∧
    (∀ k ∈ List.range 2, (tRun.store (sliceBase 0 + 0x2000) (leBytes 4 1 ++ leBytes 4 0)).loadNat (sliceBase 0 + 0x2000 + 4 * k) 4 = 1 - k) := by
  decide +kernel

/-- COMPRESS of one byte: its frame's length is a free value, and a capacity of 64 KiB holds any frame of up to 65,528 bytes; DECOMPRESS of one frame. -/
theorem test_met_compression : tMay 6 .compress (tDesc 1 1 0 0x100000 (leBytes 8 0x100000300000 ++ leBytes 4 65536)) = true ∧
    tMay 6 .decompress (tDesc 2 1 0 0x100000 (leBytes 8 0x100000300000 ++ leBytes 4 65536)) = true ∧ (frameSpan [65528]).2 ≤ 65536 ∧
    tAt 0x100000100000 65536 = some (sliceBase 0 + 0x100000) ∧ tAt 0x100000300000 4 = some (sliceBase 0 + 0x300000) := by decide +kernel

/-- Queue 0 of engine 0 configured with 16 slots at offset 0, for the OS complex. -/
def tQ : Dev := (tRun.set F.ENG_WQ_CFG_SIZE 4 0 1).set F.ENG_WQ_CFG_PKIND 1 0 1

/-- That queue enabled. -/
def tQOn : Dev := tQ.set F.ENG_WQ_CFG_EN 1 0 1

theorem test_met_wq_enable : engReal 0 = true ∧ engReal 251 = true ∧ tQ.domOn (544 + 0 / 16) = true ∧ tQ.get F.ENG_WQ_SEL_Q 0 = 0 ∧ tQ.wqOn 0 0 = false ∧
    4 ≤ tQ.get F.ENG_WQ_CFG_SIZE 0 1 ∧ tQ.get F.ENG_WQ_CFG_SIZE 0 1 ≤ 12 ∧ tQ.get F.ENG_WQ_CFG_BASE 0 1 % (64 * 2 ^ 4) = 0 ∧ tQOn.wqOn 0 0 = true ∧
    (∀ k ∈ List.range (tQOn.wqSlots 0 0), tQOn.slotStatus 0 0 k ≠ 1) ∧ tQOn.flying 0 0 = [] := by decide +kernel

/-- With no queue enabled, the ring of queue 0 meets none. -/
theorem test_met_ring_apart : ((List.range 256).filter engReal).all (fun e => (List.range 2).all (fun q => !tQ.wqOn e q)) = true := by decide +kernel

/-- A line with SEQ 15 for the last slot of that ring. -/
def tLine : BitVec 512 := 15 <<< 64

theorem test_met_submit : tQOn.place false (0x100200000000 + 64 * 15) 64 = .commons 0 (0x100200000000 + 64 * 15) ∧
    tQOn.ringAt (0x100200000000 + 64 * 15) 64 = some (0, 0) ∧ tQOn.ringReason 0 0 (some .os) (0x100200000000 + 64 * 15) 64 = 0 ∧
    0x100200000000 + 64 * 15 = tQOn.slotAddr 0 0 15 ∧ tQOn.slotStatus 0 0 15 = 0 ∧ itF (leBytes 64 tLine.toNat) 8 4 = 15 ∧
    (15 + 2 ^ 32 - tQOn.get F.ENG_WQ_PTR_NEXT 0 1) % 2 ^ 32 < tQOn.wqSlots 0 0 ∧ 15 % tQOn.wqSlots 0 0 = 15 ∧
    itF (leBytes 64 tLine.toNat) 0x38 8 = 0 ∧ tQOn.ringReason 0 0 (some (.cell 0)) (0x100200000000 + 64 * 15) 64 ≠ 0 := by decide +kernel

/-- An item of that queue RUNNING in slot 15. -/
def tRunning : Dev := tQOn.modEng 0 (fun s => { s with items := [⟨0, 0, 15, [], 0, 0, [], none, false, false, false, false, 0, false, none⟩], slots := [(15, 2)] })

theorem test_met_abort : tRunning.ringAt (0x100200000000 + 64 * 15 + 0x38) 8 = some (0, 0) ∧
    tRunning.ringReason 0 0 (some .os) (0x100200000000 + 64 * 15 + 0x38) 8 = 0 ∧ tRunning.slotStatus 0 0 15 = 2 ∧ tRunning.slotOf 0 0 15 = 15 ∧
    (tRunning.item (0, 0, 15)).isSome := by decide +kernel

theorem test_met_stream_key : (5 : EngInst).val % 16 = 5 ∧ tRun.domOn (544 + 5 / 16) = true := by decide +kernel

/-- An item that has ended, one that aborts, and a remote item that waits for an answer. -/
theorem test_met_item_ends : ((tEng 8 []).modItem (8, 63, 0) (fun i => { i with ending := some (doneEnd 1) })).item (8, 63, 0) =
      some (8, { tItem 8 [] with ending := some (doneEnd 1) }) ∧ ((tEng 8 []).eng 8).replay = none ∧ (tEng 8 []).halted = false ∧
    ((tEng 8 []).modItem (8, 63, 0) (fun i => { i with aborting := true })).item (8, 63, 0) = some (8, { tItem 8 [] with aborting := true }) ∧
    ({ tEng 8 [] with remotes := [⟨8, (8, 63, 0), 0, 1, true, 0, 64⟩] }).itemReqs (tItem 8 []) ≠ [] := by decide +kernel

theorem test_met_indication : (tEng 8 []).halted = false ∧ ((tEng 8 []).eng 8).replay = none ∧ ((tEng 8 []).eng 8).items ≠ [] ∧
    (((tEng 8 []).eng 8).items.all (fun i => !i.guest && !i.aborting)) = true ∧ (tRun.get F.WDOG_CFG_ENG_BEATS ≠ 0) := by decide +kernel

/-- A replay with its last suspect ended, and one whose self-test runs. -/
theorem test_met_replay : (((tEng 8 []).modEng 8 (fun s => { s with replay := some ⟨[(8, 63, 0)], [], false, [], false⟩ })).eng 8).replay =
      some ⟨[(8, 63, 0)], [], false, [], false⟩ ∧ ({ tItem 8 [] with ending := some (doneEnd 0) }).ending.isSome ∧
    ((tRun.modEng 8 (fun s => { s with replay := some ⟨[], [(8, 63, 0)], false, [(8, 63, 0)], true⟩ })).eng 8).guiltyNs = none ∧
    tRun.bit F.ENG_CTL_FENCED (engPartner 8) = false := by decide +kernel

/-! ## The array: the hypotheses can be met -/

/-- A MATMUL image of FP8 operands and BF16 output with id 9, and its CRC. -/
def tImageHead : List Byte := leBytes 2 1 ++ leBytes 2 9 ++ leBytes 4 256 ++ [0, 3, 3, 1]

/-- The image, with the CRC of its bytes. -/
def tImage : List Byte := tImageHead ++ leBytes 4 3124534060 ++ List.replicate 240 0

/-- The device with the image at the start of slice 0. -/
def tImaged : Dev :=
  { tRun with mem := [(0x800000000000, 1), (0x800000000002, 9), (0x800000000005, 1), (0x800000000009, 3), (0x80000000000a, 3), (0x80000000000b, 1), (0x80000000000c, 44), (0x80000000000d, 155), (0x80000000000e, 60), (0x80000000000f, 186)] }

theorem test_met_aload : SMap.find 3 [(3, 0)] = some 0 ∧ SMap.find 3 (tRun.arr 0).loadDone = none ∧ (tRun.arr 0).load = none ∧
    (tRun.arr 0).loadWait = [] ∧ tRun.shadowHeld 0 = false ∧ (tRun.arr 0).pend = none ∧ tRun.planeState 0 0 ≠ 1 ∧ tRun.planeState 0 1 ≠ 1 ∧
    tRun.coreAddr (tRun.xaOf 0 3 (tF 1 4 0)) 64 = some (sliceBase 0) := by decide +kernel

/-- The CRC of the image, 60 bytes at a time. -/
theorem tImage_crc : imgCrc tImage = 3124534060 := by
  have h0 : (tImageHead ++ [0, 0, 0, 0]).foldl crc32cByte 0xFFFFFFFF = 2478791824 := by decide +kernel
  have h1 : (List.replicate 60 0).foldl crc32cByte 2478791824 = 2671230668 := by decide +kernel
  have h2 : (List.replicate 60 0).foldl crc32cByte 2671230668 = 174631297 := by decide +kernel
  have h3 : (List.replicate 60 0).foldl crc32cByte 174631297 = 2413082083 := by decide +kernel
  have h4 : (List.replicate 60 0).foldl crc32cByte 2413082083 = 1170433235 := by decide +kernel
  have h : tImage.take 12 ++ [0, 0, 0, 0] ++ tImage.drop 16 = (tImageHead ++ [0, 0, 0, 0]) ++ (List.replicate 60 0 ++ (List.replicate 60 0 ++
    (List.replicate 60 0 ++ List.replicate 60 0))) := by decide +kernel
  rw [imgCrc, crc32c, h, List.foldl_append, h0, List.foldl_append, h1, List.foldl_append, h2, List.foldl_append, h3, h4]
  decide +kernel

theorem test_met_image : (tImaged.readImage 0 0x100000000000).isSome ∧ tRun.readImage 0 0x100000000000 = none := by
  refine ⟨?_, by decide +kernel⟩
  have h1 : tImaged.ownSpad 0 0x100000000000 256 = some 0 := by decide +kernel
  have h2 : tImaged.spadNat 0 (0 + 4) 4 = 256 := by decide +kernel
  have h3 : tImaged.spad 0 0 256 = tImage := by decide +kernel
  have h4 : headerOk tImage = true := by decide +kernel
  have h5 : imgN tImage 12 4 = 3124534060 ∧ imgDataflow tImage = false := by decide +kernel
  simp [Dev.readImage, h1, h2, h3, h4, h5, tImage_crc, spadSize]

/-- Streams of one row of 64 bytes: in FP8 at 0x40 and 0x80, out BF16 at 0xC0. -/
def tStream (off dir fmt : Nat) : StreamDesc := ⟨0x100000000000 + off, 64, 64, 1, dir, fmt, false, 0, 0⟩

/-- The device with the image in the active plane and the streams declared. -/
def tPlane : Dev := (((tRun.setCtx 0 3 { tCtx with sds := [(0, tStream 0x40 0 3), (1, tStream 0x80 0 3), (2, tStream 0xC0 1 1)] }).modArr 0
  (fun a => { a with plane0 := tImage })).set (F.CELL_ARR_PLANE_STATE.nth 0) 2 0).set (F.CELL_ARR_PLANE_IMAGE_ID.nth 0) 9 0

/-- A launch descriptor for M = N = K = 1 on that image. -/
def tLaunchBytes : List Byte := leBytes 2 9 ++ [191, 191, 0, 0, 0, 0, 0x80, 0x81, 0x82] ++ leBytes 5 0 ++ leBytes 4 1 ++ leBytes 4 1 ++ leBytes 4 1 ++ leBytes 36 0

theorem test_met_launch : (tPlane.checkLaunch 0 3 (launchWords tLaunchBytes)).isSome ∧ tRun.checkLaunch 0 3 (launchWords tLaunchBytes) = none := by
  decide +kernel

/-- The launch as it is queued. -/
def tLaunch : LaunchDesc :=
  { handle := 1, ctx := 3, bindId := 1, sched := none, pc := 64, imageId := 9, doneCtr := 191, tileCtr := 191, seed := false, tileEn := false, ports := [(0, tStream 0x40 0 3), (1, tStream 0x80 0 3), (2, tStream 0xC0 1 1)], m := 1, n := 1, k := 1, statusAddr := 0x100000000120 }

/-- The launch as it runs. -/
def tRunL : Launch := ⟨tLaunch, false, 0, none, false, false, false, false, [], [], [], [], none, none, false⟩

/-- The device with that launch running, changed. -/
def tArr (f : Launch → Launch) : Dev := tPlane.modArr 0 (fun a => { a with run := some (f tRunL) })

theorem test_met_launch_start : (tPlane.arr 0).run = none ∧ ((tPlane.modArr 0 (fun a => { a with pend := some tLaunch })).arr 0).pend = some tLaunch ∧
    tPlane.isFrozen 0 = false ∧ tPlane.domOn 0 = true := by decide +kernel

theorem test_met_astat : ((tArr id).arr 0).statusOf 1 = (launchStatus 1 1 false false false false, true) ∧ ((tArr id).arr 0).statusOf 2 = (launchStatus 2 7 false false false false, false) ∧
    SMap.find 3 ((tArr id).arr 0).drains = none ∧ ((tArr id).arr 0).pend = none := by decide +kernel

theorem test_met_launch_end : ((tArr (fun l => { l with ending := some 2 })).arr 0).run = some { tRunL with ending := some 2 } ∧
    (tRun.place false tLaunch.statusAddr 8).storage = some (sliceBase 0 + 0x120) ∧
    ((tArr (fun l => { l with drain := some .freeze })).arr 0).run = some { tRunL with drain := some .freeze } ∧ tRunL.held = false := by decide +kernel

/-- A tile without errors passes, and one with a flipped bit in a lane's sum does not; both before and after a mismatch. -/
theorem test_met_tiles : (tArr id).matmulRun 0 = some tRunL ∧ ((tArr id).runTile 0 tRunL ⟨[], 0, 0⟩).2.2.passed = true := by decide +kernel

theorem test_met_tile_error : ((tArr id).runTile 0 tRunL ⟨[], 1, 1⟩).2.2.passed = false ∧ ((tArr id).slotInfo 0).retries < 3 ∧
    (tArr (fun l => { l with repeating := some ⟨1, 1, false⟩ })).matmulRun 0 = some { tRunL with repeating := some ⟨1, 1, false⟩ } := by decide +kernel

/-- A DATAFLOW image whose lane 0 adds N and E and sends west, with unit 0 in PASS mode to port 2 from port 0 and unit 1 steered by tokens. -/
def tFlow : List Byte := List.replicate 0x100 0 ++ padTo 69696 [3, 1, 2, 0, 8, 4, 4, 4] ++ List.replicate 0x140 0

theorem test_flow_lane_record : (laneRec tFlow 0).op = 3 ∧ (laneRec tFlow 0).needs = 2 ∧ (laneRec tFlow 0).ins = [1, 2, 0] := by decide +kernel

theorem test_met_lane : laneOperands (laneRec tFlow 0) { LaneState.reset with ins := [(0, [⟨false, 5, 1⟩]), (1, [⟨false, 5, 2⟩])] } =
      some [some ⟨false, 5, 1⟩, some ⟨false, 5, 2⟩, none] ∧
    laneOperands (laneRec tFlow 0) { LaneState.reset with ins := [(0, [⟨false, 5, 1⟩]), (1, [⟨false, 255, 2⟩])] } =
      some [some ⟨false, 5, 1⟩, some ⟨false, 255, 2⟩, none] := by decide +kernel

/-- Steering records from their bytes at the place of unit 0. -/
def tUnits (u : List Byte) : List Byte := List.replicate 0x11140 0 ++ padTo 128 u

theorem test_met_steer_input : (steerRec (tUnits [1, 1, 0, 3, 0, 0, 0, 0, 0x22]) 0).mode = 1 ∧ steerSrc 0 3 = some (.port 0) ∧
    (steerRec (tUnits [1, 1, 0, 3, 0, 0, 0, 0, 0x22]) 0).dataDepth = 1 ∧ ((steerRec (tUnits [1, 1, 0, 3, 0, 0, 0, 0, 0x22]) 0).routes.getD 0 0) % 4 = 2 ∧
    ((tArr id).takeSource 0 tRunL false (.port 0)).isSome := by decide +kernel

theorem test_met_steer_fire : tRunL.moved 2 < (tRunL.desc.port 2).words ∧
    (tRunL.desc.port 2).words ≤ ({ tRunL with portPos := [(2, (tRunL.desc.port 2).words)] }).moved 2 ∧
    (steerRec (tUnits [2, 1, 1, 3, 7, 0, 0, 0, 0x22]) 0).mode = 2 ∧ (⟨true, 5, 15⟩ : AWord).any = false ∧ (⟨true, 5, 15⟩ : AWord).route = 15 ∧
    (⟨true, 5, 15⟩ : AWord).tokenOk (steerRec (tUnits [2, 1, 1, 3, 7, 0, 0, 0, 0x22]) 0) = true ∧ (⟨[], []⟩ : UnitState).clash = none := by
  decide +kernel

theorem test_met_dataflow : ((tArr (fun l => { l with dataflow := true })).dataflowRun 0).map Prod.fst = some { tRunL with dataflow := true } := by
  decide +kernel

/-! ## Slices, near-memory unit and windows: the hypotheses can be met -/

theorem test_met_scrub : tRun.domOn 0 = true ∧ (tRun.slotInfo 0).scrub < 196608 ∧
    ((tRun.modSlot 0 (fun s => { s with scrub := 196607 })).slotInfo 0).scrub + 1 = 196608 ∧ (tRun.hosted 0).isSome = true ∧
    flips (1 : BitVec 80) = 1 ∧ flips (0x80000000000000000003 : BitVec 80) = 3 := by decide +kernel

/-- The near-memory unit enabled on channel 63 of slot 0, which has a message. -/
def tNm : Dev := (tChan.set F.SPAD_NM_CTL_EN 1 0).set F.SPAD_NM_CTL_CHAN 63 0

theorem test_met_nm_start : tNm.domOn 0 = true ∧ tNm.isFrozen 0 = false ∧ tNm.bit F.SPAD_NM_CTL_EN 0 = true ∧ (tNm.cell 0).nm = none ∧
    tNm.bit F.SPAD_OPSET_SWITCHING 0 = false ∧ tNm.get F.SPAD_NM_CTL_CHAN 0 = 63 ∧ tNm.hasHead (.cell 0) 63 = true := by decide +kernel

/-- A near-memory command: OP, element size, DONE_CTR, DST, SRC, LEN, and the bytes from 0x10. -/
def tNmBytes (op e ctr : Byte) (dst src len : Nat) (rest : List Byte) : List Byte :=
  [op, e, ctr, 0] ++ leBytes 4 dst ++ leBytes 4 src ++ leBytes 4 len ++ padTo 48 rest

/-- The bytes are a command that has passed its checks. -/
def tNmOk (op : Nat) (b : List Byte) : Bool := b.length = 64 && nmOp b = op && nmFieldsOk b && nmRangeOk b && !nmOverlap b

/-- FILL and COPY up to the end of the scratchpad part, STRIDED of 8 elements of 8 bytes, TRANSPOSE of 8 × 1 elements of 8 bytes. -/
theorem test_met_nm_commands : tNmOk 1 (tNmBytes 1 0 191 0xAFFFC0 0 64 (leBytes 8 7)) = true ∧ tNmOk 2 (tNmBytes 2 0 0 0xAFFFC0 0 64 []) = true ∧
    tNmOk 0x11 (tNmBytes 0x11 3 0 0x1000 0 0 (leBytes 8 0 ++ leBytes 4 8 ++ leBytes 4 16)) = true ∧
    tNmOk 0x12 (tNmBytes 0x12 3 0 0x1000 0 0 (leBytes 8 0 ++ leBytes 4 8 ++ leBytes 4 16 ++ leBytes 4 1 ++ leBytes 4 64)) = true := by decide +kernel

theorem test_met_nm_end : ((tRun.modCell 0 (fun s => { s with nm := some ⟨tNmBytes 1 0 191 0 0 64 [], 1, false⟩ })).cell 0).nm =
      some ⟨tNmBytes 1 0 191 0 0 64 [], 1, false⟩ ∧ nmStatusOk (tNmBytes 1 0 191 0 0 64 []) = true ∧
    nmStatusOk (tNmBytes 1 0 191 0 0 64 (leBytes 24 0 ++ leBytes 4 1)) = false := by decide +kernel

theorem test_met_nm_switch : bitsOf (0x800000000000003F : Nat) 5 0 = tNm.get F.SPAD_NM_CTL_CHAN 0 ∧ bitsOf (0 : Nat) 5 0 ≠ tNm.get F.SPAD_NM_CTL_CHAN 0 ∧
    tRun.bit F.SPAD_NM_CTL_EN 0 = false ∧ (tRun.set F.SPAD_OPSET_SWITCHING 1 0).bit F.SPAD_OPSET_SWITCHING 0 = true := by decide +kernel

/-- A window over the first 64 bytes of cell 0's scratchpad, for reading, with a key. -/
def tWin : Window := ⟨0x4000100000000000, 64, 0, 1, 0, false, false⟩

theorem test_met_windows : tRun.power.mainUp = true ∧ tRun.bit F.DEV_WIN_STATUS_BUSY 0 1 = false ∧ (tRun.win 1023).isOpen = false ∧
    tRun.winDescOk tWin = true ∧ tRun.winDescOk { tWin with key := 0 } = false ∧
    ((tRun.setWin 1023 { tWin with isOpen := true }).win 1023) = { tWin with isOpen := true } := by decide +kernel

theorem test_met_window_close : ((tRun.winStatus .os 1023 2 0 true).bit F.DEV_WIN_STATUS_BUSY 0 1) = true ∧
    (tRun.winStatus .os 1023 2 0 true).get F.DEV_WIN_STATUS_WIN 0 1 = 1023 ∧
    ((tRun.setWin 1023 { tWin with isOpen := true, closing := true }).win 1023).closing = true := by decide +kernel

/-! ## Far memory: the hypotheses can be met -/

/-- Channel 31 READY with 1 GiB. -/
def tCh : Dev := (((tRun.set F.FAR_STATUS_STATE 2 31).set F.FAR_INFO_GRANULES 262144 31).set F.FAR_INFO_SPPR_CAP 1 31).set F.FAR_SPPR_LEFT 1 31

theorem test_met_far_scrub : tCh.get F.DEV_FAR_SCRUB_HOURS ≠ 0 ∧ tCh.get F.FAR_STATUS_STATE 31 = 2 ∧ 64 * tCh.get F.FAR_INFO_GRANULES 31 ≠ 0 ∧
    tCh.get F.FAR_INFO_GRANULES 31 ≤ 2 ^ 25 ∧ SMap.read 0 [(31, 64 * 262144 - 1)] 31 % (64 * tCh.get F.FAR_INFO_GRANULES 31) + 1 = 64 * tCh.get F.FAR_INFO_GRANULES 31 := by
  decide +kernel

theorem test_met_commons_scrub : tRun.domOn (544 + 0) = true ∧ SMap.read 0 [(32, 2 ^ 19 - 1)] (32 + 0) % 2 ^ 19 + 1 = 2 ^ 19 := by decide +kernel

/-- A row of that channel marked, in the first beat of a maintenance window. -/
def tMark : Dev := { tCh.setReg F.DEV_BEAT_COUNT.base 0 0 40832 with spprMarks := [(31, 3, 9)] }

theorem test_met_sppr : tMark.inWindow = true ∧ (31, 3, 9) ∈ tMark.spprMarks ∧ tMark.bit F.FAR_INFO_SPPR_CAP 31 = true ∧ tMark.get F.FAR_SPPR_LEFT 31 ≠ 0 ∧
    tMark.defects.length < 32764 ∧ (tMark.set F.FAR_SPPR_LEFT 0 31).get F.FAR_SPPR_LEFT 31 = 0 ∧ tMark.buffered 5 31 < 4 := by decide +kernel

theorem test_met_channel_fail : tCh.deviceResetting = false ∧ tCh.partResetting (31 / 4) = false ∧
    ({ tCh with resets := [⟨4, 0, 0, 0⟩] }).deviceResetting = true := by decide +kernel

/-- Shares of exactly 100, and of 101. -/
theorem test_met_shares : bitsOf (0x080C50 : Nat) 7 0 + bitsOf (0x080C50 : Nat) 15 8 + bitsOf (0x080C50 : Nat) 23 16 = 100 ∧
    bitsOf (0x080C51 : Nat) 7 0 + bitsOf (0x080C51 : Nat) 15 8 + bitsOf (0x080C51 : Nat) 23 16 = 101 := by decide

theorem test_met_training : (tRun.set F.FAR_STATUS_STATE 1 31).get F.FAR_STATUS_STATE 31 = 1 ∧ (some 7 : Option Nat).getD 0 < 2 ^ 16 ∧
    SMap.read 0 tRun.farTries 31 < 2 ∧ 2 ≤ SMap.read 0 [(31, 2)] 31 := by decide +kernel

/-- The slots of partition 0 UNTESTED and all others STANDBY. -/
def tFirst : Dev := (List.range 40).foldl (fun d i => d.setReg (F.PART_SLOT.base + 8 * (i % 5)) (i / 5) 0
  (if i < 5 then 0x3333333333333333 else 0x1111111111111111)) tRun

theorem test_met_first_light : tFirst.bit F.BADGER_STATUS_FIRST_LIGHT = false ∧ (∀ pc ∈ partSlots 0, tFirst.slotState pc = 3) ∧
    (∀ pc ∈ (List.range 544).drop 68, tFirst.slotState pc ≠ 3) := by decide +kernel

/-! ## Mesh and deliveries: the hypotheses can be met -/

/-- A packet of this device to cell 0, from cell 511. -/
def tPkt (typ : Nat) (ext payload : List Byte) : Packet := tRun.mkPkt (uPkt typ 0 (unitCell 0) (unitCell 511) ext payload)

/-- The packet has reached its unit in that device, as a Boolean. -/
def tArrives (d : Dev) (p : Packet) (typ : Nat) : Bool :=
  p.typ.toNat = typ && !d.unitOut p.dstUnit.toNat && pktCrcOk p && !pktMcast p && p.dstDev.toNat % 1024 = d.deviceId

/-- The packet has reached cell 0 in slot 0. -/
def tAtCell (d : Dev) (p : Packet) (typ : Nat) : Bool :=
  tArrives d p typ && pktKind p = 0 && !d.partResetting (p.dstUnit.toNat % 512 / 64) && d.hostOf (p.dstUnit.toNat % 512) = some 0

/-- A packet for slot 1 at the router of slot 0, and one for the last slot; the neighbour's UA buffer free and full. -/
def tHop (dpc : Nat) : Flight := ⟨pktSetLoc (tPkt 4 [] []) dpc 0 false false, 0, 4, none⟩
def tMesh (dpc : Nat) : Dev := { tRun with net := [tHop dpc] }
def tNext (esc : Bool) : Flight := ⟨pktSetLoc (tPkt 4 [] []) 1 0 esc false, 1, 3, none⟩
def tFull : Dev := { tRun with net := tHop 1 :: List.replicate 10 (tNext false) ++ List.replicate 5 (tNext true) }

theorem test_met_hop : (tMesh 1).net[0]? = some (tHop 1) ∧ (tMesh 1).realRivals 0 [0, 7] = [] ∧ (tMesh 1).flightOut (tHop 1) = false ∧
    pktMcast (tHop 1).pkt = false ∧ (tHop 1).pkt.dstDev.toNat % 1024 = (tMesh 1).deviceId ∧ (tHop 1).node ≠ dpcRouter 0 (pktDpc (tHop 1).pkt) ∧
    (tMesh 1).route 0 (tHop 1).pkt = some (1, 1) ∧ (tMesh 543).route 0 (tHop 543).pkt = some (1, 1) ∧
    (tMesh 1).islandOut (.router (Fin.ofNat 544 (stepTo 0 1))) = false ∧ tFull.net[0]? = some (tHop 1) ∧ tFull.route 0 (tHop 1).pkt = none := by
  decide +kernel

/-- A packet whose trailer is wrong, and a record for a cell without a host. -/
theorem test_met_turned_away : pktCrcOk { tPkt 1 [] [] with crc := 0 } = false ∧ tRun.unitOut (tPkt 1 [] []).dstUnit.toNat = false ∧
    tArrives (tRun.setLmap 0 2 0) (tPkt 6 (leBytes 4 0) (leBytes 20 0)) 6 = true ∧ (tRun.setLmap 0 2 0).hostOf 0 = none := by decide +kernel

/-- A WRITE of 8 bytes to the own scratchpad window, a READ_REQ of the last 8 bytes there, and a WRITE through a window that is not open. -/
def tWrite : Packet := tPkt 1 (leBytes 8 0x100000000000) (leBytes 8 7)
def tRead : Packet := pktSeal { tPkt 2 (leBytes 8 0x100000AFFFF8) [] with len := 8 }
def tDenied (typ : Nat) (payload : List Byte) : Packet := tPkt typ (leBytes 8 0 ++ leBytes 2 1023 ++ leBytes 2 0 ++ leBytes 4 0 ++ leBytes 8 0) payload

theorem test_met_remote_access : tArrives tRun tWrite 1 = true ∧ ((tRun.landed tWrite).landing tWrite true 8).2 = some (sliceBase 0, some (.cell 511)) ∧
    tRun.ringAt (sliceBase 0) 8 = none ∧ tArrives tRun tRead 2 = true ∧
    ((tRun.landed tRead).landing tRead false tRead.len.toNat).2 = some (sliceBase 0 + 0xAFFFF8, some (.cell 511)) ∧
    (tDenied 1 (leBytes 8 7)).ext.length = 24 ∧ tArrives tRun (tDenied 1 (leBytes 8 7)) 1 = true ∧
    tRun.winCheck 1023 0 0 0 true 0 8 = 1 ∧ tArrives tRun (tDenied 2 []) 2 = true ∧ tRun.winCheck 1023 0 0 0 false 0 0 = 1 := by decide +kernel

/-- An item of hub 0's engine 0 that waits for one answer of device 0. -/
def tAsked (write : Bool) : Dev := { tEng 0 (tDesc 1 8 0 0x1000 []) with remotes := [⟨0, (0, 63, 0), 0, 0, write, 0, 8⟩] }
def tAnswer (typ : Nat) (payload : List Byte) : Packet := tRun.mkPkt (uPkt typ 0 (unitHub 0) (unitCell 511) [] payload)

theorem test_met_answers :
    tArrives (tAsked false) (tAnswer 3 (leBytes 8 9)) 3 = true ∧ tArrives (tAsked true) (tAnswer 4 []) 4 = true ∧ tArrives (tAsked true) (tAnswer 5 [7]) 5 = true ∧
    (((tAsked false).landed (tAnswer 3 (leBytes 8 9))).takeReq (tAnswer 3 (leBytes 8 9)) (fun r => !r.write)).map Prod.fst = some ⟨0, (0, 63, 0), 0, 0, false, 0, 8⟩ ∧
    (((tAsked true).landed (tAnswer 4 [])).takeReq (tAnswer 4 []) (fun r => r.write)).map Prod.fst = some ⟨0, (0, 63, 0), 0, 0, true, 0, 8⟩ ∧
    (((tAsked true).landed (tAnswer 5 [7])).takeReq (tAnswer 5 [7]) (fun _ => true)).map Prod.fst = some ⟨0, (0, 63, 0), 0, 0, true, 0, 8⟩ ∧
    (((tAsked true).landed (tAnswer 4 [])).takeReq (tAnswer 4 []) (fun r => r.write)).all (fun x =>
      (x.2.reqItem x.1).map Prod.fst = some 0 && (x.2.reqItem x.1).all (fun y => (x.2.itemReqs y.2).isEmpty && y.2.refused.isNone)) = true := by
  decide +kernel

theorem test_met_answer_refused : ((({ tItem 0 (tDesc 1 8 0 0x1000 []) with refused := some 7 } : EngItem)).refused = some 7) := by decide

/-- A whole record of 48 bytes for channel 63, whose ring is open for the source word 0x1000. -/
def tRec : Packet := tPkt 6 (leBytes 4 (63 * 2 ^ 24)) (leBytes 4 0 ++ leBytes 4 0 ++ leBytes 2 48 ++ leBytes 2 0 ++ leBytes 4 0x1000 ++ leBytes 4 0 ++ leBytes 48 7)
def tRing : Dev := (tRun.set F.CELL_CHAN_RING_OPEN 1 0 64).setSource (.cell 0) 63 (some 0x1000)

theorem test_met_record : tAtCell tRing tRec 6 = true ∧ extAt tRec 0 4 / 2 ^ 24 = 63 ∧ recUnits 0 (payAt tRec 8 2) = 1 ∧ tRing.chanOpen (.cell 0) 63 = true ∧
    payAt tRec 0 4 = tRing.chanGen (.cell 0) 63 ∧ tRing.chanSource (.cell 0) 63 = some (payAt tRec 12 4) ∧
    payAt tRec 4 4 = (tRing.chan (.cell 0) 63).nextSeq ∧ (tRing.chan (.cell 0) 63).parts = [] ∧ payAt tRec 10 1 = 0 ∧ payAt tRec 16 4 = 0 ∧
    tRec.payload.length = 4 + 64 * 1 ∧ tRing.get F.CELL_CHAN_RING_SIZE 0 64 ≤ 8 := by decide +kernel

theorem test_met_orphan : tAtCell tRun tRec 6 = true ∧ tRun.chanOpen (.cell 0) 63 = false ∧ 16 ≤ tRec.payload.length ∧
    (tRing.setSource (.cell 0) 63 (some 0x2000)).chanSource (.cell 0) 63 ≠ some (payAt tRec 12 4) := by decide +kernel

/-- Endpoint 63 bound to cell 511, with two units sent and none freed; credits for one and for three. -/
def tBound : Dev := ((tRun.set F.CELL_SEP_STATE_STATE 2 0 64).modSep (.cell 0) 63 (fun e => { e with members := [⟨0, 511, some 0, 0⟩] })).set F.CELL_SEP_CREDITS_SENT 2 0 64
def tCredit (n : Nat) : Packet := tPkt 7 [] (leBytes 4 63 ++ leBytes 4 0 ++ leBytes 4 n)

theorem test_met_credit : tAtCell tBound (tCredit 2) 7 = true ∧ payAt (tCredit 2) 0 2 = 63 ∧ tBound.sepState (.cell 0) 63 = 2 ∧
    (tBound.sep (.cell 0) 63).members = [⟨0, 511, some 0, 0⟩] ∧ pktSrc (tCredit 2) = 0 ∧ pktSrcLc (tCredit 2) = 511 ∧ payAt (tCredit 2) 4 4 = 0 ∧
    newer32 (payAt (tCredit 2) 8 4) 0 = true ∧ newer32 (payAt (tCredit 2) 8 4) (tBound.sent (.cell 0) 63) = false ∧
    newer32 (payAt (tCredit 3) 8 4) (tBound.sent (.cell 0) 63) = true := by decide +kernel

/-- A JOIN for channel 63 from the source word 511. -/
def tJoin : Packet := tPkt 8 [] (leBytes 4 63 ++ leBytes 4 511)

theorem test_met_join : tAtCell tRun tJoin 8 = true ∧ payAt tJoin 0 2 % 64 = 63 ∧ payAt tJoin 4 4 = 511 ∧
    (tRun.set F.CELL_CHAN_RING_OPEN 1 0 64).chanOpen (.cell 0) 63 = true ∧ (tRun.set F.CELL_CHAN_RING_OPEN 1 0 64).chanSource (.cell 0) 63 = none ∧
    tRing.chanSource (.cell 0) 63 ≠ none ∧ tRun.chanOpen (.cell 0) 63 = false ∧ bitsOf (0xFF : Nat) 10 8 = 0 := by decide +kernel

/-- Endpoint 63 binding to cell 511, with the replies 0 (size 8), 1 and 4, and a notice. -/
def tBinding : Dev := (tRun.set F.CELL_SEP_STATE_STATE 1 0 64).modSep (.cell 0) 63 (fun e => { e with members := [⟨0, 511, none, 0⟩] })
def tReply (r : Byte) : Packet := tPkt 9 [] (leBytes 2 63 ++ [r, 8] ++ leBytes 4 0)

theorem test_met_reply : tAtCell tBinding (tReply 0) 9 = true ∧ payAt (tReply 0) 0 2 = 63 ∧ tBinding.sepState (.cell 0) 63 = 1 ∧ payAt (tReply 0) 2 1 = 0 ∧
    payAt (tReply 0) 3 1 ≤ 8 ∧ tBinding.sepMcast (.cell 0) 63 = false ∧ (tBinding.sep (.cell 0) 63).members = [⟨0, 511, none, 0⟩] ∧
    pktSrcLc (tReply 0) = 511 ∧ payAt (tReply 1) 2 1 = 1 ∧ payAt (tReply 4) 2 1 = 4 ∧
    tAtCell tBinding (tPkt 10 [] (leBytes 4 63 ++ leBytes 4 0)) 10 = true ∧ tBinding.get F.CELL_SEP_STATE_GEN 0 64 = 0 := by decide +kernel

theorem test_met_sadd : tAtCell tRun (tPkt 12 [] (leBytes 8 191 ++ leBytes 8 5)) 12 = true ∧ pktSrc (tPkt 12 [] (leBytes 8 191 ++ leBytes 8 5)) = tRun.deviceId ∧
    payAt (tPkt 12 [] (leBytes 8 191 ++ leBytes 8 5)) 0 4 = 191 := by decide +kernel

/-- A contribution of one element, of rank 1 of 3, to queue 7, which is open for two more. -/
def tContribPkt : Packet := tPkt 11 (leBytes 4 7 ++ leBytes 4 1 ++ leBytes 4 0 ++ leBytes 4 0) (leBytes 4 1 ++ leBytes 4 0 ++ leBytes 26 5)
def tOpenQueue : Dev := (tRun.setCqState 0 7 1).modCq 0 7 (fun c => { c with count := 1, ncontrib := 3, complete := [0] })

theorem test_met_contribution : tAtCell tOpenQueue tContribPkt 11 = true ∧ extAt tContribPkt 0 4 % 8 = 7 ∧ tOpenQueue.cqState 0 7 = 1 ∧
    extAt tContribPkt 8 4 = tOpenQueue.get F.CELL_CQ_EPOCH_EPOCH 0 8 ∧ extAt tContribPkt 12 4 = tOpenQueue.get F.CELL_CQ_STATE_SEQ 0 8 ∧
    bitOf (extAt tContribPkt 0 4) 8 = false ∧ tOpenQueue.cqRanked 0 7 = false ∧ payAt tContribPkt 0 4 = (tOpenQueue.cq 0 7).count ∧
    extAt tContribPkt 4 4 < (tOpenQueue.cq 0 7).ncontrib ∧ SMap.find 1 (tOpenQueue.cq 0 7).ranks = none ∧ payAt tContribPkt 4 4 = 0 ∧
    tContribPkt.payload.length = 8 + 26 * 1 ∧ (tOpenQueue.cq 0 7).complete.length + 1 < (tOpenQueue.cq 0 7).ncontrib ∧
    tRun.cqState 0 7 ≠ 1 ∧ tRun.cqState 0 7 ≠ 2 ∧ (tOpenQueue.cell 0).cqWait = [] := by decide +kernel

/-! ## Thernolink ports: the hypotheses can be met -/

/-- Packets whose extension and payload have the lengths of their type, up to the longest payload. -/
theorem test_met_slots : (tDenied 1 (leBytes 8 7)).ext.length = extBytes 1 ∧ (tDenied 1 (leBytes 8 7)).payload.length = payBytes 1 (tDenied 1 (leBytes 8 7)).len.toNat ∧
    (tDenied 2 []).ext.length = extBytes 2 ∧ payBytes 2 4096 = 0 ∧ (tPkt 4 [] []).payload.length = payBytes 4 (tPkt 4 [] []).len.toNat := by decide +kernel

/-- Device 0 of a domain of two devices in a ring, with port 11 on, its neighbour device 1; and the port in a state. -/
def tLink : Dev := ((tRun.identityWrite true 1).setDom 571 true)
def tPort (st : Nat) (l : LinkState) : Dev := (((tLink.setReg F.TL_CFG.base 11 0 (2 ^ 48)).setPortState 11 st).set F.TL_LINK_STATUS_LANES 0xFF 11).modLink 11 (fun _ => l)
def tCw (s : LinkSlot) (ok : Bool) : Codeword := ⟨ok, false, 0, 0, [s]⟩
def tSlot (vc : Fin 4) : LinkSlot := ⟨vc, false, BitVec.ofNat 512 (leNat (pktAll (tPkt 4 [] [])))⟩

theorem test_met_codeword : (tPort 3 LinkState.reset).portState 11 = 3 ∧ (tCw (tSlot 3) true).first.toNat % 2 ^ 32 = ((tPort 3 LinkState.reset).link 11).rxNext ∧
    (tSlot 1).idle = false ∧ SMap.read [] ((tPort 3 LinkState.reset).link 11).parts 2 = [] ∧
    flitsOf (wireBytes (leBytes 64 (tSlot 2).bytes.toNat)) = 1 := by decide +kernel

/-- The control flit of device 1, and the same with GOING_DOWN, with a wrong CRC, and from a wrong neighbour. -/
def tSeal (f : LinkFlit) : LinkFlit := { f with crc := BitVec.ofNat 32 (crc32c (linkFlitFront f)) }
def tFlit (flags : BitVec 8) (sender : BitVec 16) : LinkFlit := tSeal { (tLink.controlFlit 11 0) with flags := flags, sender := sender }

theorem test_met_control_flit : (tPort 2 LinkState.reset).flitWhy 11 (tFlit 0 1) = 0 ∧ (tFlit 0 1).crc.toNat = crc32c (linkFlitFront (tFlit 0 1)) ∧
    bitOf (tFlit 0 1).flags.toNat 2 = false ∧ bitOf (tFlit 0 1).flags.toNat 0 = false ∧ bitOf (tFlit 2 1).flags.toNat 1 = true ∧
    ¬ ((tPort 2 LinkState.reset).get F.TL_LINK_STATUS_LANES 11 ≠ 0xFF ∨ bitOf (tFlit 0 1).flags.toNat 1 = true) ∧
    (tPort 2 { LinkState.reset with good := 15 }).portState 11 = 2 ∧ ((tPort 2 { LinkState.reset with good := 15 }).link 11).good = 15 ∧
    ((tPort 2 { LinkState.reset with good := 14 }).link 11).good < 15 ∧ bitOf (tFlit 4 1).flags.toNat 2 = true ∧ (tPort 3 LinkState.reset).portUp 11 = true ∧
    (tPort 2 LinkState.reset).flitWhy 11 (tFlit 0 2) = 1 ∧ ({ tFlit 0 1 with crc := 0 }).crc.toNat ≠ crc32c (linkFlitFront (tFlit 0 1)) ∧
    (tPort 4 LinkState.reset).portUp 11 = true ∧ (tPort 5 LinkState.reset).portUp 11 = false := by decide +kernel

/-- Port 11 may be enabled in dimension 0 toward device 1, and not toward device 2. -/
theorem test_met_enable : tLink.domOn (560 + 11) = true ∧ tLink.bit F.TL_CFG_EN 11 = false ∧ (tLink.writeTlCfg 11 (2 ^ 48)).tlCfgOk 11 = true ∧
    (tLink.writeTlCfg 11 (2 ^ 49)).tlCfgOk 11 = false ∧ (tLink.tlEnable 11 (2 ^ 48)).bit F.TL_CFG_EN 11 = true ∧ (tLink.tlEnable 11 (2 ^ 48)).portState 11 = 1 ∧
    (tPort 6 LinkState.reset).portState 11 = 6 := by decide +kernel

theorem test_met_identity : tRun.power.mainUp = true ∧ (∀ k < 12, tRun.bit F.TL_CFG_EN k = false) ∧ (tRun.identityWrite true 1).identityOk = true ∧
    (tRun.identityWrite false 1).identityOk = false ∧ (tLink.tlEnable 11 (2 ^ 48)).bit F.TL_CFG_EN 11 = true := by decide +kernel

/-! ## The schedule unit: the hypotheses can be met -/

/-- The schedule unit in a state, with a hold from device 1023 that names cell 511. -/
def tHold : HoldInfo := ⟨false, 8, 11, 1023, 511, 0xFFFF⟩
def tSched (st : Nat) (f : SchedState → SchedState) : Dev := (tRun.set F.SCHED_STATUS_STATE st).modSched f

theorem test_met_beats : (tSched 0 id).power.mainUp = true ∧ (tSched 4 (fun s => { s with unload := true })).sched.unload = true ∧
    (tSched 0 id).schedState = 0 ∧ (tSched 2 (fun s => { s with hold := some tHold })).sched.hold = some tHold ∧
    (tSched 2 (fun s => { s with hold := some tHold })).suspects = [] ∧ (tSched 2 id).sched.hold = none ∧
    ((tSched 2 id).setReg F.SCHED_START_BEAT.base 0 0 1).reg F.SCHED_START_BEAT.base = ((tSched 2 id).beat + 1) % 2 ^ 64 ∧
    (tSched 2 id).reg F.SCHED_START_BEAT.base ≠ ((tSched 2 id).beat + 1) % 2 ^ 64 := by decide +kernel

/-- A running job: the last position before LENGTH, and LENGTH itself; a job of length 0 that does not loop. -/
theorem test_met_running : (tSched 3 id).schedState = 3 ∧ tHold.cause < 256 ∧ tHold.port < 256 ∧ tHold.origin < 1024 ∧ tHold.lc < 512 ∧ tHold.coll < 2 ^ 16 ∧
    ({ (tSched 3 id).setReg F.SCHED_POS.base 0 0 3 with mem := [(0x30, 5)] }).reg F.SCHED_POS.base + 1 < ({ tSched 3 id with mem := [(0x30, 5)] }).imgLength ∧
    ({ (tSched 3 id).setReg F.SCHED_POS.base 0 0 4 with mem := [(0x30, 5)] }).reg F.SCHED_POS.base + 1 = ({ tSched 3 id with mem := [(0x30, 5)] }).imgLength ∧
    ({ tSched 3 id with mem := [(0x30, 5)] }).imgLoop = false := by decide +kernel

/-- A device with ports 11 (minus) and 10 (plus) UP to its neighbour in a ring of two; the beat master is device 0. -/
def tTree (id : Nat) : Dev := (((((tRun.identityWrite true 1).identityWrite false id).setReg F.TL_CFG.base 11 0 (2 ^ 63 + (1 - id) * 2 ^ 48)).setPortState 11 3).setReg F.TL_CFG.base 10 0
  (2 ^ 63 + 2 ^ 58 + (1 - id) * 2 ^ 48)).setPortState 10 3
def tC (typ : Nat) (body : List Byte) : CFlit := mkCFlit typ 0 1 7 100 body

theorem test_met_marker : (tTree 1).cFlitIn 11 0x10 (tC 0x10 []) = true ∧ (tTree 1).isMaster = false ∧ (tTree 1).bit F.DEV_BEAT_STATUS_ALT = false ∧
    (tTree 1).parentPort = some 11 ∧ (tTree 1).bit F.DEV_BEAT_STATUS_LOCKED = false ∧ ((tTree 1).set F.DEV_BEAT_STATUS_LOCKED 1).bit F.DEV_BEAT_STATUS_LOCKED = true ∧
    (tTree 1).altPort = some 10 ∧ ((tTree 1).setPortState 10 6).altPort = none ∧ (tTree 1).sched.noSource = false ∧ (tTree 1).buffered 0 0 < 4 := by
  decide +kernel

theorem test_met_hold_flit : (tTree 0).cFlitIn 11 0x11 (tC 0x11 []) = true ∧ (tTree 0).holdSeen = [] ∧
    ({ tTree 0 with holdSeen := [(1, 7, 0)] }).holdSeen = [((tC 0x11 []).origin.toNat % 1024, (tC 0x11 []).seq.toNat, 0)] ∧
    ((tTree 0).set F.SCHED_STATUS_STATE 5).schedState = 5 := by decide +kernel

theorem test_met_stretch : (tTree 0).noticeIn 11 1 (tC 0x12 [1, 64]) = true ∧ (tTree 0).isMaster = true ∧ (tTree 1).noticeIn 11 1 (tC 0x12 [1, 64]) = true ∧
    SMap.read 0 (tTree 1).cSent 11 < 9 ∧ SMap.read 0 [(11, 8)] 11 < 9 ∧ (tSched 3 id).running = true ∧ (tSched 3 id).sched.hold = none ∧
    (tSched 4 id).running = false := by decide +kernel

/-- An image of 320 bytes at address 0 of far memory: no task, LENGTH 1,024, and one resume point at 0; with its digest, computed outside the model. -/
def tSchedImage : List Host.Cell := [(0, 1), (6, 1), (0x10, 0x40), (0x11, 1), (0x31, 4), (0x71, 1), (0x78, 1)]
def tDigest : List Byte := [174, 15, 161, 196, 73, 50, 113, 41, 203, 157, 229, 169, 192, 157, 217, 186, 14, 197, 102, 135, 2, 7, 69, 243, 120, 177, 242, 10, 116, 207, 217, 200]
def tSchedJob : Dev := { (tFar.set F.DEV_BEAT_STATUS_LOCKED 1).modSched (fun s => { s with stage := .digest }) with mem := tSchedImage ++ (List.range 32).zipWith (fun i b => (0xC0 + i, b)) tDigest }

theorem test_met_sched_load : tSchedJob.schedState = 0 ∧ tSchedJob.shapeBusy (tSchedJob.get F.SCHED_IMAGE_BASE_BASE * 64) = false ∧
    tSchedJob.imageOk (tSchedJob.get F.SCHED_IMAGE_BASE_BASE * 64) = true ∧ tFar.imageOk 0 = false ∧ (tSched 1 id).schedState = 1 := by decide +kernel

theorem test_met_digest : tSchedJob.imageDigest tSchedJob.sched.base = tSchedJob.load (tSchedJob.sched.base + 0xC0) 32 := by decide +kernel

theorem test_met_digest_wrong : ({ tSchedJob with mem := tSchedImage }).imageDigest 0 ≠ ({ tSchedJob with mem := tSchedImage }).load 0xC0 32 := by decide +kernel

/-- All far memory READY and first light over. -/
def tReady : Dev := (((List.range 32).foldl (fun d m => d.set F.FAR_STATUS_STATE 2 m) tSchedJob).set F.BADGER_STATUS_FIRST_LIGHT 1).modSched (fun s => { s with stage := .signature })

theorem test_met_signature : tReady.sched.stage = .signature ∧ tReady.slolisUp = true ∧ tReady.img tReady.sched.base 0xE0 8 = 0 ∧
    tReady.bit F.SEC_STATUS_SIG_SCHED_REQ = false ∧ (tReady.set F.SEC_STATUS_SIG_SCHED_REQ 1).bit F.SEC_STATUS_SIG_SCHED_REQ = true ∧
    tReady.lateChecks tReady.sched.base = 0 ∧ (tReady.set F.BADGER_STATUS_FIRST_LIGHT 0).lateChecks 0 = 7 := by decide +kernel

/-- The job HELD at position 1,023, whose latest resume point is 0; it resumes in beat 1,024. -/
def tHeldJob : Dev := (((tReady.set F.SCHED_STATUS_STATE 4).setReg F.SCHED_HOLD_POS.base 0 0 1023).setReg F.SCHED_RESUME_BEAT.base 0 0 1024).setReg F.DEV_BEAT_COUNT.base 0 0 896

theorem test_met_resume : tHeldJob.schedState = 4 ∧ newer32 1 (tHeldJob.get F.SCHED_STATUS_EPOCH) = true ∧
    tHeldJob.latestPoint (tHeldJob.reg F.SCHED_HOLD_POS.base) = some (0, 0) ∧ tHeldJob.get F.SCHED_RESUME_POS_POS = 0 ∧
    tHeldJob.get F.SCHED_RESUME_POS_VARIANT ≤ tHeldJob.sectionCount 4 ∧ tHeldJob.reg F.SCHED_RESUME_BEAT.base % 1024 = 0 ∧
    tHeldJob.beat + 128 ≤ tHeldJob.reg F.SCHED_RESUME_BEAT.base ∧ tHeldJob.shapeFits tHeldJob.sched.base = true ∧
    tHeldJob.imagePortsUp tHeldJob.sched.base (tHeldJob.get F.SCHED_RESUME_POS_VARIANT) = true := by decide +kernel

/-- An endpoint of the setup bound, and one that failed. -/
def tSetup (st : Nat) : Dev := (tSched 1 (fun s => { s with stage := .phaseB, setupEps := [(0, 63)] })).set F.CELL_SEP_STATE_STATE st 0 64

theorem test_met_joins : (tSetup 2).sched.stage = .phaseB ∧
    (tSetup 2).sched.setupEps.map (fun e => match (tSetup 2).hostOf e.1 with | some pc => (tSetup 2).sepState (.cell pc) e.2 | none => 4) = [2] ∧
    (tSetup 4).sched.setupEps.map (fun e => match (tSetup 4).hostOf e.1 with | some pc => (tSetup 4).sepState (.cell pc) e.2 | none => 4) = [4] ∧
    (tSetup 2).sched.setupFailed = false := by decide +kernel

theorem test_met_barriers : (tTree 0).cFlitIn 11 0x13 (tC 0x13 []) = true ∧ (tTree 0).childPorts = [10, 11] ∧
    (tTree 1).cFlitIn 11 0x14 (tC 0x14 [0, 0, 0, 0, 1]) = true ∧ (tTree 1).parentPort = some 11 ∧ cField (tC 0x14 [0, 0, 0, 0, 1]) 0x10 4 = (tTree 1).sched.newEpoch ∧
    cField (tC 0x14 [0, 0, 0, 0, 1]) 0x14 1 = 1 ∧ cField (tC 0x14 []) 0x14 1 = 0 ∧ (tSched 1 (fun s => { s with stage := .barrierB })).sched.stage = .barrierB ∧
    (tTree 1).sched.resuming = false := by decide +kernel

/-- Transfer entry 0 of an image: 48 bytes of endpoint 63 of cell 0, whose record stands in the outbox. -/
def tTransferImg : List Host.Cell := [(0x50, 0x00), (0x51, 1), (0x58, 1), (0x10A, 63), (0x114, 64)]
def tOutS : OutItem := { tOut with sched := true }
def tWindowed : Dev := { (tSched 3 (fun s => { s with windows := [(0, ⟨9, 0, 0⟩)] })).modCell 0 (fun s => { s with outbox := [tOutS] }) with mem := tTransferImg }

theorem test_met_window : SMap.find 0 tWindowed.sched.windows = some ⟨9, 0, 0⟩ ∧ tWindowed.running = true ∧ tWindowed.hostOf (tWindowed.transfer 0).lc = some 0 ∧
    (tWindowed.cell 0).outbox = [tOutS] ∧ covers (tWindowed.transfer 0) tOutS = true ∧ 16 ≤ itemBytes tOutS - tOutS.sent ∧
    itemBytes tOutS - tOutS.sent ≤ (tWindowed.transfer 0).bytes - 0 := by decide +kernel

/-! ## Patrol: the hypotheses can be met -/

/-- A test of slot 1 that is at a step. -/
def tTest (st : Nat) (sus : Bool) : SlotTest := ⟨st, sus, false⟩
def tTesting (st : Nat) (sus : Bool) : Dev := tRun.modSlot 1 (fun i => { i with test := some (tTest st sus) })

theorem test_met_tests : (tTesting 1 false).domOn 1 = true ∧ ((tTesting 6 true).slotInfo 1).test = some (tTest 6 true) ∧
    tRun.bit F.CELL_ARR_STRIP_MAP_REPAIRED 1 = false ∧ ((tRun.set F.CELL_ARR_STRIP_MAP_REPAIRED 1 1).set F.CELL_ARR_STRIP_MAP_BAD 127 1).get F.CELL_ARR_STRIP_MAP_BAD 1 ≠ 0 ∧
    (tRun.slotInfo 1).test = none ∧ tRun.suspects = [] ∧ tRun.domOn 2 = false := by decide +kernel

/-- Spare lines left and used up; the guard below and at 3; two strikes of today. -/
theorem test_met_repairs : tRun.sparesUsed 1 1 15 < spareLines 1 ∧
    spareLines 1 ≤ ({ tRun with defects := List.replicate 8 ⟨3, 1, BitVec.ofNat 32 (lineField 1 15 0), 0⟩ }).sparesUsed 1 1 15 ∧
    (tRun.setSlotFld F.BADGER_SLOT_GUARD 1 2).slotFld F.BADGER_SLOT_GUARD 1 < 3 ∧ 3 ≤ (tRun.setSlotFld F.BADGER_SLOT_GUARD 1 3).slotFld F.BADGER_SLOT_GUARD 1 ∧
    tRun.strikes 1 < 2 ∧ ({ tRun with defects := List.replicate 2 ⟨5, 1, 0, 0⟩ }).strikes 1 = 2 ∧ tRun.ptpSec < 2 ^ 64 := by decide +kernel

theorem test_met_fence : tRun.power.mainUp = true ∧ tRun.dbgScope .os 3 = false ∧ (tRun.setSlotState 1 5).slotState 1 = 5 ∧ tRun.slotState 1 ≠ 5 ∧
    (tRun.setLmap 1 2 0).hosted 1 = none ∧ tRun.migrations = [] := by decide +kernel

theorem test_met_trend : (tRun.slotInfo 1).dayMean.2 = 0 ∧ ((tRun.modSlot 1 (fun i => { i with dayMean := (61, 1) })).slotInfo 1).dayMean.2 ≠ 0 := by decide +kernel

/-- Slots 0 and 1 LIVE, a slot of their row STANDBY, in the first beat of a maintenance window of an IDLE unit. -/
def tWindow : Dev := ((((tRun.setDom 16 true).setSlotState 0 0).setSlotState 1 0).setSlotState 16 1).setReg F.DEV_BEAT_COUNT.base 0 0 40832

theorem test_met_patrol : tWindow.inWindow = true ∧ tWindow.periodPos = 40832 ∧ tWindow.homeRow 0 = 0 ∧ tWindow.hosted 0 = some 0 ∧
    tWindow.patrolSource 0 = some 0 ∧ tWindow.rowBusy 0 = false ∧ nearestSlot 0 ((rowSlots 0).filter tWindow.eligible) = some 16 ∧
    (tWindow.setReg F.DEV_BEAT_COUNT.base 0 0 40833).periodPos ≠ 40832 ∧ tRun.inWindow = false ∧ tRun.windowOpen = false ∧ tWindow.slotState 0 = 0 := by
  decide +kernel

/-- Cell 0 on its way from slot 0 to slot 1. -/
def tMig (ph : MigPhase) (live : Bool) : Migration := ⟨0, 0, 0, 1, live, false, ph⟩
def tMoving (ph : MigPhase) (live : Bool) : Dev := { tRun.modCell 0 (fun s => { s with frozen := true }) with migrations := [tMig ph live] }

theorem test_met_migration : (tMoving .freeze false).migrationOf 0 = some (tMig .freeze false) ∧ ((tMoving .freeze false).cell 0).frozen = true ∧
    ((tMoving .freeze false).cell 0).arr.run = none ∧ (tMoving .copy true).migrationOf 0 = some (tMig .copy true) ∧ (tMoving .copy true).suspects = [] ∧
    (tMoving .copy true).migrationOf 511 = none := by decide +kernel

theorem test_met_migration_abort : (tMoving .copy false).migrations.find? (fun x => x.row = 0 && !x.live) = some (tMig .copy false) ∧ (tMoving .copy false).schedState ≠ 4 ∧
    40956 ≤ ((tMoving .copy false).setReg F.DEV_BEAT_COUNT.base 0 0 40956).periodPos ∧ (tMoving .copy false).periodPos < 40956 ∧
    ((tMoving .copy false).set F.SCHED_STATUS_STATE 4).schedState = 4 := by decide +kernel

theorem test_met_suspect : (tRun.setLmap 0 2 0).hostOf 0 = none ∧ (tRun.setLmap 0 1 0).migrating 0 = true ∧ (tRun.setLmap 0 1 0).hostOf 0 ≠ none ∧
    tRun.hostOf 0 = some 0 ∧ tRun.migrating 0 = false ∧ (tMoving .copy false).rowBusy (rowOf 0) = true ∧ tRun.rowBusy (rowOf 0) = false ∧
    (tSched 3 id).running = true ∧ (tSched 3 id).inWindow = false ∧ (tSched 3 id).sched.hold = none ∧ tWindow.running = false ∧
    tWindow.suspectTarget 0 = some 16 := by decide +kernel

theorem test_met_levels : tRun.bit F.BADGER_REQ_CFG_HOLD = false ∧ (tRun.set F.BADGER_REQ_CFG_HOLD 1).bit F.BADGER_REQ_CFG_HOLD = true ∧ tRun.get F.BADGER_REQ_LEVEL = 0 ∧
    (tRun.set F.BADGER_REQ_LEVEL 3).get F.BADGER_REQ_LEVEL ≠ 0 ∧ tRun.slolisUp = true ∧ tRun.replace.lastNotice = none ∧
    ({ tRun with replace := { tRun.replace with lastNotice := some 0 } }).ptpSec < 0 + 60 * tRun.get F.BADGER_REQ_CFG_CAP_MIN ∧ tRun.buffered 8 0 < 4 := by decide +kernel

/-- Every slot of partition 0 but those of its 64 cells fenced: no spare is left. -/
theorem test_met_no_spare : ([16, 17, 50, 51].foldl (fun d pc => d.setSlotState pc 5) tRun).spares 0 = 0 := by decide +kernel

/-! ## The log and Squirrel: the hypotheses can be met -/

/-- A record of severity 1, one of severity 4, an entry and a coalescing slot of the first. -/
def tRec1 (sev : Nat) : Record := ⟨0x0100, 1, 4, 0, sev, 0, 0, 0, 0, 0, 0⟩
def tEntry (seq : Nat) : LogEntry := ⟨tRec1 1, seq, 1, false, false, 0, none, true⟩
def tCoal : CoalSlot := ⟨0x0100, 1, 4, 0, 0, none, 0, 100⟩
def tLog : Dev := { (tRun.set F.FLOG_STATUS_NEXT_SEQ 1) with reports := [tRec1 1], logRing := [(0, tEntry 0)] }

theorem test_met_intake : tRun.reports = [] ∧ tLog.reports = [tRec1 1] ∧ tLog.findSlot (tRec1 1) = none ∧ tLog.get F.FLOG_CFG_COALESCE_MS ≠ 0 ∧
    tLog.freeSlot = some 0 ∧ ({ tLog with logSlots := [(255, tCoal)] }).findSlot (tRec1 1) = some (255, tCoal) ∧ tLog.logEntry tCoal.first = some (tEntry 0) ∧
    tCoal.latest = none ∧ tCoal.first % 4096 ≠ tLog.nextSeq % 4096 ∧ tLog.bit F.FLOG_TAINT_VALID = false ∧
    (tLog.set F.FLOG_TAINT_VALID 1).bit F.FLOG_TAINT_VALID = true ∧ tLog.bit F.FLOG_MIRROR_BASE_EN = false := by decide +kernel

theorem test_met_mirror : ((tFar.set F.FLOG_MIRROR_BASE_EN 1).set F.FLOG_MIRROR_BASE_BASE 1).bit F.FLOG_MIRROR_BASE_EN = true ∧
    tFar.inCarve ((tFar.set F.FLOG_MIRROR_BASE_BASE 1).get F.FLOG_MIRROR_BASE_BASE * 2 ^ 18) 0x40000 = true := by decide +kernel

/-- An entry at the far end of the ring that waits to be sent. -/
def tDue : Dev := { (tRun.set F.FLOG_STATUS_NEXT_SEQ 4096) with logRing := [(0, tEntry 0)] }

theorem test_met_datagram : tDue.logEntry 0 = some (tEntry 0) ∧ tDue.sendable (tEntry 0) = true ∧ (0 : Nat) ∈ tDue.ringSeqs.take 1 ∧
    ({ tDue with config := List.replicate 0xA0 0 ++ [1] }).collectorOn 0 = true ∧ tDue.anyCollector = false ∧ tDue.mgmtUp 0 = false ∧
    (tDue.set (F.MGMT_LINK_UP.nth 1) 1).mgmtUp 1 = true ∧ tDue.bit F.FLOG_MIRROR_BASE_EN = false := by decide +kernel

theorem test_met_datagram_entries : ((tDue.ringSeqs.filterMap tDue.logEntry).filter tDue.sendable).take 16 ≠ [] := by decide +kernel

/-- A plan of one region of 4 KiB, the 48 queues of Squirrel enabled, and drive 7 enabled. -/
def tPlanMem : List Host.Cell := [(0, 1), (2, 1), (0x49, 0x10), (0x54, 0x10), (0x59, 0x10), (0x5C, 0x10)]
def tArm : Dev := (List.range 16).foldl (fun d h => [6, 7, 8].foldl (fun d k => (d.set F.ENG_WQ_CFG_EN 1 (16 * h + k) 64).set F.ENG_WQ_CFG_PKIND 3 (16 * h + k) 64) d)
  { (tRun.set F.DEV_FAR_SIZE_SIZE 0x2000000000).set F.SNAP_CFG_DRIVE_EN 128 with mem := tPlanMem }

theorem test_met_plan : tArm.planOk = true ∧ tArm.snapQueuesOk = true ∧ tArm.buddyOk = true ∧ tArm.snapState = 0 ∧ tArm.snap.stage = .none ∧ tArm.failedChannels = [] ∧
    tArm.drives = [7] ∧ tArm.schedState = 0 ∧ tRun.armResult = 2 ∧ tRun.drivesOk = false ∧ (tRun.set F.SNAP_STATUS_STATE 2).snapState = 2 := by decide +kernel

/-- Whether a drive is fit is a free value; wherever it is, ARM's checks pass. -/
theorem test_met_arm (h : ∀ n w, Config.driveFit n w = true) : tArm.drivesOk = true ∧ tArm.armResult = 0 := by
  have h1 : tArm.drivesOk = true := by
    unfold Dev.drivesOk
    simp only [h, Bool.and_true]
    decide +kernel
  refine ⟨h1, ?_⟩
  unfold Dev.armResult
  rw [h1]
  decide +kernel

/-- Devices of a ring of ten, this one being number 9, with buddy mode on and a shard held for device 0. -/
def tBuddy : Dev := { ((((tRun.identityWrite true 9).identityWrite false 9).set F.SNAP_BUDDY_EN 1).modSnap (fun s => { s with shards := [(0, ⟨5, 9, [1, 2, 3]⟩)] })) with cycle := 0 }

theorem test_met_buddy : tBuddy.bit F.SNAP_BUDDY_EN = true ∧ tBuddy.buddyIndex 0 = some 9 ∧ SMap.find 0 tBuddy.snap.shards = some ⟨5, 9, [1, 2, 3]⟩ ∧
    SMap.find 1 tBuddy.snap.shards = none ∧ tBuddy.buddyIndex 9 = some 0 ∧ SMap.find (tBuddy.get F.SNAP_BUDDY_SOURCE) tBuddy.snap.shards = some ⟨5, 9, [1, 2, 3]⟩ := by
  decide +kernel

/-- Notices of kind 2, 3 and 4 for step 6 at the master and at a child, armed. -/
def tNote (k : Byte) : CFlit := tC 0x12 [k, 0, 0, 0, 8, 0, 0, 0, 6]
def tArmed (id : Nat) (f : SnapState → SnapState) : Dev := ((tTree id).set F.SNAP_STATUS_STATE 1).modSnap f

theorem test_met_agree : (tArmed 1 id).noticeIn 11 2 (tNote 2) = true ∧ (tArmed 1 id).noticeIn 11 4 (tNote 4) = true ∧ (tArmed 1 id).isMaster = false ∧
    (tArmed 1 id).parentPort = some 11 ∧ SMap.read 0 (tArmed 1 id).cSent 11 < 9 ∧ (tArmed 1 id).noticeIn 11 2 (tNote 3) = false ∧ (tArmed 0 id).isMaster = true ∧
    tRun.snapArmed = false ∧ (tArmed 1 id).snapArmed = true ∧ cField (tNote 3) 0x18 8 = 6 := by decide +kernel

theorem test_met_step : (tArmed 1 id).noticeIn 11 3 (tNote 3) = true ∧ cField (tNote 3) 0x18 8 ≤ (tArmed 1 (fun s => { s with acted := 6 })).snap.acted ∧
    (tArmed 1 id).snap.acted < 6 ∧ (tArmed 1 id).snapState = 1 ∧ (tArmed 1 id).step ≤ 6 ∧ ((tArmed 1 id).setReg F.SCHED_STEP.base 0 0 6).step = 6 ∧
    6 < ((tArmed 1 id).setReg F.SCHED_STEP.base 0 0 7).step ∧ ((tArmed 1 id).set F.SNAP_STATUS_STATE 3).snapState = 3 := by decide +kernel

/-- The master has announced step 6; one outcome is in, or none. -/
def tAnn (from' : List Nat) : Dev := tArmed 0 (fun s => { s with announced := 6, doneFrom := from', proposals := [(1, (8, 0))] })

theorem test_met_done : (tAnn []).isMaster = true ∧ (tAnn []).snap.announced ≠ 0 ∧ (tAnn []).step ≤ (tAnn []).snap.announced ∧ (tAnn []).childPorts = [10, 11] ∧
    (tAnn []).noticeIn 11 4 (tNote 4) = true ∧ cField (tNote 4) 0x18 8 = (tAnn []).snap.announced ∧ (tNote 4).origin.toNat % 1024 ∉ (tAnn [0]).snap.doneFrom ∧
    (tNote 4).origin.toNat % 1024 ∈ (tAnn [1]).snap.doneFrom ∧ (tAnn []).snap.doneFrom.length + 1 < (tAnn []).domainSize ∧
    (tAnn [0]).domainSize ≤ (tAnn [0]).snap.doneFrom.length + 1 ∧ (tAnn [0]).domainInterval.isSome = true ∧ (tAnn []).snap.doneMsg = none ∧
    (tArmed 1 (fun s => { s with doneMsg := some (2, 6) })).snap.doneMsg = some (2, 6) := by decide +kernel

/-- Squirrel drains a plan of one region of 4 KiB that is not compressed, with queues enabled, and with 3 drives of 2^20 blocks. -/
def tReg : SnapRegion := ⟨0, 0, 1, 4096, 0x1000000000, 0x1000001000⟩
def tDrain (used : Nat) : Dev := ((tArm.set F.SNAP_STATUS_STATE 2).set (F.SNAP_DRIVE_COUNT_LBA.nth 7 32) (2 ^ 20)).modSnap (fun s => { s with stage := .data, plan := [tReg], used := used })

theorem test_met_drain : (tDrain 0).snapState = 2 ∧ (tDrain 0).snap.stage = .data ∧ (tDrain 0).halted = false ∧ (tDrain 0).snapServed 0 = true ∧
    (tDrain 0).hubWork 0 = some ⟨0, 0, []⟩ ∧ (segmentsOf (tDrain 0).snap.plan)[0]? = some ⟨tReg, 0, 4096⟩ ∧ (tDrain 0).hubWork 15 = none ∧
    (tDrain 0).hubQueuesOk 0 = true ∧ ((tDrain 0).set F.ENG_WQ_CFG_EN 0 6 64).hubQueuesOk 0 = false ∧ 0 + 4096 ≤ (tDrain 0).slotBytes ∧
    (tDrain 0).slotBytes < (tDrain (2 ^ 40)).snap.used := by decide +kernel

/-- Requests that wait: a Flush of drive 7, alone and with a second one; while arming and committing. -/
def tWait (st : SnapStage) (rs : List NvmeReq) : Dev := (tArm.set F.SNAP_STATUS_STATE 3).modSnap (fun s => { s with stage := st, reqs := rs })

theorem test_met_nvme : takeNvme 7 0 (tWait .commit [⟨7, 0, 0, 0, 0⟩]).snap.reqs = some (⟨7, 0, 0, 0, 0⟩, []) ∧ takeNvme 6 0 (tWait .commit [⟨7, 0, 0, 0, 0⟩]).snap.reqs = none ∧
    takeNvme 7 1 (tWait .commit [⟨7, 257, 0, 1, 0⟩, ⟨7, 0, 0, 0, 0⟩]).snap.reqs = some (⟨7, 257, 0, 1, 0⟩, [⟨7, 0, 0, 0, 0⟩]) ∧
    (tWait .commit []).snapState ≠ 5 ∧ (tWait .commit []).snap.t < 2 ^ 64 ∧ (tWait .loadArm []).snap.stage = .loadArm ∧ (tWait .loadArm []).sched.loaded = false ∧
    takeNvme 7 2 (tWait .readData [⟨7, 2, 0, 1, 0⟩]).snap.reqs = some (⟨7, 2, 0, 1, 0⟩, []) ∧
    (∃ r ∈ (tWait .commit [⟨7, 0, 0, 0, 0⟩]).snap.reqs, r.drive = (7 : Fin 8).val) := by decide +kernel

/-- A manifest of two regions of 8 bytes, each one segment of one raw chunk; the first 16 bytes of the data space have come. -/
def tManifest : List Byte := padTo 0x100 (leBytes 12 0 ++ leBytes 2 2 ++ leBytes 2 0 ++ leBytes 8 5 ++ leBytes 8 9 ++ leBytes 40 0 ++ leBytes 8 16 ++ leBytes 8 16 ++ leBytes 4 2) ++
  padTo 32 (leBytes 4 1 ++ leBytes 4 1 ++ leBytes 8 8 ++ leBytes 4 0 ++ leBytes 4 0) ++ padTo 32 (leBytes 4 2 ++ leBytes 4 1 ++ leBytes 8 8 ++ leBytes 4 1 ++ leBytes 4 1) ++
  leBytes 64 0 ++ leBytes 8 0 ++ leBytes 4 (2 ^ 31 + 8) ++ leBytes 8 8 ++ leBytes 4 (2 ^ 31 + 8)
def tRegions : List SnapRegion := [⟨1, 1, 1, 8, 0x1000000000, 0⟩, ⟨2, 1, 1, 8, 0x1000001000, 0⟩]
def tRestore (rd : List Nat) : Dev := (tRun.set F.SNAP_STATUS_STATE 4).modSnap (fun s => { s with stage := .readData, manifest := tManifest, restored := rd, read := [(0, leBytes 16 0x0807060504030201)], plan := tRegions })

theorem test_met_restore : (tRestore []).snapState = 4 ∧ (tRestore []).mf 0x58 4 = 2 ∧ (tRestore [0]).snap.reqs = [] ∧ (tRestore [0]).mf 0x0C 2 = 2 ∧
    (((List.range ((tRestore []).mf 0x0C 2)).map (tRestore []).mfRegion).find? (fun x => x.2.1 ≤ 1 && 1 < x.2.1 + ceilDiv x.1.len segSize)) = some (⟨2, 1, 0, 8, 0, 0⟩, 1, 1) ∧
    ((tRestore []).snap.plan.find? (fun x => x.id = 2)) = some ⟨2, 1, 1, 8, 0x1000001000, 0⟩ ∧
    ((tRestore []).segBytes 1 8 (segSize / chunkSize)) = some (leBytes 8 0) ∧ ((tRestore []).segBytes 0 8 (segSize / chunkSize)) = some [1, 2, 3, 4, 5, 6, 7, 8] ∧
    (tRestore []).snap.restored.length + 1 ≠ (tRestore []).mf 0x58 4 ∧ (tRestore [0]).snap.restored.length + 1 = (tRestore [0]).mf 0x58 4 := by decide +kernel

/-! ## Watchdogs, resets and services: the hypotheses can be met -/

theorem test_met_progress : tRun.domOn 0 = true ∧ tRun.isFrozen 0 = false ∧ (tRun.ctx 0 3).phase = .running ∧ (tRun.set F.WDOG_CFG_PROG_BEATS 1).get F.WDOG_CFG_PROG_BEATS ≠ 0 ∧
    ((tRun.setCtx 0 31 { tCtx with phase := .parked }).ctx 0 31).phase = .parked ∧ (tRun.set F.WDOG_CFG_PARK_BEATS 1).get F.WDOG_CFG_PARK_BEATS = 1 ∧ tRun.buffered 2 0 < 4 ∧
    (tRun.ctx 0 4).phase ≠ .running := by decide +kernel

/-- The heartbeat is checked: its interval over, and one ns short of it. -/
def tHeart (ns : Nat) : Dev := { (tRun.set F.WDOG_OS_CFG_EN 1).modMgmt (fun m => { m with hbOn := true, loaderOk := true }) with cycle := ns * 21 / 10 }

theorem test_met_heartbeat : (tHeart 0).slolisUp = true ∧ (tHeart 0).bit F.WDOG_OS_CFG_EN = true ∧ (tHeart 0).mgmt.hbOn = true ∧ (tHeart 0).computeResetting = false ∧
    (tHeart 0).get F.WDOG_OS_HB_COUNT = (tHeart 0).mgmt.hbCount ∧ ((tHeart 0).set F.WDOG_OS_HB_COUNT 1).get F.WDOG_OS_HB_COUNT ≠ (tHeart 0).mgmt.hbCount ∧
    ((tHeart 0).ns - (tHeart 0).mgmt.hbNs) / 1000000 < (tHeart 0).get F.WDOG_OS_CFG_HB_MS ∧
    (tHeart 10000000000).get F.WDOG_OS_CFG_HB_MS ≤ ((tHeart 10000000000).ns - (tHeart 10000000000).mgmt.hbNs) / 1000000 ∧
    ((tHeart 0).set F.WDOG_OS_CFG_ACTION 1).get F.WDOG_OS_CFG_ACTION = 1 ∧ ((tHeart 0).set F.WDOG_OS_CFG_ACTION 0).get F.WDOG_OS_CFG_ACTION = 0 ∧
    (tHeart 0).resetting 2 0 = false ∧ (tHeart 0).mgmt.loaderOk = true ∧ tRun.mgmt.hbOn = false := by decide +kernel

theorem test_met_slolis : tRun.slolisUp = true ∧ tRun.ns < tRun.mgmt.kickNs + 500000000 ∧ (tHeart 500000000).mgmt.kickNs + 500000000 ≤ (tHeart 500000000).ns ∧
    tRun.resetting 1 0 = false ∧ ({ tRun with resets := [⟨1, 0, 1, 0⟩] }).resetting 1 0 = true ∧ tRun.bit F.WDOG_SLOLIS_STOPPED = false ∧
    (tRun.set F.WDOG_SLOLIS_STOPPED 1).bit F.WDOG_SLOLIS_STOPPED = true ∧ tRun.buffered 9 0 < 4 ∧
    ((tRun.modMgmt (fun m => { m with expiries := [0, 0, 0] })).mgmt.expiries.filter (fun t => decide (tRun.ptpNs < t + 600000000000))).length + 1 = 4 ∧
    (tRun.mgmt.expiries.filter (fun t => decide (tRun.ptpNs < t + 600000000000))).length + 1 = 1 := by decide +kernel

theorem test_met_slolis_restart : ({ tRun with slolisUp := false, resets := [⟨1, 0, 1, 0⟩] }).slolisUp = false ∧ (∀ r ∈ [(⟨1, 0, 1, 0⟩ : ResetRun)], r.unit ≤ 2) ∧
    tRun.fencePending = [] ∧ tRun.resetWaits = false ∧ tRun.power.mainUp = true ∧ tRun.power.rising = false := by decide +kernel

theorem test_met_reset_commands : Dev.reset.power.mainUp = false ∧ tRun.deviceResetting = false ∧ tRun.partResetting 7 = false ∧
    ({ tRun with resets := [⟨3, 7, 1, 0⟩] }).partResetting 7 = true ∧ ({ tRun with resets := [⟨4, 0, 1, 0⟩] }).deviceResetting = true ∧
    ({ tRun with resets := [⟨2, 0, 1, 0⟩] }).resetting 2 0 = true ∧ tRun.mgmt.loaderOk = false ∧ (∃ r ∈ [(⟨3, 7, 1, 0⟩ : ResetRun)], r.unit = 3) ∧
    (∀ r ∈ tRun.resets, r.unit ≠ 3) := by decide +kernel

/-- Partition 0 in reset with its slots tested and its channels trained; and the device in reset with all of them. -/
def tAfter (r : ResetRun) : Dev := { (List.range 5).foldl (fun d i => d.setReg (F.PART_SLOT.base + 8 * i) 0 0 0)
  ((List.range 32).foldl (fun d n => d.set F.FAR_STATUS_STATE 2 n) (tRun.set F.BADGER_STATUS_FIRST_LIGHT 1)) with resets := [r] }

theorem test_met_partition_done : (tAfter ⟨3, 0, 1, 0⟩).partResetting 0 = true ∧ (tAfter ⟨3, 0, 1, 0⟩).resetGoes = true ∧
    (∀ s ∈ partSlots 0, (tAfter ⟨3, 0, 1, 0⟩).slotState s ≠ 3) ∧ (∀ n ∈ List.range 4, (tAfter ⟨3, 0, 1, 0⟩).trained n = true) ∧
    (tAfter ⟨3, 0, 1, 0⟩).hosted 0 ≠ none ∧ tRun.trained 0 = false := by decide +kernel

theorem test_met_device_done : (tAfter ⟨4, 0, 1, 0⟩).deviceResetting = true ∧ (tAfter ⟨4, 0, 1, 0⟩).resetGoes = true ∧
    (tAfter ⟨4, 0, 1, 0⟩).bit F.BADGER_STATUS_FIRST_LIGHT = true ∧ (tAfter ⟨4, 0, 1, 0⟩).allTrained = true := by decide +kernel

theorem test_met_roles : roleHas .readOnly 0 = true ∧ roleHas .readOnly 1 = false ∧ roleHas .operator 1 = true ∧ roleHas .operator 2 = false ∧
    roleHas .fabricManager 2 = true ∧ roleHas .fabricManager 3 = false ∧ roleHas .administrator 3 = true ∧ roleHas .administrator 2 = false := by decide

/-- An identity, and 33 and 32 quotes that wait. -/
def tQuotes (n : Nat) : Dev := (tRun.set F.SEC_STATUS_PUF_OK 1).modMgmt (fun m => { m with quotes := List.replicate n ⟨[], none⟩ })

theorem test_met_quotes : (tQuotes 0).bit F.SEC_STATUS_PUF_OK = true ∧ (tQuotes 32).quotesFull = false ∧ (tQuotes 33).quotesFull = true ∧ tRun.mgmt.quotes = [] ∧
    (tQuotes 1).mgmt.quotes = [⟨[], none⟩] ∧ ((tRun.modMgmt (fun m => { m with quotes := [⟨[], some (7, 0)⟩] })).mgmt.quotes = [⟨[], some (7, 0)⟩]) ∧
    tRun.bit F.SEC_STATUS_PUF_OK = false := by decide +kernel

/-- A grant with every scope; a token that is too short to verify. -/
theorem test_met_debug : ((tRun.set F.SEC_DEBUG_ACTIVE 1).set F.SEC_DEBUG_SCOPE 15).bit F.SEC_DEBUG_ACTIVE = true ∧ bitOf ((tRun.set F.SEC_DEBUG_SCOPE 15).get F.SEC_DEBUG_SCOPE) 3 = true ∧
    tRun.bit F.SEC_DEBUG_ACTIVE = false ∧ bitOf (tRun.get F.SEC_DEBUG_SCOPE) 3 = false ∧ tRun.tokenCheck [] ≠ 0 ∧ tRun.buffered 14 0 < 4 := by decide +kernel

/-- Every command answers a next state with the queue as it was, so the actions' inner commands do. -/
theorem test_met_actions : (∃ d1, exec (.holdCommand .slolis) ⟨tRun, []⟩ = .next ⟨d1, []⟩) ∧ (∃ d1, exec (.rstDevice .slolis) ⟨tRun, []⟩ = .next ⟨d1, []⟩) ∧
    (∃ d1, exec (.snapDisarm .slolis) ⟨tRun, []⟩ = .next ⟨d1, []⟩) ∧ (∃ d1, exec (.tlDisable .slolis 11 0) ⟨tRun, []⟩ = .next ⟨d1, []⟩) ∧
    bitsOf (4 : Nat) 2 0 = 4 ∧ bitsOf (1 : Nat) 2 0 ≠ 2 ∧ bitsOf (1 : Nat) 2 0 ≠ 3 ∧ bitOf (2 ^ 63) 63 = true ∧ bitOf (2 ^ 62) 63 = false :=
  ⟨⟨_, rfl⟩, ⟨_, rfl⟩, ⟨_, rfl⟩, ⟨_, rfl⟩, by decide⟩

/-- The mailbox with 16 slots at address 0x1000, whose slot 0 holds a request of operation 6. -/
def tMbox : Dev := { ((tFar.set F.MBOX_CFG_EN 1).set F.MBOX_CFG_BASE 1).set F.MBOX_CFG_SIZE 4 with mem := [(0x1004, 6), (0x1008, 9)] }

theorem test_met_mbox : tMbox.mboxUp = true ∧ tMbox.loadNat 0x1000 4 = tMbox.get F.MBOX_STATUS_NEXT ∧ tMbox.loadNat 0x1004 2 = 6 ∧ tFar.bit F.MBOX_CFG_EN = false ∧
    tFar.mboxCfgOk (10 * 2 ^ 56 + 2 ^ 63) = true ∧ tFar.mboxCfgOk (11 * 2 ^ 56 + 2 ^ 63) = false ∧ tFar.mboxUp = false ∧
    (tMbox.set F.MBOX_STATUS_NEXT 1).loadNat 0x1040 4 ≠ 1 ∧ tFar.inCarve 0 quoteSize = true ∧ tRun.inCarve 0 quoteSize = false := by decide +kernel

theorem test_met_power_request : tMbox.domOn 0 = true ∧ tMbox.domBusy 0 = true ∧ (tMbox.setDom 571 true).domOn 571 = true ∧ tMbox.domOn 16 = false ∧
    tMbox.domOn 584 = false ∧ (tMbox.setDom 584 true).domOn 584 = true := by decide +kernel

/-- Management port 1 up with the PTP session; and down. -/
def tPtp : Dev := ((({ tRun with power := { tRun.power with aonUp := true } }).set (F.MGMT_LINK_UP.nth 1) 1).set (F.MGMT_LINK_PTP.nth 1) 1).set F.MGMT_PTP_LOCKED 1

theorem test_met_ptp : tPtp.mgmtUp 1 = true ∧ tPtp.mgmtUp 0 = false ∧ tPtp.power.aonUp = true ∧ tPtp.ptpPort = some 1 ∧ tPtp.bit F.MGMT_PTP_LOCKED = true ∧
    tRun.bit F.MGMT_PTP_LOCKED = false ∧ tPtp.buffered 15 0 < 4 ∧ Dev.reset.power.aonUp = false := by decide +kernel

theorem test_met_firmware_ready : (tRun.modMgmt (fun m => { m with fwTrial := true })).mgmt.fwTrial = true ∧ tRun.mgmt.fwTrial = false ∧
    tRun.mgmt.flash.fwActive = false := by decide +kernel

/-! ## Power and the ports of the OS complex: the hypotheses can be met -/

/-- A flash whose banks hold nothing: neither firmware bank verifies, for want of the format of Table 15-7. -/
theorem test_met_power_on_recovery : FlashImage.empty.fwTrial = none ∧ Dev.reset.power.aonUp = false ∧ tDev.power.aonUp = true ∧
    (∀ b : Bool, sigCheck 1 (fwBank FlashImage.empty b).sig (shake32 (fwBank FlashImage.empty b).image)
      ((fwBank FlashImage.empty b).keys.filter (fun x => Config.vendorKey x)) = 1) := by
  refine ⟨rfl, rfl, rfl, ?_⟩
  intro b
  cases b <;> rfl

/-- A device with its power pins changed. -/
def tPow (f : Power → Power) : Dev := { tFar with power := f tFar.power }

theorem test_met_main_rise : (tPow (fun p => { p with mainEn := true, mainUp := false })).power.mainEn = true ∧
    (tPow (fun p => { p with mainEn := true, mainUp := false })).power.mainUp = false ∧ tFar.slolisUp = true ∧ Dev.reset.slolisUp = false ∧
    tFar.get F.SEC_STATUS_STAGE < 2 ∧ 2 ≤ (tFar.set F.SEC_STATUS_STAGE 2).get F.SEC_STATUS_STAGE ∧ tFar.power.mainEn = false ∧ tFar.buffered 0 0 < 4 := by
  decide +kernel

/-- A third retry within 600 s is made, and a fourth is not; one of 600 s ago no longer counts. -/
theorem test_met_retries : tFar.power.rising = false ∧ (tPow (fun p => { p with rising := true })).power.rising = true ∧ tFar.power.dead = false ∧
    tFar.power.offReq = false ∧ tFar.power.attempts = 0 ∧ (tPow (fun p => { p with attempts := 1 })).power.attempts ≠ 0 ∧
    ([0, 0].filter (fun t => decide (tFar.ptpNs < t + 600000000000))).length < 3 ∧
    3 ≤ ([0, 0, 0].filter (fun t => decide (tFar.ptpNs < t + 600000000000))).length ∧
    ([0, 0, 0].filter (fun t => decide (600000000000 < t + 600000000000))).length = 0 := by decide +kernel

theorem test_met_off : tFar.power.mainUp = true ∧ tFar.power.offNs = none ∧ (tPow (fun p => { p with offNs := some 0 })).power.offNs ≠ none ∧
    tFar.domOn 584 = false ∧ (tFar.setDom 584 true).domOn 584 = true ∧ (tFar.set F.MBOX_CFG_EN 1).bit F.MBOX_CFG_EN = true ∧
    tFar.bit F.MBOX_CFG_EN = false ∧ (tSched 3 id).running = true := by decide +kernel

theorem test_met_trip : (109 : Int) < 110 ∧ (110 : Int) ≤ 110 ∧ tFar.power.tripped = false ∧ (tPow (fun p => { p with tripped := true })).power.tripped = true := by
  decide +kernel

/-- The monitor acts for Slolis at T_CTL, and above TDP. -/
theorem test_met_monitor : (tFar.set F.DEV_PWR_STATUS_MONITOR 1).bit F.DEV_PWR_STATUS_MONITOR = true ∧ tFar.bit F.DEV_PWR_STATUS_MONITOR = false ∧
    (tFar.get F.DEV_PWR_CFG_T_CTL : Int) ≤ (tFar.get F.DEV_PWR_CFG_T_CTL : Int) ∧ tFar.get F.DEV_PWR_CFG_TDP_W < tFar.get F.DEV_PWR_CFG_TDP_W + 1 := by
  decide +kernel

/-- The loop starts at 16 for both requests; a reading above PEAK asks for 64. -/
theorem test_met_stretch_control : tFar.power.reqP ≤ 64 ∧ tFar.power.reqT ≤ 64 ∧
    (tFar.set F.DEV_PWR_STATUS_PKG_W 65535).get F.DEV_PWR_CFG_PEAK_W < (tFar.set F.DEV_PWR_STATUS_PKG_W 65535).get F.DEV_PWR_STATUS_PKG_W ∧
    (16 : Nat) < 64 := by decide +kernel

theorem test_met_protect : (tFar.set F.DEV_PWR_STATUS_TJ_MAX 105).mustProtect = true ∧ (tFar.set F.DEV_PWR_STATUS_TJ_MAX 104).mustProtect = false ∧
    tFar.bit F.DEV_PWR_STATUS_FREEZE = false ∧ tFar.sched.hold = none ∧ tFar.suspects = [] ∧ (tSched 2 id).schedState = 2 ∧ (tSched 5 id).schedState = 5 ∧
    (tSched 4 id).schedState ≠ 2 ∧ (tSched 4 id).schedState ≠ 3 ∧ (tSched 4 id).schedState ≠ 5 := by decide +kernel

/-- Thermal freeze ends at T_CTL − 10 and at 90 % of TDP, and stays one degree above. -/
def tFrozen (tj w : Nat) : Dev := ((tFar.set F.DEV_PWR_STATUS_FREEZE 1).set F.DEV_PWR_STATUS_TJ_MAX tj).set F.DEV_PWR_STATUS_PKG_AVG_W w

theorem test_met_freeze_exit : (tFrozen 20 0).bit F.DEV_PWR_STATUS_FREEZE = true ∧ (tFrozen 20 0).tjMax ≤ ((tFrozen 20 0).get F.DEV_PWR_CFG_T_CTL : Int) - 10 ∧
    (tFrozen 20 0).get F.DEV_PWR_STATUS_PKG_AVG_W * 100 ≤ (tFrozen 20 0).get F.DEV_PWR_CFG_TDP_W * 90 ∧
    ((tFrozen 127 0).get F.DEV_PWR_CFG_T_CTL : Int) - 10 < (tFrozen 127 0).tjMax ∧
    (tFrozen 20 65535).get F.DEV_PWR_CFG_TDP_W * 90 < (tFrozen 20 65535).get F.DEV_PWR_STATUS_PKG_AVG_W * 100 := by decide +kernel

/-! ### PCIe, Ethernet and the boundary-scan chain -/

/-- Root ports 0 and 3 on, and both Ethernet ports. -/
def tIo : Dev := ((((tFar.setDom 582 true).setDom 583 true).setDom 580 true).setDom 581 true)

theorem test_met_root_port : tIo.pcieOn 0 = true ∧ tIo.pcieOn 3 = true ∧ tIo.halted = false ∧ tFar.pcieOn 3 = false ∧
    tIo.inboundMapped (tIo.carve - 8) 8 = true ∧ tIo.inboundMapped 0x100200000000 8 = true ∧ tIo.inboundMapped (0x100220000000 - 8) 8 = true ∧
    tIo.inboundMapped 0x100220000000 8 = false ∧ tIo.inboundMapped (tIo.carve - 7) 8 = false ∧ tIo.inboundMapped 0x3FFFFFFF000 4 = false ∧
    (tIo.place false 0x100 8).storage = some 0x100 ∧ (255#32).toNat < 256 ∧ 256 ≤ (256#32).toNat := by decide +kernel

/-- Offsets where the clauses of the outbound map meet (R499), and byte 0 of the configuration space, which no error register covers. -/
theorem test_met_outbound : (4095 : Nat) + 1 ≤ 4096 ∧ (0x10000 : Nat) < 0x100000 ∧ (0x100000 : Nat) < 0x10000000 ∧ (0x3FFFFFFF000 - 8 : Nat) + 8 ≤ 0x3FFFFFFF000 ∧
    (0x10000000 : Nat) ≤ 0x3FFFFFFEFF9 ∧ (0x3FFFFFFF000 : Nat) < 0x3FFFFFFEFF9 + 8 ∧ (2 ^ 42 : Nat) < 2 ^ 42 - 7 + 8 ∧ aerStatus 0 = false := by
  refine ⟨by decide, by decide, by decide, by decide, by decide, by decide, by decide, ?_⟩
  simp [aerStatus]

theorem test_met_links : tIo.bifur 0 = false ∧ ({ tIo with config := List.replicate 0x13 0 ++ [1] }).bifur 0 = true ∧
    ((tIo.set F.PCIE_STATUS_STATE0 3 0).get F.PCIE_STATUS_STATE0 0 = 3) ∧ tIo.domOn 580 = true ∧ tIo.domOn 581 = true ∧ tFar.domOn 580 = false ∧
    tIo.bit F.ETH_STATUS_UP 1 = false ∧ (tIo.set F.ETH_STATUS_UP 1 1).bit F.ETH_STATUS_UP 1 = true := by decide +kernel

/-- A receive queue of one descriptor of 64 bytes at 0x7000, made available; DRIVER_OK is set. -/
def tRxQ : VirtQueue := ⟨1, true, 0x4000, 0x5000, 0x6000, 0, 0⟩
def tRx : Dev := { (tIo.set F.ETH_STATUS_UP 1 1).modEth 1 (fun e => { e.modQueue 0 (fun _ => tRxQ) with status := 4 }) with mem := [(0x4001, 0x70), (0x4008, 64), (0x400C, 2), (0x5002, 1)] }

theorem test_met_frame : (tRx.eth 1).live = true ∧ ((tRx.eth 1).queue 0) = tRxQ ∧ tRx.queueOk tRxQ = true ∧ tRx.bit F.ETH_STATUS_UP 1 = true ∧
    (match tRx.rxChains tRxQ ((tRx.eth 1).has 15) 1 0 (12 + 52) with | some (some cs) => cs.map Prod.fst | _ => []) = [0] ∧
    (tRx.rxChains tRxQ ((tRx.eth 1).has 15) 1 0 (12 + 53)).isNone = true ∧ (tIo.eth 1).live = false ∧ tRx.halted = false := by decide +kernel

theorem test_met_transport : (0x7F8 : Nat) % 8 = 0 ∧ (0x7F8 : Nat) < 0x800 ∧ (0x800 : Nat) % 8 = 0 ∧ (0x7FC : Nat) % 8 ≠ 0 ∧
    tIo.virtioRead 0 (0 / 2) = 0x74726976 ∧ (0xE0 : Nat) % 8 = 0 ∧ (0x100000000#64).toNat % 2 ^ 32 = 0 := by decide +kernel

/-- A grant of JTAG scope. -/
def tJtag : Dev := ((tIo.set F.SEC_DEBUG_ACTIVE 1).set F.SEC_DEBUG_HOLDER 2).set F.SEC_DEBUG_SCOPE 4

theorem test_met_jtag : tJtag.bit F.SEC_DEBUG_ACTIVE = true ∧ tJtag.get F.SEC_DEBUG_HOLDER = 2 ∧ bitOf (tJtag.get F.SEC_DEBUG_SCOPE) 2 = true ∧
    bitOf (tIo.get F.SEC_DEBUG_SCOPE) 2 = false := by decide +kernel

/-! ## Control space and the domains: the hypotheses can be met, and worked examples of the spec -/

/-- Registers of the classes named, each without banks: PART_MAP_GEN, the last instance of a hub, a channel, a root port, and the log. -/
theorem test_met_registers : ([(1, 7), (3, 15), (5, 31), (11, 3)] : List (Nat × Nat)).all (fun c => !instAbsent c.1 c.2) = true ∧
    instAbsent 1 8 = true ∧ instAbsent 4 12 = true ∧ instAbsent 4 251 = false ∧ tIo.blockOn 1 7 0x000 = true ∧ tIo.blockOn 11 3 0x000 = true ∧
    tIo.blockOn 3 0 0x000 = true ∧ tIo.blockOn 3 15 0x000 = false ∧ tIo.blockOn 13 0 0xFF8 = true ∧
    ([1, 3, 5, 11, 13] : List Nat).all (fun c => ((regsOfClass c).any (fun r => r.bank == .none && (findReg c 0 r.off).isSome))) = true := by decide +kernel

/-- Addresses at the ends of control space, and one with each field at its last value. -/
theorem test_met_addresses : (Sys2Proof.Machine.ctlDecode (0x180010000000 - 8) 8).isSome = true ∧ (Sys2Proof.Machine.ctlDecode 0x180010000000 8).isSome = false ∧ (Sys2Proof.Machine.ctlDecode 0x180000000000 8).isSome = true ∧
    (Sys2Proof.Machine.ctlDecode (0x180000000000 - 8) 8).isSome = false ∧ (Sys2Proof.Machine.ctlDecode 0x180000000004 8).isSome = false ∧
    Sys2Proof.Machine.ctlDecode (0x180000000000 + 15 * 2 ^ 24 + 4095 * 2 ^ 12 + 0xFF8) 8 = some (15, 4095, 0xFF8) := by decide +kernel

/-- PART_LMAP9 of partition 5 (spec 01, worked example): its address, class 0x01, instance 5 and offset 0x248. -/
theorem test_example_lmap_address : Sys2Proof.Machine.ctlDecode 0x180001005248 8 = some (1, 5, 0x248) := by decide +kernel

/-- A FATAL record enters the log at once under the next SEQ, which FLOG_READ_SEL then names. -/
def tLogged : Dev := tIo.record 0x0222 0 0 0 4 110 1

theorem test_met_log_read : (tLogged.set F.FLOG_READ_SEL_SEQ tIo.nextSeq).get F.FLOG_READ_SEL_SEQ = tIo.nextSeq ∧ (tLogged.logEntry tIo.nextSeq).isSome = true := by
  decide +kernel

/-- A command register's write stands for a command that completes with nothing left in the queue. -/
theorem test_met_command_write : tIo.blockOn 7 0 0x008 = true ∧ tIo.blockOn 2 1 0x728 = true ∧ instAbsent 2 543 = false ∧ instAbsent 6 11 = false ∧
    (match exec (.schedUnload .os) ⟨tIo.answer .none, []⟩ with | .next s => s.pending.isEmpty | _ => false) = true ∧
    (match exec (.chanOpen .os 1) ⟨tIo.answer .none, []⟩ with | .next s => s.pending.isEmpty | _ => false) = true := by decide +kernel

/-! ### The distance table -/

/-- Distances of logical cell 359 by Table 01-8, at pc 381 and after the move to pc 357. -/
theorem test_example_distances : tRun.hostOf 359 = some 381 ∧ (tRun.distRow 359).length = 128 ∧ leNat (((tRun.distRow 359).drop 0x28).take 4) = 0x4C08 ∧
    distEntry 357 10 = 0x8812 ∧ (distHops 381 11, distHops 381 0, distHops 381 23) = (27, 18, 5) ∧
    (distHops 357 11, distHops 357 0, distHops 357 23) = (17, 27, 16) ∧ distEntry 381 11 / 256 = 190 ∧ distEntry 381 0 / 256 = 136 ∧
    distEntry 381 23 / 256 = 58 ∧ distEntry 357 11 / 256 = 130 ∧ distEntry 357 0 / 256 = 190 ∧ distEntry 357 23 / 256 = 124 := by decide +kernel

/-- A base in the carve-out, its last page that fits, and one beyond; a table whose update is under way or due. -/
theorem test_met_distances : tFar.inCarve (0xFFFEF * 4096) distSize = true ∧ tFar.inCarve (0xFFFFF0 * 4096) distSize = false ∧
    bitsOf (2 ^ 63 + 0x10000 : Nat) 47 12 * 4096 = 0x10000 ∧ bitOf (2 ^ 63 + 0x10000 : Nat) 63 = true ∧ bitOf (2 ^ 63 + 0x10000 : Nat) 1 = false ∧
    bitOf (2 ^ 63 + 0x10002 : Nat) 1 = true ∧ tFar.distRun = none ∧ tFar.deviceResetting = false ∧ tFar.get F.DEV_FAR_SIZE_SIZE ≠ 0 ∧
    (tFar.set F.DEV_DIST_BASE_EN 1).bit F.DEV_DIST_BASE_EN = true ∧ tFar.distDue = true ∧ ({ tFar with distSeen := tFar.mapGens }).distDue = false ∧
    ({ tFar with distRun := some 0x10000 }).distRun = some 0x10000 := by decide +kernel

/-! ### Far memory -/

/-- R274's worked example: 32 devices of 64 GiB, and the place of one address. -/
theorem test_example_far_memory : granules 64 = 0xCCCCCC ∧ 32 * granules 64 * 4096 = 0x19999980000 ∧ farChannel 0x10012345678 = 29 ∧
    farAddress 29 0x80091A = 0x10012345000 := by decide +kernel

/-! ### Islands and domains -/

theorem test_met_islands : tFar.islandOn (.cell 1) = true ∧ tFar.islandOn (.router 543) = true ∧ tFar.islandOn (.eth 1) = false ∧ tFar.islandOut (.cell 1) = false ∧
    ({ tFar with bandOut := [.cell 1] }).islandOut (.cell 1) = true ∧ (tMoving .copy false).islandOn (.cell 0) = true ∧
    (tMoving .copy false).hosted 0 = some 0 ∧ (tMoving .copy false).migrating 0 = false ∧ (tMoving .copy false).rowBusy (rowOf 0) = true ∧ tFar.suspects = [] := by
  decide +kernel

/-- Domains that may be switched on, ones that may not, and one that waits for the loader. -/
theorem test_met_switch_on : tFar.slolisUp = true ∧ tFar.domOn 543 = false ∧ tFar.domEnabled 543 = true ∧ tFar.slotState 543 ≠ 5 ∧
    (tFar.setSlotState 543 5).slotState 543 = 5 ∧ tFar.domEnabled 544 = true ∧ tFar.domEnabled 583 = false ∧ tFar.domOn 572 = false ∧ tFar.domEnabled 572 = true ∧
    tFar.domEnabled 579 = true ∧ (tFar.modMgmt (fun m => { m with loaderOk := true })).mgmt.loaderOk = true := by decide +kernel

/-- Domains that are busy, and ones that are not. -/
theorem test_met_switch_off : tFar.domBusy 0 = true ∧ (tFar.setDom 543 true).domBusy 16 = false ∧ tFar.domOn 544 = true ∧ tFar.domBusy 544 = false ∧
    ((tFar.setDom 579 true).setDom 584 true).domBusy 579 = false ∧ (tFar.set F.DEV_OSCH_RING_OPEN 1 0 256).domBusy 584 = true ∧ tFar.buffered 0 0 < 4 := by
  decide +kernel

/-- A fault of the regulator of a slot without a cell, of one that is fenced, and of a hub. -/
theorem test_met_regulator : (tFar.setDom 16 true).domOn 16 = true ∧ tFar.hosted 16 = none ∧ tFar.migrations = [] ∧ tFar.slotState 16 ≠ 5 ∧
    (tFar.setSlotState 16 5).slotState 16 = 5 ∧ (544 : Nat) ≤ 544 ∧ tFar.domOn 544 = true ∧ tFar.deviceResetting = false ∧
    ({ tFar with resets := [⟨4, 0, 0, 0⟩] }).deviceResetting = true := by decide +kernel

end Sys2Proof.Tests
end

section
namespace Sys2Proof.Machine

/-! ## What a cell cycle leaves alone (R21) -/

/-- What the statistics of a cycle keep of the device: storage, cells and the free-running counter. -/
structure SameStorage (d d' : Dev) : Prop where
  cycle : d'.cycle = d.cycle
  mem : d'.mem = d.mem
  cells : d'.cells = d.cells

theorem SameStorage.refl (d : Dev) : SameStorage d d := ⟨rfl, rfl, rfl⟩

theorem SameStorage.trans {a b c : Dev} (h : SameStorage a b) (h' : SameStorage b c) : SameStorage a c :=
  ⟨h'.cycle.trans h.cycle, h'.mem.trans h.mem, h'.cells.trans h.cells⟩

theorem SameStorage.count (d : Dev) (f : Fld) (inst item n : Nat) : SameStorage d (d.count f inst item n) :=
  ⟨d.count_cycle .., d.count_mem .., d.count_cells ..⟩

/-- Changes that each leave storage and cells alone leave them alone together. -/
theorem SameStorage.foldl {α : Type} {f : Dev → α → Dev} (hf : ∀ d a, SameStorage d (f d a)) (l : List α) (d : Dev) :
    SameStorage d (l.foldl f d) := by
  induction l generalizing d with
  | nil => exact .refl d
  | cons a l ih => exact (hf d a).trans (ih (f d a))

/-- The statistics of a cell that count cycles are registers alone. -/
theorem Dev.cellCycle_sameStorage (d : Dev) (pc : Nat) : SameStorage d (d.cellCycle pc) := by
  have hcount : ∀ (b : Bool) (d : Dev) (f : Fld), SameStorage d (if b then d.count f pc else d) := by
    intro b d f
    cases b
    · exact .refl d
    · exact .count d f pc 0 1
  refine ((hcount _ d _).trans (hcount _ _ _)).trans (SameStorage.foldl (fun d e => ?_) _ _)
  split
  · exact .count d _ pc _ 1
  · exact .refl d

/-- A cycle that passes is counted once and leaves storage and cells as they are. -/
theorem Dev.tick_sameStorage (d : Dev) : d.tick.cycle = d.cycle + 1 ∧ d.tick.mem = d.mem ∧ d.tick.cells = d.cells := by
  obtain ⟨hc, hm, hs⟩ := SameStorage.foldl Dev.cellCycle_sameStorage ((List.range 544).filter d.domOn) d
  refine ⟨?_, ?_, ?_⟩ <;> simp only [Dev.tick, hc, hm, hs]

/-- Settles O1: the front command runs by the definition of a step, and a cycle touches registers and its counter alone. -/
theorem stepRunsTheFrontCommandOrPassesACycle : Obligations.StepRunsTheFrontCommandOrPassesACycle := by
  unfold Obligations.StepRunsTheFrontCommandOrPassesACycle
  exact ⟨fun c rest d => by simp only [step], fun d => ⟨d.tick, by simp only [step], d.tick_sameStorage⟩⟩

/-! ## The state after reset (R11, R29, R50) -/

/-- A map that lists nothing reads as its unlisted value. -/
theorem SMap.read_nil {α : Type} (v : α) (k : Nat) : SMap.read v [] k = v := rfl

/-- After reset every register reads as its table says. -/
@[simp] theorem Dev.reset_reg (base inst item : Nat) : Dev.reset.reg base inst item = (regReset (regKey base inst item)).toNat := by
  have hregs : Dev.reset.regs = [] := rfl
  rw [Dev.reg, hregs, SMap.read_nil]

/-- DEV_PD_STATUS resets to zero, so every domain is off (R50). -/
theorem Dev.reset_domOn {dom : Nat} (h : dom < 640) : Dev.reset.domOn dom = false := by
  have hword : ∀ w < 10, Dev.reset.reg (F.DEV_PD_STATUS.base + 8 * w) = 0 := by decide +kernel
  rw [Dev.domOn, hword _ (by omega)]
  simp [bitOf]

/-- A slot number fits the ten bits of its field in PART_LMAPn. -/
theorem defaultSlot_lt {lc : Nat} (h : lc < 512) : defaultSlot lc < 2 ^ 10 := by
  simp only [defaultSlot]
  split <;> omega

/-- PART_LMAPn resets to the default map (Table 01-3). -/
theorem regReset_lmap {p n : Nat} (hp : p < 8) (hn : n < 16) : regReset (regKey (F.PART_LMAP.base + 8 * n) p 0) = wOf (lmapReset p n) := by
  have hcls : regKey (F.PART_LMAP.base + 8 * n) p 0 / 2 ^ 24 % 2 ^ 8 = 1 := by simp only [regKey]; omega
  have hinst : regKey (F.PART_LMAP.base + 8 * n) p 0 / 2 ^ 12 % 2 ^ 12 = p := by simp only [regKey]; omega
  have hoff : regKey (F.PART_LMAP.base + 8 * n) p 0 % 2 ^ 12 = 0x200 + 8 * n := by simp only [regKey]; omega
  unfold regReset
  simp only [hcls, hinst, hoff]
  rw [if_pos (by simp; omega)]
  congr 2
  omega


/-- Entry k of PART_LMAPn after reset: state HOSTED and the default slot (Table 01-3). -/
theorem lmapReset_fields {p n k : Nat} (hp : p < 8) (hn : n < 16) (hk : k < 4) :
    bitsOf (wOf (lmapReset p n)).toNat (16 * k + 15) (16 * k + 14) = 0 ∧
      bitsOf (wOf (lmapReset p n)).toNat (16 * k + 9) (16 * k) = defaultSlot (64 * p + 4 * n + k) := by
  have h0 := defaultSlot_lt (lc := 64 * p + 4 * n) (by omega)
  have h1 := defaultSlot_lt (lc := 64 * p + 4 * n + 1) (by omega)
  have h2 := defaultSlot_lt (lc := 64 * p + 4 * n + 2) (by omega)
  have h3 := defaultSlot_lt (lc := 64 * p + 4 * n + 3) (by omega)
  simp only [wOf, BitVec.toNat_ofNat, lmapReset, bitsOf, Nat.shiftRight_eq_div_pow]
  match k, hk with
  | 0, _ => constructor <;> simp <;> omega
  | 1, _ => constructor <;> simp <;> omega
  | 2, _ => constructor <;> simp <;> omega
  | 3, _ => constructor <;> simp <;> omega

/-- Each logical cell is hosted by its default slot (R29). -/
theorem Dev.reset_lmap {lc : Nat} (h : lc < 512) : Dev.reset.lmap lc = (0, defaultSlot lc) := by
  have hword := regReset_lmap (p := lc / 64) (n := lc % 64 / 4) (by omega) (by omega)
  obtain ⟨hst, hpc⟩ := lmapReset_fields (p := lc / 64) (n := lc % 64 / 4) (k := lc % 4) (by omega) (by omega) (by omega)
  rw [Dev.lmap, Dev.reset_reg, hword]
  simp only [hst, hpc]
  congr 2
  omega

/-- TL_LINK_STATUS.STATE of every port resets to DISABLED (Table 09-10). -/
theorem Dev.reset_portState (n : Port) : Dev.reset.portState n = 0 := by
  revert n; decide +kernel

/-- Settles O2: the reset state's maps are empty, so every part reads as its table or its reset value says. -/
theorem resetLeavesTheSpecValues : Obligations.ResetLeavesTheSpecValues := by
  unfold Obligations.ResetLeavesTheSpecValues
  refine ⟨rfl, fun c hc => ?_, rfl, fun dom hd => Dev.reset_domOn hd, fun lc => ?_, fun _ _ => rfl, fun base inst item => Dev.reset_reg base inst item, ?_, ?_, fun n => ?_, ?_, fun _ => rfl⟩
  · cases hc
  · have h := Dev.reset_lmap lc.isLt
    simp [State.reset, Dev.hostOf, Dev.migrating, h]
  · decide +kernel
  · decide +kernel
  · exact Dev.reset_portState n
  · decide +kernel

end Sys2Proof.Machine
end

section
namespace Sys2Proof.Machine

/-! ## What an access of control space decodes to (R8, R9) -/

/-- R9: an access of another size, unaligned, or outside control space is not decoded. -/
theorem ctlDecode_none {addr size : Nat} (h : size ≠ 8 ∨ addr % 8 ≠ 0 ∨ addr < 0x180000000000 ∨ 0x180010000000 ≤ addr) :
    ctlDecode addr size = none := by
  rw [ctlDecode, if_neg]
  simp only [Bool.and_eq_true, decide_eq_true_eq]
  omega

/-- Table 00-4: the address of a register decodes to its class, block number and offset. -/
theorem ctlDecode_ctlAddr {cls inst off : Nat} (hcls : cls < 16) (hinst : inst < 4096) (hoff : off < 4096) (h8 : off % 8 = 0) :
    ctlDecode (ctlAddr cls inst off) 8 = some (cls, inst, off) := by
  have ha : ctlAddr cls inst off - 0x180000000000 = cls * 2 ^ 24 + inst * 2 ^ 12 + off := by simp only [ctlAddr]; omega
  have hparts : (cls * 2 ^ 24 + inst * 2 ^ 12 + off) / 2 ^ 24 = cls ∧
      (cls * 2 ^ 24 + inst * 2 ^ 12 + off) / 2 ^ 12 % 2 ^ 12 = inst ∧ (cls * 2 ^ 24 + inst * 2 ^ 12 + off) % 2 ^ 12 = off := by omega
  obtain ⟨h1, h2, h3⟩ := hparts
  rw [ctlDecode, if_pos]
  · simp only [ha, h1, h2, h3]
  · simp only [Bool.and_eq_true]
    refine ⟨⟨⟨rfl, decide_eq_true ?_⟩, decide_eq_true ?_⟩, decide_eq_true ?_⟩ <;> unfold ctlAddr <;> omega

/-- The index finds a register among those of its class. -/
theorem findReg_mem {cls inst off : Nat} {r : RegSpec} (h : findReg cls inst off = some r) : r ∈ regsOfClass cls :=
  List.mem_of_find?_eq_some h

/-- The classes whose registers are all plain: no write of theirs is a command, ignored or clamped. -/
theorem regsOfClass_cls : ∀ cls ∈ [1, 3, 5, 11, 13], ∀ r ∈ regsOfClass cls, r.cls = cls := by decide +kernel

/-! ## Plain writes (R12) -/

/-- A value that a mask cuts has 64 bits. -/
theorem maskWrite_lt (rw w1c old v : Nat) : maskWrite rw w1c old v < 2 ^ 64 :=
  Nat.lt_of_le_of_lt Nat.and_le_right (by omega)

@[simp] theorem Dev.reg_answer (d : Dev) (a : Reply) (base inst item : Nat) : (d.answer a).reg base inst item = d.reg base inst item := rfl

@[simp] theorem Dev.blockOn_answer (d : Dev) (a : Reply) (cls inst off : Nat) : (d.answer a).blockOn cls inst off = d.blockOn cls inst off := rfl

/-- In the plain classes a write takes all RW bits, whatever the state. -/
theorem Dev.rwNow_plain {cls : Nat} (hcls : cls ∈ [1, 3, 5, 11, 13]) (d : Dev) (m : Master) (sched : Bool) {r : RegSpec} (hr : r.cls = cls)
    (inst item v : Nat) : d.rwNow m sched r inst item v = r.rw := by
  simp only [List.mem_cons, List.not_mem_nil, or_false] at hcls
  subst hr
  rcases hcls with h | h | h | h | h <;> simp [Dev.rwNow, h]

/-- In the plain classes no value is clamped. -/
theorem Dev.clampReg_plain {cls : Nat} (hcls : cls ∈ [1, 3, 5, 11, 13]) (d : Dev) (off v : Nat) : d.clampReg cls off v = v := by
  simp only [List.mem_cons, List.not_mem_nil, or_false] at hcls
  rcases hcls with rfl | rfl | rfl | rfl | rfl <;> simp [Dev.clampReg]

/-- A plain write of a register without banks in a plain class. -/
theorem Dev.writePlain_plain {cls inst off : Nat} {r : RegSpec} (hcls : cls ∈ [1, 3, 5, 11, 13]) (hr : findReg cls inst off = some r)
    (hb : r.bank = .none) {d : Dev} (ha : instAbsent cls inst = false) (hon : d.blockOn cls inst off = true) (m : Master) (sched : Bool) (v : Nat) :
    d.writePlain m sched cls inst off v = d.setReg (cls * 2 ^ 24 + off) inst 0
      (maskWrite (r.rw &&& (2 ^ 64 - 1 - r.dbg)) r.w1c (d.reg (cls * 2 ^ 24 + off) inst) v) := by
  have h4 : cls ≠ 4 := by rintro rfl; simp at hcls
  have hrw := Dev.rwNow_plain hcls d m sched (regsOfClass_cls cls hcls r (findReg_mem hr))
  simp [Dev.writePlain, hr, ha, hon, Dev.bankItem, hb, h4, hrw, Dev.clampReg_plain hcls]

/-- A write in a plain class is a plain write. -/
theorem Dev.writeBlock_plain {cls : Nat} (hcls : cls ∈ [1, 3, 5, 11, 13]) (d : Dev) (m : Master) (inst off v : Nat) :
    d.writeBlock m cls inst off v = d.writePlain m false cls inst off v := by
  simp only [List.mem_cons, List.not_mem_nil, or_false] at hcls
  rcases hcls with rfl | rfl | rfl | rfl | rfl <;> rfl

end Sys2Proof.Machine
end

section
namespace Sys2Proof.Machine

/-! ## Command registers (R12) -/

theorem Dev.writeCell_command (d : Dev) (m : Master) (pc : Slot) {off v : Nat} {c : Instr}
    (h : (off = 0x060 ∧ v = 0x200 ∧ c = .ctxKill m pc 0) ∨ (off = 0x728 ∧ v = 1 ∧ c = .chanOpen m pc) ∨ (off = 0x728 ∧ v = 3 ∧ c = .sepBind m pc)) :
    d.writeCell m pc off v = d.does (exec c) := by
  rcases h with ⟨rfl, rfl, rfl⟩ | ⟨rfl, rfl, rfl⟩ | ⟨rfl, rfl, rfl⟩ <;>
    simp only [Dev.writeCell, Fin.ofNat_val_eq_self] <;> rfl

theorem Dev.writeDev_command (d : Dev) (m : Master) {off v : Nat} {c : Instr}
    (h : (off = 0x420 ∧ v = 1 ∧ c = .winOpen m 0) ∨ (off = 0x810 ∧ v = 1 ∧ c = .oschOpen m)) :
    d.writeDev m off v = d.does (exec c) := by
  rcases h with ⟨rfl, rfl, rfl⟩ | ⟨rfl, rfl, rfl⟩ <;> rfl

/-- The target of a command of Badger: bits [25:16] of the value written. -/
theorem badgerTarget {t op : Nat} (ht : t < 1024) (hop : op < 8) : bitsOf (t * 2 ^ 16 + op) 25 16 = t ∧ bitsOf (t * 2 ^ 16 + op) 2 0 = op := by
  simp only [bitsOf, Nat.shiftRight_eq_div_pow]
  omega

/-- The write of a command register is that command. -/
theorem Dev.writeBlock_command {m : Master} {cls inst off v : Nat} {c : Instr} (h : CommandWrite m cls inst off v c) (d : Dev) :
    d.writeBlock m cls inst off v = d.does (exec c) := by
  rcases h with ⟨pc, rfl, rfl, h⟩ | ⟨rfl, rfl, h⟩ | ⟨n, rfl, rfl, rfl, rfl, rfl⟩ | ⟨rfl, rfl, rfl, rfl, rfl⟩ | ⟨rfl, rfl, rfl, h⟩ | ⟨rfl, rfl, rfl, h⟩ |
    ⟨rfl, rfl, rfl, h⟩
  · exact d.writeCell_command m pc h
  · exact d.writeDev_command m h
  · simp only [Dev.writeBlock, Fin.ofNat_val_eq_self]; rfl
  · rfl
  · rcases h with ⟨lc, hv, rfl⟩ | ⟨pc, hv, rfl⟩
    · obtain ⟨ht, hop⟩ := badgerTarget (t := lc) (op := 1) (by omega) (by omega)
      rw [← hv] at ht hop
      simp only [Dev.writeBlock, ht, hop, Fin.ofNat_val_eq_self, lc.isLt]; rfl
    · obtain ⟨ht, hop⟩ := badgerTarget (t := pc) (op := 2) (by omega) (by omega)
      rw [← hv] at ht hop
      simp only [Dev.writeBlock, ht, hop, Fin.ofNat_val_eq_self, pc.isLt]; rfl
  · rcases h with ⟨p, hv, rfl⟩ | ⟨rfl, rfl⟩
    · have hp : bitsOf v 10 8 = p ∧ bitsOf v 2 0 = 3 := by
        simp only [hv, bitsOf, Nat.shiftRight_eq_div_pow]; omega
      simp only [Dev.writeBlock, Dev.writeWdog, hp, Fin.ofNat_val_eq_self]; rfl
    · rfl
  · rcases h with ⟨rfl, rfl⟩ | ⟨rfl, rfl⟩ <;> rfl

/-- A command that completes with nothing queued is what it does to the device. -/
theorem Dev.does_eq {k : State → Host.Outcome State Fault Refusal} {d d1 : Dev} (h : k ⟨d, []⟩ = .next ⟨d1, []⟩) : d.does k = d1 := by
  simp only [Dev.does, h]

/-! ## Reads (R9, R15) -/

/-- A plain register without banks reads as it stands. -/
theorem Dev.view_plain {cls inst off : Nat} {r : RegSpec} (hcls : cls ∈ [1, 3, 5, 11]) (hr : findReg cls inst off = some r) (hb : r.bank = .none)
    (d : Dev) (m : Master) : d.view m cls inst off = d.reg (cls * 2 ^ 24 + off) inst := by
  simp only [List.mem_cons, List.not_mem_nil, or_false] at hcls
  rcases hcls with rfl | rfl | rfl | rfl <;> simp [Dev.view, hr, hb, Dev.bankItem]

/-- The plain classes have no wide value. -/
theorem wideOf_plain {cls : Nat} (hcls : cls ∈ [1, 3, 5, 11]) (inst off : Nat) : wideOf cls inst off = none := by
  simp only [List.mem_cons, List.not_mem_nil, or_false] at hcls
  rcases hcls with rfl | rfl | rfl | rfl <;> simp [wideOf]

/-- The eight registers of FLOG_READ show one wide value, from 0x020 on (Table 12-13). -/
theorem wideOf_flogRead {off : Nat} (inst : Nat) (h : 0x020 ≤ off) (h' : off < 0x060) : wideOf 13 inst off = some (0x020, (off - 0x020) / 8, 8) := by
  simp [wideOf, h, h']

/-- The index has FLOG_READ without a bank. -/
theorem findReg_flogRead (inst : Nat) : ∀ k < 8, findReg 13 inst (0x020 + 8 * k) = some ⟨0xd, 0x20, 8, 8, 0x0, 0x0, 0x0, 0x0, .none, false⟩ := by
  have h : ∀ k < 8, (regs0D_0.find? (fun r => r.covers (0x020 + 8 * k) && true)) = some ⟨0xd, 0x20, 8, 8, 0x0, 0x0, 0x0, 0x0, .none, false⟩ := by decide
  exact h

/-- FLOG_READ shows the words of the selected entry. -/
theorem Dev.view_flogRead {d : Dev} {e : LogEntry} (he : d.logEntry (d.get F.FLOG_READ_SEL_SEQ) = some e) (m : Master) (inst : Nat) :
    ∀ k < 8, d.view m 13 inst (0x020 + 8 * k) = leNat ((e.bytes.drop (8 * k)).take 8) := by
  intro k hk
  have hf := findReg_flogRead inst k hk
  have h18 : 0x020 + 8 * k ≠ 0x018 := by omega
  have hlt : 0x020 + 8 * k < 0x060 := by omega
  rw [Dev.view, hf]
  simp [he, h18, hlt]

/-- The words written to a map one by one under distinct keys all read back. -/
theorem SMap.read_foldl_write {α : Type} [DecidableEq α] (v : α) (key : Nat → Nat) (val : Nat → α) (n : Nat) (l : SMap α)
    (hkey : ∀ i < n, ∀ j < n, key i = key j → i = j) :
    ∀ k < n, SMap.read v (((List.range n).map (fun k => (key k, val k))).foldl (fun l e => SMap.write v l e.1 e.2) l) (key k) = val k := by
  induction n with
  | zero => intro k hk; omega
  | succ n ih =>
    intro k hk
    have ih := ih (fun i hi j hj => hkey i (by omega) j (by omega))
    simp only [List.range_succ, List.map_append, List.map_cons, List.map_nil, List.foldl_append, List.foldl_cons, List.foldl_nil]
    by_cases h : k = n
    · subst h
      exact SMap.read_write_same _ _ _ _
    · rw [SMap.read_write_other (fun he => h (hkey k hk n (by omega) he))]
      exact ih k (by omega)

/-- The keys of the eight registers of FLOG_READ differ. -/
theorem flogRead_keys (base inst : Nat) : ∀ i < 8, ∀ j < 8, regKey (base + 8 * i) inst 0 = regKey (base + 8 * j) inst 0 → i = j := by
  intro i _ j _ h
  simp only [regKey] at h
  omega

/-- A decoded access of a block that is on (R9, R497). -/
theorem Dev.ctlWrite_on {cls inst off : Nat} {d : Dev} {addr size : Nat} (hdec : ctlDecode addr size = some (cls, inst, off))
    (ha : instAbsent cls inst = false) (hon : d.blockOn cls inst off = true) (m : Master) (v : Nat) :
    d.ctlWrite m addr size v = (d.answer .none).writeBlock m cls inst off v := by
  simp [Dev.ctlWrite, hdec, ha, hon]

/-- An absent or unpowered block ignores a write and reads zero (R9, R497). -/
theorem Dev.ctl_off {cls inst off : Nat} {d : Dev} {addr size : Nat} (hdec : ctlDecode addr size = some (cls, inst, off))
    (h : instAbsent cls inst = true ∨ d.blockOn cls inst off = false) (m : Master) (v : Nat) :
    d.ctlWrite m addr size v = d.answer .none ∧ d.ctlRead m addr size = d.answer (.value 0) := by
  have hoff : (instAbsent cls inst || !d.blockOn cls inst off) = true := by
    rcases h with h | h <;> simp [h]
  simp [Dev.ctlWrite, Dev.ctlRead, hdec, hoff]

theorem Does.registerWrite {m : Master} {addr v : Word} {size : Nat} {d : Dev} {post : Dev → Prop} (h : post (d.ctlWrite m addr.toNat size v.toNat)) :
    Does (.registerWrite m addr size v) d post :=
  .of_run (f := fun d => d.ctlWrite m addr.toNat size v.toNat) (fun _ => rfl) h

theorem Does.wideValueRead {m : Master} {addr : Word} {size : Nat} {d : Dev} {post : Dev → Prop} (h : post (d.ctlRead m addr.toNat size)) :
    Does (.wideValueRead m addr size) d post :=
  .of_run (f := fun d => d.ctlRead m addr.toNat size) (fun _ => rfl) h

/-- A read of FLOG_READ's lowest register latches the selected entry (R15). -/
theorem Dev.ctlRead_flogRead {inst : Nat} {d : Dev} {addr size : Nat} {e : LogEntry} (hdec : ctlDecode addr size = some (13, inst, 0x020))
    (ha : instAbsent 13 inst = false) (hon : d.blockOn 13 inst 0x020 = true) (he : d.logEntry (d.get F.FLOG_READ_SEL_SEQ) = some e) (m : Master) :
    (d.ctlRead m addr size).reply = .value (leNat (e.bytes.take 8)) ∧ (d.ctlRead m addr size).regs = d.regs ∧ (d.ctlRead m addr size).mem = d.mem ∧
    ∀ k < 8, SMap.read 0 (d.ctlRead m addr size).latch (regKey (13 * 2 ^ 24 + 0x020 + 8 * k) inst 0) = wOf (leNat ((e.bytes.drop (8 * k)).take 8)) := by
  have hwide : wideOf 13 inst 0x020 = some (0x020, 0, 8) := wideOf_flogRead inst (by omega) (by omega)
  have hview := Dev.view_flogRead he m inst
  simp only [Dev.ctlRead, hdec, ha, hon, hwide, Bool.not_true, Bool.or_self, Bool.false_eq_true, if_false]
  refine ⟨?_, rfl, rfl, fun k hk => ?_⟩
  · exact congrArg Reply.value (hview 0 (by omega))
  · rw [Dev.answer_latch, ← hview k hk]
    exact SMap.read_foldl_write 0 _ (fun k => wOf (d.view m 13 inst (0x020 + 8 * k))) 8 d.latch (flogRead_keys _ _) k hk

/-- The higher registers of FLOG_READ answer with the latched words (R15). -/
theorem Dev.ctlRead_flogLatch {inst off : Nat} {d : Dev} {addr size : Nat} (hdec : ctlDecode addr size = some (13, inst, off))
    (ha : instAbsent 13 inst = false) (hon : d.blockOn 13 inst off = true) (h8 : off % 8 = 0) (hlo : 0x020 < off) (hhi : off < 0x060) (m : Master) :
    d.ctlRead m addr size = d.answer (.value (SMap.read 0 d.latch (regKey (13 * 2 ^ 24 + off) inst 0)).toNat) := by
  obtain ⟨k, hk⟩ : ∃ k, (off - 0x020) / 8 = k + 1 := ⟨(off - 0x020) / 8 - 1, by omega⟩
  have hwide : wideOf 13 inst off = some (0x020, k + 1, 8) := by rw [wideOf_flogRead inst (by omega) hhi, hk]
  have hoff : 13 * 2 ^ 24 + 0x020 + 8 * (k + 1) = 13 * 2 ^ 24 + off := by omega
  simp only [Dev.ctlRead, hdec, ha, hon, hwide, hoff, Bool.not_true, Bool.or_self, Bool.false_eq_true, if_false]

/-- A read of a plain register (R9). -/
theorem Dev.ctlRead_plain {cls inst off : Nat} {r : RegSpec} {d : Dev} {addr size : Nat} (hdec : ctlDecode addr size = some (cls, inst, off))
    (ha : instAbsent cls inst = false) (hon : d.blockOn cls inst off = true) (hcls : cls ∈ [1, 3, 5, 11]) (hr : findReg cls inst off = some r)
    (hb : r.bank = .none) (m : Master) : d.ctlRead m addr size = d.answer (.value (d.reg (cls * 2 ^ 24 + off) inst)) := by
  simp only [Dev.ctlRead, hdec, ha, hon, wideOf_plain hcls, Dev.view_plain hcls hr hb, Bool.not_true, Bool.or_self, Bool.false_eq_true, if_false]

/-- A write of a plain register changes it by its access codes, and no other (R12). -/
theorem Dev.ctlWrite_plain {cls inst off : Nat} {r : RegSpec} {d : Dev} {addr size : Nat} (hdec : ctlDecode addr size = some (cls, inst, off))
    (ha : instAbsent cls inst = false) (hon : d.blockOn cls inst off = true) (hcls : cls ∈ [1, 3, 5, 11, 13]) (hr : findReg cls inst off = some r)
    (hb : r.bank = .none) (m : Master) (v : Nat) :
    (d.ctlWrite m addr size v).reg (cls * 2 ^ 24 + off) inst =
      maskWrite (r.rw &&& (2 ^ 64 - 1 - r.dbg)) r.w1c (d.reg (cls * 2 ^ 24 + off) inst) v ∧
    RegsStand d (d.ctlWrite m addr size v) [regKey (cls * 2 ^ 24 + off) inst 0] ∧
    (d.ctlWrite m addr size v).mem = d.mem ∧ (d.ctlWrite m addr size v).cells = d.cells := by
  rw [Dev.ctlWrite_on hdec ha hon, Dev.writeBlock_plain hcls, Dev.writePlain_plain hcls hr hb ha (by simpa using hon)]
  refine ⟨?_, fun base' inst' item' hk => ?_, by simp, by simp⟩
  · rw [Dev.reg_setReg_same, Dev.reg_answer, Nat.mod_eq_of_lt (maskWrite_lt ..)]
  · rw [Dev.reg_setReg_other _ _ (by simpa using hk), Dev.reg_answer]

/-- Settles O59: an access is decoded once, and each class of register has one lemma for its writes and reads. -/
theorem registersAreWrittenAndReadByTheirCodes : Obligations.RegistersAreWrittenAndReadByTheirCodes := by
  unfold Obligations.RegistersAreWrittenAndReadByTheirCodes
  intro m addr v size d
  refine ⟨fun h => ?_, ?_⟩
  · have hdec := ctlDecode_none h
    exact ⟨.registerWrite (by simp only [Dev.ctlWrite, hdec]), .wideValueRead (by simp only [Dev.ctlRead, hdec])⟩
  · rintro cls inst off rfl h8 hcls hinst hoff haddr
    have hdec : ctlDecode addr.toNat 8 = some (cls, inst, off) := haddr ▸ ctlDecode_ctlAddr hcls hinst hoff h8
    refine ⟨fun h => ?_, fun ha hon => ⟨fun r hc hr hb => ?_, fun c d1 hcmd hexec => ?_, fun r hc hr hb => ?_, ?_, ?_⟩⟩
    · exact ⟨.registerWrite (Dev.ctl_off hdec h m v.toNat).1, .wideValueRead (Dev.ctl_off hdec h m v.toNat).2⟩
    · exact .registerWrite (Dev.ctlWrite_plain hdec ha hon hc hr hb m v.toNat)
    · refine .registerWrite ?_
      rw [Dev.ctlWrite_on hdec ha hon, Dev.writeBlock_command hcmd, Dev.does_eq hexec]
    · exact .wideValueRead (Dev.ctlRead_plain hdec ha hon hc hr hb m)
    · rintro e rfl rfl he
      exact .wideValueRead (Dev.ctlRead_flogRead hdec ha hon he m)
    · rintro rfl hlo hhi
      exact .wideValueRead (Dev.ctlRead_flogLatch hdec ha hon h8 hlo hhi m)

end Sys2Proof.Machine
end

section
namespace Sys2Proof.Machine

/-! ## Frames: which registers and which state a part of a beat leaves alone -/

/-- Every register whose key `S` selects reads as before. -/
structure Keeps (S : Nat → Prop) (d d' : Dev) : Prop where
  reg : ∀ {base inst item : Nat}, S (regKey base inst item) → d'.reg base inst item = d.reg base inst item

theorem Keeps.refl {S : Nat → Prop} (d : Dev) : Keeps S d d := ⟨fun _ => rfl⟩

theorem Keeps.trans {S : Nat → Prop} {a b c : Dev} (h : Keeps S a b) (h' : Keeps S b c) : Keeps S a c :=
  ⟨fun hs => (h'.reg hs).trans (h.reg hs)⟩

theorem Keeps.mono {S T : Nat → Prop} {d d' : Dev} (h : Keeps T d d') (hs : ∀ k, S k → T k) : Keeps S d d' :=
  ⟨fun hk => h.reg (hs _ hk)⟩

/-- A change that writes no register keeps all. -/
theorem Keeps.of_regs {S : Nat → Prop} {d d' : Dev} (h : d'.regs = d.regs) : Keeps S d d' :=
  ⟨fun _ => Dev.reg_of_regs h _ _ _⟩

theorem Keeps.setReg {S : Nat → Prop} (d : Dev) (base inst item v : Nat) (h : ¬ S (regKey base inst item)) : Keeps S d (d.setReg base inst item v) :=
  ⟨fun hk => Dev.reg_setReg_other d v (fun he => h (he ▸ hk))⟩

theorem Keeps.set {S : Nat → Prop} (d : Dev) (f : Fld) (v inst item : Nat) (h : ¬ S (regKey f.base inst item)) : Keeps S d (d.set f v inst item) :=
  .setReg d _ _ _ _ h

theorem Keeps.count {S : Nat → Prop} (d : Dev) (f : Fld) (inst item n : Nat) (h : ¬ S (regKey f.base inst item)) :
    Keeps S d (d.count f inst item n) := .setReg d _ _ _ _ h

theorem Keeps.get {S : Nat → Prop} {d d' : Dev} (h : Keeps S d d') (f : Fld) {inst item : Nat} (hs : S (regKey f.base inst item)) :
    d'.get f inst item = d.get f inst item := by
  simp only [Dev.get, h.reg hs]

theorem Keeps.foldl {S : Nat → Prop} {α : Type} {f : Dev → α → Dev} (l : List α) (hf : ∀ d, ∀ a ∈ l, Keeps S d (f d a)) (d : Dev) :
    Keeps S d (l.foldl f d) := by
  induction l generalizing d with
  | nil => exact .refl d
  | cons a l ih => exact (hf d a (List.mem_cons_self ..)).trans (ih (fun d b hb => hf d b (List.mem_cons_of_mem _ hb)) (f d a))

/-- Only registers that `S` does not select, the C flits and the outputs change, and of the schedule unit's own state the request last sent and the marker that waits. -/
structure Frame (S : Nat → Prop) (d d' : Dev) : Prop where
  regs : Keeps S d d'
  mem : d'.mem = d.mem
  cells : d'.cells = d.cells
  suspects : d'.suspects = d.suspects
  sched : ∃ req mark, d'.sched = { d.sched with lastReq := req, marker := mark }

theorem Frame.refl {S : Nat → Prop} (d : Dev) : Frame S d d := ⟨.refl d, rfl, rfl, rfl, _, _, rfl⟩

theorem Frame.trans {S : Nat → Prop} {a b c : Dev} (h : Frame S a b) (h' : Frame S b c) : Frame S a c := by
  obtain ⟨_, _, hs⟩ := h.sched
  obtain ⟨req, mark, hs'⟩ := h'.sched
  exact ⟨h.regs.trans h'.regs, h'.mem.trans h.mem, h'.cells.trans h.cells, h'.suspects.trans h.suspects, req, mark, by rw [hs', hs]⟩

theorem Frame.mono {S T : Nat → Prop} {d d' : Dev} (h : Frame T d d') (hs : ∀ k, S k → T k) : Frame S d d' :=
  ⟨h.regs.mono hs, h.mem, h.cells, h.suspects, h.sched⟩

theorem Frame.setReg {S : Nat → Prop} (d : Dev) (base inst item v : Nat) (h : ¬ S (regKey base inst item)) : Frame S d (d.setReg base inst item v) :=
  ⟨.setReg d _ _ _ _ h, by simp, by simp, by simp, _, _, d.setReg_sched ..⟩

theorem Frame.foldl {S : Nat → Prop} {α : Type} {f : Dev → α → Dev} (hf : ∀ d a, Frame S d (f d a)) (l : List α) (d : Dev) :
    Frame S d (l.foldl f d) := by
  induction l generalizing d with
  | nil => exact .refl d
  | cons a l ih => exact (hf d a).trans (ih (f d a))

/-! ## Sending C flits (R311, R313) -/

/-- Every register but the C-flit counters of the ports. -/
def SendKey (k : Nat) : Prop := k % 2 ^ 12 ≠ 0x130 ∧ k % 2 ^ 12 ≠ 0x158

/-- The offset of a register is the low part of its key. -/
theorem regKey_mod (base inst item : Nat) : regKey base inst item % 2 ^ 12 = base % 2 ^ 12 := by
  simp only [regKey]
  omega

theorem Frame.sendC (d : Dev) (n : Nat) (f : CFlit) : Frame SendKey d (d.sendC n f) := by
  have htx : ¬ SendKey (regKey F.TL_TX_C.base n 0) := fun h => h.1 (regKey_mod _ n 0)
  have hdef : ¬ SendKey (regKey F.TL_C_DEFERRED.base n 0) := fun h => h.2 (regKey_mod _ n 0)
  simp only [Dev.sendC]
  split
  · refine .trans ?_ (.setReg _ _ _ _ _ htx)
    exact ⟨.of_regs rfl, rfl, rfl, rfl, _, _, rfl⟩
  · refine .trans ?_ (.setReg _ _ _ _ _ hdef)
    exact ⟨.of_regs rfl, rfl, rfl, rfl, _, _, rfl⟩

theorem Frame.sendCs (d : Dev) (ports : List Nat) (f : CFlit) : Frame SendKey d (d.sendCs ports f) :=
  .foldl (fun d n => .sendC d n f) ports d

theorem Frame.sendUp (d : Dev) (f : CFlit) : Frame SendKey d (d.sendUp f) := by
  unfold Dev.sendUp
  split
  · exact .sendC d _ f
  · exact .refl d

theorem Frame.ownFlit {S : Nat → Prop} (d : Dev) (typ beat : Nat) (body : List Byte) : Frame S d (d.ownFlit typ beat body).2 :=
  ⟨.of_regs rfl, rfl, rfl, rfl, _, _, rfl⟩

/-- A NOTICE of the device leaves toward the master. -/
theorem Frame.noticeUp (d : Dev) (body : List Byte) : Frame SendKey d ((d.notice body).2.sendUp (d.notice body).1) :=
  (Frame.ownFlit d _ _ _).trans (.sendUp _ _)

theorem Frame.sendRequest (d : Dev) : Frame SendKey d d.sendRequest := by
  have hreq : Frame SendKey d (d.modSched (fun s => { s with lastReq := d.stretchRequest })) := ⟨.of_regs rfl, rfl, rfl, rfl, _, _, rfl⟩
  unfold Dev.sendRequest
  refine hreq.trans ?_
  dsimp only
  split
  · exact .refl _
  · exact .noticeUp _ _

theorem Frame.sendMarkers (d : Dev) : Frame SendKey d d.sendMarkers := by
  unfold Dev.sendMarkers
  split
  · refine .trans ?_ (.sendCs _ _ _)
    exact ⟨.of_regs rfl, rfl, rfl, rfl, _, _, rfl⟩
  · split
    · exact .refl d
    · refine .trans ?_ (.sendCs _ _ _)
      exact ⟨.of_regs rfl, rfl, rfl, rfl, _, _, rfl⟩

theorem Frame.releaseC (d : Dev) : Frame SendKey d d.releaseC := by
  unfold Dev.releaseC
  refine .trans ?_ (.foldl (fun d e => .foldl (fun d f => .sendC d e.1 f) e.2 d) d.cWait _)
  exact ⟨.of_regs rfl, rfl, rfl, rfl, _, _, rfl⟩

end Sys2Proof.Machine
end

section
namespace Sys2Proof.Machine

/-! ## Up to the schedule unit: the counter, S, markers and waiting C flits -/

/-- Every register but the C-flit counters, ENG_BUSY, SCHED_STRETCH, SCHED_STRETCH_BEAT and SCHED_STRETCH_BEATS. -/
def FrontKey (k : Nat) : Prop := k % 2 ^ 12 ∉ [0x130, 0x158, 0x120, 0x060, 0x068, 0x138]

theorem FrontKey.send {k : Nat} (h : FrontKey k) : SendKey k := by
  simp only [FrontKey, List.mem_cons, not_or] at h
  exact ⟨h.1, h.2.1⟩

/-- A register of one of the excepted offsets. -/
theorem not_frontKey {base : Nat} (inst item : Nat) (h : base % 2 ^ 12 ∈ [0x130, 0x158, 0x120, 0x060, 0x068, 0x138]) :
    ¬ FrontKey (regKey base inst item) := by
  rw [FrontKey, regKey_mod]
  exact fun hn => hn h

theorem frontKey_regKey {base : Nat} (inst item : Nat) (h : base % 2 ^ 12 ∉ [0x130, 0x158, 0x120, 0x060, 0x068, 0x138]) :
    FrontKey (regKey base inst item) := by
  rwa [FrontKey, regKey_mod]

theorem Frame.announceStretch (d : Dev) : Frame FrontKey d d.announceStretch := by
  simp only [Dev.announceStretch]
  split
  · exact .refl d
  · exact (Frame.setReg d _ _ _ _ (not_frontKey _ _ (by decide))).trans (.setReg _ _ _ _ _ (not_frontKey _ _ (by decide)))

/-- The announced S, once it is due. -/
def Dev.takeStretch (d : Dev) : Dev :=
  if (d.reg F.SCHED_STRETCH_BEAT.base ≤ d.beat && d.beat % 4 = 0) && d.get F.SCHED_STRETCH_NEXT ≠ d.get F.SCHED_STRETCH_CUR then
    d.set F.SCHED_STRETCH_CUR (d.get F.SCHED_STRETCH_NEXT) else d

/-- A stretched beat is counted. -/
def Dev.countStretch (d : Dev) : Dev := if 16 < d.get F.SCHED_STRETCH_CUR then d.count F.SCHED_STRETCH_BEATS else d

/-- What leaves with the beat: the master's announcement, or the request repeated. -/
def Dev.stretchNews (d : Dev) : Dev :=
  if d.isMaster then d.announceStretch else if d.beat % 1024 = 0 && 16 < d.stretchRequest then d.sendRequest else d

theorem Dev.stretchBeat_eq (d : Dev) : d.stretchBeat = d.takeStretch.countStretch.stretchNews := rfl

theorem Frame.takeStretch (d : Dev) : Frame FrontKey d d.takeStretch := by
  unfold Dev.takeStretch
  split
  · exact .setReg d _ _ _ _ (not_frontKey _ _ (by decide))
  · exact .refl d

theorem Frame.countStretch (d : Dev) : Frame FrontKey d d.countStretch := by
  unfold Dev.countStretch
  split
  · exact .setReg d _ _ _ _ (not_frontKey _ _ (by decide))
  · exact .refl d

theorem Frame.stretchNews (d : Dev) : Frame FrontKey d d.stretchNews := by
  unfold Dev.stretchNews
  split
  · exact .announceStretch d
  · split
    · exact (Frame.sendRequest d).mono fun _ => FrontKey.send
    · exact .refl d

/-- The part of a beat boundary before the schedule unit acts. -/
def Dev.beatFront (d : Dev) : Dev :=
  let d := d.setReg F.DEV_BEAT_COUNT.base 0 0 ((d.beat + 1) % 2 ^ 64)
  let d := d.engs.foldl (fun (d : Dev) e => if e.2.items.isEmpty then d else d.count F.ENG_BUSY e.1) d
  ({ d with cSent := [] }).stretchBeat.sendMarkers.releaseC

theorem Dev.beatBoundary_eq (d : Dev) : d.beatBoundary = d.beatFront.schedBeat.missBeat d.beatMissed := rfl

/-- The device with the beat counter advanced, the busy engines counted and no C flit sent yet. -/
def Dev.beatOpens (d : Dev) : Dev :=
  let d := d.setReg F.DEV_BEAT_COUNT.base 0 0 ((d.beat + 1) % 2 ^ 64)
  { d.engs.foldl (fun (d : Dev) e => if e.2.items.isEmpty then d else d.count F.ENG_BUSY e.1) d with cSent := [] }

theorem Dev.beatFront_eq (d : Dev) : d.beatFront = d.beatOpens.stretchBeat.sendMarkers.releaseC := rfl

/-- Once the beat counter is set, opening the beat only counts busy engines. -/
theorem Frame.beatOpens {S : Nat → Prop} (d : Dev) (hbusy : ∀ e, ¬ S (regKey F.ENG_BUSY.base e 0)) :
    Frame S (d.setReg F.DEV_BEAT_COUNT.base 0 0 ((d.beat + 1) % 2 ^ 64)) d.beatOpens := by
  have hfold : ∀ (d : Dev) (e : Nat × EngState), Frame S d (if e.2.items.isEmpty then d else d.count F.ENG_BUSY e.1) := by
    intro d e
    split
    · exact .refl d
    · exact .setReg d _ _ _ _ (hbusy _)
  refine .trans (.foldl hfold d.engs _) ?_
  exact ⟨.of_regs rfl, rfl, rfl, rfl, _, _, rfl⟩

theorem Frame.beatFront (d : Dev) : Frame FrontKey (d.setReg F.DEV_BEAT_COUNT.base 0 0 ((d.beat + 1) % 2 ^ 64)) d.beatFront := by
  rw [Dev.beatFront_eq, Dev.stretchBeat_eq]
  have hopen := Frame.beatOpens d (fun e => not_frontKey e 0 (by decide))
  have hstretch := (hopen.trans (.takeStretch _)).trans ((Frame.countStretch _).trans (.stretchNews _))
  exact (hstretch.trans ((Frame.sendMarkers _).mono fun _ => FrontKey.send)).trans ((Frame.releaseC _).mono fun _ => FrontKey.send)

/-- R22: the beat counter advances by one. -/
theorem Dev.beatFront_beat (d : Dev) : d.beatFront.beat = (d.beat + 1) % 2 ^ 64 := by
  have h := (Frame.beatFront d).regs.reg (frontKey_regKey (base := F.DEV_BEAT_COUNT.base) 0 0 (by decide))
  rw [Dev.beat, h, Dev.reg_setReg_same, Nat.mod_mod]

/-- Every register that the front of a beat boundary does not touch. -/
theorem Dev.beatFront_reg (d : Dev) {base inst item : Nat} (h : base % 2 ^ 12 ∉ [0x130, 0x158, 0x120, 0x060, 0x068, 0x138]) (hb : base % 2 ^ 12 ≠ 0x310) :
    d.beatFront.reg base inst item = d.reg base inst item := by
  rw [(Frame.beatFront d).regs.reg (frontKey_regKey _ _ h)]
  refine Dev.reg_setReg_other d _ fun he => hb ?_
  rw [← regKey_mod base inst item, he]
  rfl

theorem Dev.beatFront_get (d : Dev) (f : Fld) {inst item : Nat} (h : f.base % 2 ^ 12 ∉ [0x130, 0x158, 0x120, 0x060, 0x068, 0x138]) (hb : f.base % 2 ^ 12 ≠ 0x310) :
    d.beatFront.get f inst item = d.get f inst item := by
  simp only [Dev.get, d.beatFront_reg h hb]

@[simp] theorem Dev.beatFront_mem (d : Dev) : d.beatFront.mem = d.mem := (Frame.beatFront d).mem.trans (d.setReg_mem ..)

@[simp] theorem Dev.beatFront_cells (d : Dev) : d.beatFront.cells = d.cells := (Frame.beatFront d).cells.trans (d.setReg_cells ..)

@[simp] theorem Dev.beatFront_suspects (d : Dev) : d.beatFront.suspects = d.suspects := (Frame.beatFront d).suspects.trans (d.setReg_suspects ..)

/-- Of the schedule unit's own state the front changes the request last sent and the marker alone. -/
theorem Dev.beatFront_sched (d : Dev) : ∃ req mark, d.beatFront.sched = { d.sched with lastReq := req, marker := mark } := by
  obtain ⟨req, mark, h⟩ := (Frame.beatFront d).sched
  exact ⟨req, mark, h.trans (by rw [Dev.setReg_sched])⟩

/-! ### S at a beat (R322, R324) -/

/-- Sending C flits and counting engines leave S and its announcement alone. -/
theorem sendKey_stretch : SendKey (regKey F.SCHED_STRETCH.base 0 0) ∧ SendKey (regKey F.SCHED_STRETCH_BEAT.base 0 0) := by
  unfold SendKey; decide

/-- The announced S takes effect at its beat. -/
theorem Dev.takeStretch_cur (d : Dev) : d.takeStretch.get F.SCHED_STRETCH_CUR =
    if d.reg F.SCHED_STRETCH_BEAT.base ≤ d.beat ∧ d.beat % 4 = 0 then d.get F.SCHED_STRETCH_NEXT else d.get F.SCHED_STRETCH_CUR := by
  have hlt : d.get F.SCHED_STRETCH_NEXT < 2 ^ 8 := Nat.mod_lt _ (by decide)
  have hset : (d.set F.SCHED_STRETCH_CUR (d.get F.SCHED_STRETCH_NEXT)).get F.SCHED_STRETCH_CUR = d.get F.SCHED_STRETCH_NEXT := by
    rw [Dev.get_set_same _ _ _ _ _ (by decide) (by decide)]
    exact Nat.mod_eq_of_lt hlt
  by_cases hdue : d.reg F.SCHED_STRETCH_BEAT.base ≤ d.beat ∧ d.beat % 4 = 0
  · by_cases hne : d.get F.SCHED_STRETCH_NEXT = d.get F.SCHED_STRETCH_CUR
    · simp [Dev.takeStretch, hne]
    · simp [Dev.takeStretch, hne, hdue, hset]
  · have : (decide (d.reg F.SCHED_STRETCH_BEAT.base ≤ d.beat) && decide (d.beat % 4 = 0)) = false := by simpa using hdue
    simp [Dev.takeStretch, hdue, this]

/-- What leaves with a beat does not change the S in force. -/
theorem Dev.stretchNews_cur (d : Dev) : d.stretchNews.get F.SCHED_STRETCH_CUR = d.get F.SCHED_STRETCH_CUR := by
  unfold Dev.stretchNews
  split
  · simp only [Dev.announceStretch]
    split
    · rfl
    · simp only [Dev.get]
      rw [Dev.reg_setReg_other _ _ (by decide)]
      exact Dev.get_set_disjoint d F.SCHED_STRETCH_NEXT F.SCHED_STRETCH_CUR _ 0 0 rfl (by decide) (by decide) (by decide)
  · split
    · exact (Frame.sendRequest d).regs.get _ sendKey_stretch.1
    · rfl

theorem Dev.countStretch_cur (d : Dev) : d.countStretch.get F.SCHED_STRETCH_CUR = d.get F.SCHED_STRETCH_CUR := by
  unfold Dev.countStretch
  split
  · simp only [Dev.get, Dev.count]
    rw [Dev.reg_setReg_other _ _ (by decide)]
  · rfl

/-- R322: at a beat boundary the announced S takes effect if its beat has come. -/
theorem Dev.beatFront_cur (d : Dev) : d.beatFront.get F.SCHED_STRETCH_CUR =
    if d.reg F.SCHED_STRETCH_BEAT.base ≤ (d.beat + 1) % 2 ^ 64 ∧ (d.beat + 1) % 2 ^ 64 % 4 = 0 then d.get F.SCHED_STRETCH_NEXT
    else d.get F.SCHED_STRETCH_CUR := by
  have hopen := (Frame.beatOpens (S := fun k => k % 2 ^ 12 ≠ 0x120) d (fun e h => h (regKey_mod _ e 0))).regs
  have hbeat : d.beatOpens.beat = (d.beat + 1) % 2 ^ 64 := by
    rw [Dev.beat, hopen.reg (by decide), Dev.reg_setReg_same, Nat.mod_mod]
  have hstretch : d.beatOpens.reg F.SCHED_STRETCH.base = d.reg F.SCHED_STRETCH.base := by
    rw [hopen.reg (by decide), Dev.reg_setReg_other _ _ (by decide)]
  have hat : d.beatOpens.reg F.SCHED_STRETCH_BEAT.base = d.reg F.SCHED_STRETCH_BEAT.base := by
    rw [hopen.reg (by decide), Dev.reg_setReg_other _ _ (by decide)]
  have hsend := ((Frame.sendMarkers d.beatOpens.stretchBeat).trans (.releaseC _)).regs.get F.SCHED_STRETCH_CUR sendKey_stretch.1
  rw [Dev.beatFront_eq, hsend, Dev.stretchBeat_eq, Dev.stretchNews_cur, Dev.countStretch_cur, Dev.takeStretch_cur, hbeat, hat]
  simp only [Dev.get, hstretch]

end Sys2Proof.Machine
end

section
namespace Sys2Proof.Machine

/-! ## The registers of a job, and what else a beat does -/

/-- Registers that say where the job stands: the beat, the unit's state, its position, and its hold. -/
def unitKeys : List Nat := [regKey F.DEV_BEAT_COUNT.base 0 0, regKey F.SCHED_STATUS.base 0 0, regKey F.SCHED_POS.base 0 0,
  regKey F.SCHED_HOLD_POS.base 0 0, regKey F.SCHED_HOLD_BEAT.base 0 0, regKey F.SCHED_HOLD.base 0 0, regKey F.SCHED_HOLDS.base 0 0]

/-- A register of the list. -/
def UnitKey (k : Nat) : Prop := k ∈ unitKeys

/-- They lie in classes 0x00 and 0x07. -/
theorem UnitKey.range : ∀ {k : Nat}, UnitKey k → k < 0x1000 ∨ (0x7000000 ≤ k ∧ k < 0x7001000) := by
  unfold UnitKey
  decide

theorem UnitKey.send : ∀ {k : Nat}, UnitKey k → SendKey k := by
  unfold UnitKey SendKey
  decide

/-- No register of a partition, a cell, a hub or an engine is one of them. -/
theorem not_unitKey_unit {base inst : Nat} (item : Nat) (hlo : 0x1000000 ≤ base) (hhi : base < 0x4001000) (hinst : inst < 1024) :
    ¬ UnitKey (regKey base inst item) := fun h => by
  have := h.range
  simp only [regKey] at this
  omega

/-- No register of a class above 0x07 is one of them. -/
theorem not_unitKey_above {base : Nat} (inst item : Nat) (hlo : 0x7001000 ≤ base) : ¬ UnitKey (regKey base inst item) := fun h => by
  have := h.range
  simp only [regKey] at this
  omega

/-- A logical cell's slot has ten bits. -/
theorem Dev.hostOf_lt {d : Dev} {lc pc : Nat} (h : d.hostOf lc = some pc) : pc < 1024 := by
  simp only [Dev.hostOf, ite_eq_iff, reduceCtorEq, and_false, false_or, Option.some.injEq] at h
  obtain ⟨-, rfl⟩ := h
  have hwidth : 16 * (lc % 4) + 9 + 1 - 16 * (lc % 4) = 10 := by omega
  exact Nat.lt_of_lt_of_eq (Nat.mod_lt _ (Nat.two_pow_pos _)) (by rw [hwidth]; rfl)

theorem Dev.hostedSlots_lt {d : Dev} {pc : Nat} (h : pc ∈ d.hostedSlots) : pc < 1024 := by
  obtain ⟨lc, -, hlc⟩ := List.mem_filterMap.1 h
  exact Dev.hostOf_lt hlc

theorem Keeps.ite {S : Nat → Prop} {d a b : Dev} {p : Prop} [Decidable p] (ha : Keeps S d a) (hb : Keeps S d b) : Keeps S d (if p then a else b) := by
  split
  · exact ha
  · exact hb

/-! ### Records and holds -/

/-- A record that is not FATAL waits or is dropped. -/
theorem Keeps.report (d : Dev) {r : Record} (h : r.sev ≠ 4) : Keeps UnitKey d (d.report r) := by
  unfold Dev.report
  rw [if_neg h]
  exact .ite (.of_regs rfl) (.count d _ _ _ _ (not_unitKey_above _ _ (by decide)))

theorem Keeps.record (d : Dev) {event key cls inst sev d0 d1 d2 : Nat} (h : sev ≠ 4) : Keeps UnitKey d (d.record event key cls inst sev d0 d1 d2) :=
  .report d h

theorem Keeps.recordCtx (d : Dev) {event key cls inst sev context d0 d1 d2 : Nat} (h : sev ≠ 4) :
    Keeps UnitKey d (d.recordCtx event key cls inst sev context d0 d1 d2) := .report d h

/-- Sending C flits leaves the registers of the job alone. -/
theorem Keeps.of_send {d d' : Dev} (h : Frame SendKey d d') : Keeps UnitKey d d' := h.regs.mono fun _ => UnitKey.send

theorem Keeps.floodHold (d : Dev) (cause port lc : Nat) : Keeps UnitKey d (d.floodHold cause port lc).2 := by
  refine .trans ?_ (.record (sev := 2) _ (by decide))
  refine .trans ?_ (.of_send (.sendCs _ _ _))
  exact .of_regs rfl

theorem Keeps.keepHold (d : Dev) (cause port lc : Nat) : Keeps UnitKey d (d.keepHold cause port lc) :=
  (Keeps.floodHold d cause port lc).trans (.of_regs rfl)

theorem Keeps.raiseHold (d : Dev) (cause port lc : Nat) : Keeps UnitKey d (d.raiseHold cause port lc) :=
  .ite (.keepHold d cause port lc) (.refl d)

/-- A beat without a marker changes MISSED, and may raise a hold. -/
theorem Keeps.missBeat (d : Dev) (missed : Bool) : Keeps UnitKey d (d.missBeat missed) := by
  have hset : ∀ m, Keeps UnitKey d (d.set F.DEV_BEAT_STATUS_MISSED m) := fun m => .set d _ _ _ _ (by unfold UnitKey; decide)
  simp only [Dev.missBeat]
  exact .ite (.refl d) (.ite ((hset _).trans (.raiseHold _ _ _ _)) (hset _))

/-- With no job running, a beat without a marker changes MISSED alone. -/
theorem Dev.missBeat_idle {d : Dev} (h : d.schedState ≠ 3) (missed : Bool) : d.missBeat missed =
    if missed then d.set F.DEV_BEAT_STATUS_MISSED (min 0xFFFF (d.get F.DEV_BEAT_STATUS_MISSED + 1)) else d := by
  have hstate : ∀ m, (d.set F.DEV_BEAT_STATUS_MISSED m).running = false := by
    intro m
    simp only [Dev.running, Dev.schedState, Dev.get_set_other d F.DEV_BEAT_STATUS_MISSED F.SCHED_STATUS_STATE m 0 0 0 0 (by decide)]
    exact decide_eq_false h
  cases missed
  · rfl
  · simp only [Dev.missBeat, Dev.raiseHold, hstate, Bool.not_true, Bool.false_eq_true, if_false, ite_self, if_true]

end Sys2Proof.Machine
end

section
namespace Sys2Proof.Machine

/-! ### Cells: counters, launches and faults -/

theorem Keeps.modCell {S : Nat → Prop} (d : Dev) (pc : Nat) (f : CellState → CellState) : Keeps S d (d.modCell pc f) := .of_regs rfl

theorem Keeps.modArr {S : Nat → Prop} (d : Dev) (pc : Nat) (f : ArrayState → ArrayState) : Keeps S d (d.modArr pc f) := .of_regs rfl

theorem Keeps.modCtx {S : Nat → Prop} (d : Dev) (pc c : Nat) (f : CtxState → CtxState) : Keeps S d (d.modCtx pc c f) := .of_regs rfl

theorem Keeps.reselect {S : Nat → Prop} (d : Dev) (pc : Nat) : Keeps S d (d.reselect pc) := .of_regs rfl

theorem Keeps.putCounter (d : Dev) {pc : Nat} (hpc : pc < 1024) (n v : Nat) : Keeps UnitKey d (d.putCounter pc n v) := by
  simp only [Dev.putCounter]
  refine .ite (.modCell ..) ?_
  refine .trans ?_ (.reselect ..)
  exact ((Keeps.modCell ..).trans (.modCell ..)).trans (.count _ _ _ _ _ (not_unitKey_unit _ (by decide) (by decide) hpc))

theorem Keeps.addCounter (d : Dev) {pc : Nat} (hpc : pc < 1024) (n amount : Nat) : Keeps UnitKey d (d.addCounter pc n amount) := by
  simp only [Dev.addCounter]
  refine .ite ?_ (.putCounter d hpc n _)
  exact ((Keeps.set d F.CELL_SYNC_STATUS_SAT 1 pc 0 (not_unitKey_unit _ (by decide) (by decide) hpc)).trans (.record _ (by decide))).trans
    (.putCounter _ hpc _ _)

/-- The engine of a ring is one of the 256. -/
theorem Dev.ringAt_lt {d : Dev} {a n e q : Nat} (h : d.ringAt a n = some (e, q)) : e < 256 := by
  simp only [Dev.ringAt, ite_eq_iff, reduceCtorEq, and_false, false_or] at h
  obtain ⟨-, h⟩ := h
  obtain ⟨e', he', hq⟩ := List.exists_of_findSome?_eq_some h
  obtain ⟨q', -, heq⟩ := Option.map_eq_some_iff.1 hq
  have hlt : e' < 256 := List.mem_range.1 (List.mem_filter.1 he').1
  exact (Prod.mk.inj heq).1 ▸ hlt

/-- A plain store writes storage, or is refused by a ring. -/
theorem Keeps.plainStore (d : Dev) (who : Option Agent) (a : Nat) (bs : List Byte) : Keeps UnitKey d (d.plainStore who a bs) := by
  unfold Dev.plainStore
  split
  · exact .of_regs rfl
  · rename_i e q hring
    have he : e < 1024 := Nat.lt_trans (Dev.ringAt_lt hring) (by decide)
    exact ((Keeps.count d F.ENG_WRITES_REFUSED e 0 1 (not_unitKey_unit _ (by decide) (by decide) he)).trans
      (.setReg _ _ _ _ _ (not_unitKey_unit _ (by decide) (by decide) he))).trans (.record _ (by decide))

theorem Keeps.endLaunch (d : Dev) {pc : Nat} (hpc : pc < 1024) (l : LaunchDesc) (status : Nat) : Keeps UnitKey d (d.endLaunch pc l status) := by
  simp only [Dev.endLaunch]
  refine .trans (.trans (.trans (.trans ?_ (.modArr ..)) (.addCounter _ hpc l.doneCtr 1)) (.modCell ..)) (.reselect ..)
  split
  · exact .plainStore d _ _ _
  · exact .refl d

theorem Keeps.abortLaunches (d : Dev) {pc : Nat} (hpc : pc < 1024) (c : Nat) (cause : DrainCause) (only : Option Nat) :
    Keeps UnitKey d (d.abortLaunches pc c cause only) := by
  simp only [Dev.abortLaunches]
  refine .trans ?_ (.modArr ..)
  split
  · exact .ite (.trans (.modArr ..) (.endLaunch _ hpc _ _)) (.refl d)
  · exact .refl d

theorem Keeps.latchFault (d : Dev) {pc : Nat} (hpc : pc < 1024) (cause name : Nat) : Keeps UnitKey d (d.latchFault pc cause name) := by
  have hcell : ∀ base, 0x2000000 ≤ base → base < 0x2001000 → ¬ UnitKey (regKey base pc 0) :=
    fun base hlo hhi => not_unitKey_unit 0 (by omega) (by omega) hpc
  unfold Dev.latchFault
  refine .ite (.set d _ _ _ _ (hcell _ (by decide) (by decide))) ?_
  exact ((Keeps.setReg d _ _ _ _ (hcell _ (by decide) (by decide))).trans (.setReg _ _ _ _ _ (hcell _ (by decide) (by decide)))).trans
    ((Keeps.set _ _ _ _ _ (hcell _ (by decide) (by decide))).trans (.set _ _ _ _ _ (hcell _ (by decide) (by decide))))

/-- No fault cause is FATAL. -/
theorem causeSeverity_ne (cause : Nat) : causeSeverity cause ≠ 4 := by
  simp only [causeSeverity]
  split
  · decide
  · split <;> decide

theorem Keeps.faultAt (d : Dev) {pc : Nat} (hpc : pc < 1024) (c cause : Nat) (at' : Word) (d0 d1 d2 : Nat) :
    Keeps UnitKey d (d.faultAt pc c cause at' d0 d1 d2) := by
  have hnote : Keeps UnitKey d (d.noteFault pc c cause at' d0 d1 d2) := (Keeps.latchFault d hpc cause _).trans (.recordCtx _ (causeSeverity_ne cause))
  simp only [Dev.faultAt]
  refine .trans (.trans (hnote.trans ?_) (.ite (.raiseHold _ 3 0xFF _) (.refl _))) (.reselect ..)
  exact ((Keeps.modCtx ..).trans (.modArr ..)).trans (.abortLaunches _ hpc c .fault none)

end Sys2Proof.Machine
end

section
namespace Sys2Proof.Machine

/-! ### A beat of the running job (R341 to R344) -/

theorem Keeps.realignEntry (d : Dev) {pc : Nat} (hpc : pc < 1024) (k : Nat) : Keeps UnitKey d (d.realignEntry pc k) := by
  have hcell : ∀ base, 0x2000000 ≤ base → base < 0x2001000 → ¬ UnitKey (regKey base pc 0) :=
    fun base hlo hhi => not_unitKey_unit 0 (by omega) (by omega) hpc
  have hset : ∀ (d : Dev) (f : Fld) (v : Nat), 0x2000000 ≤ f.base → f.base < 0x2001000 → Keeps UnitKey d (d.set f v pc) :=
    fun d f v hlo hhi => .set d f v pc 0 (hcell _ hlo hhi)
  simp only [Dev.realignEntry]
  refine .ite (.refl d) ?_
  refine .trans (.trans (.ite ?_ (.refl d)) (.foldl _ (fun d c _ => .faultAt d hpc c 0x07 _ 0 0 0) _)) (.putCounter _ hpc _ _)
  refine .trans (.trans ?_ (hset _ F.CELL_SYNC_DRIFT_LAST_DELTA _ (by decide) (by decide))) (.count _ _ _ _ _ (hcell _ (by decide) (by decide)))
  refine .trans (.trans ?_ (hset _ F.CELL_SYNC_DRIFT_LAST_WAITER _ (by decide) (by decide))) (hset _ F.CELL_SYNC_DRIFT_LAST_ENTRY _ (by decide) (by decide))
  exact .trans (.recordCtx (sev := 2) d (by decide)) (hset _ F.CELL_SYNC_DRIFT_LAST_VALID _ (by decide) (by decide))

theorem Keeps.realign (d : Dev) {pc : Nat} (hpc : pc < 1024) : Keeps UnitKey d (d.realign pc) :=
  .foldl _ (fun d k _ => .realignEntry d hpc k) d

theorem Keeps.overrun (d : Dev) (first transfer : Bool) (index q lc : Nat) : Keeps UnitKey d (d.overrun first transfer index q lc) := by
  simp only [Dev.overrun]
  refine .trans (.trans (.ite (.setReg d _ _ _ _ ?_) (.refl d)) (.count _ _ _ _ _ ?_)) (.raiseHold _ _ _ _) <;> unfold UnitKey <;> decide

/-- The overruns of a beat, one by one. -/
theorem Keeps.foldl_snd {S : Nat → Prop} {α : Type} {f : Bool × Dev → α → Bool × Dev} (hf : ∀ x a, Keeps S x.2 (f x a).2) (l : List α) (x : Bool × Dev) :
    Keeps S x.2 (l.foldl f x).2 := by
  induction l generalizing x with
  | nil => exact .refl x.2
  | cons a l ih => exact (hf x a).trans (ih (f x a))

theorem Keeps.modSched {S : Nat → Prop} (d : Dev) (f : SchedState → SchedState) : Keeps S d (d.modSched f) := .of_regs rfl

theorem Keeps.checkDeadlines (d : Dev) (p q : Nat) : Keeps UnitKey d (d.checkDeadlines p q) := by
  simp only [Dev.checkDeadlines]
  refine .trans ?_ (.modSched _ _)
  exact (Keeps.foldl_snd (fun x i => .overrun x.2 x.1 false i q _) _ (true, d)).trans (.foldl_snd (fun x e => .overrun x.2 x.1 true e.1 q 0) _ _)

/-- An accepted bind counts a task switch. -/
theorem Keeps.bind (d : Dev) {pc : Nat} (hpc : pc < 1024) (c : Nat) (desc sched : Option Nat) : Keeps UnitKey d (d.bind pc c desc sched).2 := by
  unfold Dev.bind
  split
  · exact .refl d
  · split
    · exact .refl d
    · split
      · exact .refl d
      · split
        · exact .refl d
        · dsimp only
          split
          · exact .refl d
          · exact ((Keeps.modCell _ _ _).trans (.modCtx _ _ _ _)).trans (.count _ _ _ _ _ (not_unitKey_unit _ (by decide) (by decide) hpc))

theorem Keeps.bindEntry (d : Dev) (i : Nat) : Keeps UnitKey d (d.bindEntry i) := by
  have hbind : Keeps UnitKey d (match d.hostOf (d.taskEntry d.sched.base i).lc with
      | some pc => d.bind pc (d.taskEntry d.sched.base i).ctx (some (d.taskEntry d.sched.base i).desc) (some i)
      | none => (4, d)).2 := by
    split
    · rename_i pc hpc
      exact .bind d (Dev.hostOf_lt hpc) _ _ _
    · exact .refl d
  simp only [Dev.bindEntry]
  exact .ite (hbind.trans (.count _ _ _ _ _ (by unfold UnitKey; decide))) (hbind.trans (.raiseHold _ _ _ _))

theorem Keeps.writeOpset (d : Dev) {pc : Nat} (hpc : pc < 1024) (req : Nat) : Keeps UnitKey d (d.writeOpset pc req) := by
  have hset : ∀ (d : Dev) (f : Fld) (v : Nat), f.base = F.SPAD_OPSET.base → Keeps UnitKey d (d.set f v pc) :=
    fun d f v hf => .set d f v pc 0 (not_unitKey_unit _ (by rw [hf]; decide) (by rw [hf]; decide) hpc)
  simp only [Dev.writeOpset, Dev.opsetNext]
  exact .ite (.refl d) (.ite (hset d _ _ rfl) ((hset d F.SPAD_OPSET_REQ req rfl).trans (.ite (hset _ _ _ rfl) (.refl _))))

end Sys2Proof.Machine
end

section
namespace Sys2Proof.Machine

/-! ### Squirrel's part of a beat (R409 to R415) -/

theorem Keeps.modSnap {S : Nat → Prop} (d : Dev) (f : SnapState → SnapState) : Keeps S d (d.modSnap f) := .of_regs rfl

/-- A field of Squirrel. -/
theorem Keeps.setSnap (d : Dev) (f : Fld) (v : Nat) (h : 0xa000000 ≤ f.base := by decide) : Keeps UnitKey d (d.set f v) :=
  .set d f v 0 0 (not_unitKey_above 0 0 (by omega))

/-- A register of Squirrel. -/
theorem Keeps.setSnapReg (d : Dev) (base v : Nat) (h : 0xa000000 ≤ base := by decide) : Keeps UnitKey d (d.setReg base 0 0 v) :=
  .setReg d base 0 0 v (not_unitKey_above 0 0 (by omega))

theorem Keeps.updateSelectors {S : Nat → Prop} (d : Dev) : Keeps S d d.updateSelectors := by
  have hstore : ∀ (v : Nat) (d : Dev) (lc : Nat), Keeps S d (match d.hostOf lc with
      | some pc => d.storeNat (sliceBase pc + d.get F.SNAP_CFG_SEL_OFF) 8 v
      | none => d) := by
    intro v d lc
    split
    · exact .of_regs rfl
    · exact .refl d
  refine .ite ?_ (.refl d)
  exact (Keeps.modSnap d _).trans (.foldl _ (fun d lc _ => hstore _ d lc) _)

theorem Keeps.clearNext (d : Dev) : Keeps UnitKey d d.clearNext := (Keeps.setSnap d _ _).trans (.setSnapReg _ _ _)

theorem Keeps.emit {S : Nat → Prop} (d : Dev) (o : Output) : Keeps S d (d.emit o) := .of_regs rfl

theorem Keeps.setDrive (d : Dev) (n st : Nat) : Keeps UnitKey d (d.setDrive n st) :=
  .set d _ _ _ _ (not_unitKey_above _ _ (by simp only [Fld.nth]; omega))

theorem Keeps.scribble {S : Nat → Prop} (d : Dev) (a n : Nat) : Keeps S d (d.scribble a n) := .of_regs rfl

theorem Keeps.nvme (d : Dev) (drive opcode lba blocks off : Nat) (bytes : List Byte) : Keeps UnitKey d (d.nvme drive opcode lba blocks off bytes) := by
  unfold Dev.nvme
  extract_lets d1 d2 d3
  have hcount : Keeps UnitKey d1 d2 := .ite (.count d1 F.SNAP_BYTES_WRITTEN 0 0 _ (not_unitKey_above _ _ (by decide))) (.refl d1)
  exact (((Keeps.modSnap d _).trans hcount).trans (.scribble d2 _ _)).trans ((Keeps.emit d3 _).trans (.setDrive _ drive 2))

theorem Keeps.writeSuperblocks (d : Dev) : Keeps UnitKey d d.writeSuperblocks := by
  simp only [Dev.writeSuperblocks]
  exact (Keeps.modSnap d _).trans (.foldl _ (fun d e _ => .nvme d _ _ _ _ _ _) _)

theorem Keeps.flip (d : Dev) : Keeps UnitKey d d.flip := by
  simp only [Dev.flip]
  refine .trans (.trans ?_ (.setSnap _ F.SNAP_STATUS_STATE 2)) (.writeSuperblocks _)
  refine .trans (.trans ?_ (.modSnap _ _)) (.modSnap _ _)
  exact (Keeps.clearNext d).trans (.setSnap _ _ _)

theorem Keeps.showInterval (d : Dev) : Keeps UnitKey d d.showInterval := by
  unfold Dev.showInterval
  refine .ite ?_ (.refl d)
  split
  · exact .setSnapReg _ _ _
  · exact .refl d

theorem Keeps.propose (d : Dev) (always : Bool) : Keeps UnitKey d (d.propose always) := by
  unfold Dev.propose
  extract_lets d1 p old d2 d3
  have hmeas : Keeps UnitKey d d1 := (Keeps.setSnapReg d _ _).trans (.setSnapReg _ _ _)
  have hshown : Keeps UnitKey d d3 := (hmeas.trans (.setSnapReg d1 F.SNAP_INTERVAL.base _)).trans (.showInterval d2)
  exact .ite (.refl d) (.ite (hshown.trans (.of_send (.noticeUp d3 _))) hshown)

/-- SCHED_STEP advanced: the registers of the job but the step itself stand. -/
theorem Keeps.stepStarts (d : Dev) : Keeps UnitKey d d.stepStarts := by
  unfold Dev.stepStarts
  extract_lets d1 d2
  have hstart : Keeps UnitKey d d2 := (Keeps.modSnap d _).trans (.ite (.flip d1) (.refl d1))
  exact (hstart.trans (.updateSelectors d2)).trans (.propose _ _)

theorem Keeps.stepAtPosition (d : Dev) (q : Nat) : Keeps UnitKey d (d.stepAtPosition q) := by
  unfold Dev.stepAtPosition
  extract_lets b d1
  have hlatch : Keeps UnitKey d d1 := .foldl _ (fun d i _ => .ite (.modSched d _) (.refl d)) d
  exact .ite ((hlatch.trans (.setReg d1 F.SCHED_STEP.base 0 0 _ (by unfold UnitKey; decide))).trans (.stepStarts _)) hlatch

theorem Keeps.sendDone (d : Dev) (status t : Nat) : Keeps UnitKey d (d.sendDone status t) := by
  unfold Dev.sendDone
  extract_lets d1
  have hmsg : Keeps UnitKey d d1 := .modSnap d _
  exact .ite (.ite (hmsg.trans (.modSnap d1 _)) hmsg) (hmsg.trans (.of_send (.noticeUp d1 _)))

theorem Keeps.announceArrives (d : Dev) (t interval : Nat) : Keeps UnitKey d (d.announceArrives t interval) := by
  have hskip : ∀ d : Dev, Keeps UnitKey d (d.skipSnap t) := fun d =>
    ((Keeps.record (sev := 0) d (by decide)).trans (.count _ F.SNAP_SKIPPED _ _ _ (not_unitKey_above _ _ (by decide)))).trans (.sendDone _ _ _)
  unfold Dev.announceArrives
  extract_lets d1 d2
  have hnoted : Keeps UnitKey d d2 := (Keeps.setSnapReg d F.SNAP_INTERVAL.base _).trans (.modSnap d1 _)
  have hpend : Keeps UnitKey d2 (((d2.modSnap (fun s => { s with acted := t })).setReg F.SNAP_NEXT.base 0 0 t).set F.SNAP_STATUS_PENDING 1) :=
    ((Keeps.modSnap d2 _).trans (.setSnapReg _ F.SNAP_NEXT.base _)).trans (.setSnap _ F.SNAP_STATUS_PENDING _)
  exact .ite hnoted (.ite (hnoted.trans hpend) (.ite ((hnoted.trans (.modSnap d2 _)).trans (hskip _)) hnoted))

/-- A NOTICE of the device leaves toward its children. -/
theorem Frame.noticeDown (d : Dev) (body : List Byte) : Frame SendKey d ((d.notice body).2.sendDown (d.notice body).1) :=
  (Frame.ownFlit d _ _ _).trans (.sendCs _ _ _)

theorem Keeps.announce (d : Dev) : Keeps UnitKey d d.announce := by
  have hstep : ∀ d : Dev, Keeps UnitKey d d.sendSnapStep := fun d => .of_send (.noticeDown d _)
  unfold Dev.announce
  split
  · exact .refl d
  · extract_lets t d1 d2
    exact (((Keeps.showInterval d).trans (.modSnap d1 _)).trans (hstep d2)).trans (.announceArrives _ _ _)

theorem Keeps.announceCheck (d : Dev) : Keeps UnitKey d d.announceCheck :=
  .ite (.refl d) (.ite (.ite (.announce d) (.refl d)) (.ite (.announce d) (.refl d)))

theorem Keeps.snapJobStarts (d : Dev) : Keeps UnitKey d d.snapJobStarts :=
  ((Keeps.setSnap d _ _).trans (.modSnap _ _)).trans (.updateSelectors _)

/-! ### The beat as a whole -/

theorem Keeps.openWindow {S : Nat → Prop} (d : Dev) (p e : Nat) : Keeps S d (d.openWindow p e) := .of_regs rfl

theorem Keeps.runBeat (d : Dev) (p : Nat) : Keeps UnitKey d (d.runBeat p) := by
  unfold Dev.runBeat
  extract_lets b q d1 d2 starts d3 d4 d5
  have halign : Keeps UnitKey d d1 := .ite (.foldl _ (fun d _ hpc => .realign d (Dev.hostedSlots_lt hpc)) d) (.refl d)
  have hpos : Keeps UnitKey d1 d2 := (Keeps.checkDeadlines d1 p q).trans (.stepAtPosition _ q)
  have hopset : Keeps UnitKey d2 d3 := by
    refine .foldl _ (fun d i _ => ?_) d2
    dsimp only
    split
    · rename_i pc hpc
      exact .ite (.writeOpset d (Dev.hostOf_lt hpc) _) (.refl d)
    · exact .refl d
  have hbind : Keeps UnitKey d3 d4 := .foldl _ (fun d i _ => .bindEntry d i) d3
  have hopen : Keeps UnitKey d4 d5 := .foldl _ (fun d e _ => .openWindow d p e) d4
  exact (((halign.trans hpos).trans hopset).trans hbind).trans (hopen.trans (.announceCheck d5))


end Sys2Proof.Machine
end

section
namespace Sys2Proof.Machine

/-! ### What the unit does at a beat -/

theorem Keeps.schedState {d d' : Dev} (h : Keeps UnitKey d d') : d'.schedState = d.schedState :=
  h.get F.SCHED_STATUS_STATE (by unfold UnitKey; decide)

theorem Keeps.beat {d d' : Dev} (h : Keeps UnitKey d d') : d'.beat = d.beat := h.reg (by unfold UnitKey; decide)

theorem Keeps.schedPos {d d' : Dev} (h : Keeps UnitKey d d') : d'.reg F.SCHED_POS.base = d.reg F.SCHED_POS.base := h.reg (by unfold UnitKey; decide)

theorem Dev.schedState_setSched (d : Dev) {st : Nat} (h : st < 16) : (d.setSched st).schedState = st := by
  rw [Dev.schedState, Dev.setSched, Dev.get_set_same _ _ _ _ _ (by decide) (by decide)]
  exact Nat.mod_eq_of_lt h

theorem Dev.reg_setSched (d : Dev) (st : Nat) {base : Nat} (h : regKey base 0 0 ≠ regKey F.SCHED_STATUS.base 0 0) : (d.setSched st).reg base = d.reg base :=
  Dev.reg_setReg_other d _ h

theorem Dev.schedState_setReg (d : Dev) {base : Nat} (v : Nat) (h : regKey F.SCHED_STATUS.base 0 0 ≠ regKey base 0 0) : (d.setReg base 0 0 v).schedState = d.schedState := by
  simp only [Dev.schedState, Dev.get, Dev.reg_setReg_other d v h]

theorem Dev.sched_modSched (d : Dev) (f : SchedState → SchedState) : (d.modSched f).sched = f d.sched := rfl

/-- R340: the first beat of an armed job runs at position 0. -/
theorem Dev.startRun_armed {d : Dev} (h : d.schedState = 2) :
    d.startRun.schedState = 3 ∧ d.startRun.reg F.SCHED_POS.base = 0 ∧ d.startRun.beat = d.beat := by
  have hrun : Keeps UnitKey ((d.setReg F.SCHED_POS.base 0 0 0).setSched 3) d.startRun := by
    simp only [Dev.startRun, h, if_true]
    exact ((Keeps.modSched _ _).trans (.snapJobStarts _)).trans (.runBeat _ _)
  refine ⟨?_, ?_, ?_⟩
  · rw [hrun.schedState, Dev.schedState_setSched _ (by decide)]
  · rw [hrun.schedPos, Dev.reg_setSched _ _ (by decide), Dev.reg_setReg_same, Nat.zero_mod]
  · rw [hrun.beat, Dev.beat, Dev.reg_setSched _ _ (by decide), Dev.reg_setReg_other _ _ (by decide)]
    rfl

@[simp] theorem Dev.imgLength_setReg (d : Dev) (base inst item v : Nat) : (d.setReg base inst item v).imgLength = d.imgLength := by
  simp [Dev.imgLength, Dev.img, Dev.loadNat, Dev.load]

@[simp] theorem Dev.imgLoop_setReg (d : Dev) (base inst item v : Nat) : (d.setReg base inst item v).imgLoop = d.imgLoop := by
  simp [Dev.imgLoop, Dev.img, Dev.loadNat, Dev.load]

/-- The device at the job's next position. -/
def Dev.nextPos (d : Dev) : Dev := d.setReg F.SCHED_POS.base 0 0 (d.reg F.SCHED_POS.base + 1)

theorem Dev.advanceRun_eq {d : Dev} (hhold : d.sched.hold = none) : d.advanceRun =
    if d.imgLength ≤ d.reg F.SCHED_POS.base + 1 && !d.imgLoop then
      ((d.nextPos.checkDeadlines (d.reg F.SCHED_POS.base + 1) (d.reg F.SCHED_POS.base + 1)).setSched 6).modSched
        (fun s => { s with hold := none, windows := [] })
    else d.nextPos.runBeat (d.reg F.SCHED_POS.base + 1) := by
  simp only [Dev.advanceRun, hhold, Dev.imgLength_setReg, Dev.imgLoop_setReg]
  rfl

theorem Dev.nextPos_schedState (d : Dev) : d.nextPos.schedState = d.schedState := Dev.schedState_setReg d _ (by decide)

theorem Dev.nextPos_beat (d : Dev) : d.nextPos.beat = d.beat := Dev.reg_setReg_other d _ (by decide)

theorem Dev.nextPos_pos {d : Dev} (hp : d.reg F.SCHED_POS.base + 1 < 2 ^ 64) : d.nextPos.reg F.SCHED_POS.base = d.reg F.SCHED_POS.base + 1 := by
  rw [Dev.nextPos, Dev.reg_setReg_same, Nat.mod_eq_of_lt hp]

/-- R341: a running job takes the next position. -/
theorem Dev.advanceRun_goes {d : Dev} (hhold : d.sched.hold = none) (hp : d.reg F.SCHED_POS.base + 1 < 2 ^ 64)
    (h : d.reg F.SCHED_POS.base + 1 < d.imgLength ∨ d.imgLoop = true) :
    d.advanceRun.schedState = d.schedState ∧ d.advanceRun.reg F.SCHED_POS.base = d.reg F.SCHED_POS.base + 1 ∧ d.advanceRun.beat = d.beat := by
  have hgoes : ¬ (d.imgLength ≤ d.reg F.SCHED_POS.base + 1 && !d.imgLoop) = true := by
    simp only [Bool.and_eq_true, decide_eq_true_eq, Bool.not_eq_true', not_and, Bool.not_eq_false]
    exact fun hle => h.resolve_left (Nat.not_lt.2 hle)
  have hrun := Keeps.runBeat d.nextPos (d.reg F.SCHED_POS.base + 1)
  rw [Dev.advanceRun_eq hhold, if_neg hgoes]
  exact ⟨hrun.schedState.trans d.nextPos_schedState, hrun.schedPos.trans (Dev.nextPos_pos hp), hrun.beat.trans d.nextPos_beat⟩

/-- R350: at LENGTH the job is complete. -/
theorem Dev.advanceRun_ends {d : Dev} (hhold : d.sched.hold = none) (hp : d.reg F.SCHED_POS.base + 1 < 2 ^ 64)
    (hlen : d.imgLength ≤ d.reg F.SCHED_POS.base + 1) (hloop : d.imgLoop = false) :
    d.advanceRun.schedState = 6 ∧ d.advanceRun.reg F.SCHED_POS.base = d.reg F.SCHED_POS.base + 1 ∧ d.advanceRun.beat = d.beat ∧ d.advanceRun.sched.windows = [] := by
  have hends : (d.imgLength ≤ d.reg F.SCHED_POS.base + 1 && !d.imgLoop) = true := by simp only [hlen, hloop, decide_true, Bool.not_false, Bool.and_self]
  have hchecks := Keeps.checkDeadlines d.nextPos (d.reg F.SCHED_POS.base + 1) (d.reg F.SCHED_POS.base + 1)
  rw [Dev.advanceRun_eq hhold, if_pos hends]
  have hset := Keeps.modSched (S := UnitKey) ((d.nextPos.checkDeadlines (d.reg F.SCHED_POS.base + 1) (d.reg F.SCHED_POS.base + 1)).setSched 6)
    (fun s => { s with hold := none, windows := [] })
  refine ⟨hset.schedState.trans (Dev.schedState_setSched _ (by decide)), hset.schedPos.trans ?_, hset.beat.trans ?_, by rw [Dev.sched_modSched]⟩
  · exact (Dev.reg_setSched _ _ (by decide)).trans (hchecks.schedPos.trans (Dev.nextPos_pos hp))
  · exact (Dev.reg_setSched _ _ (by decide)).trans (hchecks.beat.trans d.nextPos_beat)

end Sys2Proof.Machine
end

section
namespace Sys2Proof.Machine

/-! ### Freezing cells (R108, R345) -/

/-- The registers of the job, the suspects and what freezes each cell stand. -/
structure SameFreeze (d d' : Dev) : Prop where
  regs : Keeps UnitKey d d'
  suspects : d'.suspects = d.suspects
  freeze : ∀ n, (d'.cell n).freeze = (d.cell n).freeze

theorem SameFreeze.refl (d : Dev) : SameFreeze d d := ⟨.refl d, rfl, fun _ => rfl⟩

theorem SameFreeze.trans {a b c : Dev} (h : SameFreeze a b) (h' : SameFreeze b c) : SameFreeze a c :=
  ⟨h.regs.trans h'.regs, h'.suspects.trans h.suspects, fun n => (h'.freeze n).trans (h.freeze n)⟩

theorem SameFreeze.ite {d a b : Dev} {p : Prop} [Decidable p] (ha : SameFreeze d a) (hb : SameFreeze d b) : SameFreeze d (if p then a else b) := by
  split
  · exact ha
  · exact hb

theorem SameFreeze.modCell (d : Dev) (pc : Nat) {f : CellState → CellState} (hf : ∀ s, (f s).freeze = s.freeze) : SameFreeze d (d.modCell pc f) := by
  refine ⟨.modCell d pc f, rfl, fun n => ?_⟩
  by_cases hn : n = pc
  · rw [hn, Dev.cell_modCell_same, hf]
  · rw [Dev.modCell, Dev.cell_setCell_other d hn]

theorem SameFreeze.modArr (d : Dev) (pc : Nat) (f : ArrayState → ArrayState) : SameFreeze d (d.modArr pc f) := .modCell d pc fun _ => rfl

/-- A register of a cell. -/
theorem SameFreeze.setReg (d : Dev) {pc : Nat} (hpc : pc < 1024) (base v : Nat) (hlo : 0x2000000 ≤ base) (hhi : base < 0x2001000) :
    SameFreeze d (d.setReg base pc 0 v) :=
  ⟨.setReg d base pc 0 v (not_unitKey_unit 0 (by omega) (by omega) hpc), by simp, fun n => by rw [Dev.cell_setReg]⟩

theorem SameFreeze.freezeCell (d : Dev) {pc : Nat} (hpc : pc < 1024) : SameFreeze d (d.freezeCell pc) := by
  unfold Dev.freezeCell
  extract_lets d1 shadow d2 d3
  have hload : SameFreeze d1 d2 := by
    have hshadow : shadow < 2 := by
      simp only [shadow]
      split <;> decide
    simp only [d2]
    split
    · exact (SameFreeze.modArr d1 pc _).trans (.setReg _ hpc _ 0 (by omega) (by omega))
    · exact .refl d1
  have hahead : SameFreeze d d1 := .modCell d pc fun _ => rfl
  have hdrop : SameFreeze d d3 := (hahead.trans hload).trans (.modArr d2 pc _)
  exact .ite (hdrop.trans (.setReg d3 hpc F.SPAD_NM_STATUS_HELD.base _ (by decide) (by decide))) hdrop

/-- A cell's choice of context leaves what freezes it. -/
theorem CellState.freeze_reselect (s : CellState) : s.reselect.freeze = s.freeze :=
  congrArg (fun s => s.freeze) s.reselect_same

/-- Waking the contexts that wait for a plane changes contexts alone. -/
theorem freeze_foldl_wake (l : List Nat) (s : CellState) : (l.foldl (fun s c =>
    if (s.ctx c).phase = .parked && (s.ctx c).wait = some .plane then s.setCtx c (s.ctx c).wake else s) s).freeze = s.freeze := by
  induction l generalizing s with
  | nil => rfl
  | cons c l ih =>
    rw [List.foldl_cons, ih]
    split <;> rfl

theorem SameFreeze.thawCell (d : Dev) {pc : Nat} (hpc : pc < 1024) : SameFreeze d (d.thawCell pc) := by
  have hwake : ∀ d : Dev, SameFreeze d (d.wakePlane pc) := fun d =>
    (SameFreeze.modCell d pc (freeze_foldl_wake _)).trans (.modCell _ pc CellState.freeze_reselect)
  unfold Dev.thawCell
  extract_lets d1 d2 d3
  have hready : SameFreeze d d1 := .modCell d pc fun _ => rfl
  have hctx : SameFreeze d d2 := hready.trans (.modArr d1 pc _)
  exact (hctx.trans (.setReg d2 hpc F.SPAD_NM_STATUS_HELD.base _ (by decide) (by decide))).trans (hwake d3)

/-- What freezes a cell is set for that cell alone. -/
theorem SameFreeze.setFreeze (d : Dev) {pc : Nat} (hpc : pc < 1024) (f : FreezeSources → FreezeSources) :
    SameFreeze (d.modCell pc (fun s => { s with freeze := f s.freeze })) (d.setFreeze pc f) := by
  unfold Dev.setFreeze
  exact .ite (.freezeCell _ hpc) (.ite (.thawCell _ hpc) (.refl _))

theorem Dev.setFreeze_same (d : Dev) {pc : Nat} (hpc : pc < 1024) (f : FreezeSources → FreezeSources) :
    ((d.setFreeze pc f).cell pc).freeze = f (d.cell pc).freeze := by
  rw [(SameFreeze.setFreeze d hpc f).freeze, Dev.cell_modCell_same]

theorem Dev.setFreeze_other (d : Dev) {pc n : Nat} (hpc : pc < 1024) (hn : n ≠ pc) (f : FreezeSources → FreezeSources) :
    ((d.setFreeze pc f).cell n).freeze = (d.cell n).freeze := by
  rw [(SameFreeze.setFreeze d hpc f).freeze, Dev.modCell, Dev.cell_setCell_other d hn]

/-- The slots of a list held, one by one. -/
def Dev.holdSlots (d : Dev) (l : List Nat) : Dev := l.foldl (fun d pc => d.setFreeze pc (fun f => { f with hold := true })) d

theorem Dev.holdSlots_cons (d : Dev) (pc : Nat) (l : List Nat) :
    d.holdSlots (pc :: l) = (d.setFreeze pc (fun f => { f with hold := true })).holdSlots l := rfl

theorem Keeps.holdSlots (d : Dev) {l : List Nat} (hl : ∀ pc ∈ l, pc < 1024) : Keeps UnitKey d (d.holdSlots l) :=
  .foldl l (fun d pc hpc => (Keeps.modCell d pc _).trans (SameFreeze.setFreeze d (hl pc hpc) _).regs) d

theorem Dev.holdSlots_suspects (d : Dev) {l : List Nat} (hl : ∀ pc ∈ l, pc < 1024) : (d.holdSlots l).suspects = d.suspects := by
  induction l generalizing d with
  | nil => rfl
  | cons pc l ih =>
    rw [Dev.holdSlots_cons, ih _ fun n hn => hl n (List.mem_cons_of_mem _ hn)]
    exact (SameFreeze.setFreeze d (hl pc (List.mem_cons_self ..)) _).suspects

/-- A slot of the list is held, and one that is held stays so. -/
theorem Dev.holdSlots_hold (d : Dev) {l : List Nat} (hl : ∀ pc ∈ l, pc < 1024) {n : Nat} (hn : n ∈ l ∨ (d.cell n).freeze.hold = true) :
    ((d.holdSlots l).cell n).freeze.hold = true := by
  induction l generalizing d with
  | nil => exact hn.resolve_left (List.not_mem_nil)
  | cons pc l ih =>
    have hpc := hl pc (List.mem_cons_self ..)
    rw [Dev.holdSlots_cons]
    refine ih _ (fun n hn => hl n (List.mem_cons_of_mem _ hn)) ?_
    by_cases hne : n = pc
    · exact .inr (by rw [hne, Dev.setFreeze_same d hpc])
    · rw [Dev.setFreeze_other d hpc hne]
      exact hn.imp_left fun h => (List.mem_cons.1 h).resolve_left hne

end Sys2Proof.Machine
end

section
namespace Sys2Proof.Machine

/-! ### Entering HELD (R345) -/

/-- SCHED_HOLD of a hold. -/
def HoldInfo.word (h : HoldInfo) : Nat :=
  2 ^ 63 + b2n h.isLocal * 2 ^ 62 + h.cause * 2 ^ 48 + h.port * 2 ^ 40 + h.origin * 2 ^ 30 + h.lc * 2 ^ 21 + h.coll

/-- The unit is HELD, no cell frozen yet. -/
def Dev.held (d : Dev) (h : HoldInfo) (pos : Nat) : Dev :=
  let d := (d.setReg F.SCHED_HOLD.base 0 0 h.word).setReg F.SCHED_HOLD_POS.base 0 0 pos
  (((d.setReg F.SCHED_HOLD_BEAT.base 0 0 d.beat).setSched 4).count F.SCHED_HOLDS).modSched
    (fun s => { s with hold := none, windows := [], stage := .none, resuming := false })

theorem Dev.enterHold_eq (d : Dev) (h : HoldInfo) (pos : Nat) : d.enterHold h pos =
    ((d.held h pos).holdSlots (d.held h pos).hostedSlots).serveSuspects := rfl

/-- Registers that say which slot hosts a logical cell. -/
def LmapKey (k : Nat) : Prop := 0x200 ≤ k % 2 ^ 12 ∧ k % 2 ^ 12 < 0x280

/-- The hosted slots are those that PART_LMAP names. -/
theorem Keeps.hostedSlots {d d' : Dev} (h : Keeps LmapKey d d') : d'.hostedSlots = d.hostedSlots := by
  have hhost : d'.hostOf = d.hostOf := by
    funext lc
    have hreg : d'.reg (F.PART_LMAP.base + 8 * (lc % 64 / 4)) (lc / 64) = d.reg (F.PART_LMAP.base + 8 * (lc % 64 / 4)) (lc / 64) := by
      refine h.reg ?_
      rw [LmapKey, regKey_mod]
      simp only
      omega
    have hlmap : d'.lmap lc = d.lmap lc := by rw [Dev.lmap, Dev.lmap, hreg]
    rw [Dev.hostOf, Dev.hostOf, hlmap]
  rw [Dev.hostedSlots, hhost, Dev.hostedSlots]

theorem not_lmapKey {base : Nat} (h : base % 2 ^ 12 < 0x200 ∨ 0x280 ≤ base % 2 ^ 12 := by decide) : ¬ LmapKey (regKey base 0 0) := by
  rw [LmapKey, regKey_mod]
  omega

theorem Dev.modSched_suspects (d : Dev) (f : SchedState → SchedState) : (d.modSched f).suspects = d.suspects := rfl

theorem Dev.held_suspects (d : Dev) (h : HoldInfo) (pos : Nat) : (d.held h pos).suspects = d.suspects := by
  rw [Dev.held, Dev.modSched_suspects, Dev.count_suspects, Dev.setSched, Dev.set_suspects]
  simp only [Dev.setReg_suspects]

theorem Dev.held_hostedSlots (d : Dev) (h : HoldInfo) (pos : Nat) : (d.held h pos).hostedSlots = d.hostedSlots := by
  refine Keeps.hostedSlots ?_
  unfold Dev.held Dev.setSched
  extract_lets d1
  have hhold : Keeps LmapKey d d1 := (Keeps.setReg d F.SCHED_HOLD.base 0 0 _ not_lmapKey).trans (.setReg _ F.SCHED_HOLD_POS.base 0 0 _ not_lmapKey)
  refine .trans ?_ (.modSched _ _)
  exact ((hhold.trans (.setReg d1 F.SCHED_HOLD_BEAT.base 0 0 d1.beat not_lmapKey)).trans (.set _ F.SCHED_STATUS_STATE 4 0 0 not_lmapKey)).trans
    (.count _ F.SCHED_HOLDS 0 0 1 not_lmapKey)

theorem Dev.beatFront_hostedSlots (d : Dev) : d.beatFront.hostedSlots = d.hostedSlots := by
  have hfront : ∀ k, LmapKey k → FrontKey k := by
    intro k hk
    simp only [LmapKey] at hk
    have hmem : ∀ m ∈ [0x130, 0x158, 0x120, 0x060, 0x068, 0x138], m < 0x200 := by decide
    exact fun hm => Nat.not_lt.2 hk.1 (hmem _ hm)
  exact Keeps.hostedSlots ((Keeps.setReg d F.DEV_BEAT_COUNT.base 0 0 _ not_lmapKey).trans ((Frame.beatFront d).regs.mono hfront))

theorem Dev.reg_modSched (d : Dev) (f : SchedState → SchedState) (base inst item : Nat) : (d.modSched f).reg base inst item = d.reg base inst item := rfl

/-- Of a hold's registers, SCHED_STATUS and HOLDS follow the others. -/
theorem Dev.held_reg (d : Dev) (h : HoldInfo) (pos : Nat) {base : Nat} (hstatus : regKey base 0 0 ≠ regKey F.SCHED_STATUS.base 0 0)
    (hholds : regKey base 0 0 ≠ regKey F.SCHED_HOLDS.base 0 0) : (d.held h pos).reg base =
      (((d.setReg F.SCHED_HOLD.base 0 0 h.word).setReg F.SCHED_HOLD_POS.base 0 0 pos).setReg F.SCHED_HOLD_BEAT.base 0 0 d.beat).reg base := by
  have hbeat : ((d.setReg F.SCHED_HOLD.base 0 0 h.word).setReg F.SCHED_HOLD_POS.base 0 0 pos).beat = d.beat := by
    rw [Dev.beat, Dev.reg_setReg_other _ _ (by decide), Dev.reg_setReg_other _ _ (by decide), Dev.beat]
  unfold Dev.held
  extract_lets d1
  rw [Dev.reg_modSched, Dev.count, Dev.reg_setReg_other _ _ hholds, Dev.reg_setSched _ _ hstatus]
  simp only [d1]
  rw [hbeat]

theorem Dev.held_beat (d : Dev) (h : HoldInfo) (pos : Nat) : (d.held h pos).beat = d.beat := by
  rw [Dev.beat, d.held_reg h pos (by decide) (by decide), Dev.reg_setReg_other _ _ (by decide), Dev.reg_setReg_other _ _ (by decide),
    Dev.reg_setReg_other _ _ (by decide), Dev.beat]

theorem Dev.held_holdPos (d : Dev) (h : HoldInfo) (pos : Nat) : (d.held h pos).reg F.SCHED_HOLD_POS.base = pos % 2 ^ 64 := by
  rw [d.held_reg h pos (by decide) (by decide), Dev.reg_setReg_other _ _ (by decide), Dev.reg_setReg_same]

theorem Dev.held_holdBeat (d : Dev) (h : HoldInfo) (pos : Nat) : (d.held h pos).reg F.SCHED_HOLD_BEAT.base = d.beat % 2 ^ 64 := by
  rw [d.held_reg h pos (by decide) (by decide), Dev.reg_setReg_same]

theorem Dev.held_hold (d : Dev) (h : HoldInfo) (pos : Nat) : (d.held h pos).reg F.SCHED_HOLD.base = h.word % 2 ^ 64 := by
  rw [d.held_reg h pos (by decide) (by decide), Dev.reg_setReg_other _ _ (by decide), Dev.reg_setReg_other _ _ (by decide), Dev.reg_setReg_same]

theorem Dev.held_holds (d : Dev) (h : HoldInfo) (pos : Nat) : Counted d (d.held h pos) F.SCHED_HOLDS := by
  unfold Counted Dev.held
  extract_lets d1
  rw [Dev.reg_modSched, Dev.count, Dev.reg_setReg_same, Dev.reg_setSched _ _ (by decide), Dev.reg_setReg_other _ _ (by decide)]
  simp only [d1]
  rw [Dev.reg_setReg_other _ _ (by decide), Dev.reg_setReg_other _ _ (by decide)]

theorem Dev.held_schedState (d : Dev) (h : HoldInfo) (pos : Nat) : (d.held h pos).schedState = 4 := by
  unfold Dev.held
  extract_lets d1
  rw [(Keeps.modSched _ _).schedState, Dev.count, Dev.schedState_setReg _ _ (by decide), Dev.schedState_setSched _ (by decide)]

theorem HoldInfo.word_fields {h : HoldInfo} (hcause : h.cause < 256) (hport : h.port < 256) (horigin : h.origin < 1024) (hlc : h.lc < 512) (hcoll : h.coll < 2 ^ 16) :
    h.word < 2 ^ 64 ∧ bitsOf h.word 55 48 = h.cause ∧ bitsOf h.word 39 30 = h.origin ∧ bitsOf h.word 29 21 = h.lc ∧ bitsOf h.word 63 63 = 1 := by
  have hlocal : b2n h.isLocal < 2 := by cases h.isLocal <;> decide
  simp only [HoldInfo.word, bitsOf, Nat.shiftRight_eq_div_pow]
  omega

/-- With no suspect to move, entering HELD freezes every hosted cell. -/
theorem Keeps.enterHold {d : Dev} (h : HoldInfo) (pos : Nat) (hs : d.suspects = []) :
    Keeps UnitKey (d.held h pos) (d.enterHold h pos) ∧ ∀ pc ∈ d.hostedSlots, ((d.enterHold h pos).cell pc).freeze.hold = true := by
  have hlt : ∀ pc ∈ (d.held h pos).hostedSlots, pc < 1024 := fun pc => Dev.hostedSlots_lt
  have hsus : ((d.held h pos).holdSlots (d.held h pos).hostedSlots).suspects = [] := by
    rw [Dev.holdSlots_suspects _ hlt, Dev.held_suspects, hs]
  rw [Dev.enterHold_eq, Dev.serveSuspects, hsus, List.foldl_nil]
  refine ⟨.holdSlots _ hlt, fun pc hpc => ?_⟩
  exact Dev.holdSlots_hold _ hlt (.inl (by rwa [Dev.held_hostedSlots]))

end Sys2Proof.Machine
end

section
namespace Sys2Proof.Machine

/-! ### The end of a job (R347, R350) -/

/-- Registers that a job's end, once the unit is IDLE, still leaves alone: those of the classes before Squirrel's. -/
def LowKey (k : Nat) : Prop := k < 0xa000000

theorem lowKey {base : Nat} (h : base < 0xa000000) : LowKey (regKey base 0 0) := by
  simp only [LowKey, regKey]
  omega

/-- The schedule unit's own state and the registers up to its class stand. -/
structure SameSched (d d' : Dev) : Prop where
  regs : Keeps LowKey d d'
  sched : d'.sched = d.sched

theorem SameSched.refl (d : Dev) : SameSched d d := ⟨.refl d, rfl⟩

theorem SameSched.trans {a b c : Dev} (h : SameSched a b) (h' : SameSched b c) : SameSched a c :=
  ⟨h.regs.trans h'.regs, h'.sched.trans h.sched⟩

theorem SameSched.foldl {α : Type} {f : Dev → α → Dev} (hf : ∀ d a, SameSched d (f d a)) (l : List α) (d : Dev) : SameSched d (l.foldl f d) := by
  induction l generalizing d with
  | nil => exact .refl d
  | cons a l ih => exact (hf d a).trans (ih (f d a))

theorem SameSched.setReg (d : Dev) (base inst item v : Nat) (h : 0xa000000 ≤ regKey base inst item) : SameSched d (d.setReg base inst item v) :=
  ⟨.setReg d base inst item v (Nat.not_lt.2 h), d.setReg_sched ..⟩

/-- A register of a work queue. -/
theorem SameSched.setWq (d : Dev) (f : Fld) (v h q : Nat) : SameSched d (d.set f v h (q + 1)) :=
  .setReg d _ _ _ _ (by simp only [regKey]; omega)

theorem SameSched.snapJobEnds (d : Dev) : SameSched d d.snapJobEnds :=
  ((SameSched.setReg d F.SNAP_STATUS_PENDING.base 0 0 _ (by decide)).trans (.setReg _ F.SNAP_NEXT.base 0 0 _ (by decide))).trans ⟨.of_regs rfl, rfl⟩

theorem SameSched.skipAborted (d : Dev) (h q fuel : Nat) : SameSched d (d.skipAborted h q fuel) := by
  induction fuel generalizing d with
  | zero => exact .refl d
  | succ fuel ih =>
    simp only [Dev.skipAborted]
    split
    · exact (SameSched.setWq d _ _ h q).trans (ih _)
    · exact .refl d

theorem SameSched.startItem (d : Dev) (e k h q : Nat) (b : List Byte) : SameSched d (d.startItem e k h q b) := by
  have hslot : ∀ (d : Dev) (slot w : Nat), SameSched d (d.setSlot h q slot w) := fun _ _ _ => ⟨.of_regs rfl, rfl⟩
  have heng : ∀ (d : Dev) (f : EngState → EngState), SameSched d (d.modEng e f) := fun _ _ => ⟨.of_regs rfl, rfl⟩
  unfold Dev.startItem
  extract_lets n slot loaded i d1
  have htaken : SameSched d d1 := (SameSched.setWq d _ _ h q).trans (hslot _ _ _)
  exact (htaken.trans (heng d1 _)).trans (.setWq _ _ _ h q)

theorem SameSched.startItems (d : Dev) (e n : Nat) : SameSched d (d.startItems e n) := by
  induction n generalizing d with
  | zero => exact .refl d
  | succ n ih =>
    have hskip := SameSched.foldl (f := fun (d : Dev) (x : Nat × Nat × Nat) => d.skipAborted x.2.1 x.2.2 (d.wqSlots x.2.1 x.2.2))
      (fun d x => .skipAborted d _ _ _) (d.servedQueues e) d
    simp only [Dev.startItems]
    split
    · exact .refl d
    · split
      · exact hskip
      · exact (hskip.trans (.startItem _ e _ _ _ _)).trans (ih _)

theorem SameSched.kickEngines (d : Dev) : SameSched d d.kickEngines := .foldl (fun d e => .startItems d e 4) _ d

/-- R350: with a job unloaded the unit is IDLE and holds none. -/
theorem Dev.unloadJob_ends (d : Dev) : d.unloadJob.schedState = 0 ∧ d.unloadJob.reg F.SCHED_STEP.base = 0 ∧ d.unloadJob.get F.SCHED_STATUS_VARIANT = 0 ∧
    d.unloadJob.sched.loaded = false ∧ d.unloadJob.sched.unload = false ∧ d.unloadJob.sched.hold = none := by
  unfold Dev.unloadJob
  extract_lets d1 d2 d3
  have hend := (SameSched.snapJobEnds (d3.modSched (fun s => { s with
    unload := false, loaded := false, stage := .none, resuming := false, hold := none, windows := [], stepAt := [] }))).trans (.kickEngines _)
  have hstep : d3.reg F.SCHED_STEP.base = 0 := by
    simp only [d3, Dev.set]
    rw [Dev.reg_setReg_other _ _ (by decide), Dev.reg_setSched _ _ (by decide), Dev.reg_setReg_same, Nat.zero_mod]
  have hvariant : d3.get F.SCHED_STATUS_VARIANT = 0 := by
    simp only [d3]
    rw [Dev.get_set_same _ _ _ _ _ (by decide) (by decide), Nat.zero_mod]
  have hstate : d3.schedState = 0 := by
    simp only [d3]
    rw [Dev.schedState, Dev.get_set_disjoint _ F.SCHED_STATUS_VARIANT F.SCHED_STATUS_STATE _ 0 0 rfl (by decide) (by decide) (by decide)]
    exact Dev.schedState_setSched _ (by decide)
  have hregs := (Keeps.modSched d3 (fun s => { s with
    unload := false, loaded := false, stage := .none, resuming := false, hold := none, windows := [], stepAt := [] })).trans hend.regs
  refine ⟨(hregs.get F.SCHED_STATUS_STATE (lowKey (by decide))).trans hstate, (hregs.reg (base := F.SCHED_STEP.base) (lowKey (by decide))).trans hstep,
    (hregs.get F.SCHED_STATUS_VARIANT (lowKey (by decide))).trans hvariant, ?_⟩
  rw [hend.sched]
  rw [Dev.sched_modSched]
  exact ⟨rfl, rfl, rfl⟩

end Sys2Proof.Machine
end

section
namespace Sys2Proof.Machine

/-! ### The beat boundary, case by case -/

theorem Dev.beatFront_unload (d : Dev) : d.beatFront.sched.unload = d.sched.unload := by
  obtain ⟨req, mark, h⟩ := d.beatFront_sched
  rw [h]

theorem Dev.beatFront_hold (d : Dev) : d.beatFront.sched.hold = d.sched.hold := by
  obtain ⟨req, mark, h⟩ := d.beatFront_sched
  rw [h]

theorem Dev.beatFront_schedState (d : Dev) : d.beatFront.schedState = d.schedState :=
  d.beatFront_get F.SCHED_STATUS_STATE (by decide) (by decide)

theorem Dev.beatFront_pos (d : Dev) : d.beatFront.reg F.SCHED_POS.base = d.reg F.SCHED_POS.base := d.beatFront_reg (by decide) (by decide)

theorem Dev.beatFront_img (d : Dev) (off n : Nat) : d.beatFront.img d.beatFront.sched.base off n = d.img d.sched.base off n := by
  obtain ⟨req, mark, h⟩ := d.beatFront_sched
  simp only [Dev.img, Dev.loadNat, Dev.load, Dev.beatFront_mem, h]

theorem Dev.beatFront_imgLength (d : Dev) : d.beatFront.imgLength = d.imgLength := d.beatFront_img _ _

theorem Dev.beatFront_imgLoop (d : Dev) : d.beatFront.imgLoop = d.imgLoop := by
  rw [Dev.imgLoop, d.beatFront_img, Dev.imgLoop]

/-- The unit does nothing at a beat: it is IDLE, or armed for a later beat. -/
theorem Dev.schedBeat_waits {d : Dev} (hunload : d.sched.unload = false)
    (h : d.schedState = 0 ∨ (d.schedState = 2 ∧ d.sched.hold = none ∧ d.reg F.SCHED_START_BEAT.base ≠ d.beat)) : d.schedBeat = d := by
  unfold Dev.schedBeat
  rcases h with h | ⟨h, hhold, hstart⟩
  · simp only [hunload, h, Bool.false_eq_true, if_false]
  · simp only [hunload, h, hhold, hstart, Bool.false_eq_true, if_false]

theorem Dev.schedBeat_starts {d : Dev} (hunload : d.sched.unload = false) (h : d.schedState = 2) (hhold : d.sched.hold = none)
    (hstart : d.reg F.SCHED_START_BEAT.base = d.beat) : d.schedBeat = d.startRun := by
  simp only [Dev.schedBeat, hunload, h, hhold, hstart, Bool.false_eq_true, if_false, if_true]

theorem Dev.schedBeat_held {d : Dev} {i : HoldInfo} (hunload : d.sched.unload = false) (h : d.schedState = 2) (hhold : d.sched.hold = some i) :
    d.schedBeat = d.enterHold i 0 := by
  simp only [Dev.schedBeat, hunload, h, hhold, Bool.false_eq_true, if_false]

theorem Dev.schedBeat_runs {d : Dev} (hunload : d.sched.unload = false) (h : d.schedState = 3) : d.schedBeat = d.advanceRun := by
  simp only [Dev.schedBeat, hunload, h, Bool.false_eq_true, if_false]

/-- A beat without a marker that meets no running job changes one status register. -/
theorem Dev.missBeat_frame {d : Dev} (h : d.schedState ≠ 3) (missed : Bool) : (d.missBeat missed).sched = d.sched ∧ (d.missBeat missed).mem = d.mem ∧
    (d.missBeat missed).cells = d.cells ∧ Keeps (· ≠ regKey F.DEV_BEAT_STATUS_MISSED.base 0 0) d (d.missBeat missed) := by
  rw [Dev.missBeat_idle h]
  split
  · exact ⟨d.set_sched .., d.set_mem .., d.set_cells .., .set d _ _ _ _ fun hn => hn rfl⟩
  · exact ⟨rfl, rfl, rfl, .refl d⟩

theorem Dev.missBeat_missed {d : Dev} (h : d.schedState ≠ 3) (missed : Bool) : (d.missBeat missed).get F.DEV_BEAT_STATUS_MISSED =
    if missed then min 0xFFFF (d.get F.DEV_BEAT_STATUS_MISSED + 1) else d.get F.DEV_BEAT_STATUS_MISSED := by
  rw [Dev.missBeat_idle h]
  split
  · rw [Dev.get_set_same _ _ _ _ _ (by decide) (by decide)]
    exact Nat.mod_eq_of_lt (Nat.lt_of_le_of_lt (Nat.min_le_left ..) (by decide))
  · rfl

/-- With no suspect to move, a hold freezes every hosted cell and is shown. -/
theorem Dev.enterHold_shows {d : Dev} (i : HoldInfo) {pos : Nat} (hpos : pos < 2 ^ 64) (hbeat : d.beat < 2 ^ 64) (hs : d.suspects = []) :
    (d.enterHold i pos).beat = d.beat ∧ (d.enterHold i pos).schedState = 4 ∧ (d.enterHold i pos).reg F.SCHED_HOLD_POS.base = pos ∧
    (d.enterHold i pos).reg F.SCHED_HOLD_BEAT.base = d.beat ∧ (d.enterHold i pos).reg F.SCHED_HOLD.base = i.word % 2 ^ 64 ∧
    Counted d (d.enterHold i pos) F.SCHED_HOLDS ∧ ∀ pc ∈ d.hostedSlots, ((d.enterHold i pos).cell pc).freeze.hold = true := by
  obtain ⟨hregs, hfrozen⟩ := Keeps.enterHold i pos hs
  have hreg : ∀ base, UnitKey (regKey base 0 0) → (d.enterHold i pos).reg base = (d.held i pos).reg base := fun _ hk => hregs.reg hk
  refine ⟨hregs.beat.trans (d.held_beat i pos), hregs.schedState.trans (d.held_schedState i pos), ?_, ?_, ?_, ?_, hfrozen⟩
  · rw [hreg _ (by unfold UnitKey; decide), Dev.held_holdPos, Nat.mod_eq_of_lt hpos]
  · rw [hreg _ (by unfold UnitKey; decide), Dev.held_holdBeat, Nat.mod_eq_of_lt hbeat]
  · rw [hreg _ (by unfold UnitKey; decide), Dev.held_hold]
  · exact (hreg _ (by unfold UnitKey; decide)).trans (d.held_holds i pos)

theorem Does.imp {c : Instr} {d : Dev} {post post' : Dev → Prop} (h : Does c d post) (hpost : ∀ d', post d' → post' d') : Does c d post' := fun q => by
  obtain ⟨d', hexec, hd'⟩ := h q
  exact ⟨d', hexec, hpost d' hd'⟩

theorem Does.beatBoundary {d : Dev} {post : Dev → Prop} (hup : d.power.mainUp = true) (h : post (d.beatFront.schedBeat.missBeat d.beatMissed)) :
    Does .beatBoundary d post :=
  fun q => ⟨d.beatBoundary, State.runMain_up ⟨d, q⟩ _ hup, d.beatBoundary_eq ▸ h⟩

/-- The beat counter has 64 bits. -/
theorem Dev.beatFront_lt (d : Dev) : d.beatFront.beat < 2 ^ 64 := by
  rw [d.beatFront_beat]
  exact Nat.mod_lt _ (Nat.two_pow_pos _)

/-- R350: a job whose unload has been asked for ends. -/
theorem Does.beatBoundary_unload {d : Dev} (hup : d.power.mainUp = true) (hunload : d.sched.unload = true) :
    Does .beatBoundary d (fun d' => d'.schedState = 0 ∧ d'.reg F.SCHED_STEP.base = 0 ∧ d'.get F.SCHED_STATUS_VARIANT = 0 ∧
      d'.sched.loaded = false ∧ d'.sched.unload = false ∧ d'.sched.hold = none) := by
  refine .beatBoundary hup ?_
  have hbeat : d.beatFront.schedBeat = d.beatFront.unloadJob := by
    rw [Dev.schedBeat, d.beatFront_unload, if_pos hunload]
  obtain ⟨hstate, hstep, hvariant, hsched⟩ := d.beatFront.unloadJob_ends
  obtain ⟨hs, -, -, hregs⟩ := Dev.missBeat_frame (d := d.beatFront.unloadJob) (by omega) d.beatMissed
  rw [hbeat, hs]
  exact ⟨(hregs.get F.SCHED_STATUS_STATE (by decide)).trans hstate, (hregs.reg (base := F.SCHED_STEP.base) (by decide)).trans hstep,
    (hregs.get F.SCHED_STATUS_VARIANT (by decide)).trans hvariant, hsched⟩

/-- A unit that does nothing at a beat: the counter and S advance, and MISSED counts. -/
theorem Does.beatBoundary_waits {d : Dev} (hup : d.power.mainUp = true) (hunload : d.sched.unload = false)
    (h : d.schedState = 0 ∨ (d.schedState = 2 ∧ d.sched.hold = none ∧ d.reg F.SCHED_START_BEAT.base ≠ (d.beat + 1) % 2 ^ 64)) :
    Does .beatBoundary d (fun d' => d'.beat = (d.beat + 1) % 2 ^ 64 ∧ d'.schedState = d.schedState ∧ d'.mem = d.mem ∧ d'.cells = d.cells ∧
      d'.get F.SCHED_STRETCH_CUR = d.beatFront.get F.SCHED_STRETCH_CUR ∧ d'.get F.DEV_BEAT_STATUS_MISSED =
        if d.beatMissed then min 0xFFFF (d.get F.DEV_BEAT_STATUS_MISSED + 1) else d.get F.DEV_BEAT_STATUS_MISSED) := by
  refine .beatBoundary hup ?_
  have hbeat : d.beatFront.schedBeat = d.beatFront := by
    refine Dev.schedBeat_waits (d.beatFront_unload.trans hunload) ?_
    rwa [d.beatFront_schedState, d.beatFront_hold, d.beatFront_beat, d.beatFront_reg (by decide) (by decide)]
  have hne : d.beatFront.schedState ≠ 3 := by
    rw [d.beatFront_schedState]
    omega
  obtain ⟨-, hmem, hcells, hregs⟩ := Dev.missBeat_frame hne d.beatMissed
  rw [hbeat, Dev.missBeat_missed hne, hmem, hcells, d.beatFront_mem, d.beatFront_cells, d.beatFront_get F.DEV_BEAT_STATUS_MISSED (by decide) (by decide)]
  exact ⟨(hregs.reg (base := F.DEV_BEAT_COUNT.base) (by decide)).trans d.beatFront_beat,
    (hregs.get F.SCHED_STATUS_STATE (by decide)).trans d.beatFront_schedState, rfl, rfl, hregs.get F.SCHED_STRETCH_CUR (by decide), rfl⟩

/-- What a beat shows of an armed or running job, whatever MISSED does. -/
theorem Does.beatBoundary_keeps {d : Dev} {post : Dev → Prop} (hup : d.power.mainUp = true)
    (h : ∀ d', Keeps UnitKey d.beatFront.schedBeat d' → post d') : Does .beatBoundary d post :=
  .beatBoundary hup (h _ (.missBeat _ _))

/-- R340: an armed job starts at its start beat. -/
theorem Does.beatBoundary_starts {d : Dev} (hup : d.power.mainUp = true) (hunload : d.sched.unload = false) (h : d.schedState = 2)
    (hhold : d.sched.hold = none) (hstart : d.reg F.SCHED_START_BEAT.base = (d.beat + 1) % 2 ^ 64) :
    Does .beatBoundary d (fun d' => d'.beat = (d.beat + 1) % 2 ^ 64 ∧ d'.schedState = 3 ∧ d'.reg F.SCHED_POS.base = 0) := by
  have hbeat : d.beatFront.schedBeat = d.beatFront.startRun :=
    Dev.schedBeat_starts (d.beatFront_unload.trans hunload) (d.beatFront_schedState.trans h) (d.beatFront_hold.trans hhold)
      (by rw [d.beatFront_beat, d.beatFront_reg (by decide) (by decide), hstart])
  obtain ⟨hstate, hpos, hnow⟩ := Dev.startRun_armed (d.beatFront_schedState.trans h)
  refine .beatBoundary_keeps hup fun d' hkeep => ?_
  rw [hbeat] at hkeep
  exact ⟨hkeep.beat.trans (hnow.trans d.beatFront_beat), hkeep.schedState.trans hstate, hkeep.schedPos.trans hpos⟩

/-- R341: a running job goes on to its next position. -/
theorem Does.beatBoundary_goes {d : Dev} (hup : d.power.mainUp = true) (hunload : d.sched.unload = false) (h : d.schedState = 3)
    (hp : d.reg F.SCHED_POS.base + 1 < 2 ^ 64) (hhold : d.sched.hold = none) (hlen : d.reg F.SCHED_POS.base + 1 < d.imgLength ∨ d.imgLoop = true) :
    Does .beatBoundary d (fun d' => d'.beat = (d.beat + 1) % 2 ^ 64 ∧ d'.schedState = 3 ∧ d'.reg F.SCHED_POS.base = d.reg F.SCHED_POS.base + 1) := by
  have hbeat := Dev.schedBeat_runs (d.beatFront_unload.trans hunload) (d.beatFront_schedState.trans h)
  obtain ⟨hstate, hpos, hnow⟩ := Dev.advanceRun_goes (d := d.beatFront) (d.beatFront_hold.trans hhold) (by rwa [d.beatFront_pos])
    (by rwa [d.beatFront_pos, d.beatFront_imgLength, d.beatFront_imgLoop])
  refine .beatBoundary_keeps hup fun d' hkeep => ?_
  rw [hbeat] at hkeep
  exact ⟨hkeep.beat.trans (hnow.trans d.beatFront_beat), hkeep.schedState.trans (hstate.trans (d.beatFront_schedState.trans h)),
    hkeep.schedPos.trans (hpos.trans (by rw [d.beatFront_pos]))⟩

/-- R350: a job at LENGTH is complete. -/
theorem Does.beatBoundary_ends {d : Dev} (hup : d.power.mainUp = true) (hunload : d.sched.unload = false) (h : d.schedState = 3)
    (hp : d.reg F.SCHED_POS.base + 1 < 2 ^ 64) (hhold : d.sched.hold = none) (hlen : d.imgLength ≤ d.reg F.SCHED_POS.base + 1) (hloop : d.imgLoop = false) :
    Does .beatBoundary d (fun d' => d'.beat = (d.beat + 1) % 2 ^ 64 ∧ d'.schedState = 6 ∧ d'.reg F.SCHED_POS.base = d.reg F.SCHED_POS.base + 1 ∧
      d'.sched.windows = []) := by
  have hbeat := Dev.schedBeat_runs (d.beatFront_unload.trans hunload) (d.beatFront_schedState.trans h)
  obtain ⟨hstate, hpos, hnow, hwin⟩ := Dev.advanceRun_ends (d := d.beatFront) (d.beatFront_hold.trans hhold) (by rwa [d.beatFront_pos])
    (by rwa [d.beatFront_pos, d.beatFront_imgLength]) (d.beatFront_imgLoop.trans hloop)
  have hkeep := Keeps.missBeat d.beatFront.advanceRun d.beatMissed
  refine .beatBoundary hup ?_
  rw [hbeat]
  refine ⟨hkeep.beat.trans (hnow.trans d.beatFront_beat), hkeep.schedState.trans hstate, hkeep.schedPos.trans (hpos.trans (by rw [d.beatFront_pos])), ?_⟩
  rw [(Dev.missBeat_frame (by omega) d.beatMissed).1, hwin]

/-- R345: a hold is entered at the next position of a running job, or at position 0 of an armed one. -/
theorem Does.beatBoundary_holds {d : Dev} {i : HoldInfo} {pos : Nat} (hup : d.power.mainUp = true) (hpos : pos < 2 ^ 64) (hs : d.suspects = [])
    (hbeat : d.beatFront.schedBeat = d.beatFront.enterHold i pos) :
    Does .beatBoundary d (fun d' => d'.beat = (d.beat + 1) % 2 ^ 64 ∧ d'.schedState = 4 ∧ d'.reg F.SCHED_HOLD_POS.base = pos ∧
      d'.reg F.SCHED_HOLD_BEAT.base = (d.beat + 1) % 2 ^ 64 ∧ d'.reg F.SCHED_HOLD.base = i.word % 2 ^ 64 ∧ Counted d d' F.SCHED_HOLDS ∧
      ∀ pc ∈ d.hostedSlots, (d'.cell pc).freeze.hold = true) := by
  obtain ⟨hnow, hstate, hat, hwhen, hword, hcount, hfrozen⟩ := Dev.enterHold_shows i hpos d.beatFront_lt (d.beatFront_suspects.trans hs)
  obtain ⟨-, -, hcells, -⟩ := Dev.missBeat_frame (d := d.beatFront.enterHold i pos) (by omega) d.beatMissed
  have hkeep := Keeps.missBeat (d.beatFront.enterHold i pos) d.beatMissed
  have hreg : ∀ base, UnitKey (regKey base 0 0) → ((d.beatFront.enterHold i pos).missBeat d.beatMissed).reg base = (d.beatFront.enterHold i pos).reg base :=
    fun _ hk => hkeep.reg hk
  refine .beatBoundary hup ?_
  rw [hbeat]
  refine ⟨hkeep.beat.trans (hnow.trans d.beatFront_beat), hkeep.schedState.trans hstate, ?_, ?_, ?_, ?_, fun pc hpc => ?_⟩
  · rw [hreg _ (by unfold UnitKey; decide), hat]
  · rw [hreg _ (by unfold UnitKey; decide), hwhen, d.beatFront_beat]
  · rw [hreg _ (by unfold UnitKey; decide), hword]
  · have hholds : d.beatFront.reg F.SCHED_HOLDS.base = d.reg F.SCHED_HOLDS.base := d.beatFront_reg (by decide) (by decide)
    rw [Counted, hreg F.SCHED_HOLDS.base (by unfold UnitKey; decide), hcount, hholds]
  · have hslot : pc ∈ d.beatFront.hostedSlots := by
      rw [d.beatFront_hostedSlots]
      exact hpc
    have hcell : ((d.beatFront.enterHold i pos).missBeat d.beatMissed).cell pc = (d.beatFront.enterHold i pos).cell pc := by
      rw [Dev.cell, hcells, Dev.cell]
    rw [hcell]
    exact hfrozen pc hslot

/-- Settles O45: the front of a beat advances the counter and S alone, and each state of the schedule unit has its own part after it. -/
theorem beatBoundariesDriveTheJob : Obligations.BeatBoundariesDriveTheJob := by
  unfold Obligations.BeatBoundariesDriveTheJob
  intro d hup next p
  refine ⟨.beatBoundary_unload hup, fun h hunload => ?_, fun hunload => ⟨fun h => ?_, fun i h hhold hs => ?_, fun h hhold hstart => ?_,
    fun h hhold hstart => ?_, fun h hp => ⟨fun i hhold hcause hport horigin hlc hcoll hs => ?_, fun hhold => ?_, fun hhold => ?_⟩⟩⟩
  · exact .imp (.beatBoundary_waits hup hunload (.inl h)) fun d' ⟨_, _, _, _, _, hmissed⟩ => hmissed
  · refine .imp (.beatBoundary_waits hup hunload (.inl h)) fun d' ⟨hbeat, hstate, hmem, hcells, hcur, _⟩ => ?_
    exact ⟨hbeat, hstate.trans h, hmem, hcells, hcur.trans d.beatFront_cur⟩
  · have hheld := Dev.schedBeat_held (d.beatFront_unload.trans hunload) (d.beatFront_schedState.trans h) (d.beatFront_hold.trans hhold)
    refine .imp (.beatBoundary_holds hup (by decide) hs hheld) fun d' ⟨hbeat, hstate, hat, hwhen, _⟩ => ?_
    exact ⟨hbeat, hstate, hat, hwhen⟩
  · exact .beatBoundary_starts hup hunload h hhold hstart
  · refine .imp (.beatBoundary_waits hup hunload (.inr ⟨h, hhold, hstart⟩)) fun d' ⟨hbeat, hstate, hmem, hcells, _⟩ => ?_
    exact ⟨hbeat, hstate.trans h, hmem, hcells⟩
  · have hheld : d.beatFront.schedBeat = d.beatFront.enterHold i p := by
      rw [Dev.schedBeat_runs (d.beatFront_unload.trans hunload) (d.beatFront_schedState.trans h)]
      simp only [Dev.advanceRun, d.beatFront_hold.trans hhold, d.beatFront_pos]
      rfl
    obtain ⟨hlt, hfcause, hforigin, hflc, hvalid⟩ := HoldInfo.word_fields hcause hport horigin hlc hcoll
    refine .imp (.beatBoundary_holds hup hp hs hheld) fun d' ⟨_, hstate, hat, hwhen, hword, hcount, hfrozen⟩ => ?_
    rw [Nat.mod_eq_of_lt hlt] at hword
    refine ⟨hstate, hat, hwhen, ?_, ?_, ?_, ?_, hcount, hfrozen⟩
    · rw [Dev.get, hword, hfcause]
    · rw [Dev.get, hword, hforigin]
    · rw [Dev.get, hword, hflc]
    · rw [Dev.bit, Dev.get, hword, hvalid]
      rfl
  · exact fun hlen hloop => .beatBoundary_ends hup hunload h hp hhold hlen hloop
  · exact fun hlen => .beatBoundary_goes hup hunload h hp hhold hlen

end Sys2Proof.Machine
end

section
namespace Sys2Proof.Machine

/-! ## Records (R400) -/

/-- Every register but FLOG_LOST. -/
def LossKey (k : Nat) : Prop := k ≠ regKey F.FLOG_LOST.base 0 0

/-- Nothing changes but the records that wait and, where one is dropped, FLOG_LOST. -/
structure Reported (d d' : Dev) : Prop where
  dev : { d' with reports := d.reports, regs := d.regs } = d
  regs : Keeps LossKey d d'

/-- A record that is not FATAL waits in the buffer of its block, or is dropped and counted. -/
theorem Dev.record_eq (d : Dev) {event key cls inst sev d0 d1 d2 : Nat} (h : sev ≠ 4) : d.record event key cls inst sev d0 d1 d2 =
    if d.buffered cls inst < 4 then { d with reports := d.reports ++ [d.mkRecord event key cls inst sev d.noCtx d0 d1 d2] }
    else d.count F.FLOG_LOST := by
  have hsev : (d.mkRecord event key cls inst sev d.noCtx d0 d1 d2).sev ≠ 4 := h
  rw [Dev.record, Dev.report, if_neg hsev]
  rfl

theorem Reported.record (d : Dev) {event key cls inst sev d0 d1 d2 : Nat} (h : sev ≠ 4) : Reported d (d.record event key cls inst sev d0 d1 d2) := by
  rw [d.record_eq h]
  split
  · exact ⟨rfl, .of_regs rfl⟩
  · exact ⟨rfl, .count d _ _ _ _ fun hk => hk rfl⟩

/-- With room in the buffer the record joins those that wait. -/
theorem Dev.record_reports (d : Dev) {event key cls inst sev d0 d1 d2 : Nat} (h : sev ≠ 4) (hroom : d.buffered cls inst < 4) :
    ∃ r, (d.record event key cls inst sev d0 d1 d2).reports = d.reports ++ [r] ∧ r.event = event := by
  rw [d.record_eq h, if_pos hroom]
  exact ⟨_, rfl, rfl⟩

section
variable {d d' : Dev} (h : Reported d d')
include h

theorem Reported.mem : d'.mem = d.mem := by rw [← h.dev]
theorem Reported.cells : d'.cells = d.cells := by rw [← h.dev]
theorem Reported.suspects : d'.suspects = d.suspects := by rw [← h.dev]
theorem Reported.migrations : d'.migrations = d.migrations := by rw [← h.dev]
theorem Reported.bandOut : d'.bandOut = d.bandOut := by rw [← h.dev]
theorem Reported.resets : d'.resets = d.resets := by rw [← h.dev]

end

/-! ## What moves and fences leave alone: clock bands and resets in progress -/

/-- No island leaves its clock band or returns to it, and no reset starts or ends. -/
structure Quiet (d d' : Dev) : Prop where
  bandOut : d'.bandOut = d.bandOut
  resets : d'.resets = d.resets

theorem Quiet.refl (d : Dev) : Quiet d d := ⟨rfl, rfl⟩

theorem Quiet.trans {a b c : Dev} (h : Quiet a b) (h' : Quiet b c) : Quiet a c := ⟨h'.bandOut.trans h.bandOut, h'.resets.trans h.resets⟩

theorem Quiet.ite {d a b : Dev} {p : Prop} [Decidable p] (ha : Quiet d a) (hb : Quiet d b) : Quiet d (if p then a else b) := by
  split
  · exact ha
  · exact hb

theorem Quiet.foldl {α : Type} {f : Dev → α → Dev} (hf : ∀ d a, Quiet d (f d a)) (l : List α) (d : Dev) : Quiet d (l.foldl f d) := by
  induction l generalizing d with
  | nil => exact .refl d
  | cons a l ih => exact (hf d a).trans (ih (f d a))

theorem Quiet.deviceResetting {d d' : Dev} (h : Quiet d d') : d'.deviceResetting = d.deviceResetting := by
  simp only [Dev.deviceResetting, Dev.resetting, h.resets]

theorem Quiet.record (d : Dev) {event key cls inst sev d0 d1 d2 : Nat} (h : sev ≠ 4) : Quiet d (d.record event key cls inst sev d0 d1 d2) :=
  ⟨(Reported.record d h).bandOut, (Reported.record d h).resets⟩

theorem Quiet.setReg (d : Dev) (base inst item v : Nat) : Quiet d (d.setReg base inst item v) := ⟨d.setReg_bandOut .., d.setReg_resets ..⟩

theorem Quiet.set (d : Dev) (f : Fld) (v inst item : Nat) : Quiet d (d.set f v inst item) := .setReg d _ _ _ _

theorem Quiet.count (d : Dev) (f : Fld) (inst item n : Nat) : Quiet d (d.count f inst item n) := .setReg d _ _ _ _

theorem Quiet.modCell (d : Dev) (pc : Nat) (f : CellState → CellState) : Quiet d (d.modCell pc f) := ⟨rfl, rfl⟩

theorem Quiet.modSlot (d : Dev) (pc : Nat) (f : SlotInfo → SlotInfo) : Quiet d (d.modSlot pc f) := ⟨rfl, rfl⟩

theorem Quiet.migrations (d : Dev) (l : List Migration) : Quiet d { d with migrations := l } := ⟨rfl, rfl⟩

theorem Quiet.suspects (d : Dev) (l : List Nat) : Quiet d { d with suspects := l } := ⟨rfl, rfl⟩

theorem Quiet.regs (d : Dev) (l : SMap Word) : Quiet d { d with regs := l } := ⟨rfl, rfl⟩

theorem Quiet.setWin (d : Dev) (w : Nat) (x : Window) : Quiet d (d.setWin w x) := ⟨rfl, rfl⟩

theorem Quiet.emit (d : Dev) (o : Output) : Quiet d (d.emit o) := ⟨rfl, rfl⟩

theorem Quiet.bumpMapGen (d : Dev) (p : Nat) : Quiet d (d.bumpMapGen p) := .set d _ _ _ _

theorem Quiet.setLmap (d : Dev) (lc st pc : Nat) : Quiet d (d.setLmap lc st pc) := .setReg d _ _ _ _

theorem Quiet.setSlotState (d : Dev) (pc v : Nat) : Quiet d (d.setSlotState pc v) := .setReg d _ _ _ _

/-! ### Freezes -/

theorem Quiet.freezeCell (d : Dev) (pc : Nat) : Quiet d (d.freezeCell pc) := by
  simp only [Dev.freezeCell]
  refine .trans ?_ (.ite (.set _ _ _ _ _) (.refl _))
  refine .trans ?_ (.modCell _ _ _)
  split
  · exact (Quiet.modCell _ _ _).trans ((Quiet.modCell _ _ _).trans (.setReg _ _ _ _ _))
  · exact .modCell _ _ _

theorem Quiet.thawCell (d : Dev) (pc : Nat) : Quiet d (d.thawCell pc) :=
  .trans ((Quiet.modCell d _ _).trans (.modCell _ _ _)) ((Quiet.set _ _ _ _ _).trans ((Quiet.modCell _ _ _).trans (.modCell _ _ _)))

theorem Quiet.setFreeze (d : Dev) (pc : Nat) (f : FreezeSources → FreezeSources) : Quiet d (d.setFreeze pc f) :=
  (Quiet.modCell d _ _).trans (.ite (.freezeCell _ _) (.ite (.thawCell _ _) (.refl _)))

/-! ### Holds -/

theorem Quiet.sendCs (d : Dev) (ports : List Nat) (f : CFlit) : Quiet d (d.sendCs ports f) := by
  refine .foldl (fun d n => .ite ?_ ?_) ports d
  · refine .trans ?_ (.count _ _ _ _ _)
    exact ⟨rfl, rfl⟩
  · refine .trans ?_ (.count _ _ _ _ _)
    exact ⟨rfl, rfl⟩

theorem Quiet.raiseHold (d : Dev) (cause port lc : Nat) : Quiet d (d.raiseHold cause port lc) := by
  have hflood : Quiet d (d.floodHold cause port lc).2 := by
    refine .trans ?_ (.record (sev := 2) _ (by decide))
    refine .trans ?_ (.sendCs _ _ _)
    exact ⟨rfl, rfl⟩
  exact .ite (hflood.trans ⟨rfl, rfl⟩) (.refl d)

/-! ### Channels and slots -/

theorem Quiet.closeChan (d : Dev) (o : Owner) (k : Nat) : Quiet d (d.closeChan o k).2 := by
  have hos : ∀ (d : Dev) (c s : Fld) (v : Nat), Quiet d (d.os o k c s v) := fun d c s v => .set d _ _ _ _
  have hchan : ∀ (d : Dev) (f : ChanState → ChanState), Quiet d (d.modChan o k f) := by
    intro d f
    cases o <;> exact ⟨rfl, rfl⟩
  have hwake : ∀ d : Dev, Quiet d (d.wakeReceivers o k) := by
    intro d
    cases o with
    | cell pc => exact (Quiet.modCell d pc _).trans (.modCell _ _ _)
    | os => exact .refl d
  unfold Dev.closeChan
  split
  · exact .refl d
  · dsimp only
    refine .trans (.trans (.trans (.trans ?_ (hos _ _ _ _)) (hos _ _ _ _)) ((hos _ _ _ _).trans (hchan _ _))) ((hos _ _ _ _).trans (hwake _))
    split
    · exact ⟨rfl, rfl⟩
    · exact .refl d

theorem Quiet.clearSlot (d : Dev) (pc : Nat) : Quiet d (d.clearSlot pc) := ⟨rfl, rfl⟩

theorem Quiet.cellOff (d : Dev) (pc : Nat) : Quiet d (d.cellOff pc) := ⟨rfl, rfl⟩

theorem Quiet.startTest (d : Dev) (pc : Nat) (suspect : Bool) : Quiet d (d.startTest pc suspect) :=
  ((Quiet.setSlotState d _ _).trans (.modSlot _ _ _)).trans ((Quiet.set _ _ _ _ _).trans (.set _ _ _ _ _))

theorem Quiet.abandonTest (d : Dev) (pc : Nat) : Quiet d (d.abandonTest pc) := by
  have hlatch : ∀ (d : Dev) (result : Nat) (suspect : Bool), Quiet d (d.latchTest pc result suspect) := by
    intro d result suspect
    unfold Dev.latchTest
    extract_lets r d1
    have hlast : Quiet d d1 := (((Quiet.set d _ _ _ _).trans (.set _ _ _ _ _)).trans (.set _ _ _ _ _)).trans ((Quiet.set _ _ _ _ _).trans (.set _ _ _ _ _))
    exact hlast.trans (.ite ((Quiet.set _ _ _ _ _).trans (.set _ _ _ _ _)) (.refl _))
  exact (Quiet.modSlot d _ _).trans (hlatch _ _ _)

theorem Quiet.showMigration (d : Dev) (m : Migration) (phase : Nat) : Quiet d (d.showMigration m phase) :=
  ((Quiet.set d _ _ _ _).trans (.set _ _ _ _ _)).trans ((Quiet.set _ _ _ _ _).trans (.set _ _ _ _ _))

theorem Quiet.dropMigration (d : Dev) (m : Migration) : Quiet d (d.dropMigration m) := (Quiet.migrations d _).trans (.showMigration _ _ _)

theorem Quiet.startMigration (d : Dev) (lc src dst : Nat) (live : Bool) : Quiet d (d.startMigration lc src dst live) := by
  unfold Dev.startMigration
  extract_lets d1 p d2 d3 d4 m d5
  have htest : Quiet d d1 := .ite (.abandonTest d dst) (.refl d)
  have hmap : Quiet d1 d4 := ((Quiet.bumpMapGen _ _).trans (.setSlotState _ _ _)).trans ((Quiet.setLmap _ _ _ _).trans (.bumpMapGen _ _))
  exact ((htest.trans hmap).trans ((Quiet.migrations _ _).trans (.showMigration _ _ _))).trans (.setFreeze _ _ _)

theorem Quiet.dropLogical (d : Dev) (pc dst : Nat) : Quiet d (d.dropLogical pc dst) := by
  have hclose : ∀ (d : Dev) (pc : Nat), Quiet d (d.closeChans pc) := fun d pc => .foldl (fun d k => .closeChan d _ k) _ d
  unfold Dev.dropLogical
  extract_lets d1 gens src f d2
  have hclear : Quiet d1 d2 := (Quiet.clearSlot d1 pc).trans (.clearSlot _ dst)
  exact (((hclose d pc).trans (hclose _ dst)).trans hclear).trans ((Quiet.regs d2 _).trans (.modCell _ _ _))

theorem Quiet.capacityLoss (d : Dev) (x : Nat) : Quiet d (d.capacityLoss x) := by
  unfold Dev.capacityLoss
  split
  · exact .refl d
  · dsimp only
    refine .trans ?_ ((Quiet.emit _ _).trans (.count _ _ _ _ _))
    refine .trans ?_ (.record (sev := 2) _ (by decide))
    refine .trans ?_ ((Quiet.setReg _ _ _ _ _).trans ((Quiet.set _ _ _ _ _).trans (.bumpMapGen _ _)))
    refine .trans ?_ (.startTest _ _ _)
    refine .trans ?_ (.ite (.refl _) (.setLmap _ _ _ _))
    refine .trans ?_ ((Quiet.dropLogical _ _ _).trans ((Quiet.bumpMapGen _ _).trans (.setLmap _ _ _ _)))
    exact ⟨rfl, rfl⟩

/-! ### Suspects and migrations -/

theorem Quiet.moveSuspect (d : Dev) (lc : Nat) : Quiet d (d.moveSuspect lc) := by
  have hhold : ∀ b : Bool, Quiet d (if b then d else d.raiseHold 7 0xFF lc) := fun b => .ite (.refl d) (.raiseHold d _ _ _)
  unfold Dev.moveSuspect
  split
  · exact .suspects d _
  · split
    · exact (Quiet.modSlot d _ _).trans (.suspects _ _)
    · split
      · exact .refl d
      · split
        · exact .ite (hhold _) (.capacityLoss d lc)
        · exact .ite (hhold _) (((Quiet.modSlot d _ _).trans (.suspects _ _)).trans (.startMigration _ _ _ _ _))

theorem Quiet.suspectSlot (d : Dev) (pc : Nat) : Quiet d (d.suspectSlot pc) := by
  unfold Dev.suspectSlot
  split
  · exact .ite (.refl d) ((Quiet.suspects d _).trans (.moveSuspect _ _))
  · exact .ite (.startTest d pc true) (.refl d)

theorem Quiet.abortMigration (d : Dev) (m : Migration) : Quiet d (d.abortMigration m) := by
  simp only [Dev.abortMigration]
  refine .trans ?_ (.foldl (fun d lc => .moveSuspect d lc) _ _)
  refine .trans ?_ (.ite (.record (sev := 2) _ (by decide)) (.refl _))
  refine .trans ?_ ((Quiet.record (sev := 0) _ (by decide)).trans (.set _ _ _ _ _))
  refine .trans ?_ ((Quiet.setFreeze _ _ _).trans (.count _ _ _ _ _))
  refine .trans ?_ ((Quiet.bumpMapGen _ _).trans (.dropMigration _ _))
  exact ((Quiet.bumpMapGen d _).trans (.setLmap _ _ _ _)).trans ((Quiet.clearSlot _ _).trans (.setSlotState _ _ _))

theorem Quiet.closeCellWindows (d : Dev) (lc : Nat) : Quiet d (d.closeCellWindows lc) :=
  .foldl (fun d w => .ite (.setWin d w (d.win w).closed) (.refl d)) _ d

theorem Quiet.showStages (d : Dev) (p : Nat) : Quiet d (d.showStages p) :=
  .foldl (fun d _ => (Quiet.set d _ _ _ _).trans (.set _ _ _ _ _)) _ d

/-- The last part of a rehost (R481): the cell takes the first eligible slot without a copy, or the device loses capacity. -/
def Dev.settle (d : Dev) (pc lc : Nat) : Dev :=
  match d.suspectTarget pc with
  | none => d.capacityLoss lc
  | some dst =>
    let p := pc / 68
    let d := if d.slotState dst = 2 then d.abandonTest dst else d
    let d := (d.dropLogical pc dst).bumpMapGen p
    let d := ((d.setLmap lc 0 dst).setSlotState dst 0).startTest pc true
    (d.bumpMapGen p).showStages p

/-- A rehost by its steps: windows closed, a hold raised, a migration dropped, the cell no suspect, and a new slot. -/
theorem Dev.rehost_eq {d d1 d2 d3 : Dev} {lc : Nat} (h1 : d.closeCellWindows lc = d1)
    (h2 : (if d1.running && d1.sched.hold.isNone then d1.raiseHold 7 0xFF lc else d1) = d2)
    (h3 : (match d2.migrationOf lc with
      | some m => ((d2.clearSlot m.dst).setSlotState m.dst 1).dropMigration m
      | none => d2) = d3) (pc : Nat) :
    d.rehost pc lc = Dev.settle { d3 with suspects := d3.suspects.filter (fun l => l != lc) } pc lc := by
  rw [Dev.rehost, h1, h2]
  cases hm : d2.migrationOf lc with
  | none =>
    simp only [hm] at h3 ⊢
    rw [h3]
    rfl
  | some m =>
    simp only [hm] at h3 ⊢
    rw [h3]
    rfl

theorem Quiet.settle (d : Dev) (pc lc : Nat) : Quiet d (d.settle pc lc) := by
  unfold Dev.settle
  split
  · exact .capacityLoss d lc
  · extract_lets p d1 d2 d3
    have htest : Quiet d d1 := .ite (.abandonTest d _) (.refl d)
    have hmap : Quiet d2 d3 := ((Quiet.setLmap _ _ _ _).trans (.setSlotState _ _ _)).trans (.startTest _ _ _)
    exact (htest.trans ((Quiet.dropLogical _ _ _).trans (.bumpMapGen _ _))).trans (hmap.trans ((Quiet.bumpMapGen _ _).trans (.showStages _ _)))

theorem Quiet.rehost (d : Dev) (pc lc : Nat) : Quiet d (d.rehost pc lc) := by
  obtain ⟨d1, h1⟩ : ∃ d1, d.closeCellWindows lc = d1 := ⟨_, rfl⟩
  obtain ⟨d2, h2⟩ : ∃ d2, (if d1.running && d1.sched.hold.isNone then d1.raiseHold 7 0xFF lc else d1) = d2 := ⟨_, rfl⟩
  have hwins : Quiet d d1 := h1 ▸ .closeCellWindows d lc
  have hhold : Quiet d1 d2 := h2 ▸ .ite (.raiseHold d1 _ _ _) (.refl d1)
  rw [Dev.rehost_eq h1 h2 rfl]
  refine (hwins.trans hhold).trans (.trans ?_ ((Quiet.suspects _ _).trans (.settle _ _ _)))
  split
  · exact ((Quiet.clearSlot d2 _).trans (.setSlotState _ _ _)).trans (.dropMigration _ _)
  · exact .refl d2

end Sys2Proof.Machine
end

section
namespace Sys2Proof.Machine

/-! ## Bytes in storage -/

theorem leBytes_length (n v : Nat) : (leBytes n v).length = n := by
  induction n generalizing v with
  | zero => rfl
  | succ n ih => simp only [leBytes, List.length_cons, ih]

/-- Bytes of a number do not see what lies above them. -/
theorem leBytes_mod (n v : Nat) : leBytes n (v % 256 ^ n) = leBytes n v := by
  induction n generalizing v with
  | zero => rfl
  | succ n ih =>
    have hlow : BitVec.ofNat 8 (v % 256 ^ (n + 1)) = BitVec.ofNat 8 v := by
      apply BitVec.eq_of_toNat_eq
      rw [BitVec.toNat_ofNat, BitVec.toNat_ofNat]
      exact Nat.mod_mod_of_dvd v ⟨256 ^ n, by rw [Nat.pow_succ, Nat.mul_comm]⟩
    have hhigh : v % 256 ^ (n + 1) / 256 = v / 256 % 256 ^ n := by
      rw [Nat.pow_succ, Nat.mul_comm, Nat.mod_mul_right_div_self]
    rw [leBytes, leBytes, hlow, hhigh, ih]

theorem Memory.read_length (m : List (Nat × Byte)) (a n : Nat) : (Memory.read m a n).length = n := by
  induction n generalizing a with
  | zero => rfl
  | succ n ih => simp only [Memory.read, List.length_cons, ih]

theorem Memory.read_add (m : List (Nat × Byte)) (a n k : Nat) : Memory.read m a (n + k) = Memory.read m a n ++ Memory.read m (a + n) k := by
  induction n generalizing a with
  | zero => rw [Nat.zero_add]; rfl
  | succ n ih =>
    have hn : n + 1 + k = n + k + 1 := by omega
    have ha : a + 1 + n = a + (n + 1) := by omega
    rw [hn, Memory.read, Memory.read, ih, List.cons_append, ha]

/-- Part of a store reads back. -/
theorem Memory.read_write_part (m : List (Nat × Byte)) (a : Nat) (xs ys zs : List Byte) :
    Memory.read (Memory.write m a (xs ++ ys ++ zs)) (a + xs.length) ys.length = ys := by
  have h := Memory.read_write_same m a (xs ++ ys ++ zs)
  rw [List.length_append, List.length_append, Memory.read_add, Memory.read_add] at h
  have hfront := List.append_inj_left h (by simp only [List.length_append, Memory.read_length])
  exact List.append_inj_right hfront (Memory.read_length ..)

theorem BytesStand.refl (d : Dev) (a n : Nat) : BytesStand d d a n := fun _ _ => rfl

theorem BytesStand.trans {d d' d'' : Dev} {a n : Nat} (h : BytesStand d d' a n) (h' : BytesStand d' d'' a n) : BytesStand d d'' a n :=
  fun x hx => (h' x hx).trans (h x hx)

/-- A part of a range stands outside the whole. -/
theorem BytesStand.widen {d d' : Dev} {a n b k : Nat} (h : BytesStand d d' a n) (hlo : b ≤ a) (hhi : a + n ≤ b + k) : BytesStand d d' b k :=
  fun x hx => h x (by omega)

theorem BytesStand.of_mem {d d' : Dev} (h : d'.mem = d.mem) (a n : Nat) : BytesStand d d' a n := fun _ _ => by rw [h]

theorem BytesStand.store (d : Dev) (a : Nat) (bs : List Byte) : BytesStand d (d.store a bs) a bs.length :=
  fun x hx => Memory.byte_write_outside d.mem a x bs hx

theorem BytesStand.zeroMem (d : Dev) (a n : Nat) : BytesStand d (d.zeroMem a n) a n := fun x hx => by
  rw [Dev.zeroMem, Memory.byte_zero, if_neg (by omega)]

/-- Bytes that stand read as before. -/
theorem BytesStand.load {d d' : Dev} {a n : Nat} (h : BytesStand d d' a n) {b k : Nat} (hb : b + k ≤ a ∨ a + n ≤ b) : d'.load b k = d.load b k := by
  unfold Dev.load
  induction k generalizing b with
  | zero => rfl
  | succ k ih => rw [Memory.read, Memory.read, h b (by omega), ih (by omega)]

theorem Dev.store_mem (d : Dev) (a : Nat) (bs : List Byte) : (d.store a bs).mem = Memory.write d.mem a bs := rfl

theorem Dev.load_of_mem {d d' : Dev} (h : d'.mem = d.mem) (a n : Nat) : d'.load a n = d.load a n := by
  rw [Dev.load, Dev.load, h]

theorem Dev.load_store_same (d : Dev) (a : Nat) (bs : List Byte) {n : Nat} (h : bs.length = n) : (d.store a bs).load a n = bs := by
  subst h
  exact Memory.read_write_same d.mem a bs

/-- Part of a store reads back where it was put. -/
theorem Dev.load_store_part (d : Dev) {a b n : Nat} (xs ys zs : List Byte) (hb : b = a + xs.length) (hn : ys.length = n) :
    (d.store a (xs ++ ys ++ zs)).load b n = ys := by
  subst hb hn
  exact Memory.read_write_part d.mem a xs ys zs

/-! ## What the registers of the partitions say (Tables 01-3, 01-4) -/

/-- A register of class 0x01, without a bank. -/
def PartKey (k : Nat) : Prop := 0x1000000 ≤ k ∧ k < 0x2000000

/-- No register of another class. -/
theorem not_partKey {base inst item : Nat} (h : regKey base inst item < 0x1000000 ∨ 0x2000000 ≤ regKey base inst item) : ¬ PartKey (regKey base inst item) := by
  rw [PartKey]
  omega

theorem Keeps.hostOf {d d' : Dev} (h : Keeps PartKey d d') {lc : Nat} (hlc : lc < 512) : d'.hostOf lc = d.hostOf lc ∧ d'.migrating lc = d.migrating lc := by
  have hentry : d'.lmap lc = d.lmap lc := by
    rw [Dev.lmap, Dev.lmap, h.reg]
    simp only [PartKey, regKey]
    omega
  exact ⟨by rw [Dev.hostOf, Dev.hostOf, hentry], by rw [Dev.migrating, Dev.migrating, hentry]⟩

theorem Keeps.hosted {d d' : Dev} (h : Keeps PartKey d d') (pc : Slot) : d'.hosted pc = d.hosted pc := by
  rw [Dev.hosted, Dev.hosted]
  refine List.find?_congr fun lc hlc => ?_
  obtain ⟨i, hi, rfl⟩ := List.mem_map.1 hlc
  have hi := List.mem_range.1 hi
  rw [(h.hostOf (by omega)).1]

theorem Keeps.slotState {d d' : Dev} (h : Keeps PartKey d d') (pc : Slot) : d'.slotState pc = d.slotState pc := by
  rw [Dev.slotState, Dev.slotState, h.reg]
  simp only [PartKey, regKey]
  omega

theorem Keeps.mapGens {d d' : Dev} (h : Keeps PartKey d d') : d'.mapGens = d.mapGens := by
  refine List.map_congr_left fun p hp => h.get F.PART_MAP_GEN_GEN ?_
  have hp := List.mem_range.1 hp
  simp only [PartKey, regKey]
  omega

/-! ## The rows of the distance table (R37 to R39) -/

theorem Keeps.distRow {d d' : Dev} (h : Keeps PartKey d d') (lc : Lc) : d'.distRow lc = d.distRow lc := by
  rw [Dev.distRow, (h.hostOf lc.isLt).1, Dev.distRow]

/-- 28 entries of four bytes and 16 bytes of zero, or all zero. -/
theorem Dev.distRow_length (d : Dev) (lc : Nat) : (d.distRow lc).length = 128 := by
  simp only [Dev.distRow]
  split
  · simp only [List.length_append, List.length_flatMap, leBytes_length, List.map_const', List.length_range, List.sum_replicate,
      List.length_replicate]
    rfl
  · exact List.length_replicate

/-- The first `n` rows of the table at `a`. -/
def Dev.storeRows (d : Dev) (a n : Nat) : Dev := (List.range n).foldl (fun d lc => d.store (a + 128 * lc) (d.distRow lc)) d

theorem Dev.storeRows_succ (d : Dev) (a n : Nat) : d.storeRows a (n + 1) = (d.storeRows a n).store (a + 128 * n) ((d.storeRows a n).distRow n) := by
  simp only [Dev.storeRows, List.range_succ, List.foldl_append, List.foldl_cons, List.foldl_nil]

/-- Rows are storage alone. -/
theorem Dev.storeRows_frame (d : Dev) (a n : Nat) : d.storeRows a n = { d with mem := (d.storeRows a n).mem } := by
  induction n with
  | zero => rfl
  | succ n ih =>
    rw [Dev.storeRows_succ, ih]
    rfl

theorem Dev.storeRows_regs (d : Dev) (a n : Nat) : (d.storeRows a n).regs = d.regs := by
  rw [d.storeRows_frame a n]

theorem Dev.storeRows_bytes (d : Dev) (a n : Nat) : BytesStand d (d.storeRows a n) a (128 * n) := by
  induction n with
  | zero => exact .refl d a _
  | succ n ih =>
    rw [Dev.storeRows_succ]
    refine (ih.widen (by omega) (by omega)).trans ((BytesStand.store _ _ _).widen (by omega) ?_)
    rw [Dev.distRow_length]
    omega

/-- Each row stands at its place. -/
theorem Dev.storeRows_row (d : Dev) (a n : Nat) (lc : Lc) (hlc : lc.val < n) : (d.storeRows a n).load (a + 128 * lc) 128 = d.distRow lc := by
  induction n with
  | zero => omega
  | succ n ih =>
    rw [Dev.storeRows_succ]
    by_cases h : lc.val = n
    · subst h
      rw [Dev.load_store_same _ _ _ (Dev.distRow_length _ _), (Keeps.of_regs (d.storeRows_regs a lc)).distRow lc]
    · rw [(BytesStand.store _ _ _).load (by omega)]
      exact ih (by omega)

/-! ## The registers of the distance table (Tables 01-6 and 01-7) -/

/-- Bit i of a number is its field from i to i. -/
theorem bitsOf_bit (v i : Nat) : (bitsOf v i i != 0) = bitOf v i := by
  have hwidth : i + 1 - i = 1 := by omega
  rw [bitsOf, bitOf, hwidth, Nat.testBit]
  congr 1
  rw [Nat.one_and_eq_mod_two, Nat.pow_one]

/-- A bit after a write by the access codes: RW bits take the value written, W1C bits that are written as one are cleared (R12). -/
theorem maskWrite_bit (rw w1c old v : Nat) {i : Nat} (hi : i < 64) (hrw : rw < 2 ^ 64) (hw1c : w1c < 2 ^ 64) :
    bitOf (maskWrite rw w1c old v) i = ((if bitOf rw i then bitOf v i else bitOf old i) && !(bitOf v i && bitOf w1c i)) := by
  have hclear : v &&& w1c < 2 ^ 64 := Nat.lt_of_le_of_lt Nat.and_le_right hw1c
  have hsub : ∀ x, 2 ^ 64 - 1 - x = 2 ^ 64 - (x + 1) := fun x => by omega
  simp only [bitOf, maskWrite, hsub, Nat.testBit_and, Nat.testBit_or, Nat.testBit_two_pow_sub_succ hrw, Nat.testBit_two_pow_sub_succ hclear, hi,
    decide_true, Bool.true_and]
  by_cases h : rw.testBit i = true
  · simp [h]
  · simp [h]

/-- A field all of whose bits are RW and not W1C takes the value written. -/
theorem maskWrite_field (rw w1c old v : Nat) {hi lo : Nat} (h : hi < 64) (hrw : rw < 2 ^ 64) (hw1c : w1c < 2 ^ 64)
    (hbits : ∀ i ≤ hi, lo ≤ i → bitOf rw i = true ∧ bitOf w1c i = false) : bitsOf (maskWrite rw w1c old v) hi lo = bitsOf v hi lo := by
  apply Nat.eq_of_testBit_eq
  intro i
  simp only [bitsOf, Nat.testBit_mod_two_pow, Nat.testBit_shiftRight]
  by_cases hin : i < hi + 1 - lo
  · obtain ⟨hset, hkeep⟩ := hbits (lo + i) (by omega) (by omega)
    have := maskWrite_bit rw w1c old v (i := lo + i) (by omega) hrw hw1c
    rw [hset, hkeep, Bool.and_false, Bool.not_false, Bool.and_true, if_pos rfl] at this
    simp only [bitOf] at this
    rw [this]
  · simp only [hin, decide_false, Bool.false_and]

/-- A plain write of DEV_DIST_BASE: EN and BASE are RW, ERR is W1C (Table 01-6). -/
theorem Dev.writePlain_distBase {d : Dev} (hup : d.power.mainUp = true) (m : Master) (v : Nat) :
    d.writePlain m false 0 0 0x100 v = d.setReg F.DEV_DIST_BASE.base 0 0 (maskWrite 0x8000fffffffff000 0x2 (d.reg F.DEV_DIST_BASE.base) v) := by
  have hreg : findReg 0 0 0x100 = some ⟨0x0, 0x100, 1, 8, 0x8000fffffffff000, 0x2, 0x0, 0x0, .none, false⟩ := rfl
  have hon : d.blockOn 0 0 0x100 = true := by simp [Dev.blockOn, hup, alwaysOnReg]
  simp [Dev.writePlain, hreg, hon, instAbsent, classInstances, Dev.bankItem, Dev.rwNow, Dev.clampReg]

/-- What a plain write leaves in DEV_DIST_BASE. -/
theorem Dev.writePlain_distBase_fields {d : Dev} (hup : d.power.mainUp = true) (m : Master) (v : Nat) :
    (d.writePlain m false 0 0 0x100 v).bit F.DEV_DIST_BASE_EN = bitOf v 63 ∧
    (d.writePlain m false 0 0 0x100 v).get F.DEV_DIST_BASE_BASE = bitsOf v 47 12 ∧
    (d.writePlain m false 0 0 0x100 v).bit F.DEV_DIST_BASE_ERR = (d.bit F.DEV_DIST_BASE_ERR && !bitOf v 1) := by
  have hbits : ∀ i ≤ 47, 12 ≤ i → bitOf 0x8000fffffffff000 i = true ∧ bitOf 0x2 i = false := by decide
  have hen : bitOf 0x8000fffffffff000 63 = true ∧ bitOf 0x2 63 = false := by decide
  have herr : bitOf 0x8000fffffffff000 1 = false ∧ bitOf 0x2 1 = true := by decide
  have hlt := maskWrite_lt 0x8000fffffffff000 0x2 (d.reg F.DEV_DIST_BASE.base) v
  simp only [d.writePlain_distBase hup, Dev.bit, Dev.get, Dev.reg_setReg_same, Nat.mod_eq_of_lt hlt, bitsOf_bit]
  refine ⟨?_, maskWrite_field _ _ _ _ (by decide) (by decide) (by decide) hbits, ?_⟩
  · rw [maskWrite_bit _ _ _ _ (by decide) (by decide) (by decide), hen.1, hen.2]
    simp
  · rw [maskWrite_bit _ _ _ _ (by decide) (by decide) (by decide), herr.1, herr.2]
    simp

/-! ## Updates (R40 to R42) -/

/-- An update may start: it is due at a valid base with EN set, none runs, and far memory is there. -/
def Dev.distMayStart (d : Dev) : Prop :=
  d.bit F.DEV_DIST_BASE_EN = true ∧ d.distDue = true ∧ d.distBad = false ∧ d.distRun = none ∧ d.deviceResetting = false ∧ d.get F.DEV_FAR_SIZE_SIZE ≠ 0

theorem Dev.distStart_idle {d : Dev} (h : ¬ d.distMayStart) : d.distStart = d := by
  rw [Dev.distStart, if_pos]
  simp only [Dev.distMayStart, not_and_or, Bool.not_eq_true, Bool.not_eq_false, ne_eq, Decidable.not_not, ← Option.isSome_iff_ne_none] at h
  simp only [Bool.or_eq_true, Bool.not_eq_true', decide_eq_true_eq]
  tauto

/-- With an invalid BASE nothing is written (R42). -/
theorem Dev.distStart_invalid {d : Dev} (h : d.distMayStart) (hin : d.inCarve d.distBase distSize = false) :
    d.distStart = Dev.set { d with distBad := true } F.DEV_DIST_BASE_ERR 1 := by
  obtain ⟨hen, hdue, hbad, hrun, hreset, hfar⟩ := h
  simp [Dev.distStart, hen, hdue, hbad, hrun, hreset, hfar, hin]

/-- GEN advances to odd, in its register and in the table. -/
def Dev.openTable (d : Dev) : Dev := (d.set F.DEV_DIST_GEN_GEN (d.get F.DEV_DIST_GEN_GEN + 1)).storeNat d.distBase 4 (d.get F.DEV_DIST_GEN_GEN + 1)

/-- The rows are stored behind it. -/
def Dev.storeTable (d : Dev) : Dev := d.openTable.storeRows (d.distBase + 0x80) 512

theorem Dev.distStart_valid {d : Dev} (h : d.distMayStart) (hin : d.inCarve d.distBase distSize = true) :
    d.distStart = { d.storeTable with distRun := some d.distBase, distSeen := d.storeTable.mapGens } := by
  obtain ⟨hen, hdue, hbad, hrun, hreset, hfar⟩ := h
  simp only [Dev.distStart, hen, hdue, hbad, hrun, hreset, hfar, hin, Option.isSome_none, Bool.not_true, Bool.or_self, decide_false, Bool.false_eq_true, if_false]
  rfl

/-- Of the registers GEN alone changes. -/
theorem Dev.storeTable_reg (d : Dev) {base inst item : Nat} (h : regKey base inst item ≠ regKey F.DEV_DIST_GEN.base 0 0) :
    d.storeTable.reg base inst item = d.reg base inst item := by
  rw [Dev.storeTable, Dev.reg_of_regs (Dev.storeRows_regs ..)]
  exact Dev.reg_setReg_other d _ h

theorem Dev.openTable_bytes (d : Dev) : BytesStand d d.openTable d.distBase 4 :=
  (BytesStand.of_mem (d.set_mem ..) _ _).trans ((BytesStand.store _ _ _).widen (Nat.le_refl _) (by rw [leBytes_length]))

theorem Dev.storeTable_bytes (d : Dev) : BytesStand d.openTable d.storeTable (d.distBase + 0x80) (128 * 512) := Dev.storeRows_bytes _ _ _

theorem distRowsWritten_of_storeTable {d d' : Dev} (hrun : d'.distRun = some d.distBase) (hmem : d'.mem = d.storeTable.mem)
    (hseen : d'.distSeen = d.storeTable.mapGens) : DistRowsWritten d d' d.distBase := by
  have hopen : Keeps PartKey d d.openTable := (Keeps.set d _ _ 0 0 (not_partKey (.inl (by decide)))).trans (.of_regs rfl)
  have hgens : Keeps PartKey d d.storeTable := ⟨fun hk => d.storeTable_reg fun he => not_partKey (.inl (by decide)) (he ▸ hk)⟩
  refine ⟨hrun, ?_, fun lc => ?_, fun x hx => ?_, hseen.trans hgens.mapGens⟩
  · rw [Dev.load_of_mem hmem, d.storeTable_bytes.load (by omega)]
    exact Dev.load_store_same _ _ _ (leBytes_length _ _)
  · rw [Dev.load_of_mem hmem, ← hopen.distRow lc]
    exact Dev.storeRows_row _ _ 512 lc lc.isLt
  · simp only [distSize] at hx
    rw [hmem]
    exact (d.storeTable_bytes x (by omega)).trans (d.openTable_bytes x (by omega))

/-- Padding begins behind the bytes that fit. -/
theorem padTo_append {n : Nat} {xs : List Byte} (h : xs.length ≤ n) (ys : List Byte) :
    padTo n (xs ++ ys) = xs ++ (ys ++ List.replicate n 0).take (n - xs.length) := by
  rw [padTo, List.append_assoc, List.take_append, List.take_of_length_le h]

/-- The header behind GEN as far as BEAT, which starts at offset 0x10 of the table (Table 01-5). -/
def Dev.distFront (d : Dev) : List Byte := leBytes 2 1 ++ leBytes 2 128 ++ leBytes 2 28 ++ leBytes 2 4 ++ leBytes 4 0 ++ leBytes 8 d.beat

/-- The header with PART_MAP_GEN as the rows reflect it. -/
def Dev.distHeader (d : Dev) : List Byte := padTo 124 (d.distFront ++ (List.range 8).flatMap (fun p => leBytes 4 (d.distSeen.getD p 0)))

/-- The header and an even GEN are stored, and no update runs. -/
def Dev.closeTable (d : Dev) (b : Nat) : Dev :=
  { ((d.store (b + 4) d.distHeader).set F.DEV_DIST_GEN_GEN (d.get F.DEV_DIST_GEN_GEN + 1)).storeNat b 4 ((d.get F.DEV_DIST_GEN_GEN + 1) % 2 ^ 32) with distRun := none }

theorem Dev.distEnd_idle {d : Dev} (h : d.distRun = none) : d.distEnd = d := by
  rw [Dev.distEnd, h]

theorem Dev.distEnd_eq {d : Dev} {b : Nat} (hrun : d.distRun = some b) : d.distEnd = (d.closeTable b).distStart := by
  simp only [Dev.distEnd, hrun]
  rfl

theorem Dev.distHeader_eq (d : Dev) : ∃ rest, d.distHeader = d.distFront ++ rest ∧ rest.length = 104 := by
  have hlen : d.distFront.length = 20 := by simp only [Dev.distFront, List.length_append, leBytes_length]
  refine ⟨_, padTo_append (by omega) _, ?_⟩
  rw [List.length_take, List.length_append, List.length_replicate, hlen]
  omega

/-- What the end of an update leaves in storage (R40). -/
theorem Dev.closeTable_stored (d : Dev) (b : Nat) : (d.closeTable b).load b 4 = leBytes 4 (d.get F.DEV_DIST_GEN_GEN + 1) ∧
    (d.closeTable b).load (b + 4) 8 = leBytes 2 1 ++ leBytes 2 128 ++ leBytes 2 28 ++ leBytes 2 4 ∧
    (d.closeTable b).load (b + 0x10) 8 = leBytes 8 d.beat ∧ BytesStand d (d.closeTable b) b 0x80 := by
  obtain ⟨rest, hheader, hrest⟩ := d.distHeader_eq
  have hlen : d.distHeader.length = 124 := by
    simp only [hheader, Dev.distFront, List.length_append, leBytes_length, hrest]
  have hmem : (d.closeTable b).mem = ((d.store (b + 4) d.distHeader).store b (leBytes 4 ((d.get F.DEV_DIST_GEN_GEN + 1) % 2 ^ 32))).mem := by
    simp only [Dev.closeTable, Dev.storeNat, Dev.store_mem, Dev.set_mem]
  have hgen : BytesStand (d.store (b + 4) d.distHeader) (d.closeTable b) b 4 := by
    refine .trans ?_ (.of_mem hmem _ _)
    exact (BytesStand.store _ _ _).widen (Nat.le_refl _) (by rw [leBytes_length])
  refine ⟨?_, ?_, ?_, ?_⟩
  · rw [Dev.load_of_mem hmem, Dev.load_store_same _ _ _ (leBytes_length _ _)]
    exact leBytes_mod 4 _
  · rw [hgen.load (by omega), hheader]
    have h := d.load_store_part (a := b + 4) (b := b + 4) (n := 8) [] (leBytes 2 1 ++ leBytes 2 128 ++ leBytes 2 28 ++ leBytes 2 4) (leBytes 4 0 ++ leBytes 8 d.beat ++ rest) rfl
      (by simp only [List.length_append, leBytes_length])
    simpa only [Dev.distFront, List.nil_append, List.append_assoc] using h
  · rw [hgen.load (by omega), hheader]
    refine d.load_store_part _ (leBytes 8 d.beat) rest ?_ (leBytes_length _ _)
    simp only [List.length_append, leBytes_length]
  · refine .trans ((BytesStand.store d _ _).widen ?_ ?_) (hgen.widen ?_ ?_) <;> omega

theorem Dev.closeTable_distDue (d : Dev) (b : Nat) : (d.closeTable b).distDue = d.distDue := by
  have hstore : ∀ (d : Dev) (a : Nat) (bs : List Byte), Keeps PartKey d (d.store a bs) := fun d a bs => .of_regs rfl
  have hrun : ∀ (d : Dev) (r : Option Nat), Keeps PartKey d { d with distRun := r } := fun d r => .of_regs rfl
  have hgens : Keeps PartKey d (d.closeTable b) :=
    ((hstore d _ _).trans (.set _ _ _ 0 0 (not_partKey (.inl (by decide))))).trans ((hstore _ _ _).trans (hrun _ _))
  have hseen : (d.closeTable b).distSeen = d.distSeen := by simp only [Dev.closeTable, Dev.storeNat, Dev.store_distSeen, Dev.set_distSeen]
  rw [Dev.distDue, Dev.distDue, hgens.mapGens, hseen]

/-- An update that ends with no other due (R40, R41). -/
theorem Dev.distEnd_ends {d : Dev} {b : Nat} (hrun : d.distRun = some b) (hdue : d.distDue = false) : d.distEnd = d.closeTable b := by
  rw [Dev.distEnd_eq hrun]
  refine Dev.distStart_idle fun h => ?_
  obtain ⟨-, hd, -⟩ := h
  rw [d.closeTable_distDue, hdue] at hd
  exact Bool.noConfusion hd

/-! ## The commands of the distance table -/

theorem Does.of_runMain {c : Instr} {d : Dev} {f : Dev → Dev} {post : Dev → Prop} (hup : d.power.mainUp = true) (h : ∀ s, exec c s = s.runMain f)
    (hp : post (f d)) : Does c d post := fun q => ⟨f d, by rw [h, State.runMain_up _ _ hup], hp⟩

theorem Does.distUpdateStart {d : Dev} {post : Dev → Prop} (hup : d.power.mainUp = true) (h : post d.distStart) : Does .distUpdateStart d post :=
  .of_runMain hup (fun _ => rfl) h

theorem Does.distUpdateEnd {d : Dev} {post : Dev → Prop} (hup : d.power.mainUp = true) (h : post d.distEnd) : Does .distUpdateEnd d post :=
  .of_runMain hup (fun _ => rfl) h

/-- What a write of DEV_DIST_BASE does once the register is written (R41, R42). -/
def Dev.checkBase (d : Dev) : Dev :=
  if !d.bit F.DEV_DIST_BASE_EN then d
  else if !d.inCarve d.distBase distSize then Dev.set { d with distBad := true } F.DEV_DIST_BASE_ERR 1
  else Dev.distStart { d with distSeen := [], distBad := false }

theorem Does.distBaseWrite {m : Master} {v : Word} {d : Dev} {post : Dev → Prop} (hup : d.power.mainUp = true)
    (h : post (d.writePlain m false 0 0 0x100 v.toNat).checkBase) : Does (.distBaseWrite m v) d post :=
  .of_runMain (f := fun d => (d.writePlain m false 0 0 0x100 v.toNat).checkBase) hup (fun _ => rfl) h

end Sys2Proof.Machine
end

section
namespace Sys2Proof.Machine

/-! ## DEV_DIST_BASE and the carve-out (R42) -/

/-- What a base is checked against, and what decides whether an update may start. -/
def FarKey (k : Nat) : Prop := k = regKey F.DEV_FAR_SIZE.base 0 0 ∨ k = regKey F.DEV_FAR_CARVE.base 0 0

theorem Keeps.inCarve {d d' : Dev} (h : Keeps FarKey d d') (a n : Nat) : d'.inCarve a n = d.inCarve a n := by
  have hcarve : d'.carve = d.carve := by rw [Dev.carve, Dev.carve, h.get F.DEV_FAR_CARVE_GIB (.inr rfl)]
  rw [Dev.inCarve, Dev.inCarve, hcarve, h.get F.DEV_FAR_SIZE_SIZE (.inl rfl)]

/-- The register written, and nothing else. -/
theorem Dev.writePlain_distBase_frame {d : Dev} (hup : d.power.mainUp = true) (m : Master) (v : Nat) :
    Keeps (fun k => k ≠ regKey F.DEV_DIST_BASE.base 0 0) d (d.writePlain m false 0 0 0x100 v) ∧
    (d.writePlain m false 0 0 0x100 v).mem = d.mem ∧ (d.writePlain m false 0 0 0x100 v).distRun = d.distRun ∧
    (d.writePlain m false 0 0 0x100 v).deviceResetting = d.deviceResetting := by
  rw [d.writePlain_distBase hup]
  exact ⟨.setReg d _ _ _ _ fun hk => hk rfl, d.setReg_mem .., d.setReg_distRun .., (Quiet.setReg d _ _ _ _).deviceResetting⟩

theorem Dev.checkBase_off {d : Dev} (hen : d.bit F.DEV_DIST_BASE_EN = false) : d.checkBase = d := by
  simp only [Dev.checkBase, hen, Bool.not_false, if_true]

theorem Dev.checkBase_invalid {d : Dev} (hen : d.bit F.DEV_DIST_BASE_EN = true) (hin : d.inCarve d.distBase distSize = false) :
    d.checkBase = Dev.set { d with distBad := true } F.DEV_DIST_BASE_ERR 1 := by
  simp only [Dev.checkBase, hen, hin, Bool.not_true, Bool.not_false, Bool.false_eq_true, if_false, if_true]

theorem Dev.checkBase_valid {d : Dev} (hen : d.bit F.DEV_DIST_BASE_EN = true) (hin : d.inCarve d.distBase distSize = true) :
    d.checkBase = Dev.distStart { d with distSeen := [], distBad := false } := by
  simp only [Dev.checkBase, hen, hin, Bool.not_true, Bool.false_eq_true, if_false]

/-- ERR is set beside the note that the base is bad. -/
theorem Dev.markBad_effect (d : Dev) : (Dev.set { d with distBad := true } F.DEV_DIST_BASE_ERR 1).bit F.DEV_DIST_BASE_ERR = true ∧
    (Dev.set { d with distBad := true } F.DEV_DIST_BASE_ERR 1).distBad = true ∧
    (Dev.set { d with distBad := true } F.DEV_DIST_BASE_ERR 1).mem = d.mem ∧
    (Dev.set { d with distBad := true } F.DEV_DIST_BASE_ERR 1).distRun = d.distRun := by
  refine ⟨?_, Dev.set_distBad .., Dev.set_mem .., Dev.set_distRun ..⟩
  rw [Dev.bit, Dev.get_set_same _ _ _ _ _ (by decide) (by decide)]
  rfl

/-- With EN clear a write is a plain write (Table 01-6). -/
theorem Does.distBaseWrite_off {d : Dev} (hup : d.power.mainUp = true) (m : Master) {v : Word} (hen : bitOf v.toNat 63 = false) :
    Does (.distBaseWrite m v) d (fun d' => d'.bit F.DEV_DIST_BASE_EN = false ∧ d'.mem = d.mem ∧ d'.distRun = d.distRun) := by
  have hbit := (d.writePlain_distBase_fields hup m v.toNat).1.trans hen
  obtain ⟨-, hmem, hrun, -⟩ := d.writePlain_distBase_frame hup m v.toNat
  refine .distBaseWrite hup ?_
  rw [Dev.checkBase_off hbit]
  exact ⟨hbit, hmem, hrun⟩

/-- R42: an invalid base sets ERR and stores nothing. -/
theorem Does.distBaseWrite_invalid {d : Dev} (hup : d.power.mainUp = true) (m : Master) {v : Word} (hen : bitOf v.toNat 63 = true)
    (hin : d.inCarve (bitsOf v.toNat 47 12 * 4096) distSize = false) :
    Does (.distBaseWrite m v) d (fun d' => d'.bit F.DEV_DIST_BASE_ERR = true ∧ d'.distBad = true ∧ d'.mem = d.mem ∧ d'.distRun = d.distRun) := by
  obtain ⟨hbit, hbase, -⟩ := d.writePlain_distBase_fields hup m v.toNat
  obtain ⟨hregs, hmem, hrun, -⟩ := d.writePlain_distBase_frame hup m v.toNat
  have hfar : Keeps FarKey d (d.writePlain m false 0 0 0x100 v.toNat) := hregs.mono (by rintro k (rfl | rfl) <;> decide)
  obtain ⟨herr, hbad, hmem', hrun'⟩ := (d.writePlain m false 0 0 0x100 v.toNat).markBad_effect
  refine .distBaseWrite hup ?_
  rw [Dev.checkBase_invalid (hbit.trans hen) (by rw [Dev.distBase, hbase, hfar.inCarve, hin])]
  exact ⟨herr, hbad, hmem'.trans hmem, hrun'.trans hrun⟩

/-- Rows written from a device that differs in DEV_DIST_BASE and in what is due. -/
theorem distRowsWritten_of_keeps {d d1 d' : Dev} {b : Nat} (h : DistRowsWritten d1 d' b) (hregs : Keeps (fun k => k ≠ regKey F.DEV_DIST_BASE.base 0 0) d d1)
    (hmem : d1.mem = d.mem) : DistRowsWritten d d' b := by
  obtain ⟨hrun, hgen, hrows, hbytes, hseen⟩ := h
  have hpart : Keeps PartKey d d1 := hregs.mono fun k hk he => not_partKey (.inl (by decide)) (he ▸ hk)
  rw [hregs.get F.DEV_DIST_GEN_GEN (by decide)] at hgen
  exact ⟨hrun, hgen, fun lc => (hrows lc).trans (hpart.distRow lc), fun x hx => hmem ▸ hbytes x hx, hseen.trans hpart.mapGens⟩

/-- What an update that starts leaves beside the table. -/
theorem Dev.distStart_effect {d : Dev} (h : d.distMayStart) (hin : d.inCarve d.distBase distSize = true) :
    DistRowsWritten d d.distStart d.distBase ∧ d.distStart.reg F.DEV_DIST_BASE.base = d.reg F.DEV_DIST_BASE.base ∧ d.distStart.distBad = d.distBad := by
  rw [Dev.distStart_valid h hin]
  refine ⟨distRowsWritten_of_storeTable (by dsimp only) (by dsimp only) (by dsimp only), ?_, ?_⟩
  · exact (Dev.reg_of_regs (d' := d.storeTable) (by dsimp only) _ _ _).trans (d.storeTable_reg (by decide))
  · dsimp only
    rw [Dev.storeTable, Dev.storeRows_frame, Dev.openTable, Dev.storeNat, Dev.store_distBad, Dev.set_distBad]

/-- R41: with a valid base a full update starts at once. -/
theorem Does.distBaseWrite_valid {d : Dev} (hup : d.power.mainUp = true) (m : Master) {v : Word} (hen : bitOf v.toNat 63 = true)
    (hin : d.inCarve (bitsOf v.toNat 47 12 * 4096) distSize = true)
    (hstart : d.distRun = none ∧ d.deviceResetting = false ∧ d.get F.DEV_FAR_SIZE_SIZE ≠ 0) :
    Does (.distBaseWrite m v) d (fun d' => d'.bit F.DEV_DIST_BASE_ERR = (d.bit F.DEV_DIST_BASE_ERR && !bitOf v.toNat 1) ∧ d'.distBad = false ∧
      d'.get F.DEV_DIST_BASE_BASE = bitsOf v.toNat 47 12 ∧ DistRowsWritten d d' (bitsOf v.toNat 47 12 * 4096)) := by
  obtain ⟨d1, hd1⟩ : ∃ d1, d.writePlain m false 0 0 0x100 v.toNat = d1 := ⟨_, rfl⟩
  obtain ⟨hbit, hbase, herr⟩ := d.writePlain_distBase_fields hup m v.toNat
  obtain ⟨hregs, hmem, hrun, hreset⟩ := d.writePlain_distBase_frame hup m v.toNat
  obtain ⟨hrun0, hreset0, hfar0⟩ := hstart
  rw [hd1] at hbit hbase herr hregs hmem hrun hreset
  have hfar : Keeps FarKey d d1 := hregs.mono (by rintro k (rfl | rfl) <;> decide)
  have haddr : d1.distBase = bitsOf v.toNat 47 12 * 4096 := by rw [Dev.distBase, hbase]
  have hin1 : d1.inCarve d1.distBase distSize = true := by rw [haddr, hfar.inCarve, hin]
  have hfarSize : d1.get F.DEV_FAR_SIZE_SIZE ≠ 0 := by rwa [hregs.get F.DEV_FAR_SIZE_SIZE (by decide)]
  obtain ⟨hrows, hreg, hbad⟩ := Dev.distStart_effect (d := { d1 with distSeen := [], distBad := false })
    ⟨hbit.trans hen, rfl, rfl, hrun.trans hrun0, hreset.trans hreset0, hfarSize⟩ hin1
  refine .distBaseWrite hup ?_
  rw [hd1, Dev.checkBase_valid (hbit.trans hen) hin1]
  refine ⟨?_, hbad, ?_, ?_⟩
  · rw [← herr, Dev.bit, Dev.get, hreg]
    rfl
  · rw [← hbase, Dev.get, hreg]
    rfl
  · rw [← haddr]
    exact distRowsWritten_of_keeps hrows (hregs.trans (.of_regs rfl)) hmem

end Sys2Proof.Machine
end

section
namespace Sys2Proof.Machine

/-! ## Islands out of their clock band (R49) -/

theorem Dev.hosted_some {d : Dev} {pc : Slot} {lc : Nat} (h : d.hosted pc = some lc) : d.hostOf lc = some pc.val ∧ lc < 512 := by
  have hhost := List.find?_some h
  obtain ⟨i, hi, rfl⟩ := List.mem_map.1 (List.mem_of_find?_eq_some h)
  have hi := List.mem_range.1 hi
  exact ⟨eq_of_beq hhost, by omega⟩

/-- A suspect waits while a migration of its row is under way (R363). -/
theorem Dev.moveSuspect_waits {d : Dev} {lc pc : Nat} (hhost : d.hostOf lc = some pc) (hstay : d.migrating lc = false)
    (hbusy : d.rowBusy (rowOf pc) = true) : d.moveSuspect lc = d := by
  simp only [Dev.moveSuspect, hhost, hstay, hbusy, Bool.false_eq_true, if_false, if_true]

theorem Dev.suspectSlot_waits {d : Dev} {pc : Slot} {lc : Nat} (hhost : d.hosted pc = some lc) (hstay : d.migrating lc = false)
    (hbusy : d.rowBusy (rowOf pc) = true) (hnew : lc ∉ d.suspects) : d.suspectSlot pc = { d with suspects := d.suspects ++ [lc] } := by
  have hin : d.suspects.contains lc = false := by simpa using hnew
  simp only [Dev.suspectSlot, hhost, Dev.makeSuspect, hin, Bool.false_eq_true, if_false]
  exact Dev.moveSuspect_waits (d := { d with suspects := d.suspects ++ [lc] }) (Dev.hosted_some hhost).1 hstay hbusy

/-- The island is out of its band, and the exit is recorded. -/
def Dev.leaveBand (d : Dev) (i : Island) (kHz : Nat) : Dev :=
  Dev.record { d with bandOut := d.bandOut ++ [i] } 0x0190 0 (islandBlock i).1 (islandBlock i).2 2 kHz

/-- What follows in the cell of an island that is one. -/
def Dev.exitBand (d : Dev) (i : Island) (kHz : Nat) : Dev :=
  match i with
  | .cell pc => (d.leaveBand i kHz).suspectSlot pc
  | _ => d.leaveBand i kHz

theorem Dev.leaveBand_reported (d : Dev) (i : Island) (kHz : Nat) : Reported { d with bandOut := d.bandOut ++ [i] } (d.leaveBand i kHz) :=
  .record _ (by decide)

theorem Dev.exitBand_cell (d : Dev) (pc : Slot) (kHz : Nat) : d.exitBand (.cell pc) kHz = (d.leaveBand (.cell pc) kHz).suspectSlot pc := rfl

theorem Dev.exitBand_other {i : Island} (h : ∀ pc, i ≠ .cell pc) (d : Dev) (kHz : Nat) : d.exitBand i kHz = d.leaveBand i kHz := by
  cases i with
  | cell pc => exact absurd rfl (h pc)
  | _ => rfl

theorem Does.clockBandExit_idle {d : Dev} {i : Island} (h : d.islandOn i = false ∨ d.islandOut i = true) (kHz : Nat) :
    Does (.clockBandExit i kHz) d (fun d' => d' = d) := by
  refine .of_run (f := fun d => if !d.islandOn i || d.islandOut i then d else d.exitBand i kHz) (fun _ => rfl) (if_pos ?_)
  rcases h with h | h <;> simp [h]

theorem Does.clockBandExit {d : Dev} {i : Island} {post : Dev → Prop} (hon : d.islandOn i = true) (hout : d.islandOut i = false) (kHz : Nat)
    (h : post (d.exitBand i kHz)) : Does (.clockBandExit i kHz) d post := by
  refine .of_run (f := fun d => if !d.islandOn i || d.islandOut i then d else d.exitBand i kHz) (fun _ => rfl) ?_
  simpa only [hon, hout, Bool.not_true, Bool.or_self, Bool.false_eq_true, if_false] using h

theorem Dev.exitBand_bandOut (d : Dev) (i : Island) (kHz : Nat) : (d.exitBand i kHz).bandOut = d.bandOut ++ [i] := by
  have hleave := (d.leaveBand_reported i kHz).bandOut
  cases i with
  | cell pc => exact (Quiet.suspectSlot _ pc).bandOut.trans hleave
  | _ => exact hleave

/-- A cell that leaves its band becomes a suspect, which waits for its row's migration (R49, R363). -/
theorem Dev.exitBand_suspects {d : Dev} {pc : Slot} {lc : Nat} (hhost : d.hosted pc = some lc) (hstay : d.migrating lc = false)
    (hbusy : d.rowBusy (rowOf pc) = true) (hnew : lc ∉ d.suspects) (kHz : Nat) :
    (d.exitBand (.cell pc) kHz).suspects = d.suspects ++ [lc] := by
  have hleave := d.leaveBand_reported (.cell pc) kHz
  have hregs : Keeps PartKey d (d.leaveBand (.cell pc) kHz) := by
    refine .trans ?_ (hleave.regs.mono fun k hk he => not_partKey (.inr (by decide)) (he ▸ hk))
    exact .of_regs rfl
  have hsus : (d.leaveBand (.cell pc) kHz).suspects = d.suspects := hleave.suspects
  have hrow : (d.leaveBand (.cell pc) kHz).rowBusy (rowOf pc) = true := by rw [Dev.rowBusy, hleave.migrations]; exact hbusy
  rw [Dev.exitBand_cell, Dev.suspectSlot_waits ((hregs.hosted pc).trans hhost) ((hregs.hostOf (Dev.hosted_some hhost).2).2.trans hstay) hrow (hsus ▸ hnew)]
  dsimp only
  rw [hsus]

theorem Does.clockBandReturn (d : Dev) (i : Island) : Does (.clockBandReturn i) d (fun d' => (∀ x, x ∈ d'.bandOut ↔ x ∈ d.bandOut ∧ x ≠ i) ∧
    d'.regs = d.regs ∧ d'.mem = d.mem ∧ d'.cells = d.cells) := by
  refine .of_run (f := fun d => { d with bandOut := d.bandOut.filter (fun x => x != i) }) (fun _ => rfl) ⟨fun x => ?_, rfl, rfl, rfl⟩
  simp only [List.mem_filter, bne_iff_ne]

/-! ## The ON bits of domains (R50) -/

/-- A register of DEV_PD_STATUS. -/
def PdKey (k : Nat) : Prop := 0x180 ≤ k ∧ k < 0x1D0

theorem not_pdKey {base : Nat} (inst item : Nat) (h : 0x1D0 ≤ base) : ¬ PdKey (regKey base inst item) := by
  simp only [PdKey, regKey]
  omega

theorem Keeps.domOn {d d' : Dev} (h : Keeps PdKey d d') {dom : Nat} (hd : dom < 640) : d'.domOn dom = d.domOn dom := by
  rw [Dev.domOn, Dev.domOn, h.reg]
  simp only [PdKey, regKey]
  omega

theorem Reported.domOn {d d' : Dev} (h : Reported d d') {dom : Nat} (hd : dom < 640) : d'.domOn dom = d.domOn dom :=
  Keeps.domOn (h.regs.mono fun k hk he => not_pdKey 0 0 (by decide) (he ▸ hk)) hd

theorem Dev.domOn_setDom (d : Dev) (dom : Nat) (on : Bool) : (d.setDom dom on).domOn dom = on := by
  have hi : dom % 64 < 64 := Nat.mod_lt _ (by decide)
  rw [Dev.domOn, Dev.setDom, Dev.reg_setReg_same, ← bitsOf_bit, bitsOf_mod _ _ hi, bitsOf_setBitsOf_same _ _ (Nat.le_refl _)]
  have hwidth : dom % 64 + 1 - dom % 64 = 1 := by omega
  rw [hwidth]
  cases on <;> rfl

/-! ## Registers that a domain or a cell takes with it (R497) -/

/-- Dropping entries, key by key, keeps those of the keys that are all kept. -/
theorem SMap.find_filterMap {α : Type} {f : Nat × α → Option (Nat × α)} (hkey : ∀ e e', f e = some e' → e'.1 = e.1) {k : Nat}
    (hkeep : ∀ v, f (k, v) = some (k, v)) (m : SMap α) : SMap.find k (m.filterMap f) = SMap.find k m := by
  induction m with
  | nil => rfl
  | cons e m ih =>
    obtain ⟨j, v⟩ := e
    by_cases hj : j = k
    · subst hj
      simp only [List.filterMap_cons, hkeep, SMap.find, if_true]
    · cases hf : f (j, v) with
      | none => simp only [List.filterMap_cons, hf, SMap.find, hj, if_false, ih]
      | some e' =>
        have hne : e'.1 ≠ k := by rw [hkey _ _ hf]; exact hj
        simp only [List.filterMap_cons, hf, SMap.find, hj, hne, if_false, ih]

theorem Keeps.filterMap {S : Nat → Prop} (d : Dev) {f : Nat × Word → Option (Nat × Word)} (hkey : ∀ e e', f e = some e' → e'.1 = e.1)
    (hkeep : ∀ k v, S k → f (k, v) = some (k, v)) : Keeps S d { d with regs := d.regs.filterMap f } :=
  ⟨fun {base inst item} hk => by
    rw [Dev.reg, Dev.reg, SMap.read, SMap.read]
    dsimp only
    rw [SMap.find_filterMap hkey (fun v => hkeep _ v hk)]⟩

theorem Keeps.resetRegs {S : Nat → Prop} (d : Dev) (cls inst lo hi : Nat) (h : ∀ k, S k → k / 2 ^ 24 % 2 ^ 8 ≠ cls) : Keeps S d (d.resetRegs cls inst lo hi) := by
  unfold Dev.resetRegs
  rw [← List.filterMap_eq_filter]
  refine .filterMap d (fun e e' he => ?_) fun k v hk => ?_
  · rw [(Option.guard_eq_some_iff.1 he).1]
  · have hcls : (k / 2 ^ 24 % 2 ^ 8 == cls) = false := by simpa using h k hk
    simp only [Option.guard, hcls, Bool.false_and, Bool.not_false, if_true]

/-- A device reset leaves an entry's key. -/
theorem resetReg_key {e e' : Nat × Word} (h : resetReg e = some e') : e'.1 = e.1 := by
  simp only [resetReg] at h
  split at h
  · rw [← Option.some.inj h]
  · split at h
    · split at h
      · cases h
      · rw [← Option.some.inj h]
    · cases h

/-! ## A cell's domain goes off (R44, R497) -/

theorem Keeps.cellOff {S : Nat → Prop} (d : Dev) (pc : Nat) (h : ∀ k, S k → k / 2 ^ 24 % 2 ^ 8 ≠ 2) : Keeps S (d.setDom pc false) (d.cellOff pc) := by
  have hzero : Keeps S (d.setDom pc false) ((d.setDom pc false).zeroMem (sliceBase pc) sliceSize) := .of_regs rfl
  exact (hzero.trans (.resetRegs _ 2 pc 0 0x900 h)).trans (.of_regs rfl)

theorem PdKey.class {k : Nat} (h : PdKey k) : k / 2 ^ 24 % 2 ^ 8 ≠ 2 := by
  simp only [PdKey] at h
  omega

theorem PartKey.class {k : Nat} (h : PartKey k) : k / 2 ^ 24 % 2 ^ 8 ≠ 2 := by
  simp only [PartKey] at h
  omega

theorem Dev.cellOff_domOn (d : Dev) {pc : Nat} (h : pc < 640) : (d.cellOff pc).domOn pc = false :=
  (Keeps.domOn (.cellOff d pc fun _ => PdKey.class) h).trans (d.domOn_setDom pc false)

theorem Dev.cellOff_mem (d : Dev) (pc : Nat) : (d.cellOff pc).mem = (d.zeroMem (sliceBase pc) sliceSize).mem := rfl

/-- The slice reads zero, and every other byte stands. -/
theorem Dev.cellOff_bytes (d : Dev) (pc : Nat) : (∀ x < sliceSize, Memory.byte (d.cellOff pc).mem (sliceBase pc + x) = Memory.byte [] 0) ∧
    BytesStand d (d.cellOff pc) (sliceBase pc) sliceSize := by
  refine ⟨fun x hx => ?_, (BytesStand.zeroMem d _ _).trans (.of_mem (d.cellOff_mem pc) _ _)⟩
  rw [d.cellOff_mem, Dev.zeroMem, Memory.byte_zero, if_pos (by omega)]
  rfl

theorem Dev.cellOff_cell (d : Dev) (pc : Nat) : (d.cellOff pc).cell pc = CellState.reset := by
  have hcells : (d.cellOff pc).cells = SMap.erase pc d.cells := rfl
  rw [Dev.cell, hcells, SMap.read, SMap.find_erase_same]
  rfl

end Sys2Proof.Machine
end

section
namespace Sys2Proof.Machine

/-! ## A domain other than a cell's goes off (R51, R497) -/

theorem Keeps.modLink {S : Nat → Prop} (d : Dev) (n : Nat) (f : LinkState → LinkState) : Keeps S d (d.modLink n f) := .of_regs rfl

theorem Keeps.zeroMem {S : Nat → Prop} (d : Dev) (a n : Nat) : Keeps S d (d.zeroMem a n) := .of_regs rfl

theorem Quiet.modLink (d : Dev) (n : Nat) (f : LinkState → LinkState) : Quiet d (d.modLink n f) := ⟨rfl, rfl⟩

theorem Quiet.zeroMem (d : Dev) (a n : Nat) : Quiet d (d.zeroMem a n) := ⟨rfl, rfl⟩

theorem Quiet.dropEngine (d : Dev) (e : Nat) : Quiet d (d.dropEngine e) := ⟨rfl, rfl⟩

/-- The registers that a domain other than a cell's takes with it are lost, and its part stops. -/
def Dev.domainLost (d : Dev) (dom : Nat) : Dev :=
  let d := { d with regs := d.regs.filterMap (fun e => if regDomain e.1 = some dom then resetReg e else some e) }
  if dom < 560 then
    let h := dom - 544
    let d := (List.range 16).foldl (fun d k => d.dropEngine (16 * h + k)) d
    d.zeroMem (0x100200000000 + h * 2 ^ 25) (2 ^ 25)
  else if dom < 572 then ((d.dropLink (dom - 560)).setPortState (dom - 560) 0).modLink (dom - 560) (fun _ => LinkState.reset)
  else if dom < 580 then (List.range 4).foldl (fun d c => d.set F.FAR_STATUS_STATE 0 (4 * (dom - 572) + c)) d
  else if dom < 582 then { d with eths := SMap.erase (dom - 580) d.eths }
  else if dom < 584 then { d with pcieCfg := d.pcieCfg.filter (fun e => e.1 / 2 ^ 17 != dom - 582) }
  else d

theorem Dev.domainOff_cell (d : Dev) {dom : Nat} (h : dom < 544) : d.domainOff dom = d.cellOff dom := if_pos h

theorem Dev.domainOff_other (d : Dev) {dom : Nat} (h : 544 ≤ dom) : d.domainOff dom = (d.setDom dom false).domainLost dom :=
  if_neg (Nat.not_lt.2 h)

/-- No switched domain other than a cell's holds the register. -/
def SharedKey (k : Nat) : Prop := regDomain k = none

/-- Hubs, engines, far channels and ports are switched. -/
theorem not_sharedKey_class {k : Nat} (h : k / 2 ^ 24 % 2 ^ 8 = 4 ∨ k / 2 ^ 24 % 2 ^ 8 = 5 ∨ k / 2 ^ 24 % 2 ^ 8 = 6) : ¬ SharedKey k := by
  rcases h with h | h | h <;> rw [SharedKey, regDomain, h] <;> exact Option.some_ne_none _

/-- Registers of the classes of ports and far channels lie in switched domains. -/
theorem not_sharedKey {base inst : Nat} (hlo : 0x5000000 ≤ base) (hhi : base < 0x6001000) (hinst : inst < 1024) : ¬ SharedKey (regKey base inst 0) := by
  refine not_sharedKey_class ?_
  simp only [regKey]
  omega

theorem Keeps.dropEngine (d : Dev) (e : Nat) : Keeps SharedKey d (d.dropEngine e) := by
  refine .trans ?_ (.filterMap _ (fun x x' hx => ?_) fun k v hk => ?_)
  · exact .of_regs rfl
  · split at hx
    · split at hx
      · exact resetReg_key hx
      · cases hx
    · rw [Option.some.inj hx]
  · have hcls : (k / 2 ^ 24 % 2 ^ 8 == 4) = false := by
      rw [beq_eq_false_iff_ne]
      exact fun h => not_sharedKey_class (.inl h) hk
    simp only [hcls, Bool.false_and, Bool.false_eq_true, if_false]

theorem Keeps.domainLost (d : Dev) {dom : Nat} (hdom : dom < 640) : Keeps SharedKey d (d.domainLost dom) := by
  have hset : ∀ (d : Dev) (f : Fld) (v inst : Nat), 0x5000000 ≤ f.base → f.base < 0x6001000 → inst < 1024 → Keeps SharedKey d (d.set f v inst) :=
    fun d f v inst hlo hhi hinst => .set d f v inst 0 (not_sharedKey hlo hhi hinst)
  have hregs : Keeps SharedKey d { d with regs := d.regs.filterMap (fun e => if regDomain e.1 = some dom then resetReg e else some e) } := by
    refine .filterMap d (fun e e' he => ?_) fun k v hk => ?_
    · split at he
      · exact resetReg_key he
      · rw [Option.some.inj he]
    · rw [SharedKey] at hk
      rw [if_neg (by simp [hk])]
  unfold Dev.domainLost
  extract_lets d1 h d2
  refine Keeps.trans (b := d1) hregs ?_
  split
  · exact .trans (.foldl _ (fun d k _ => .dropEngine d _) d1) (.zeroMem d2 _ _)
  · split
    · have hlost := Keeps.count (S := SharedKey) d1 F.TL_LOST (dom - 560) 0 (d1.link (dom - 560)).packets (not_sharedKey (by decide) (by decide) (by omega))
      exact ((hlost.trans (.modLink _ _ _)).trans (hset _ F.TL_LINK_STATUS_STATE 0 _ (by decide) (by decide) (by omega))).trans (.modLink _ _ _)
    · split
      · refine .foldl _ (fun d c hc => hset d F.FAR_STATUS_STATE 0 _ (by decide) (by decide) ?_) d1
        have hc := List.mem_range.1 hc
        omega
      · split
        · exact .of_regs rfl
        · split
          · exact .of_regs rfl
          · exact .refl d1

theorem Quiet.domainLost (d : Dev) (dom : Nat) : Quiet d (d.domainLost dom) := by
  unfold Dev.domainLost
  extract_lets d1 h d2
  refine Quiet.trans (b := d1) (.regs d _) ?_
  split
  · exact .trans (.foldl (fun d k => .dropEngine d _) _ d1) (.zeroMem d2 _ _)
  · split
    · exact (((Quiet.count d1 F.TL_LOST _ _ _).trans (.modLink _ _ _)).trans (.set _ _ _ _ _)).trans (.modLink _ _ _)
    · split
      · exact .foldl (fun d c => .set d _ _ _ _) _ d1
      · split
        · exact ⟨rfl, rfl⟩
        · split
          · exact ⟨rfl, rfl⟩
          · exact .refl d1

/-- A hub takes its commons with it. -/
theorem Dev.domainLost_commons (d : Dev) {dom : Nat} (hlo : 544 ≤ dom) (hhi : dom < 560) : ∀ x, 0x100200000000 + (dom - 544) * 2 ^ 25 ≤ x →
    x < 0x100200000000 + (dom - 543) * 2 ^ 25 → Memory.byte (d.domainLost dom).mem x = Memory.byte [] x := by
  intro x hx hx'
  rw [Dev.domainLost, if_pos hhi, Dev.zeroMem, Memory.byte_zero, if_pos (by omega)]
  rfl

theorem PdKey.shared {k : Nat} (h : PdKey k) : SharedKey k := by
  have hcls : k / 2 ^ 24 % 2 ^ 8 = 0 := by
    simp only [PdKey] at h
    omega
  rw [SharedKey, regDomain, hcls]
  rfl

theorem Dev.domainOff_domOn (d : Dev) {dom : Nat} (h : dom < 585) : (d.domainOff dom).domOn dom = false := by
  by_cases hcell : dom < 544
  · rw [d.domainOff_cell hcell, d.cellOff_domOn (by omega)]
  · rw [d.domainOff_other (by omega), Keeps.domOn ((Keeps.domainLost _ (by omega)).mono fun _ => PdKey.shared) (by omega), d.domOn_setDom]

theorem Quiet.domainOff (d : Dev) {dom : Nat} (h : 544 ≤ dom) : Quiet d (d.domainOff dom) := by
  rw [d.domainOff_other h]
  exact (Quiet.setReg d _ _ _ _).trans (.domainLost _ dom)

/-! ## Domains switched by Slolis (R51) -/

/-- The states of the four channels of a PHY group. -/
theorem Dev.get_foldl_set (d : Dev) (f : Fld) (v a : Nat) (h : f.lo ≤ f.hi) (h' : f.hi ≤ 63) (n : Nat) :
    ∀ k < n, ((List.range n).foldl (fun d c => d.set f v (a + c)) d).get f (a + k) = v % 2 ^ (f.hi + 1 - f.lo) := by
  induction n with
  | zero => intro k hk; omega
  | succ n ih =>
    intro k hk
    simp only [List.range_succ, List.foldl_append, List.foldl_cons, List.foldl_nil]
    by_cases hkn : k = n
    · subst hkn
      exact Dev.get_set_same _ _ _ _ _ h h'
    · rw [Dev.get_set_other _ _ _ _ _ _ _ _ (by simp only [regKey]; omega)]
      exact ih k (by omega)

theorem Dev.domainOn_other (d : Dev) {dom : Nat} (h : dom ≠ 584) : d.domainOn dom =
    if 560 ≤ dom && dom < 572 then (if (d.setDom dom true).bit F.TL_CFG_EN (dom - 560) then (d.setDom dom true).startTraining (dom - 560) else d.setDom dom true)
    else if 572 ≤ dom && dom < 580 then (List.range 4).foldl (fun d c => d.set F.FAR_STATUS_STATE 1 (4 * (dom - 572) + c)) (d.setDom dom true)
    else d.setDom dom true := by
  rw [Dev.domainOn, if_neg h]

/-- A domain that comes on is on; that of the OS complex waits for its loader. -/
theorem Dev.domainOn_domOn (d : Dev) {dom : Nat} (hdom : dom < 585) (h : dom ≠ 584 ∨ d.mgmt.loaderOk = true) : (d.domainOn dom).domOn dom = true := by
  by_cases hos : dom = 584
  · subst hos
    simp only [Dev.domainOn, h.resolve_left (fun h => h rfl), if_true]
    exact Dev.domOn_setDom _ 584 true
  · have hset : ∀ (d : Dev) (f : Fld) (v inst : Nat), 0x1D0 ≤ f.base → Keeps PdKey d (d.set f v inst) :=
      fun d f v inst hb => .set d f v inst 0 (not_pdKey inst 0 hb)
    have hkeep : Keeps PdKey (d.setDom dom true) (d.domainOn dom) := by
      rw [d.domainOn_other hos]
      refine .ite (.ite ?_ (.refl _)) (.ite (.foldl _ (fun d c _ => hset d _ _ _ (by decide)) _) (.refl _))
      exact ((hset _ F.TL_LINK_STATUS_STATE _ _ (by decide)).trans (hset _ F.TL_LINK_STATUS_LANES _ _ (by decide))).trans (.modLink _ _ _)
    rw [hkeep.domOn (by omega), d.domOn_setDom]

/-- A PHY group that comes on has its channels train. -/
theorem Dev.domainOn_trains (d : Dev) {dom : Nat} (hlo : 572 ≤ dom) (hhi : dom < 580) :
    ∀ k < 4, (d.domainOn dom).get F.FAR_STATUS_STATE (4 * (dom - 572) + k) = 1 := by
  have hport : (decide (560 ≤ dom) && decide (dom < 572)) = false := by simp only [Bool.and_eq_false_iff, decide_eq_false_iff_not]; omega
  have hphy : (decide (572 ≤ dom) && decide (dom < 580)) = true := by simp only [Bool.and_eq_true, decide_eq_true_eq]; omega
  rw [d.domainOn_other (by omega), hport, hphy, if_neg Bool.false_ne_true, if_pos rfl]
  exact Dev.get_foldl_set _ F.FAR_STATUS_STATE 1 _ (by decide) (by decide) 4

/-- Slolis may switch the domain on: main power is up, and the domain is neither disabled nor a fenced slot's. -/
def Dev.maySwitchOn (d : Dev) (dom : Fin 585) : Prop :=
  d.power.mainUp = true ∧ (dom.val = 584 ∨ d.domEnabled dom = true) ∧ (544 ≤ dom.val ∨ d.slotState dom ≠ 5)

/-- The test that Slolis makes. -/
theorem Dev.not_maySwitchOn (d : Dev) (dom : Fin 585) :
    (!d.power.mainUp || (dom.val != 584 && !d.domEnabled dom) || (decide (dom.val < 544) && decide (d.slotState dom = 5))) = true ↔ ¬ d.maySwitchOn dom := by
  simp only [Dev.maySwitchOn, Bool.or_eq_true, Bool.and_eq_true, Bool.not_eq_true', bne_iff_ne, decide_eq_true_eq, not_and_or, not_or,
    Bool.not_eq_true, Nat.not_le, ne_eq, Decidable.not_not, or_assoc]

theorem Dev.switchOn_on {d : Dev} {dom : Nat} (h : d.domOn dom = true) : (d.switchOn dom).2 = d := by
  rw [Dev.switchOn, if_pos h]

theorem Dev.switchOn_refused {d : Dev} {dom : Fin 585} (h : ¬ d.maySwitchOn dom) : (d.switchOn dom).2 = d := by
  rw [Dev.switchOn]
  split
  · rfl
  · rw [if_pos ((d.not_maySwitchOn dom).2 h)]

theorem Dev.switchOn_off {d : Dev} {dom : Fin 585} (hoff : d.domOn dom = false) (h : d.maySwitchOn dom) : (d.switchOn dom).2 = d.domainOn dom := by
  rw [Dev.switchOn, hoff, if_neg Bool.false_ne_true, if_neg (mt (d.not_maySwitchOn dom).1 (not_not_intro h))]

theorem Dev.switchOff_off {d : Dev} {dom : Nat} (h : d.domOn dom = false) : (d.switchOff dom).2 = d := by
  rw [Dev.switchOff, h]
  rfl

theorem Dev.switchOff_busy {d : Dev} {dom : Nat} (hon : d.domOn dom = true) (h : d.domBusy dom = true) : (d.switchOff dom).2 = d.record 0x0191 dom 0 0 0 := by
  rw [Dev.switchOff, hon, h]
  rfl

theorem Dev.switchOff_free {d : Dev} {dom : Nat} (hon : d.domOn dom = true) (h : d.domBusy dom = false) : (d.switchOff dom).2 = d.domainOff dom := by
  rw [Dev.switchOff, hon, h]
  rfl

section
variable {d : Dev} {dom : Fin 585} {post : Dev → Prop}

theorem Does.domainSwitchOn (hup : d.slolisUp = true) (h : post (d.switchOn dom).2) : Does (.domainSwitchOn dom) d post := by
  refine .of_run (f := fun d => if d.slolisUp then (d.switchOn dom).2 else d) (fun _ => rfl) ?_
  rwa [hup]

theorem Does.domainSwitchOn_idle (h : d.slolisUp = false ∨ d.domOn dom = true) : Does (.domainSwitchOn dom) d (fun d' => d' = d) := by
  cases hup : d.slolisUp with
  | false => exact .of_run (f := fun d => if d.slolisUp then (d.switchOn dom).2 else d) (fun _ => rfl) (by rw [hup]; rfl)
  | true =>
    have hon : d.domOn dom = true := h.resolve_left (by rw [hup]; exact Bool.noConfusion)
    exact .domainSwitchOn hup (Dev.switchOn_on hon)

theorem Does.domainSwitchOff (hup : d.slolisUp = true) (h : post (d.switchOff dom).2) : Does (.domainSwitchOff dom) d post := by
  refine .of_run (f := fun d => if d.slolisUp then (d.switchOff dom).2 else d) (fun _ => rfl) ?_
  rwa [hup]

theorem Does.domainSwitchOff_idle (h : d.slolisUp = false ∨ d.domOn dom = false) : Does (.domainSwitchOff dom) d (fun d' => d' = d) := by
  cases hup : d.slolisUp with
  | false => exact .of_run (f := fun d => if d.slolisUp then (d.switchOff dom).2 else d) (fun _ => rfl) (by rw [hup]; rfl)
  | true =>
    have hoff : d.domOn dom = false := h.resolve_left (by rw [hup]; exact Bool.noConfusion)
    exact .domainSwitchOff hup (Dev.switchOff_off hoff)

/-- A busy domain stays on, and the refusal is recorded. -/
theorem Does.domainSwitchOff_busy (hup : d.slolisUp = true) (hon : d.domOn dom = true) (hbusy : d.domBusy dom = true) :
    Does (.domainSwitchOff dom) d (fun d' => d'.domOn dom = true ∧ d'.mem = d.mem ∧ d'.cells = d.cells ∧
      (d.buffered 0 0 < 4 → ∃ r, d'.reports = d.reports ++ [r] ∧ r.event = 0x0191)) := by
  have hrec : Reported d (d.record 0x0191 dom 0 0 0) := .record d (by decide)
  refine .domainSwitchOff hup ?_
  rw [Dev.switchOff_busy hon hbusy]
  exact ⟨(hrec.domOn (by omega)).trans hon, hrec.mem, hrec.cells, d.record_reports (by decide)⟩

/-- A domain that is not busy goes off with what it holds. -/
theorem Does.domainSwitchOff_free (hup : d.slolisUp = true) (hon : d.domOn dom = true) (hfree : d.domBusy dom = false) :
    Does (.domainSwitchOff dom) d (fun d' => d'.domOn dom = false ∧
      (dom.val < 544 → d'.cell dom = CellState.reset ∧ (∀ x < sliceSize, Memory.byte d'.mem (sliceBase dom + x) = Memory.byte [] 0) ∧
        BytesStand d d' (sliceBase dom) sliceSize) ∧
      (544 ≤ dom.val → dom.val < 560 → ∀ x, 0x100200000000 + (dom.val - 544) * 2 ^ 25 ≤ x → x < 0x100200000000 + (dom.val - 543) * 2 ^ 25 →
        Memory.byte d'.mem x = Memory.byte [] x)) := by
  refine .domainSwitchOff hup ?_
  rw [Dev.switchOff_free hon hfree]
  refine ⟨d.domainOff_domOn dom.isLt, fun hcell => ?_, fun hlo hhi => ?_⟩
  · rw [d.domainOff_cell hcell]
    exact ⟨d.cellOff_cell dom, d.cellOff_bytes dom⟩
  · rw [d.domainOff_other hlo]
    exact Dev.domainLost_commons _ hlo hhi

end

end Sys2Proof.Machine
end

section
namespace Sys2Proof.Machine

/-! ## A cell's regulator fails (R481) -/

theorem Dev.slotState_setSlotState (d : Dev) (pc v : Nat) (h : v < 2 ^ 4) : (d.setSlotState pc v).slotState pc = v := by
  have hhi : 4 * (pc % 68 % 16) + 3 < 64 := by omega
  rw [Dev.slotState, Dev.setSlotState]
  simp only
  rw [Dev.reg_setReg_same, bitsOf_mod _ _ hhi, bitsOf_setBitsOf_same _ _ (by omega)]
  have hwidth : 4 * (pc % 68 % 16) + 3 + 1 - 4 * (pc % 68 % 16) = 4 := by omega
  rw [hwidth, Nat.mod_eq_of_lt h]

/-- A slot whose test starts is TESTING (R359). -/
theorem Dev.startTest_slotState (d : Dev) (pc : Slot) (suspect : Bool) : (d.startTest pc suspect).slotState pc = 2 := by
  have hset : ∀ (d : Dev) (f : Fld) (v inst : Nat), 0x2000000 ≤ f.base → Keeps PartKey d (d.set f v inst) :=
    fun d f v inst hb => .set d f v inst 0 (not_partKey (.inr (by simp only [regKey]; omega)))
  have hslot : ∀ f, Keeps PartKey (d.setSlotState pc 2) ((d.setSlotState pc 2).modSlot pc f) := fun f => .of_regs rfl
  have hkeep : Keeps PartKey (d.setSlotState pc 2) (d.startTest pc suspect) :=
    (hslot _).trans ((hset _ F.BADGER_ROW_STATE_TEST_PC _ _ (by decide)).trans (hset _ F.BADGER_ROW_STATE_TEST_STEP _ _ (by decide)))
  rw [hkeep.slotState, d.slotState_setSlotState pc 2 (by decide)]

theorem Dev.cellOff_slotState (d : Dev) (pc : Slot) : (d.cellOff pc).slotState pc = d.slotState pc := by
  have hdom : Keeps PartKey d (d.setDom pc false) := .setReg d _ _ _ _ (not_partKey (.inl (by simp only [regKey]; omega)))
  exact (hdom.trans (.cellOff d pc fun _ => PartKey.class)).slotState pc

/-- A migration into the slot is aborted. -/
def Dev.dropIncoming (d : Dev) (pc : Nat) : Dev :=
  match d.migrations.find? (fun m => m.dst = pc) with
  | some m => d.abortMigration m
  | none => d

/-- A slot without a cell is tested once it is on again, if it is not fenced. -/
def Dev.testLater (d : Dev) (pc : Nat) : Dev := if d.slotState pc = 5 then d else d.startTest pc true

/-- The slot's domain goes off and its cell is rehosted without a copy; a slot without a cell goes off alone. -/
def Dev.loseSlot (d : Dev) (pc : Nat) (outOfRegulation : Bool) : Dev :=
  let why := if outOfRegulation then 2 else 1
  match d.hosted pc with
  | some lc =>
    let d := (d.rehost pc lc).cellOff pc
    d.record 0x0225 lc 0 0 3 pc why ((d.hostOf lc).getD 0x3FF)
  | none => ((d.testLater pc).cellOff pc).record 0x0225 0x3FF 0 0 2 pc why 0x3FF

theorem Dev.cellPowerLost_eq (d : Dev) (pc : Nat) (oor : Bool) : d.cellPowerLost pc oor = (d.dropIncoming pc).loseSlot pc oor := rfl

theorem Quiet.dropIncoming (d : Dev) (pc : Nat) : Quiet d (d.dropIncoming pc) := by
  unfold Dev.dropIncoming
  split
  · exact .abortMigration d _
  · exact .refl d

/-- Either way the slot is off, and no reset starts. -/
theorem Dev.loseSlot_off (d : Dev) (pc : Slot) (oor : Bool) : (d.loseSlot pc oor).domOn pc = false ∧ Quiet d (d.loseSlot pc oor) := by
  unfold Dev.loseSlot
  extract_lets why
  split
  · rename_i lc hhost
    have hrec : ∀ d : Dev, Reported d (d.record 0x0225 lc 0 0 3 pc why ((d.hostOf lc).getD 0x3FF)) := fun d => .record d (by decide)
    exact ⟨((hrec _).domOn (by omega)).trans (Dev.cellOff_domOn _ (by omega)),
      ((Quiet.rehost d pc lc).trans (.cellOff _ pc)).trans (.record (sev := 3) _ (by decide))⟩
  · have hrec : ∀ d : Dev, Reported d (d.record 0x0225 0x3FF 0 0 2 pc why 0x3FF) := fun d => .record d (by decide)
    exact ⟨((hrec _).domOn (by omega)).trans (Dev.cellOff_domOn _ (by omega)),
      ((Quiet.ite (.refl d) (.startTest d pc true)).trans (.cellOff _ pc)).trans (.record (sev := 2) _ (by decide))⟩

theorem Dev.cellOff_reports (d : Dev) (pc : Nat) : (d.cellOff pc).reports = d.reports := rfl

theorem Dev.startTest_reports (d : Dev) (pc : Nat) (suspect : Bool) : (d.startTest pc suspect).reports = d.reports := by
  have hslot : ∀ (d : Dev) f, (d.modSlot pc f).reports = d.reports := fun d f => rfl
  simp only [Dev.startTest, Dev.set_reports, hslot, Dev.setSlotState, Dev.setReg_reports]

/-- A slot without a cell is to be tested, unless it is fenced, and its loss is recorded. -/
theorem Dev.loseSlot_empty {d : Dev} {pc : Slot} (h : d.hosted pc = none) (oor : Bool) :
    (d.loseSlot pc oor).slotState pc = (if d.slotState pc = 5 then 5 else 2) ∧
    (d.buffered 0 0 < 4 → ∃ r, (d.loseSlot pc oor).reports = d.reports ++ [r] ∧ r.event = 0x0225) := by
  have hreports : ((d.testLater pc).cellOff pc).reports = d.reports := by
    rw [Dev.cellOff_reports, Dev.testLater]
    split
    · rfl
    · exact d.startTest_reports pc true
  have hlost : d.loseSlot pc oor = ((d.testLater pc).cellOff pc).record 0x0225 0x3FF 0 0 2 pc (if oor then 2 else 1) 0x3FF := by
    simp only [Dev.loseSlot, h]
  have hrec : Reported ((d.testLater pc).cellOff pc) (d.loseSlot pc oor) := hlost ▸ .record _ (by decide)
  have hpart := hrec.regs.mono fun k hk he => not_partKey (.inr (by decide)) (he ▸ hk)
  refine ⟨?_, fun hroom => ?_⟩
  · rw [hpart.slotState, Dev.cellOff_slotState, Dev.testLater]
    split
    · assumption
    · exact d.startTest_slotState pc true
  · have hroom' : ((d.testLater pc).cellOff pc).buffered 0 0 < 4 := by rwa [Dev.buffered, hreports]
    rw [hlost, ← hreports]
    exact Dev.record_reports _ (by decide) hroom'

/-! ## The regulator of another domain fails (R480, R446) -/

theorem Quiet.dropLink (d : Dev) (n : Nat) : Quiet d (d.dropLink n) := by
  unfold Dev.dropLink
  exact (Quiet.count d F.TL_LOST _ _ _).trans (.modLink _ _ _)

theorem Quiet.goDown (d : Dev) (n : Nat) : Quiet d (d.goDown n) := by
  unfold Dev.goDown
  extract_lets d1
  have hdrop : Quiet d d1 := (Quiet.dropLink d n).trans (.modLink _ _ _)
  exact (hdrop.trans (.emit d1 _)).trans (.modLink _ _ _)

theorem Quiet.halt (d : Dev) : Quiet d d.halt := by
  unfold Dev.halt
  extract_lets d1 d2
  have hfreeze : Quiet d d1 := .foldl (fun d pc => .setFreeze d pc _) _ d
  have hports : Quiet d1 d2 := .foldl Quiet.goDown _ d1
  exact (hfreeze.trans hports).trans ⟨rfl, rfl⟩

theorem Quiet.showResets (d : Dev) : Quiet d d.showResets := by
  unfold Dev.showResets
  extract_lets u parts st d1
  have hset : Quiet d d1 := ((Quiet.set d _ _ _ _).trans (.set _ _ _ _ _)).trans (.set _ _ _ _ _)
  refine hset.trans ?_
  split
  · exact .set d1 _ _ _ _
  · exact .refl d1

/-- A device reset that begins is in progress. -/
theorem Dev.beginReset_resetting (d : Dev) (part cause : Nat) : (d.beginReset 4 part cause).deviceResetting = true := by
  have hadd : ∀ (d : Dev) (r : ResetRun), r.unit = 4 → Dev.deviceResetting { d with resets := d.resets ++ [r] } = true := by
    intro d r hr
    simp [Dev.deviceResetting, Dev.resetting, hr]
  have hnotice : ∀ d : Dev, Quiet d (d.resetNotice 4 cause) := fun d => .ite (.emit d _) (.refl d)
  unfold Dev.beginReset
  extract_lets d1 d2 mgmt d3
  have hcount : Quiet d2 d3 := .ite ⟨rfl, rfl⟩ (.refl d2)
  exact (((Quiet.showResets _).trans hcount).trans (hnotice _)).deviceResetting.trans (hadd d1 _ rfl)

/-- What neither registers nor windows nor links show stands while the domains start again. -/
theorem Dev.startDomains_frame {α : Type} (p : Dev → α) (hregs : ∀ (d : Dev) r, p { d with regs := r } = p d) (hwins : ∀ (d : Dev) w, p { d with wins := w } = p d)
    (hlinks : ∀ (d : Dev) l, p { d with links := l } = p d) (d : Dev) : p d.startDomains = p d := by
  have hset : ∀ (d : Dev) (base inst item v : Nat), p (d.setReg base inst item v) = p d := fun d _ _ _ _ => hregs d _
  have hfold : ∀ {β : Type} {f : Dev → β → Dev}, (∀ d a, p (f d a) = p d) → ∀ (l : List β) (d : Dev), p (l.foldl f d) = p d := by
    intro β f hf l
    induction l with
    | nil => exact fun _ => rfl
    | cons a l ih => exact fun d => (ih (f d a)).trans (hf d a)
  have hdoms : ∀ (d : Dev) (on : Nat → Bool), p (d.setDoms on) = p d := fun d on => hfold (fun d w => hset d _ _ _ _) _ d
  have htrain : ∀ (d : Dev) (n : Nat), p (d.startTraining n) = p d := fun d n => (hlinks _ _).trans ((hset _ _ _ _ _).trans (hset d _ _ _ _))
  unfold Dev.startDomains
  extract_lets d1 d2 d3 d4 d5 d6
  have h1 : p d1 = p d := hdoms d _
  have h2 : p d2 = p d1 := hwins d1 _
  have h3 : p d3 = p d2 := (hset _ _ _ _ _).trans (hset d2 _ _ _ _)
  have h4 : p d4 = p d3 := hset d3 _ _ _ _
  have h5 : p d5 = p d4 := by
    refine hfold (fun d n => ?_) _ d4
    split
    · exact htrain d n
    · rfl
  have h6 : p d6 = p d5 := hfold (fun d m => hset d _ _ _ _) _ d5
  exact (hfold (fun d n => hset d _ _ _ _) _ d6).trans (h6.trans (h5.trans (h4.trans (h3.trans (h2.trans h1)))))

/-- What a device reset drops, it drops whatever stood. -/
theorem Dev.cycleDevice_state (d : Dev) : d.cycleDevice.halted = d.halted ∧ d.cycleDevice.resets = d.resets ∧ d.cycleDevice.cells = [] :=
  ⟨Dev.startDomains_frame Dev.halted (fun _ _ => rfl) (fun _ _ => rfl) (fun _ _ => rfl) d.dropSwitched,
    Dev.startDomains_frame Dev.resets (fun _ _ => rfl) (fun _ _ => rfl) (fun _ _ => rfl) d.dropSwitched,
    Dev.startDomains_frame Dev.cells (fun _ _ => rfl) (fun _ _ => rfl) (fun _ _ => rfl) d.dropSwitched⟩

/-- The device as a reset that has begun leaves it once its domains are cycled. -/
def Dev.cycled (d : Dev) : Dev := { (d.halt.emit (.notice 4 [1] [])).bumpEpochs.cycleDevice with resetWaits := false }

theorem Dev.startDeviceReset_eq {d : Dev} (h : d.deviceResetting = false) (cause : Nat) : d.startDeviceReset cause = (d.supersede.beginReset 4 0 cause).cycled := by
  rw [Dev.startDeviceReset, if_neg (by simp [h])]
  rfl

theorem Dev.halt_halted (d : Dev) : d.halt.halted = true := rfl

theorem Dev.bumpEpochs_quiet (d : Dev) : Quiet d d.bumpEpochs ∧ d.bumpEpochs.halted = d.halted :=
  ⟨(Quiet.set d _ _ _ _).trans (.set _ _ _ _ _), (Dev.set_halted ..).trans (Dev.set_halted ..)⟩

theorem Dev.cycled_state (d : Dev) : d.cycled.deviceResetting = d.deviceResetting ∧ d.cycled.halted = true ∧ d.cycled.cells = [] := by
  obtain ⟨hbump, hbumped⟩ := (d.halt.emit (.notice 4 [1] [])).bumpEpochs_quiet
  obtain ⟨hhalted, hresets, hcells⟩ := (d.halt.emit (.notice 4 [1] [])).bumpEpochs.cycleDevice_state
  have hquiet := ((Quiet.halt d).trans (.emit _ _)).trans hbump
  refine ⟨?_, ?_, ?_⟩
  · simp only [Dev.cycled, Dev.deviceResetting, Dev.resetting, hresets, hquiet.resets]
  · simp only [Dev.cycled, hhalted, hbumped]
    exact d.halt_halted
  · simp only [Dev.cycled, hcells]

/-- R446: the device halts, its reset is in progress, and its cells are lost. -/
theorem Dev.startDeviceReset_starts {d : Dev} (h : d.deviceResetting = false) (cause : Nat) : (d.startDeviceReset cause).deviceResetting = true ∧
    (d.startDeviceReset cause).halted = true ∧ (d.startDeviceReset cause).cells = [] := by
  obtain ⟨hresets, hhalted, hcells⟩ := (d.supersede.beginReset 4 0 cause).cycled_state
  rw [Dev.startDeviceReset_eq h]
  exact ⟨hresets.trans (Dev.beginReset_resetting ..), hhalted, hcells⟩

theorem Dev.startDeviceReset_absorbed {d : Dev} (h : d.deviceResetting = true) (cause : Nat) : d.startDeviceReset cause = d.count F.WDOG_RST_ABSORBED := by
  rw [Dev.startDeviceReset, if_pos h]

end Sys2Proof.Machine
end

section
namespace Sys2Proof.Machine

/-! ## The regulator of a domain fails (R480, R481) -/

/-- What the failure of a domain's regulator does to the device. -/
def Dev.regulatorFault (d : Dev) (dom : Fin 585) (outOfRegulation : Bool) : Dev :=
  if !d.domOn dom then d
  else if dom.val < 544 then d.cellPowerLost dom outOfRegulation
  else ((d.domainOff dom).record 0x0223 3 0 0 2 dom).startDeviceReset 8

theorem Dev.regulatorFault_off {d : Dev} {dom : Fin 585} (h : d.domOn dom = false) (oor : Bool) : d.regulatorFault dom oor = d := by
  rw [Dev.regulatorFault, h]
  rfl

theorem Dev.regulatorFault_cell {d : Dev} {dom : Fin 585} (h : d.domOn dom = true) (hcell : dom.val < 544) (oor : Bool) :
    d.regulatorFault dom oor = (d.dropIncoming dom).loseSlot dom oor := by
  rw [Dev.regulatorFault, h, Bool.not_true, if_neg Bool.false_ne_true, if_pos hcell, Dev.cellPowerLost_eq]

theorem Dev.regulatorFault_other {d : Dev} {dom : Fin 585} (h : d.domOn dom = true) (hother : 544 ≤ dom.val) (oor : Bool) :
    d.regulatorFault dom oor = ((d.domainOff dom).record 0x0223 3 0 0 2 dom).startDeviceReset 8 := by
  rw [Dev.regulatorFault, h, Bool.not_true, if_neg Bool.false_ne_true, if_neg (Nat.not_lt.2 hother)]

theorem Dev.dropIncoming_none {d : Dev} {pc : Nat} (h : ∀ g ∈ d.migrations, g.dst ≠ pc) : d.dropIncoming pc = d := by
  have hnone : d.migrations.find? (fun m => m.dst = pc) = none := List.find?_eq_none.2 fun g hg => by simpa using h g hg
  rw [Dev.dropIncoming, hnone]

/-- The loss of a domain other than a cell's, as it is recorded, leaves the resets in progress. -/
theorem Quiet.domainFault (d : Dev) {dom : Nat} (h : 544 ≤ dom) : Quiet d ((d.domainOff dom).record 0x0223 3 0 0 2 dom) :=
  (Quiet.domainOff d h).trans (.record _ (by decide))

theorem Dev.domainFault_regs (d : Dev) {dom : Fin 585} (h : 544 ≤ dom.val) :
    ((d.domainOff dom).record 0x0223 3 0 0 2 dom).reg F.WDOG_RST_ABSORBED.base = d.reg F.WDOG_RST_ABSORBED.base ∧
    ((d.domainOff dom).record 0x0223 3 0 0 2 dom).domOn dom = false := by
  have hrec : Reported (d.domainOff dom) ((d.domainOff dom).record 0x0223 3 0 0 2 dom) := .record _ (by decide)
  refine ⟨?_, (hrec.domOn (by omega)).trans (d.domainOff_domOn dom.isLt)⟩
  have hshared : SharedKey (regKey F.WDOG_RST_ABSORBED.base 0 0) := rfl
  have hdom : regKey F.WDOG_RST_ABSORBED.base 0 0 ≠ regKey (F.DEV_PD_STATUS.base + 8 * (dom.val / 64)) 0 0 := by simp only [regKey]; omega
  rw [hrec.regs.reg (fun h => absurd h (by decide)), d.domainOff_other h, (Keeps.domainLost _ (by omega)).reg hshared]
  exact Dev.reg_setReg_other _ _ hdom

section
variable {d : Dev} {dom : Fin 585} {oor : Bool}

theorem Does.domainRegulatorFault {post : Dev → Prop} (h : post (d.regulatorFault dom oor)) : Does (.domainRegulatorFault dom oor) d post :=
  .of_run (f := fun d => d.regulatorFault dom oor) (fun _ => rfl) h

/-- R481: the slot goes off without a device reset; without a cell it is to be tested, unless it is fenced. -/
theorem Does.domainRegulatorFault_cell (hon : d.domOn dom = true) (hcell : dom.val < 544) :
    Does (.domainRegulatorFault dom oor) d (fun d' => d'.domOn dom = false ∧ d'.deviceResetting = d.deviceResetting ∧
      (d.hosted dom = none → (∀ g ∈ d.migrations, g.dst ≠ dom.val) → d'.slotState dom = (if d.slotState dom = 5 then 5 else 2) ∧
        (d.buffered 0 0 < 4 → ∃ r, d'.reports = d.reports ++ [r] ∧ r.event = 0x0225))) := by
  obtain ⟨pc, hpc⟩ : ∃ pc : Slot, pc.val = dom.val := ⟨⟨dom.val, hcell⟩, rfl⟩
  obtain ⟨hoff, hlost⟩ := (d.dropIncoming dom).loseSlot_off pc oor
  refine .domainRegulatorFault ?_
  rw [Dev.regulatorFault_cell hon hcell, ← hpc]
  rw [← hpc] at hoff hlost
  refine ⟨hoff, ((Quiet.dropIncoming d pc).trans hlost).deviceResetting, fun hempty hstay => ?_⟩
  rw [Dev.dropIncoming_none hstay]
  exact Dev.loseSlot_empty hempty oor

/-- R480: the loss of any other domain starts a device reset. -/
theorem Does.domainRegulatorFault_resets (hon : d.domOn dom = true) (hother : 544 ≤ dom.val) (hreset : d.deviceResetting = false) :
    Does (.domainRegulatorFault dom oor) d (fun d' => d'.deviceResetting = true ∧ d'.halted = true ∧ d'.cells = []) := by
  refine .domainRegulatorFault ?_
  rw [Dev.regulatorFault_other hon hother]
  exact Dev.startDeviceReset_starts ((Quiet.domainFault d hother).deviceResetting.trans hreset) 8

/-- R442: a device reset in progress absorbs the request. -/
theorem Does.domainRegulatorFault_absorbed (hon : d.domOn dom = true) (hother : 544 ≤ dom.val) (hreset : d.deviceResetting = true) :
    Does (.domainRegulatorFault dom oor) d (fun d' => Counted d d' F.WDOG_RST_ABSORBED ∧ d'.domOn dom = false) := by
  obtain ⟨hreg, hoff⟩ := d.domainFault_regs hother
  refine .domainRegulatorFault ?_
  rw [Dev.regulatorFault_other hon hother, Dev.startDeviceReset_absorbed ((Quiet.domainFault d hother).deviceResetting.trans hreset)]
  refine ⟨?_, ?_⟩
  · rw [Counted, ← hreg]
    exact Dev.reg_setReg_same _ _ _ _ _
  · have hcount : Keeps PdKey _ (((d.domainOff dom).record 0x0223 3 0 0 2 dom).count F.WDOG_RST_ABSORBED) := .count _ _ _ _ _ (not_pdKey 0 0 (by decide))
    exact (hcount.domOn (by omega)).trans hoff

end

/-! ## Distances, bands and domains (R37 to R51, R480, R481) -/

/-- Settles O60: an operation at a time, with its refusals apart from its effect. -/
theorem distancesBandsAndDomainsFollowTheirRules : Obligations.DistancesBandsAndDomainsFollowTheirRules := by
  unfold Obligations.DistancesBandsAndDomainsFollowTheirRules
  intro m v i dom d start
  refine ⟨fun hup => ⟨Does.distBaseWrite_off hup m, Does.distBaseWrite_invalid hup m, Does.distBaseWrite_valid hup m, ?idle, ?due, ?ended, ?ends⟩,
    fun h kHz => .clockBandExit_idle h kHz, fun hon hin kHz => .clockBandExit hon hin kHz ?exit, .clockBandReturn d i, Does.domainSwitchOn_idle,
    fun hup hoff => ⟨?refused, ?on, ?trains⟩, Does.domainSwitchOff_idle, fun hup hon => ⟨Does.domainSwitchOff_busy hup hon, Does.domainSwitchOff_free hup hon⟩,
    fun oor => ⟨fun hoff => .domainRegulatorFault (d.regulatorFault_off hoff oor), Does.domainRegulatorFault_cell, Does.domainRegulatorFault_resets,
      Does.domainRegulatorFault_absorbed⟩⟩
  case idle =>
    intro hidle
    have hno : ¬ d.distMayStart := by
      rintro ⟨hen, hdue, hbad, hstart⟩
      simp only [hen, hdue, hbad, Bool.true_eq_false, Bool.false_eq_true, false_or] at hidle
      exact hidle hstart
    exact .distUpdateStart hup (Dev.distStart_idle hno)
  case due =>
    intro hen hdue hbad hstart
    have hmay : d.distMayStart := ⟨hen, hdue, hbad, hstart⟩
    refine ⟨fun hin => .distUpdateStart hup (Dev.distStart_effect hmay hin).1, fun hin => .distUpdateStart hup ?_⟩
    obtain ⟨herr, -, hmem, -⟩ := d.markBad_effect
    rw [Dev.distStart_invalid hmay hin]
    exact ⟨herr, hmem⟩
  case ended => exact fun hrun => .distUpdateEnd hup (Dev.distEnd_idle hrun)
  case ends =>
    intro b hrun hdue
    refine .distUpdateEnd hup ?_
    obtain ⟨hgen, hheader, hbeat, hbytes⟩ := d.closeTable_stored b
    rw [Dev.distEnd_ends hrun hdue]
    exact ⟨rfl, hgen, hheader, hbeat, hbytes⟩
  case exit =>
    refine ⟨d.exitBand_bandOut i kHz, fun hother => ?_, fun pc lc hi hhost hstay hbusy hnew => ?_⟩
    · have hleave := d.leaveBand_reported i kHz
      rw [Dev.exitBand_other hother]
      exact ⟨hleave.mem, hleave.cells, hleave.suspects, fun hroom => Dev.record_reports _ (by decide) hroom⟩
    · subst hi
      exact Dev.exitBand_suspects hhost hstay hbusy hnew kHz
  case refused => exact fun hno => .domainSwitchOn hup (Dev.switchOn_refused hno)
  case on =>
    intro hmay hdom
    refine .domainSwitchOn hup ?_
    rw [Dev.switchOn_off hoff hmay]
    exact d.domainOn_domOn dom.isLt hdom
  case trains =>
    intro hmay hlo hhi
    refine .domainSwitchOn hup ?_
    rw [Dev.switchOn_off hoff hmay]
    exact d.domainOn_trains hlo hhi

end Sys2Proof.Machine
end

section
namespace Sys2Proof.Machine

/-! ## A slab operation enters the vector unit (R93) -/

/-- The device with the slab operations in flight of a cell set. -/
def Dev.setSlabOps (d : Dev) (pc : Nat) (ops : List SlabOp) : Dev := d.modCell pc (fun s => { s with slabOps := ops })

/-- The slab operation that a context issues. -/
def Dev.slabOp (d : Dev) (pc c : Nat) (dst : SlabDst) (result : List Byte) (status : Nat) : SlabOp :=
  ⟨c, (d.ctx pc c).pc, dst, result, status, (d.ctx pc c).x⟩

theorem Dev.putSlab_eq (d : Dev) (pc c : Nat) (dst : SlabDst) (result : List Byte) (status : Nat) :
    d.putSlab pc c dst (result, status) =
      .next ((d.setSlabOps pc ((d.cell pc).slabOps ++ [d.slabOp pc c dst result status])).count F.CELL_VEC_BUSY pc 0 8) := rfl

@[simp] theorem Dev.cell_setSlabOps_same (d : Dev) (pc : Nat) (ops : List SlabOp) :
    (d.setSlabOps pc ops).cell pc = { d.cell pc with slabOps := ops } := Dev.cell_modCell_same d pc _

theorem Dev.cell_setSlabOps_other (d : Dev) {pc p : Nat} (h : p ≠ pc) (ops : List SlabOp) : (d.setSlabOps pc ops).cell p = d.cell p :=
  Dev.cell_setCell_other d h _

/-- The slab operations in flight are no part of a context. -/
@[simp] theorem Dev.ctx_setSlabOps (d : Dev) (pc : Nat) (ops : List SlabOp) (k : Nat) : (d.setSlabOps pc ops).ctx pc k = d.ctx pc k := by
  simp only [Dev.ctx, Dev.cell_setSlabOps_same, CellState.ctx]

@[simp] theorem Dev.reg_setSlabOps (d : Dev) (pc : Nat) (ops : List SlabOp) (b i n : Nat) : (d.setSlabOps pc ops).reg b i n = d.reg b i n := rfl

/-- What an instruction leaves, from a device that differs in the slab operations in flight alone. -/
theorem OnlyContext.of_setSlabOps {d d' : Dev} {pc c : Nat} {keys : List Nat} {ops : List SlabOp}
    (h : OnlyContext (d.setSlabOps pc ops) d' pc c keys) : OnlyContext d (d'.setSlabOps pc (d.cell pc).slabOps) pc c keys := by
  obtain ⟨hdev, hcells, hcell, hctxs, hregs⟩ := h
  rw [Dev.cell_setSlabOps_same] at hcell
  refine ⟨?_, fun p hp => ?_, ?_, fun k hk => ?_, hregs⟩
  · exact congrArg (fun e : Dev => { e with cells := d.cells, regs := d.regs }) hdev
  · rw [Dev.cell_setSlabOps_other _ hp, hcells p hp, Dev.cell_setSlabOps_other _ hp]
  · rw [Dev.cell_setSlabOps_same]
    exact congrArg (fun s : CellState => { s with slabOps := (d.cell pc).slabOps }) hcell
  · rw [Dev.ctx_setSlabOps, hctxs k hk, Dev.ctx_setSlabOps]

/-- An instruction that changes its context and registers alone leaves the slab operations in flight. -/
theorem OnlyContext.slabOps {d d' : Dev} {pc c : Nat} {keys : List Nat} (h : OnlyContext d d' pc c keys) :
    (d'.cell pc).slabOps = (d.cell pc).slabOps := by
  obtain ⟨-, -, hcell, -, -⟩ := h
  have hops := congrArg CellState.slabOps hcell
  exact hops

/-- An instruction whose one effect is `n` events counted, in a counter other than CELL_RETIRED. -/
theorem Commits.of_count {d : Dev} {pc c : Nat} {t : Word} (fld : Fld) (n : Nat) (hfld : retiredKey pc ≠ regKey fld.base pc 0) :
    Commits d (Dev.commitAt (d.count fld pc 0 n) pc c t) pc c 0 0 t ∧
    OnlyContext d (Dev.commitAt (d.count fld pc 0 n) pc c t) pc c [retiredKey pc, regKey fld.base pc 0] := by
  apply Commits.of_commitAt
  case h0 => exact Dev.cellsRegs_count d fld pc 0 n
  case h1 => exact fun p _ => Dev.cell_count d fld pc 0 n p
  case h2 => rw [Dev.cell_count]
  case h3 => exact fun k _ => by rw [Dev.ctx_count]
  case h4 => exact fun b i m hkey => Dev.reg_setReg_other d _ (fun h => hkey (List.mem_singleton.2 h))
  case h5 => exact fun r => by rw [Dev.ctx_count, if_neg (fun h => h.2 h.1)]
  case h6 => rw [Dev.ctx_count]
  case h7 => rw [Dev.ctx_count]
  case h8 => exact Dev.reg_setReg_other d _ hfld

/-- A slab operation that enters the vector unit and commits is queued with its result. -/
theorem Queued.of_put {d : Dev} {pc c : Nat} {dst : SlabDst} {result : List Byte} {status : Nat} :
    Queued d (Dev.commitAt ((d.setSlabOps pc ((d.cell pc).slabOps ++ [d.slabOp pc c dst result status])).count F.CELL_VEC_BUSY pc 0 8)
      pc c (d.seqPc pc c)) pc c dst result status := by
  have hkeys : retiredKey pc ≠ regKey F.CELL_VEC_BUSY.base pc 0 := by
    have hbase : F.CELL_RETIRED.base ≠ F.CELL_VEC_BUSY.base := by decide
    simp only [retiredKey, regKey]
    omega
  generalize hops : (d.cell pc).slabOps ++ [d.slabOp pc c dst result status] = ops
  obtain ⟨hcommit, honly⟩ := Commits.of_count (d := d.setSlabOps pc ops) (c := c) (t := d.seqPc pc c) F.CELL_VEC_BUSY 8 hkeys
  refine ⟨?_, ?_, honly.of_setSlabOps⟩
  · rw [honly.slabOps, Dev.cell_setSlabOps_same, ← hops]
    rfl
  · simpa only [Commits, Dev.ctx_setSlabOps, Dev.reg_setSlabOps] using hcommit

/-- Fewer registers wait for no more. -/
theorem Dev.slabsPending_subset {d : Dev} {pc c : Nat} {vs ws : List Nat} (hsub : vs ⊆ ws) (h : d.slabsPending pc c ws = false) :
    d.slabsPending pc c vs = false := by
  rw [Dev.slabsPending, List.any_eq_false] at h ⊢
  exact fun v hv => h v (hsub hv)

/-- R94: a context may issue a slab word, none of whose registers waits for an earlier operation. -/
structure Dev.SlabReady (d : Dev) (pc c : Nat) (f : FmtV) : Prop where
  ready : d.ready pc c = true
  slabs : d.slabsPending pc c [f.vd.toNat, f.va.toNat, f.vb.toNat, f.vc.toNat] = false
  scalar : d.scalarPending pc c f.xs.toNat = false

/-- R90, R94: a well-formed slab operation on registers that wait for nothing enters the vector unit. -/
theorem Dev.SlabReady.issueSlab {d : Dev} {pc : Slot} {c : Ctx} {f : FmtV} (h : d.SlabReady pc c f) {u : UseV} {extra : Bool} {slabs : List Nat}
    {body : Dev → CoreEnd} {dst : SlabDst} {r : List Byte × Nat} {result : List Byte} {status : Nat} (hok : f.ok u = true) (hextra : extra = true)
    (hfmt : u.fmt = true → vecFmt f = true) (hslabs : slabs ⊆ [f.vd.toNat, f.va.toNat, f.vb.toNat, f.vc.toNat])
    (hbody : body d = d.putSlab pc c dst r) (hresult : r = (result, status)) :
    Queued d (d.issueSlab pc c f u extra slabs body) pc c dst result status := by
  have hunit : (u.fmt && !vecFmt f) = false := by
    cases hu : u.fmt with
    | false => rfl
    | true => rw [hfmt hu]; rfl
  have hnext : ∀ e : Dev, (e.ctx pc c).pc = (d.ctx pc c).pc →
      e.modCtx pc c (fun x => { x with pc := x.nextPc }) = e.modCtx pc c (fun x => { x with pc := d.seqPc pc c }) := by
    intro e he
    simp only [Dev.modCtx, CtxState.nextPc, Dev.seqPc, he]
  rw [Dev.issueSlab, hok, hextra, Bool.and_self,
    Dev.issue_next h.ready (by rw [hunit, Dev.slabsPending_subset hslabs h.slabs, h.scalar, hbody, hresult, Dev.putSlab_eq]; rfl),
    hnext _ (by rw [Dev.ctx_count, Dev.ctx_setSlabOps])]
  exact Queued.of_put

/-- The slab registers of a two-operand form are among those that its word names. -/
theorem slabsAB_subset (f : FmtV) : slabsAB f ⊆ [f.vd.toNat, f.va.toNat, f.vb.toNat, f.vc.toNat] := by
  rw [slabsAB]
  split <;> simp

end Sys2Proof.Machine
end

section
namespace Sys2Proof.Machine

/-! ## Elements and masks of floating-point operations (R59, R60, R96) -/

/-- Bytes of an element of the vector unit's two formats. -/
theorem fmtK_eq {f : FmtV} (h : f.fmt = 0 ∨ f.fmt = 1) : fmtK f.fmt.toNat = if f.fmt = 0 then 4 else 2 := by
  rcases h with h | h <;> rw [h] <;> rfl

theorem vecFmt_iff {f : FmtV} : vecFmt f = true ↔ f.fmt = 0 ∨ f.fmt = 1 := by
  simp only [vecFmt, Bool.or_eq_true, decide_eq_true_eq]

theorem joinVec_eq (k : Nat) (rs : List (Nat × VecFlags)) :
    joinVec k rs = (rs.flatMap (fun r => leBytes k r.1), (rs.foldl (fun v r => v.or r.2) VecFlags.clear).status) := by
  rw [joinVec, bytesOf, List.flatMap_map]

theorem fmaElems_eq_zipWith (f : Nat) (as bs cs : List Nat) :
    fmaElems f as bs cs = List.zipWith (fun ab c => vecFma f ab.1 ab.2 c) (as.zip bs) cs := by
  induction as generalizing bs cs with
  | nil => rfl
  | cons a as ih =>
    cases bs with
    | nil => rfl
    | cons b bs =>
      cases cs with
      | nil => rfl
      | cons c cs => rw [fmaElems, ih]; rfl

theorem leBytes_zero (k : Nat) : leBytes k 0 = List.replicate k 0 := by
  induction k with
  | zero => rfl
  | succ k ih => rw [leBytes, Nat.zero_div, ih, List.replicate_succ]; rfl

/-- The number with all 8k bits set is k bytes of 0xFF. -/
theorem leBytes_allOnes (k : Nat) : leBytes k (2 ^ (8 * k) - 1) = List.replicate k 0xFF := by
  induction k with
  | zero => rfl
  | succ k ih =>
    have hpos : 0 < 2 ^ (8 * k) := Nat.two_pow_pos _
    have hpow : 2 ^ (8 * (k + 1)) = 256 * 2 ^ (8 * k) := by rw [Nat.mul_succ, Nat.pow_add, Nat.mul_comm]
    have hhigh : (2 ^ (8 * (k + 1)) - 1) / 256 = 2 ^ (8 * k) - 1 := by omega
    have hlow : BitVec.ofNat 8 (2 ^ (8 * (k + 1)) - 1) = 0xFF := by
      apply BitVec.eq_of_toNat_eq
      rw [BitVec.toNat_ofNat]
      show _ = 255
      omega
    rw [leBytes, hhigh, ih, hlow, List.replicate_succ]

theorem leBytes_maskElem (k : Nat) (b : Bool) : leBytes k (maskElem k b) = List.replicate k (if b then 0xFF else 0) := by
  cases b
  · exact leBytes_zero k
  · exact leBytes_allOnes k

/-- R96: a mask holds an element of ones or zeros for each comparison. -/
theorem bytesOf_mask (k : Nat) (p : Nat → Nat → Bool) (as bs : List Nat) :
    bytesOf k (List.zipWith (fun a b => maskElem k (p a b)) as bs) =
      (List.zipWith p as bs).flatMap (fun m => List.replicate k (if m then 0xFF else 0)) := by
  rw [bytesOf, ← List.map_zipWith, List.flatMap_map]
  exact List.flatMap_congr (fun m _ => leBytes_maskElem k m)

end Sys2Proof.Machine
end

section
namespace Sys2Proof.Machine

/-! ## Well-formed floating-point slab words (R90, R91) -/

section
variable {f : FmtV} (hbx : if f.bx then f.vb = 0 else f.xs = 0) (hiw : f.iw = 0) (hres : f.res = 0)
include hbx hiw hres

theorem FmtV.ok_useFp {vc cond : Bool} (hvc : vc = true ∨ f.vc = 0) (hcond : cond = true ∨ f.cond = 0) (himm : f.imm16 = 0) :
    f.ok { useFp with vc := vc, cond := cond } = true := by
  simpa [FmtV.ok, useFp, within, hiw, hres, himm] using And.intro (And.intro hvc hbx) hcond

/-- The forms that read VA alone. -/
theorem FmtV.ok_useVa {imm : Nat} (hvb : f.vb = 0) (hvc : f.vc = 0) (hcond : f.cond = 0) (hnbx : f.bx = false)
    (himm : within imm f.imm16.toNat = true) : f.ok ⟨true, true, false, false, true, false, false, false, false, imm⟩ = true := by
  rw [hnbx, if_neg Bool.false_ne_true] at hbx
  simp [FmtV.ok, hvb, hvc, hcond, hnbx, hbx, hiw, hres, himm]

end

/-! ## Floating-point slab operations (R59, R60, R95 to R98) -/

section
variable {d : Dev} {pc : Slot} {c : Ctx} {f : FmtV} (h : d.SlabReady pc c f)
include h

theorem Dev.SlabReady.slabFp (hok : f.ok useFp = true) (hfmt : vecFmt f = true) (op : Nat → Nat → Nat → Nat × VecFlags) :
    let k := fmtK f.fmt.toNat
    let rs := List.zipWith (op f.fmt.toNat) (d.slabElems pc c f.va.toNat k) (d.slabB pc c k f)
    Queued d (d.slabFp pc c f op) pc c (.slab f.vd.toNat) (rs.flatMap (fun r => leBytes k r.1))
      (rs.foldl (fun v r => v.or r.2) VecFlags.clear).status :=
  h.issueSlab hok rfl (fun _ => hfmt) (slabsAB_subset f) rfl (joinVec_eq _ _)

theorem Does.vfma (hok : f.ok { useFp with vc := true } = true) (hfmt : vecFmt f = true) :
    let k := fmtK f.fmt.toNat
    let rs := List.zipWith (fun ab e => vecFma f.fmt.toNat ab.1 ab.2 e) ((d.slabElems pc c f.va.toNat k).zip (d.slabB pc c k f))
      (d.slabElems pc c f.vc.toNat k)
    Does (.vfma pc c f) d (fun d' => Queued d d' pc c (.slab f.vd.toNat) (rs.flatMap (fun r => leBytes k r.1))
      (rs.foldl (fun v r => v.or r.2) VecFlags.clear).status) :=
  fun _ => ⟨_, rfl, h.issueSlab hok rfl (fun _ => hfmt) (List.cons_subset.2 ⟨by simp, slabsAB_subset f⟩) rfl
    (by rw [joinVec_eq, fmaElems_eq_zipWith])⟩

theorem Does.vcmp (hok : f.ok { useFp with cond := true } = true) (hcond : condOk true f.cond.toNat = true) (hfmt : vecFmt f = true) :
    let k := fmtK f.fmt.toNat
    Does (.vcmp pc c f) d (fun d' => Queued d d' pc c (.slab f.vd.toNat)
      ((List.zipWith (fun a b => fpCompare f.cond.toNat (fpDecode f.fmt.toNat a) (fpDecode f.fmt.toNat b))
        (d.slabElems pc c f.va.toNat k) (d.slabB pc c k f)).flatMap (fun m => List.replicate k (if m then 0xFF else 0))) 0) :=
  fun _ => ⟨_, rfl, h.issueSlab hok hcond (fun _ => hfmt) (slabsAB_subset f) rfl (congrArg (·, 0) (bytesOf_mask _ _ _ _))⟩

theorem Does.vsum (hok : f.ok ⟨true, true, false, false, true, false, false, false, false, 0⟩ = true) (hfmt : vecFmt f = true) :
    let k := fmtK f.fmt.toNat
    let r := sumTree f.fmt.toNat (if k = 4 then 10 else 11) (d.slabElems pc c f.va.toNat k)
    Does (.vsum pc c f) d (fun d' => Queued d d' pc c (.slab f.vd.toNat) (leBytes k r.1 ++ List.replicate (4096 - k) 0) r.2.status) :=
  fun _ => ⟨_, rfl, h.issueSlab hok rfl (fun _ => hfmt) (by simp) rfl rfl⟩

/-- R98: FMT BF16 narrows VA and VB. -/
theorem Does.vcvt_narrow (hok : f.ok useFp = true) (hfmt : f.fmt = 1) :
    let rs := (d.slabElems pc c f.va.toNat 4 ++ d.slabB pc c 4 f).map (vecCvt 0 1)
    Does (.vcvt pc c f) d (fun d' => Queued d d' pc c (.slab f.vd.toNat) (rs.flatMap (fun r => leBytes 2 r.1))
      (rs.foldl (fun v r => v.or r.2) VecFlags.clear).status) := by
  have hne : f.fmt ≠ 0 := by rw [hfmt]; decide
  refine fun _ => ⟨_, rfl, ?_⟩
  simp only [if_neg hne]
  exact h.issueSlab hok rfl (fun _ => vecFmt_iff.2 (.inr hfmt)) (slabsAB_subset f) rfl (joinVec_eq _ _)

/-- R98: FMT FP32 widens the half of VA that IMM16[0] chooses. -/
theorem Does.vcvt_widen (hok : f.ok ⟨true, true, false, false, true, false, false, false, false, 1⟩ = true) (hfmt : f.fmt = 0) :
    let rs := (((d.slabElems pc c f.va.toNat 2).drop (1024 * (f.imm16.toNat % 2))).take 1024).map (vecCvt 1 0)
    Does (.vcvt pc c f) d (fun d' => Queued d d' pc c (.slab f.vd.toNat) (rs.flatMap (fun r => leBytes 4 r.1))
      (rs.foldl (fun v r => v.or r.2) VecFlags.clear).status) := by
  refine fun _ => ⟨_, rfl, ?_⟩
  simp only [if_pos hfmt]
  exact h.issueSlab hok rfl (fun _ => vecFmt_iff.2 (.inl hfmt)) (by simp) rfl (joinVec_eq _ _)

end

/-- Settles O14: every form issues through one rule, and its element results are those that the statement spells out. -/
theorem floatSlabOperationsQueueTheirResults : Obligations.FloatSlabOperationsQueueTheirResults := by
  unfold Obligations.FloatSlabOperationsQueueTheirResults
  intro pc c f d hready hfmt hiw hres hbx hslabs hxs
  have h : d.SlabReady pc c f := ⟨hready, hslabs, hxs⟩
  have hvec : vecFmt f = true := vecFmt_iff.2 hfmt
  rw [← fmtK_eq hfmt]
  intro k A B vd out
  refine ⟨fun himm => ⟨?binary, ?vfma, ?vcmp, ?vsum, ?narrow⟩, ?widen⟩
  case binary =>
    intro e he hvc hcond
    refine .of_run (f := fun d => d.slabFp pc c f e.2) (fun s => ?_) (h.slabFp (FmtV.ok_useFp hbx hiw hres (.inr hvc) (.inr hcond) himm) hvec e.2)
    simp only [List.mem_cons, List.not_mem_nil, or_false] at he
    rcases he with rfl | rfl | rfl | rfl | rfl <;> rfl
  case vfma => exact fun hcond => .vfma h (FmtV.ok_useFp hbx hiw hres (.inl rfl) (.inr hcond) himm) hvec
  case vcmp => exact fun hvc hcond => .vcmp h (FmtV.ok_useFp hbx hiw hres (.inr hvc) (.inl rfl) himm) hcond hvec
  case vsum =>
    intro hvb hvc hcond hnbx
    have hk : (if k = 4 then 10 else 11) = if f.fmt = 0 then 10 else 11 := by
      rcases hfmt with hf | hf <;> simp only [k, hf] <;> rfl
    rw [← hk]
    exact .vsum h (FmtV.ok_useVa hbx hiw hres hvb hvc hcond hnbx (by rw [himm]; rfl)) hvec
  case narrow => exact fun hvc hcond => .vcvt_narrow h (FmtV.ok_useFp hbx hiw hres (.inr hvc) (.inr hcond) himm)
  case widen =>
    intro hvb hvc hcond hnbx hfp himm
    have hbit : within 1 f.imm16.toNat = true := by
      rcases Nat.le_one_iff_eq_zero_or_eq_one.1 himm with hi | hi <;> rw [hi] <;> rfl
    have hwiden := Does.vcvt_widen h (FmtV.ok_useVa hbx hiw hres hvb hvc hcond hnbx hbit) hfp
    rwa [Nat.mod_eq_of_lt (Nat.lt_succ_of_le himm)] at hwiden

end Sys2Proof.Machine
end

section
namespace Sys2Proof.Machine

/-! ## Contexts that are chosen and woken (R107, R114, R196) -/

/-- A context is READY or RUNNING: the choice of the next context may change which of the two. -/
def CtxPhase.active (p : CtxPhase) : Prop := p = .ready ∨ p = .running

/-- A context holds a task that has neither ended nor faulted. -/
def CtxPhase.live (p : CtxPhase) : Prop := p = .ready ∨ p = .running ∨ p = .parked

/-- What being chosen, preempted or woken leaves of a context: its program and its bind, and its phase among those of a live task. -/
structure Rescheduled (x y : CtxState) : Prop where
  pc : y.pc = x.pc
  scalars : y.x = x.x
  bindId : y.bindId = x.bindId
  phase : y.phase = x.phase ∨ (x.phase.live ∧ y.phase.live)

theorem Rescheduled.refl (x : CtxState) : Rescheduled x x := ⟨rfl, rfl, rfl, .inl rfl⟩

theorem Rescheduled.live {x y : CtxState} (h : Rescheduled x y) (hx : x.phase.live) : y.phase.live := by
  rcases h.phase with he | ⟨-, hy⟩
  · rwa [he]
  · exact hy

theorem Rescheduled.faulted {x y : CtxState} (h : Rescheduled x y) (hx : x.phase = .faulted) : y.phase = .faulted := by
  rcases h.phase with he | ⟨hlive, -⟩
  · rw [he, hx]
  · rw [hx] at hlive
    simp [CtxPhase.live] at hlive

theorem Rescheduled.trans {x y z : CtxState} (h : Rescheduled x y) (h' : Rescheduled y z) : Rescheduled x z := by
  refine ⟨h'.pc.trans h.pc, h'.scalars.trans h.scalars, h'.bindId.trans h.bindId, ?_⟩
  rcases h.phase with he | ⟨hx, hy⟩
  · rcases h'.phase with he' | ⟨hy, hz⟩
    · exact .inl (he'.trans he)
    · exact .inr ⟨he ▸ hy, hz⟩
  · exact .inr ⟨hx, h'.live hy⟩

theorem Rescheduled.wake {x : CtxState} (h : x.phase.live) : Rescheduled x x.wake := ⟨rfl, rfl, rfl, .inr ⟨h, .inl rfl⟩⟩

/-- Only contexts of a cell change, and only as being chosen or woken changes them. -/
structure Rechosen (s t : CellState) : Prop where
  arr : t.arr = s.arr
  ctrs : t.ctrs = s.ctrs
  ctx : ∀ c, Rescheduled (s.ctx c) (t.ctx c)

theorem Rechosen.refl (s : CellState) : Rechosen s s := ⟨rfl, rfl, fun _ => .refl _⟩

theorem Rechosen.trans {s t u : CellState} (h : Rechosen s t) (h' : Rechosen t u) : Rechosen s u :=
  ⟨h'.arr.trans h.arr, h'.ctrs.trans h.ctrs, fun c => (h.ctx c).trans (h'.ctx c)⟩

theorem Rechosen.setCtx {s : CellState} {c : Nat} {x : CtxState} (h : Rescheduled (s.ctx c) x) : Rechosen s (s.setCtx c x) := by
  refine ⟨rfl, rfl, fun k => ?_⟩
  by_cases hk : k = c
  · subst hk
    rwa [CellState.ctx_setCtx_same]
  · rw [CellState.ctx_setCtx_other s hk]
    exact .refl _

theorem Rechosen.start {s : CellState} {c : Nat} (h : (s.ctx c).phase.live) : Rechosen s (s.start c) := by
  have hset : Rechosen s (s.setCtx c { s.ctx c with phase := .running }) := .setCtx ⟨rfl, rfl, rfl, .inr ⟨h, .inr (.inl rfl)⟩⟩
  exact ⟨rfl, rfl, hset.ctx⟩

/-- Waking live contexts, one after the other. -/
theorem Rechosen.wakes (p : CellState → Nat → Bool) (l : List Nat) {s : CellState} (h : ∀ c ∈ l, ∀ t, Rechosen s t → p t c = true → (t.ctx c).phase.live) :
    Rechosen s (l.foldl (fun s c => if p s c then s.setCtx c (s.ctx c).wake else s) s) := by
  induction l generalizing s with
  | nil => exact .refl s
  | cons c l ih =>
    have hstep : Rechosen s (if p s c then s.setCtx c (s.ctx c).wake else s) := by
      split
      next hp => exact .setCtx (.wake (h c (List.mem_cons_self ..) s (.refl s) hp))
      next => exact .refl s
    exact hstep.trans (ih fun k hk t ht => h k (List.mem_cons_of_mem _ hk) t (hstep.trans ht))

theorem CellState.readyOf_ready {s : CellState} {prio c : Nat} (h : c ∈ s.readyOf prio) : (s.ctx c).phase = .ready := by
  have hc := (List.mem_filter.1 h).2
  rw [Bool.and_eq_true] at hc
  exact of_decide_eq_true hc.1

theorem CellState.pick_ready {s : CellState} {c : Nat} (h : s.pick = some c) : (s.ctx c).phase = .ready := by
  have head : ∀ {prio c' l}, s.readyOf prio = c' :: l → some c' = some c → (s.ctx c).phase = .ready := by
    intro prio c' l hl hc
    exact CellState.readyOf_ready (prio := prio) (Option.some.inj hc ▸ hl ▸ List.mem_cons_self ..)
  unfold CellState.pick at h
  split at h
  next h3 => exact head h3 h
  next h2 => exact head h2 h
  next h1 => exact head h1 h
  next h0 => exact head h0 h
  next => exact nomatch h

theorem CellState.runner_running {s : CellState} {c : Nat} (h : s.runner = some c) : (s.ctx c).phase = .running := by
  unfold CellState.runner at h
  have hc := List.find?_some h
  exact of_decide_eq_true hc

/-- The choice of the next context changes the phases of READY and RUNNING contexts alone. -/
theorem CellState.reselect_phase (s : CellState) (c : Nat) :
    (s.reselect.ctx c).phase = (s.ctx c).phase ∨ ((s.ctx c).phase.active ∧ (s.reselect.ctx c).phase.active) := by
  have start : ∀ (t : CellState) (k : Nat), (t.ctx k).phase.active →
      ((t.start k).ctx c).phase = (t.ctx c).phase ∨ ((t.ctx c).phase.active ∧ ((t.start k).ctx c).phase.active) := by
    intro t k hk
    have hctx : (t.start k).ctx c = (t.setCtx k { t.ctx k with phase := .running }).ctx c := rfl
    rw [hctx]
    by_cases hc : c = k
    · subst hc
      rw [CellState.ctx_setCtx_same]
      exact .inr ⟨hk, .inr rfl⟩
    · rw [CellState.ctx_setCtx_other _ hc]
      exact .inl rfl
  unfold CellState.reselect
  split
  · exact .inl rfl
  · split
    next k _ hpick => exact start s k (.inl (CellState.pick_ready hpick))
    next r k hrun hpick =>
      split
      · have hrk : k ≠ r := by
          rintro rfl
          have := CellState.runner_running hrun
          rw [CellState.pick_ready hpick] at this
          exact nomatch this
        have hready : ((s.setCtx r { (s.ctx r).dropAhead with phase := .ready }).ctx k).phase.active := by
          rw [CellState.ctx_setCtx_other _ hrk]
          exact .inl (CellState.pick_ready hpick)
        have hstart := start (s.setCtx r { (s.ctx r).dropAhead with phase := .ready }) k hready
        by_cases hc : c = r
        · subst hc
          rw [CellState.ctx_setCtx_same] at hstart
          refine .inr ⟨.inr (CellState.runner_running hrun), ?_⟩
          rcases hstart with he | ⟨-, ha⟩
          · exact .inl he
          · exact ha
        · rwa [CellState.ctx_setCtx_other _ hc] at hstart
      · exact .inl rfl
    next => exact .inl rfl

theorem Rechosen.reselect (s : CellState) : Rechosen s s.reselect := by
  have hsame := s.reselect_same
  refine ⟨congrArg (fun t => t.arr) hsame, congrArg (fun t => t.ctrs) hsame, fun c => ?_⟩
  have hkept := s.ctx_reselect c
  refine ⟨CtxState.pc_of_kept hkept, CtxState.x_of_kept hkept, congrArg (fun k => k.2.2.2.2.2.2.2.2.2.1) hkept, ?_⟩
  exact (s.reselect_phase c).imp_right fun ⟨hs, ht⟩ => ⟨hs.imp_right .inl, ht.imp_right .inl⟩

end Sys2Proof.Machine
end

section
namespace Sys2Proof.Machine

/-! ## What a record, a hold, a wake or a counter leaves alone -/

/-- The offsets of the registers that records, holds, refused stores, context faults and counters write. -/
def asideOffsets : List Nat := [0x030, 0x080, 0x088, 0x090, 0x118, 0x120, 0x130, 0x158, 0x618, 0x6E0]

/-- Every register but those. -/
def AsideKey (k : Nat) : Prop := k % 2 ^ 12 ∉ asideOffsets

theorem asideKey_regKey (base inst item : Nat) (h : base % 2 ^ 12 ∉ asideOffsets := by decide) : AsideKey (regKey base inst item) := by
  rwa [AsideKey, regKey_mod]

theorem not_asideKey (base inst item : Nat) (h : base % 2 ^ 12 ∈ asideOffsets := by decide) : ¬ AsideKey (regKey base inst item) := by
  rw [AsideKey, regKey_mod]
  exact fun hn => hn h

/-- The cell in slot `pc` changes as being chosen or woken changes contexts, but for its array and its counters; no other cell changes. -/
structure Calm (pc : Nat) (d d' : Dev) : Prop where
  regs : Keeps AsideKey d d'
  others : CellsStand d d' pc
  ctx : ∀ c, Rescheduled (d.ctx pc c) (d'.ctx pc c)

theorem Calm.refl (pc : Nat) (d : Dev) : Calm pc d d := ⟨.refl d, fun _ _ => rfl, fun _ => .refl _⟩

theorem Calm.trans {pc : Nat} {a b c : Dev} (h : Calm pc a b) (h' : Calm pc b c) : Calm pc a c :=
  ⟨h.regs.trans h'.regs, fun p hp => (h'.others p hp).trans (h.others p hp), fun k => (h.ctx k).trans (h'.ctx k)⟩

/-- Beyond that nothing changes: neither storage nor the array nor the counters of the cell. -/
structure Steady (pc : Nat) (d d' : Dev) : Prop extends Calm pc d d' where
  mem : d'.mem = d.mem
  arr : d'.arr pc = d.arr pc
  counter : ∀ n, d'.counter pc n = d.counter pc n

theorem Steady.refl (pc : Nat) (d : Dev) : Steady pc d d := ⟨.refl pc d, rfl, rfl, fun _ => rfl⟩

theorem Steady.trans {pc : Nat} {a b c : Dev} (h : Steady pc a b) (h' : Steady pc b c) : Steady pc a c :=
  ⟨h.toCalm.trans h'.toCalm, h'.mem.trans h.mem, h'.arr.trans h.arr, fun n => (h'.counter n).trans (h.counter n)⟩

theorem Steady.ite {pc : Nat} {d a b : Dev} {p : Prop} [Decidable p] (ha : Steady pc d a) (hb : Steady pc d b) : Steady pc d (if p then a else b) := by
  split
  · exact ha
  · exact hb

theorem CellsStand.of_cells {d d' : Dev} (h : d'.cells = d.cells) (pc : Nat) : CellsStand d d' pc := fun p _ => by rw [Dev.cell, Dev.cell, h]

theorem CellsStand.modCell (d : Dev) (pc : Nat) (f : CellState → CellState) : CellsStand d (d.modCell pc f) pc :=
  fun _ hp => d.cell_setCell_other hp _

theorem CellsStand.modArr (d : Dev) (pc : Nat) (f : ArrayState → ArrayState) : CellsStand d (d.modArr pc f) pc := .modCell d pc _

theorem CellsStand.refl (d : Dev) (pc : Nat) : CellsStand d d pc := fun _ _ => rfl

theorem CellsStand.trans {a b c : Dev} {pc : Nat} (h : CellsStand a b pc) (h' : CellsStand b c pc) : CellsStand a c pc :=
  fun p hp => (h' p hp).trans (h p hp)

theorem Dev.ctx_of_cells {d d' : Dev} (h : d'.cells = d.cells) (pc c : Nat) : d'.ctx pc c = d.ctx pc c := by rw [Dev.ctx, Dev.ctx, Dev.cell, Dev.cell, h]

theorem Dev.arr_of_cells {d d' : Dev} (h : d'.cells = d.cells) (pc : Nat) : d'.arr pc = d.arr pc := by rw [Dev.arr, Dev.arr, Dev.cell, Dev.cell, h]

theorem Dev.counter_of_cells {d d' : Dev} (h : d'.cells = d.cells) (pc n : Nat) : d'.counter pc n = d.counter pc n := by
  rw [Dev.counter, Dev.counter, Dev.cell, Dev.cell, h]

theorem Calm.of_cells {d d' : Dev} (pc : Nat) (hregs : Keeps AsideKey d d') (h : d'.cells = d.cells) : Calm pc d d' :=
  ⟨hregs, .of_cells h pc, fun c => by rw [Dev.ctx_of_cells h]; exact .refl _⟩

theorem Steady.of_cells {d d' : Dev} (pc : Nat) (hregs : Keeps AsideKey d d') (h : d'.cells = d.cells) (hmem : d'.mem = d.mem) : Steady pc d d' :=
  ⟨.of_cells pc hregs h, hmem, Dev.arr_of_cells h pc, Dev.counter_of_cells h pc⟩

theorem Steady.setReg {base : Nat} (pc : Nat) (d : Dev) (inst item v : Nat) (h : base % 2 ^ 12 ∈ asideOffsets := by decide) :
    Steady pc d (d.setReg base inst item v) :=
  .of_cells pc (.setReg d _ _ _ _ (not_asideKey _ _ _ h)) (by simp) (by simp)

theorem Steady.modCell {pc : Nat} (d : Dev) {f : CellState → CellState} (h : Rechosen (d.cell pc) (f (d.cell pc))) : Steady pc d (d.modCell pc f) := by
  refine ⟨⟨.modCell d pc f, .modCell d pc f, fun c => ?_⟩, rfl, ?_, fun n => ?_⟩
  · rw [Dev.ctx, Dev.ctx, Dev.cell_modCell_same]
    exact h.ctx c
  · rw [Dev.arr, Dev.cell_modCell_same, h.arr, Dev.arr]
  · rw [Dev.counter, Dev.cell_modCell_same, h.ctrs, Dev.counter]

theorem Steady.reselect (pc : Nat) (d : Dev) : Steady pc d (d.reselect pc) := .modCell d (.reselect _)

theorem Steady.report (pc : Nat) (d : Dev) {r : Record} (h : r.sev ≠ 4) : Steady pc d (d.report r) := by
  unfold Dev.report
  rw [if_neg h]
  exact .ite (.of_cells pc (.of_regs rfl) rfl rfl) (.setReg pc d _ _ _)

theorem Steady.record (pc : Nat) (d : Dev) {event key cls inst sev d0 d1 d2 : Nat} (h : sev ≠ 4) :
    Steady pc d (d.record event key cls inst sev d0 d1 d2) := .report pc d h

theorem Steady.sendC (pc : Nat) {d d' : Dev} (h : Frame SendKey d d') : Steady pc d d' := by
  refine .of_cells pc (h.regs.mono fun k hk => ?_) h.cells h.mem
  have hsub : ∀ o ∈ [0x130, 0x158], o ∈ asideOffsets := by decide
  exact ⟨fun he => hk (he ▸ hsub _ (by decide)), fun he => hk (he ▸ hsub _ (by decide))⟩

theorem Steady.modSched (pc : Nat) (d : Dev) (f : SchedState → SchedState) : Steady pc d (d.modSched f) := .of_cells pc (.of_regs rfl) rfl rfl

/-- A hold sends C flits and makes a record. -/
theorem Steady.raiseHold (pc : Nat) (d : Dev) (cause port lc : Nat) : Steady pc d (d.raiseHold cause port lc) := by
  have hflood : Steady pc d (d.floodHold cause port lc).2 := by
    refine .trans (.trans ?_ (.sendC pc (.sendCs _ _ _))) (.record (sev := 2) pc _ (by decide))
    exact .of_cells pc (.of_regs rfl) rfl rfl
  have hkeep : d.keepHold cause port lc = (d.floodHold cause port lc).2.modSched (fun s => { s with
    hold := s.hold.orElse (fun _ => some (d.floodHold cause port lc).1) }) := rfl
  exact .ite (hkeep ▸ hflood.trans (.modSched pc _ _)) (.refl pc d)

theorem Steady.latchFault (pc : Nat) (d : Dev) (cause name : Nat) : Steady pc d (d.latchFault pc cause name) :=
  .ite (.setReg pc d _ _ _) ((((Steady.setReg pc d _ _ _).trans (.setReg pc _ _ _ _)).trans (.setReg pc _ _ _ _)).trans (.setReg pc _ _ _ _))

/-- The latch and the record of a fault. -/
theorem Steady.noteFault (pc : Nat) (d : Dev) (c cause : Nat) (at' : Word) (d0 d1 d2 : Nat) : Steady pc d (d.noteFault pc c cause at' d0 d1 d2) :=
  (Steady.latchFault pc d cause _).trans (.report pc _ (causeSeverity_ne cause))

/-- Waking the contexts that wait for a plane (R140, R141). -/
theorem Steady.wakePlane (pc : Nat) (d : Dev) : Steady pc d (d.wakePlane pc) := by
  refine .trans (.modCell d ?_) (.reselect pc _)
  refine Rechosen.wakes (fun s c => (s.ctx c).phase = .parked && (s.ctx c).wait = some .plane) _ fun c _ t _ hp => ?_
  rw [Bool.and_eq_true] at hp
  exact .inr (.inr (of_decide_eq_true hp.1))

end Sys2Proof.Machine
end

section
namespace Sys2Proof.Machine

/-! ## Posting a counter (R192, R195, R196) -/

/-- The device with the value of a counter set and nothing else. -/
def Dev.writeCtr (d : Dev) (pc n v : Nat) : Dev := d.modCell pc (fun s => { s with ctrs := SMap.write 0 s.ctrs n (wOf v) })

theorem Dev.counter_writeCtr (d : Dev) (pc n v k : Nat) : (d.writeCtr pc n v).counter pc k = if k = n then v % 2 ^ 64 else d.counter pc k := by
  rw [Dev.counter, Dev.writeCtr, Dev.cell_modCell_same]
  by_cases hk : k = n
  · subst hk
    rw [if_pos rfl, SMap.read_write_same, wOf, BitVec.toNat_ofNat]
  · rw [if_neg hk, SMap.read_write_other hk, Dev.counter]

theorem Dev.arr_writeCtr (d : Dev) (pc n v : Nat) : (d.writeCtr pc n v).arr pc = d.arr pc := by rw [Dev.arr, Dev.writeCtr, Dev.cell_modCell_same, Dev.arr]

theorem Calm.writeCtr (d : Dev) (pc n v : Nat) : Calm pc d (d.writeCtr pc n v) :=
  ⟨.modCell d pc _, .modCell d pc _, fun c => by rw [Dev.ctx, Dev.ctx, Dev.writeCtr, Dev.cell_modCell_same]; exact .refl _⟩

/-- A counter that takes a value wakes the contexts that it reaches, and does no more. -/
theorem Steady.putCounter (d : Dev) (pc n v : Nat) : Steady pc (d.writeCtr pc n v) (d.putCounter pc n v) := by
  have hreached : ∀ c ∈ ((d.writeCtr pc n v).cell pc).reached n v, (((d.writeCtr pc n v).cell pc).ctx c).phase.live := by
    intro c hc
    have hparked := (List.mem_filter.1 hc).2
    split at hparked
    next hphase _ => exact .inr (.inr hphase)
    next => exact nomatch hparked
  have hwoken := Rechosen.wakes (fun _ _ => true) _ fun c hc t ht _ => (ht.ctx c).live (hreached c hc)
  exact .ite (.refl pc _) (((Steady.modCell _ hwoken).trans (.setReg pc _ _ _ _)).trans (.reselect pc _))

/-- One counter of the cell has a new value; otherwise only contexts are woken. -/
structure Posted (pc n v : Nat) (d d' : Dev) : Prop extends Calm pc d d' where
  mem : d'.mem = d.mem
  arr : d'.arr pc = d.arr pc
  counter : ∀ k, d'.counter pc k = if k = n then v else d.counter pc k

theorem Posted.putCounter (d : Dev) (pc n : Nat) {v : Nat} (h : v < 2 ^ 64) : Posted pc n v d (d.putCounter pc n v) := by
  have hput := Steady.putCounter d pc n v
  refine ⟨(Calm.writeCtr d pc n v).trans hput.toCalm, hput.mem, hput.arr.trans (d.arr_writeCtr pc n v), fun k => ?_⟩
  rw [hput.counter, Dev.counter_writeCtr, Nat.mod_eq_of_lt h]

theorem Posted.after {pc n v : Nat} {a b c : Dev} (h : Steady pc a b) (h' : Posted pc n v b c) : Posted pc n v a c :=
  ⟨h.toCalm.trans h'.toCalm, h'.mem.trans h.mem, h'.arr.trans h.arr, fun k => by rw [h'.counter, h.counter]⟩

/-- An addition saturates (R192). -/
theorem Posted.addCounter (d : Dev) (pc n amount : Nat) : Posted pc n (min (d.counter pc n + amount) (2 ^ 64 - 1)) d (d.addCounter pc n amount) := by
  simp only [Dev.addCounter]
  split
  next hsat =>
    have hside : Steady pc d ((d.set F.CELL_SYNC_STATUS_SAT 1 pc).record 0x0131 n 2 pc 0) := (Steady.setReg pc d _ _ _).trans (.record pc _ (by decide))
    rw [Nat.min_eq_right (by omega)]
    exact .after hside (.putCounter _ pc n (by omega))
  next hfit =>
    rw [Nat.min_eq_left (by omega)]
    exact .putCounter d pc n (by omega)

end Sys2Proof.Machine
end

section
namespace Sys2Proof.Machine

/-! ## Where a store goes (R4, R5, R252) -/

/-- The registers that say where a range of storage lies, and which of it the work-queue rings hold. -/
def StorageKey (k : Nat) : Prop := k % 2 ^ 12 = 0x018 ∨ LmapKey k

theorem StorageKey.aside {k : Nat} (h : StorageKey k) : AsideKey k := by
  rcases h with he | ⟨hlo, hhi⟩
  · rw [AsideKey, he]
    decide
  · simp only [AsideKey, asideOffsets, List.mem_cons, List.not_mem_nil, or_false]
    omega

/-- The host of a logical cell is the one that PART_LMAP names. -/
theorem Keeps.hostOf_eq {d d' : Dev} (h : Keeps LmapKey d d') (lc : Nat) : d'.hostOf lc = d.hostOf lc := by
  have hreg : d'.reg (F.PART_LMAP.base + 8 * (lc % 64 / 4)) (lc / 64) = d.reg (F.PART_LMAP.base + 8 * (lc % 64 / 4)) (lc / 64) := by
    refine h.reg ?_
    rw [LmapKey, regKey_mod]
    simp only
    omega
  have hlmap : d'.lmap lc = d.lmap lc := by rw [Dev.lmap, Dev.lmap, hreg]
  rw [Dev.hostOf, Dev.hostOf, hlmap]

/-- The storage of a range is decided by DEV_FAR_SIZE and the cell map. -/
theorem Keeps.place {d d' : Dev} (h : Keeps StorageKey d d') (slab : Bool) (a len : Nat) : d'.place slab a len = d.place slab a len := by
  have hfar : d'.get F.DEV_FAR_SIZE_SIZE = d.get F.DEV_FAR_SIZE_SIZE := h.get _ (.inr (by rw [LmapKey, regKey_mod]; decide))
  have hhost := (h.mono fun _ => .inr).hostOf_eq
  simp only [Dev.place, hfar, hhost]

/-- The enabled ring at a range is decided by the queues' configuration. -/
theorem Keeps.ringAt {d d' : Dev} (h : Keeps StorageKey d d') (a n : Nat) : d'.ringAt a n = d.ringAt a n := by
  have hcfg : ∀ e q, d'.reg F.ENG_WQ_CFG.base e q = d.reg F.ENG_WQ_CFG.base e q := fun e q => h.reg (.inl (by rw [regKey_mod]; decide))
  have hon : ∀ e q, d'.wqOn e q = d.wqOn e q := fun e q => congrArg (fun v => bitsOf v 63 63 != 0) (hcfg e (q + 1))
  have hslots : ∀ e q, d'.wqSlots e q = d.wqSlots e q := fun e q => congrArg (fun v => 2 ^ bitsOf v 48 45) (hcfg e (q + 1))
  have hbase : ∀ e q, d'.wqBase e q = d.wqBase e q := fun e q => congrArg (fun v => 0x100200000000 + e / 16 * 2 ^ 25 + bitsOf v 24 0) (hcfg e (q + 1))
  simp only [Dev.ringAt, hon, hslots, hbase]

theorem Dev.plainStore_free {d : Dev} {a : Nat} {bs : List Byte} (h : d.ringAt a bs.length = none) (who : Option Agent) : d.plainStore who a bs = d.store a bs := by
  rw [Dev.plainStore, h]

theorem Calm.plainStore (pc : Nat) (d : Dev) (who : Option Agent) (a : Nat) (bs : List Byte) :
    Calm pc d (d.plainStore who a bs) ∧ (d.plainStore who a bs).cells = d.cells := by
  have hside : Keeps AsideKey d (d.plainStore who a bs) ∧ (d.plainStore who a bs).cells = d.cells := by
    unfold Dev.plainStore
    split
    · exact ⟨.of_regs rfl, rfl⟩
    next e q _ =>
      have hcount : Keeps AsideKey d (d.count F.ENG_WRITES_REFUSED e) := .count d _ _ _ _ (not_asideKey _ _ _)
      refine ⟨(hcount.trans (.setReg _ _ _ _ _ (not_asideKey _ _ _))).trans (Steady.record (sev := 0) 0 _ (by decide)).regs, ?_⟩
      rw [Dev.ringRefused, (Reported.record _ (by decide)).cells, Dev.setReg_cells, Dev.count_cells]
  exact ⟨.of_cells pc hside.1 hside.2, hside.2⟩

/-! ## The end of a launch (R144, R145) -/

/-- The device with a launch's status word stored, where that is allowed. -/
def Dev.writeStatus (d : Dev) (pc : Nat) (l : LaunchDesc) (status : Nat) : Dev :=
  match (d.place false l.statusAddr 8).storage with
  | some st => d.plainStore ((d.hosted pc).map (fun lc => Agent.cell (Fin.ofNat 512 lc))) st (leBytes 8 status)
  | none => d

/-- The array with a launch among the last eight that have ended. -/
def ArrayState.close (a : ArrayState) (l : LaunchDesc) (status : Nat) : ArrayState :=
  { a with ended := ((a.ended ++ [EndedLaunch.mk l.handle l.ctx l.bindId status]).reverse.take 8).reverse }

/-- The waits that the end of a launch satisfies. -/
def LaunchDesc.wakes (l : LaunchDesc) (w : Option Wait) : Bool :=
  match w with
  | some (.launchEnd h) => h = l.handle
  | some .plane => true
  | _ => false

/-- Wakes the contexts whose wait the end of a launch satisfies. -/
def Dev.wakeEnded (d : Dev) (pc : Nat) (l : LaunchDesc) : Dev :=
  (d.modCell pc (fun s => (List.range 32).foldl (fun s c =>
    if (s.ctx c).phase = .parked && l.wakes (s.ctx c).wait then s.setCtx c (s.ctx c).wake else s) s)).reselect pc

theorem Dev.endLaunch_eq (d : Dev) (pc : Nat) (l : LaunchDesc) (status : Nat) :
    d.endLaunch pc l status = (((d.writeStatus pc l status).modArr pc (fun a => a.close l status)).addCounter pc l.doneCtr 1).wakeEnded pc l := rfl

theorem Calm.writeStatus (d : Dev) (pc : Nat) (l : LaunchDesc) (status : Nat) :
    Calm pc d (d.writeStatus pc l status) ∧ (d.writeStatus pc l status).cells = d.cells := by
  unfold Dev.writeStatus
  split
  · exact Calm.plainStore pc d _ _ _
  · exact ⟨.refl pc d, rfl⟩

theorem Dev.writeStatus_mem {d : Dev} {l : LaunchDesc} {a : Nat} (h : (d.place false l.statusAddr 8).storage = some a) (hring : d.ringAt a 8 = none)
    (pc status : Nat) : (d.writeStatus pc l status).mem = (d.store a (leBytes 8 status)).mem := by
  have hlen : d.ringAt a (leBytes 8 status).length = none := by rwa [leBytes_length]
  rw [Dev.writeStatus, h]
  exact congrArg Dev.mem (Dev.plainStore_free hlen _)

theorem Steady.wakeEnded (d : Dev) (pc : Nat) (l : LaunchDesc) : Steady pc d (d.wakeEnded pc l) := by
  refine .trans (.modCell d ?_) (.reselect pc _)
  refine Rechosen.wakes (fun s c => (s.ctx c).phase = .parked && l.wakes (s.ctx c).wait) _ fun c _ t _ hp => ?_
  rw [Bool.and_eq_true] at hp
  exact .inr (.inr (of_decide_eq_true hp.1))

theorem Dev.arr_modArr (d : Dev) (pc : Nat) (f : ArrayState → ArrayState) : (d.modArr pc f).arr pc = f (d.arr pc) := by
  rw [Dev.arr, Dev.modArr, Dev.cell_modCell_same, Dev.arr]

theorem Dev.ctx_modArr (d : Dev) (pc : Nat) (f : ArrayState → ArrayState) (c : Nat) : (d.modArr pc f).ctx pc c = d.ctx pc c := by
  rw [Dev.ctx, Dev.modArr, Dev.cell_modCell_same, Dev.ctx]
  rfl

theorem Dev.counter_modArr (d : Dev) (pc : Nat) (f : ArrayState → ArrayState) (n : Nat) : (d.modArr pc f).counter pc n = d.counter pc n := by
  rw [Dev.counter, Dev.modArr, Dev.cell_modCell_same, Dev.counter]

theorem Calm.modArr (d : Dev) (pc : Nat) (f : ArrayState → ArrayState) : Calm pc d (d.modArr pc f) :=
  ⟨.modArr d pc f, .modArr d pc f, fun c => by rw [Dev.ctx_modArr]; exact .refl _⟩

/-- What the end of a launch does to its cell and to storage. -/
structure Closed (pc : Nat) (l : LaunchDesc) (status : Nat) (d d' : Dev) : Prop extends Calm pc d d' where
  arr : d'.arr pc = (d.arr pc).close l status
  counter : ∀ n, d'.counter pc n = if n = l.doneCtr then min (d.counter pc l.doneCtr + 1) (2 ^ 64 - 1) else d.counter pc n
  mem : ∀ a, (d.place false l.statusAddr 8).storage = some a → d.ringAt a 8 = none → d'.mem = (d.store a (leBytes 8 status)).mem

theorem Closed.endLaunch (d : Dev) (pc : Nat) (l : LaunchDesc) (status : Nat) : Closed pc l status d (d.endLaunch pc l status) := by
  rw [Dev.endLaunch_eq]
  obtain ⟨hword, hcells⟩ := Calm.writeStatus d pc l status
  have hpost := Posted.addCounter ((d.writeStatus pc l status).modArr pc (fun a => a.close l status)) pc l.doneCtr 1
  have hwake := Steady.wakeEnded (((d.writeStatus pc l status).modArr pc (fun a => a.close l status)).addCounter pc l.doneCtr 1) pc l
  refine ⟨((hword.trans (.modArr _ pc _)).trans hpost.toCalm).trans hwake.toCalm, ?_, fun n => ?_, fun a ha hring => ?_⟩
  · rw [hwake.arr, hpost.arr, Dev.arr_modArr, Dev.arr_of_cells hcells]
  · rw [hwake.counter, hpost.counter, Dev.counter_modArr, Dev.counter_modArr, Dev.counter_of_cells hcells, Dev.counter_of_cells hcells]
  · rw [hwake.mem, hpost.mem]
    exact Dev.writeStatus_mem ha hring pc status

theorem ArrayState.mem_close (a : ArrayState) (l : LaunchDesc) (status : Nat) : ⟨l.handle, l.ctx, l.bindId, status⟩ ∈ (a.close l status).ended := by
  simp [ArrayState.close]

theorem LaunchEnded.endLaunch (d : Dev) (pc : Nat) (l : LaunchDesc) (status : Nat) : LaunchEnded d (d.endLaunch pc l status) pc l status := by
  have h := Closed.endLaunch d pc l status
  refine ⟨h.arr ▸ ArrayState.mem_close _ l status, (h.counter _).trans (if_pos rfl), fun a ha hring => ?_⟩
  have hmem := h.mem a ha hring
  have hbytes := BytesStand.store d a (leBytes 8 status)
  rw [leBytes_length] at hbytes
  refine ⟨?_, hbytes.trans (.of_mem hmem a 8)⟩
  rw [hmem]
  exact d.load_store_same a _ (leBytes_length 8 status)

/-- Changes before the end that concern neither its counter nor where its status word goes. -/
theorem LaunchEnded.before {d d1 d' : Dev} {pc : Nat} {l : LaunchDesc} {status : Nat} (h : LaunchEnded d1 d' pc l status)
    (hregs : Keeps StorageKey d d1) (hmem : d1.mem = d.mem) (hctr : d1.counter pc l.doneCtr = d.counter pc l.doneCtr) : LaunchEnded d d' pc l status := by
  obtain ⟨hended, hcounter, hword⟩ := h
  refine ⟨hended, hctr ▸ hcounter, fun a ha hring => ?_⟩
  obtain ⟨hread, hstand⟩ := hword a (by rwa [hregs.place]) (by rwa [hregs.ringAt])
  exact ⟨hread, (BytesStand.of_mem hmem a 8).trans hstand⟩

/-- Changes after the end that concern neither the ended launches, nor its counter, nor storage. -/
theorem LaunchEnded.then {d d1 d' : Dev} {pc : Nat} {l : LaunchDesc} {status : Nat} (h : LaunchEnded d d1 pc l status)
    (hended : (d'.arr pc).ended = (d1.arr pc).ended) (hctr : d'.counter pc l.doneCtr = d1.counter pc l.doneCtr) (hmem : d'.mem = d1.mem) :
    LaunchEnded d d' pc l status := by
  obtain ⟨hin, hcounter, hword⟩ := h
  refine ⟨hended ▸ hin, hctr.trans hcounter, fun a ha hring => ?_⟩
  obtain ⟨hread, hstand⟩ := hword a ha hring
  exact ⟨hmem ▸ hread, hstand.trans (.of_mem hmem a 8)⟩

end Sys2Proof.Machine
end

section
namespace Sys2Proof.Machine

/-! ## Launches of a context are aborted (R142, R146, R155) -/

/-- The launch belongs to a context, and is the one asked for where one is. -/
def LaunchDesc.hit (l : LaunchDesc) (c : Nat) (only : Option Nat) : Bool :=
  l.ctx = c && (match only with | some h => l.handle = h | none => true)

/-- The status word of a launch that ends ABORTED before it starts. -/
def LaunchDesc.aborted (l : LaunchDesc) : Nat := launchStatus l.handle 3 false false false false

/-- A pending launch that is hit ends ABORTED. -/
def Dev.abortPend (d : Dev) (pc c : Nat) (only : Option Nat) : Dev :=
  match (d.arr pc).pend with
  | some l => if l.hit c only then (d.modArr pc (fun a => { a with pend := none })).endLaunch pc l l.aborted else d
  | none => d

/-- A running launch that is hit is drained, unless its end is decided. -/
def ArrayState.abortRun (a : ArrayState) (c : Nat) (cause : DrainCause) (only : Option Nat) : ArrayState :=
  match a.run with
  | some l => if l.desc.hit c only && !l.committed then { a with run := some { l with drain := some cause } } else a
  | none => a

theorem Dev.abortLaunches_eq (d : Dev) (pc c : Nat) (cause : DrainCause) (only : Option Nat) :
    d.abortLaunches pc c cause only = (d.abortPend pc c only).modArr pc (fun a => a.abortRun c cause only) := rfl

/-- No launch runs, or the end of the one that runs is decided. -/
def ArrayState.decided (a : ArrayState) : Prop := ∀ l, a.run = some l → l.committed = true

theorem ArrayState.decided_none {a : ArrayState} (h : a.run = none) : a.decided := fun l hl => by
  rw [h] at hl
  exact nomatch hl

theorem ArrayState.decided_some {a : ArrayState} {l : Launch} {st : Nat} (h : a.run = some l) (hst : l.ending = some st) : a.decided := fun l' hl => by
  rw [h] at hl
  rw [← Option.some.inj hl, Launch.committed, hst]
  rfl

theorem ArrayState.abortRun_decided {a : ArrayState} (h : a.decided) (c : Nat) (cause : DrainCause) (only : Option Nat) : a.abortRun c cause only = a := by
  unfold ArrayState.abortRun
  split
  next l hl => rw [h l hl, Bool.not_true, Bool.and_false, if_neg Bool.false_ne_true]
  next => rfl

theorem ArrayState.abortRun_hit {a : ArrayState} {l : Launch} {c : Nat} {only : Option Nat} (h : a.run = some l) (hhit : l.desc.hit c only = true)
    (hopen : l.ending = none) (cause : DrainCause) : a.abortRun c cause only = { a with run := some { l with drain := some cause } } := by
  rw [ArrayState.abortRun, h]
  simp only [hhit, Launch.committed, hopen, Option.isSome_none, Bool.not_false, Bool.and_self, if_true]

theorem ArrayState.abortRun_rest (a : ArrayState) (c : Nat) (cause : DrainCause) (only : Option Nat) :
    (a.abortRun c cause only).pend = a.pend ∧ (a.abortRun c cause only).ended = a.ended := by
  unfold ArrayState.abortRun
  split
  · split <;> exact ⟨rfl, rfl⟩
  · exact ⟨rfl, rfl⟩

theorem Dev.abortPend_none {d : Dev} {pc : Nat} (h : (d.arr pc).pend = none) (c : Nat) (only : Option Nat) : d.abortPend pc c only = d := by
  rw [Dev.abortPend, h]

theorem Dev.abortPend_hit {d : Dev} {pc c : Nat} {l : LaunchDesc} {only : Option Nat} (h : (d.arr pc).pend = some l) (hhit : l.hit c only = true) :
    d.abortPend pc c only = (d.modArr pc (fun a => { a with pend := none })).endLaunch pc l l.aborted := by
  rw [Dev.abortPend, h]
  exact if_pos hhit

theorem Calm.abortPend (d : Dev) (pc c : Nat) (only : Option Nat) : Calm pc d (d.abortPend pc c only) ∧ ((d.abortPend pc c only).arr pc).run = (d.arr pc).run := by
  unfold Dev.abortPend
  split
  next l _ =>
    split
    · have hclose := Closed.endLaunch (d.modArr pc (fun a => { a with pend := none })) pc l l.aborted
      refine ⟨(Calm.modArr d pc _).trans hclose.toCalm, ?_⟩
      rw [hclose.arr, Dev.arr_modArr]
      rfl
    · exact ⟨.refl pc d, rfl⟩
  next => exact ⟨.refl pc d, rfl⟩

theorem Calm.abortLaunches (d : Dev) (pc c : Nat) (cause : DrainCause) (only : Option Nat) : Calm pc d (d.abortLaunches pc c cause only) := by
  rw [Dev.abortLaunches_eq]
  exact (Calm.abortPend d pc c only).1.trans (.modArr _ pc _)

/-! ## What a fault of a context spares (R117, R142) -/

/-- A fault leaves every register but those aside, and a launch whose end is decided; where no launch is pending, also storage, the counters and the ended launches. -/
structure FaultSpares (pc : Nat) (d d' : Dev) : Prop where
  regs : Keeps AsideKey d d'
  run : (d.arr pc).decided → (d'.arr pc).run = (d.arr pc).run
  mem : (d.arr pc).pend = none → d'.mem = d.mem
  pend : (d.arr pc).pend = none → (d'.arr pc).pend = none
  ended : (d.arr pc).pend = none → (d'.arr pc).ended = (d.arr pc).ended
  counter : (d.arr pc).pend = none → ∀ n, d'.counter pc n = d.counter pc n

theorem FaultSpares.trans {pc : Nat} {a b c : Dev} (h : FaultSpares pc a b) (h' : FaultSpares pc b c) : FaultSpares pc a c where
  regs := h.regs.trans h'.regs
  run hd := (h'.run (fun l hl => hd l (h.run hd ▸ hl))).trans (h.run hd)
  mem hp := (h'.mem (h.pend hp)).trans (h.mem hp)
  pend hp := h'.pend (h.pend hp)
  ended hp := (h'.ended (h.pend hp)).trans (h.ended hp)
  counter hp n := (h'.counter (h.pend hp) n).trans (h.counter hp n)

theorem Steady.spares {pc : Nat} {d d' : Dev} (h : Steady pc d d') : FaultSpares pc d d' :=
  ⟨h.regs, fun _ => by rw [h.arr], fun _ => h.mem, fun hp => by rwa [h.arr], fun _ => by rw [h.arr], fun _ => h.counter⟩

theorem FaultSpares.abortLaunches (d : Dev) (pc c : Nat) (cause : DrainCause) (only : Option Nat) : FaultSpares pc d (d.abortLaunches pc c cause only) := by
  have hrun := (Calm.abortPend d pc c only).2
  have hnone : (d.arr pc).pend = none → d.abortLaunches pc c cause only = d.modArr pc (fun a => a.abortRun c cause only) := fun hp => by
    rw [Dev.abortLaunches_eq, Dev.abortPend_none hp]
  refine ⟨(Calm.abortLaunches d pc c cause only).regs, fun hd => ?_, fun hp => ?_, fun hp => ?_, fun hp => ?_, fun hp n => ?_⟩
  · rw [Dev.abortLaunches_eq, Dev.arr_modArr, ArrayState.abortRun_decided (fun l hl => hd l (hrun ▸ hl)), hrun]
  · rw [hnone hp]
    rfl
  · rw [hnone hp, Dev.arr_modArr, (ArrayState.abortRun_rest ..).1, hp]
  · rw [hnone hp, Dev.arr_modArr, (ArrayState.abortRun_rest ..).2]
  · rw [hnone hp, Dev.counter_modArr]

/-- The context enters FAULTED at an instruction, and the array answers it no more. -/
def Dev.faultCtx (d : Dev) (pc c : Nat) (at' : Word) : Dev :=
  (d.modCtx pc c (fun x => { x.leave .faulted none with pc := at' })).modArr pc (fun a => a.forget c)

/-- The hold that the fault of a scheduled task raises (R344). -/
def Dev.taskHold (d : Dev) (pc : Nat) (scheduled : Bool) : Dev := if scheduled then d.raiseHold 3 0xFF ((d.hosted pc).getD 0) else d

theorem Dev.faultAt_eq (d : Dev) (pc c cause : Nat) (at' : Word) (d0 d1 d2 : Nat) : d.faultAt pc c cause at' d0 d1 d2 =
    ((((d.noteFault pc c cause at' d0 d1 d2).faultCtx pc c at').abortLaunches pc c .fault none).taskHold pc (d.ctx pc c).sched.isSome).reselect pc := rfl

theorem Steady.taskHold (d : Dev) (pc : Nat) (scheduled : Bool) : Steady pc d (d.taskHold pc scheduled) := .ite (.raiseHold pc d _ _ _) (.refl pc d)

theorem Dev.arr_modCtx (d : Dev) (pc c : Nat) (f : CtxState → CtxState) : (d.modCtx pc c f).arr pc = d.arr pc := by
  rw [Dev.arr, Dev.modCtx, Dev.setCtx, Dev.cell_modCell_same]
  rfl

theorem Dev.counter_modCtx (d : Dev) (pc c : Nat) (f : CtxState → CtxState) (n : Nat) : (d.modCtx pc c f).counter pc n = d.counter pc n := by
  rw [Dev.counter, Dev.modCtx, Dev.setCtx, Dev.cell_modCell_same]
  rfl

theorem FaultSpares.faultCtx (d : Dev) (pc c : Nat) (at' : Word) : FaultSpares pc d (d.faultCtx pc c at') := by
  have harr : (d.faultCtx pc c at').arr pc = (d.arr pc).forget c := by rw [Dev.faultCtx, Dev.arr_modArr, Dev.arr_modCtx]
  refine ⟨.of_regs rfl, fun _ => ?_, fun _ => rfl, fun hp => ?_, fun _ => ?_, fun _ n => ?_⟩
  · rw [harr]
    rfl
  · rw [harr]
    exact hp
  · rw [harr]
    rfl
  · rw [Dev.faultCtx, Dev.counter_modArr, Dev.counter_modCtx]

theorem FaultSpares.faultAt (d : Dev) (pc c cause : Nat) (at' : Word) (d0 d1 d2 : Nat) : FaultSpares pc d (d.faultAt pc c cause at' d0 d1 d2) := by
  rw [Dev.faultAt_eq]
  refine .trans (.trans ?_ (Steady.taskHold _ pc _).spares) (Steady.reselect pc _).spares
  exact ((Steady.noteFault pc d c cause at' d0 d1 d2).spares.trans (.faultCtx _ pc c at')).trans (.abortLaunches _ pc c .fault none)

/-- Aborting its launches, the hold and the choice of the next context leave a context FAULTED. -/
theorem Dev.faultAt_ctx (d : Dev) (pc c cause : Nat) (at' : Word) (d0 d1 d2 : Nat) : ((d.faultAt pc c cause at' d0 d1 d2).ctx pc c).phase = .faulted ∧
    ((d.faultAt pc c cause at' d0 d1 d2).ctx pc c).pc = at' ∧ ((d.faultAt pc c cause at' d0 d1 d2).ctx pc c).x = (d.ctx pc c).x := by
  have hnote := (Steady.noteFault pc d c cause at' d0 d1 d2).ctx c
  have hctx : ((d.noteFault pc c cause at' d0 d1 d2).faultCtx pc c at').ctx pc c =
      { ((d.noteFault pc c cause at' d0 d1 d2).ctx pc c).leave .faulted none with pc := at' } := by
    rw [Dev.faultCtx, Dev.ctx_modArr, Dev.ctx_modCtx_same]
  have hrest : ∀ e : Dev, Calm pc e (((e.abortLaunches pc c .fault none).taskHold pc (d.ctx pc c).sched.isSome).reselect pc) :=
    fun e => ((Calm.abortLaunches e pc c .fault none).trans (Steady.taskHold _ pc _).toCalm).trans (Steady.reselect pc _).toCalm
  have hr := (hrest ((d.noteFault pc c cause at' d0 d1 d2).faultCtx pc c at')).ctx c
  rw [Dev.faultAt_eq]
  exact ⟨hr.faulted (by rw [hctx]; rfl), hr.pc.trans (by rw [hctx]), (hr.scalars.trans (by rw [hctx]; rfl)).trans hnote.scalars⟩

theorem FaultedAt.fault (d : Dev) (pc c cause : Nat) : FaultedAt d (d.fault pc c cause) pc c := d.faultAt_ctx pc c cause _ 0 0 0

/-! ## Faults that the array directs at the context of a launch (R505) -/

theorem Dev.arrayFault_eq (d : Dev) (pc : Nat) (l : LaunchDesc) (cause d0 d1 d2 : Nat) : d.arrayFault pc l cause d0 d1 d2 =
    if (d.ctx pc l.ctx).bindId = l.bindId && ((d.ctx pc l.ctx).phase = .ready || (d.ctx pc l.ctx).phase = .running || (d.ctx pc l.ctx).phase = .parked) then
      d.faultAt pc l.ctx cause l.pc d0 d1 d2
    else (d.noteFault pc l.ctx cause l.pc d0 d1 d2).taskHold pc l.sched.isSome := rfl

theorem FaultSpares.arrayFault (d : Dev) (pc : Nat) (l : LaunchDesc) (cause d0 d1 d2 : Nat) : FaultSpares pc d (d.arrayFault pc l cause d0 d1 d2) := by
  rw [Dev.arrayFault_eq]
  split
  · exact .faultAt d pc l.ctx cause l.pc d0 d1 d2
  · exact ((Steady.noteFault pc d l.ctx cause l.pc d0 d1 d2).trans (.taskHold _ pc _)).spares

theorem LaunchFaulted.arrayFault (d : Dev) (pc : Nat) (l : LaunchDesc) (cause d0 d1 d2 : Nat) : LaunchFaulted d (d.arrayFault pc l cause d0 d1 d2) pc l := by
  intro hbind hlive
  have hreached : ((d.ctx pc l.ctx).bindId = l.bindId &&
      ((d.ctx pc l.ctx).phase = .ready || (d.ctx pc l.ctx).phase = .running || (d.ctx pc l.ctx).phase = .parked)) = true := by
    simpa only [hbind, decide_true, Bool.true_and, Bool.or_eq_true, decide_eq_true_eq, or_assoc] using hlive
  rw [Dev.arrayFault_eq, if_pos hreached]
  obtain ⟨hphase, hpc, -⟩ := d.faultAt_ctx pc l.ctx cause l.pc d0 d1 d2
  exact ⟨hphase, hpc⟩

/-- What reschedules contexts before the fault leaves whom it reaches. -/
theorem LaunchFaulted.before {d d1 d' : Dev} {pc : Nat} {l : LaunchDesc} (h : LaunchFaulted d1 d' pc l)
    (hctx : Rescheduled (d.ctx pc l.ctx) (d1.ctx pc l.ctx)) : LaunchFaulted d d' pc l :=
  fun hbind hlive => h (hctx.bindId.trans hbind) (hctx.live hlive)

theorem LaunchFaulted.then {d d1 d' : Dev} {pc : Nat} {l : LaunchDesc} (h : LaunchFaulted d d1 pc l) (hctx : d'.ctx pc l.ctx = d1.ctx pc l.ctx) :
    LaunchFaulted d d' pc l := fun hbind hlive => hctx ▸ h hbind hlive

end Sys2Proof.Machine
end

section
namespace Sys2Proof.Machine

/-! ## CELL_ARR_FAULT (R137) -/

theorem Dev.latchArrFault_cells (d : Dev) (pc kind unit lane ta tb : Nat) : (d.latchArrFault pc kind unit lane ta tb).cells = d.cells := by
  unfold Dev.latchArrFault
  split
  · exact d.set_cells ..
  · exact d.setReg_cells ..

theorem Dev.latchArrFault_mem (d : Dev) (pc kind unit lane ta tb : Nat) : (d.latchArrFault pc kind unit lane ta tb).mem = d.mem := by
  unfold Dev.latchArrFault
  split
  · exact d.set_mem ..
  · exact d.setReg_mem ..

theorem b2n_le (b : Bool) : b2n b ≤ 1 := by cases b <;> decide

section
variable (d : Dev) (pc : Nat) {kind unit lane ta tb : Nat} (hkind : kind < 2 ^ 8) (hunit : unit < 2 ^ 8) (hlane : lane < 2 ^ 11) (hta : ta < 2 ^ 8) (htb : tb < 2 ^ 8)
include hkind hunit hlane hta htb

theorem Dev.latchArrFault_valid : (d.latchArrFault pc kind unit lane ta tb).bit F.CELL_ARR_FAULT_VALID pc = true := by
  unfold Dev.latchArrFault
  split
  next hvalid =>
    have hget := Dev.get_set_disjoint d F.CELL_ARR_FAULT_LOST F.CELL_ARR_FAULT_VALID 1 pc 0 rfl (by decide) (by decide) (.inr (by decide))
    rwa [Dev.bit, hget]
  next =>
    have hlost := b2n_le (d.bit F.CELL_ARR_FAULT_LOST pc)
    simp only [Dev.bit, Dev.get, Dev.reg_setReg_same, bitsOf, bne_iff_ne] at hlost ⊢
    omega

theorem Dev.latchArrFault_kind (hfree : d.bit F.CELL_ARR_FAULT_VALID pc = false) : (d.latchArrFault pc kind unit lane ta tb).get F.CELL_ARR_FAULT_KIND pc = kind := by
  have hlost := b2n_le (d.bit F.CELL_ARR_FAULT_LOST pc)
  rw [Dev.latchArrFault, hfree, if_neg Bool.false_ne_true]
  simp only [Dev.get, Dev.reg_setReg_same, bitsOf]
  omega

end

end Sys2Proof.Machine
end

section
namespace Sys2Proof.Machine

/-! ## Changes of contexts and registers alone -/

/-- Beside registers and contexts of the cell nothing of the array's concern changes. -/
structure InContexts (pc : Nat) (d d' : Dev) : Prop where
  mem : d'.mem = d.mem
  others : CellsStand d d' pc
  arr : d'.arr pc = d.arr pc
  counter : ∀ n, d'.counter pc n = d.counter pc n

theorem InContexts.trans {pc : Nat} {a b c : Dev} (h : InContexts pc a b) (h' : InContexts pc b c) : InContexts pc a c :=
  ⟨h'.mem.trans h.mem, h.others.trans h'.others, h'.arr.trans h.arr, fun n => (h'.counter n).trans (h.counter n)⟩

theorem Steady.inContexts {pc : Nat} {d d' : Dev} (h : Steady pc d d') : InContexts pc d d' := ⟨h.mem, h.others, h.arr, h.counter⟩

theorem InContexts.of_cells {d d' : Dev} (pc : Nat) (h : d'.cells = d.cells) (hmem : d'.mem = d.mem) : InContexts pc d d' :=
  ⟨hmem, .of_cells h pc, Dev.arr_of_cells h pc, Dev.counter_of_cells h pc⟩

theorem InContexts.setReg (pc : Nat) (d : Dev) (base inst item v : Nat) : InContexts pc d (d.setReg base inst item v) :=
  .of_cells pc (d.setReg_cells ..) (d.setReg_mem ..)

theorem InContexts.count (pc : Nat) (d : Dev) (f : Fld) (inst item n : Nat) : InContexts pc d (d.count f inst item n) := .setReg pc d _ _ _ _

theorem InContexts.modCtx (d : Dev) (pc c : Nat) (f : CtxState → CtxState) : InContexts pc d (d.modCtx pc c f) :=
  ⟨rfl, .modCell d pc _, d.arr_modCtx pc c f, d.counter_modCtx pc c f⟩

theorem InContexts.commitAt (d : Dev) (pc c : Nat) (t : Word) : InContexts pc d (d.commitAt pc c t) :=
  (((InContexts.modCtx d pc c _).trans (.modCtx _ pc c _)).trans (.count pc _ _ _ _ _)).trans (Steady.reselect pc _).inContexts

/-! ## How an instruction of class 0xA ends (R84, R107, R115, R193) -/

theorem CtxState.start_of_kept {x y : CtxState} (h : x.kept = y.kept) : x.start = y.start := congrArg (fun k => k.2.2.2.2.2.2.2.1) h

theorem CtxState.wait_of_kept {x y : CtxState} (h : x.kept = y.kept) : x.wait = y.wait := congrArg (fun k => k.2.2.2.2.2.2.2.2.2.2.1) h

/-- The device after an instruction of class 0x8 to 0xA other than SSET has committed with a value in XD. -/
def Dev.syncDone (d : Dev) (pc c xd v : Nat) : Dev := ((d.writeX pc c xd (wOf v)).clearStart pc c).commitAt pc c ((d.ctx pc c).pc + 8)

/-- The device after an instruction has parked. -/
def Dev.parked (d : Dev) (pc c : Nat) (w : Wait) : Dev := ((d.modCtx pc c (fun x => x.leave .parked (some w))).count F.CELL_PARKS pc).reselect pc

section
variable {d d1 : Dev} {pc c : Nat} {body : Dev → CoreEnd} {legal : Bool} (hready : d.ready pc c = true) (hpending : d.anyPending pc c = false)
  (hlegal : legal = true)
include hready hpending hlegal

theorem Dev.issueOrdered_commits {xd v : Nat} (hbody : body d = d1.commitSync pc c xd v) : d.issueOrdered pc c legal body = d1.syncDone pc c xd v := by
  have hstart : (if d.anyPending pc c then CoreEnd.stay d else body d) = .next ((d1.writeX pc c xd (wOf v)).clearStart pc c) := by
    rw [hpending, if_neg Bool.false_ne_true, hbody]
    rfl
  have hpc : (((d1.writeX pc c xd (wOf v)).clearStart pc c).ctx pc c).nextPc = (d1.ctx pc c).pc + 8 := by
    rw [CtxState.nextPc, Dev.clearStart, Dev.ctx_modCtx_same, Dev.writeX, Dev.ctx_modCtx_same, CtxState.setX_pc]
  rw [Dev.issueOrdered, hlegal, Dev.issue_next hready hstart, Dev.syncDone, Dev.commitAt, Dev.modCtx, hpc, Dev.modCtx]

theorem Dev.issueOrdered_parks {w : Wait} (hbody : body d = .park d1 w) : d.issueOrdered pc c legal body = d1.parked pc c w := by
  rw [Dev.ready, Bool.and_eq_true] at hready
  rw [Dev.issueOrdered, Dev.issue]
  simp only [hready, hlegal, hpending, hbody, Bool.not_true, Bool.false_eq_true, if_false]
  rfl

theorem Dev.issueOrdered_faults {cause : Nat} (hbody : body d = .fault d1 cause) : d.issueOrdered pc c legal body = d1.fault pc c cause := by
  rw [Dev.ready, Bool.and_eq_true] at hready
  rw [Dev.issueOrdered, Dev.issue]
  simp only [hready, hlegal, hpending, hbody, Bool.not_true, Bool.false_eq_true, if_false]

end

section
variable (d : Dev) (pc c xd v : Nat)

theorem Dev.syncDone_kept : ((d.syncDone pc c xd v).ctx pc c).kept =
    { (d.ctx pc c).setX xd (wOf v) with start := false, pc := (d.ctx pc c).pc + 8, retired := ((d.ctx pc c).setX xd (wOf v)).retired + 1 }.kept := by
  rw [Dev.syncDone, Dev.commitAt_kept, if_pos rfl, Dev.clearStart, Dev.ctx_modCtx_same, Dev.writeX, Dev.ctx_modCtx_same]

theorem Dev.syncDone_pc : ((d.syncDone pc c xd v).ctx pc c).pc = (d.ctx pc c).pc + 8 := CtxState.pc_of_kept (d.syncDone_kept pc c xd v)

theorem Dev.syncDone_start : ((d.syncDone pc c xd v).ctx pc c).start = false := CtxState.start_of_kept (d.syncDone_kept pc c xd v)

theorem Dev.syncDone_xr (r : Nat) : ((d.syncDone pc c xd v).ctx pc c).xr r = if r = xd ∧ r ≠ 0 then BitVec.ofNat 64 v else (d.ctx pc c).xr r := by
  have hx : ((d.syncDone pc c xd v).ctx pc c).xr r = ((d.ctx pc c).setX xd (wOf v)).xr r :=
    congrArg (fun m => if r = 0 then 0 else SMap.read 0 m r) ((CtxState.x_of_kept (d.syncDone_kept pc c xd v)).trans rfl)
  rw [hx, CtxState.xr_setX]
  by_cases hr : r = xd
  · subst hr
    by_cases h0 : r = 0
    · simp [h0]
    · simp [h0, wOf]
  · simp [hr]

theorem InContexts.syncDone : InContexts pc d (d.syncDone pc c xd v) :=
  ((InContexts.modCtx d pc c _).trans (.modCtx _ pc c _)).trans (.commitAt _ pc c _)

end

/-- An instruction whose own effect but reschedules contexts goes on at the next word with its value in XD. -/
theorem Calm.syncDone_ctx {d d1 : Dev} {pc : Nat} (h : Calm pc d d1) (c xd v : Nat) : ((d1.syncDone pc c xd v).ctx pc c).pc = d.seqPc pc c ∧
    ∀ r, ((d1.syncDone pc c xd v).ctx pc c).xr r = if r = xd ∧ r ≠ 0 then BitVec.ofNat 64 v else (d.ctx pc c).xr r := by
  refine ⟨?_, fun r => ?_⟩
  · rw [Dev.syncDone_pc, (h.ctx c).pc, Dev.seqPc]
  · rw [Dev.syncDone_xr, CtxState.xr, (h.ctx c).scalars, CtxState.xr]

theorem CounterCommits.syncDone {d d1 : Dev} {pc : Nat} (h : Calm pc d d1) (hmem : d1.mem = d.mem) (c xd v : Nat) :
    CounterCommits d (d1.syncDone pc c xd v) pc c xd v false := by
  have hin := InContexts.syncDone d1 pc c xd v
  obtain ⟨hpc, hxr⟩ := h.syncDone_ctx c xd v
  exact ⟨hxr, hpc, d1.syncDone_start pc c xd v, hin.mem.trans hmem, h.others.trans hin.others⟩

section
variable (d : Dev) (pc c : Nat) (w : Wait)

theorem InContexts.parked : InContexts pc d (d.parked pc c w) :=
  ((InContexts.modCtx d pc c _).trans (.count pc _ _ _ _ _)).trans (Steady.reselect pc _).inContexts

/-- A context that parks keeps its phase and its wait when the next one is chosen. -/
theorem Dev.parked_ctx : ((d.parked pc c w).ctx pc c).phase = .parked ∧ ((d.parked pc c w).ctx pc c).wait = some w ∧
    ((d.parked pc c w).ctx pc c).pc = (d.ctx pc c).pc ∧ ((d.parked pc c w).ctx pc c).x = (d.ctx pc c).x := by
  have hctx : ((d.modCtx pc c (fun x => x.leave .parked (some w))).count F.CELL_PARKS pc).ctx pc c = (d.ctx pc c).leave .parked (some w) := by
    rw [Dev.ctx_count, Dev.ctx_modCtx_same]
  have hkept := Dev.ctx_reselect ((d.modCtx pc c (fun x => x.leave .parked (some w))).count F.CELL_PARKS pc) pc c
  have hphase := CellState.reselect_phase (((d.modCtx pc c (fun x => x.leave .parked (some w))).count F.CELL_PARKS pc).cell pc) c
  have hsame := Dev.cell_modCell_same ((d.modCtx pc c (fun x => x.leave .parked (some w))).count F.CELL_PARKS pc) pc CellState.reselect
  rw [hctx] at hkept
  refine ⟨?_, CtxState.wait_of_kept hkept, (CtxState.pc_of_kept hkept).trans rfl, (CtxState.x_of_kept hkept).trans rfl⟩
  rw [Dev.parked, Dev.ctx, Dev.reselect, hsame]
  rw [← Dev.ctx, hctx] at hphase
  rcases hphase with he | ⟨ha, -⟩
  · exact he
  · rcases ha with ha | ha <;> exact nomatch ha

end

end Sys2Proof.Machine
end

section
namespace Sys2Proof.Machine

/-! ## Planes (R129, R139, Table 04-12) -/

theorem regKey_plane_ne {m n : Nat} (h : m ≠ n) (pc : Nat) : regKey (F.CELL_ARR_PLANE.base + 8 * m) pc 0 ≠ regKey (F.CELL_ARR_PLANE.base + 8 * n) pc 0 := by
  simp only [regKey]
  omega

theorem Dev.planeState_setReg_same (d : Dev) (pc n v : Nat) : (d.setReg (F.CELL_ARR_PLANE.base + 8 * n) pc 0 v).planeState pc n = v / 2 ^ 18 % 4 := by
  simp only [Dev.planeState, Dev.get, Fld.nth, Dev.reg_setReg_same, bitsOf]
  omega

theorem Dev.planeState_setReg_other (d : Dev) {m n : Nat} (h : m ≠ n) (pc v : Nat) :
    (d.setReg (F.CELL_ARR_PLANE.base + 8 * n) pc 0 v).planeState pc m = d.planeState pc m := by
  simp only [Dev.planeState, Dev.get, Fld.nth]
  rw [Dev.reg_setReg_other d v (regKey_plane_ne h pc)]

theorem Dev.planeHolds_setReg (d : Dev) (pc n : Nat) {v id : Nat} (hvalid : v / 2 ^ 18 % 4 = 2) (hid : v % 2 ^ 16 = id) :
    (d.setReg (F.CELL_ARR_PLANE.base + 8 * n) pc 0 v).planeHolds pc n id = true := by
  have himage : (d.setReg (F.CELL_ARR_PLANE.base + 8 * n) pc 0 v).get (F.CELL_ARR_PLANE_IMAGE_ID.nth n) pc = v % 2 ^ 16 := by
    simp only [Dev.get, Fld.nth, Dev.reg_setReg_same, bitsOf]
    omega
  rw [Dev.planeHolds, Dev.planeState_setReg_same, himage, hvalid, hid]
  simp

theorem planeKey_aside {n : Nat} (h : n ≤ 1) (pc : Nat) : AsideKey (regKey (F.CELL_ARR_PLANE.base + 8 * n) pc 0) := by
  rcases (by omega : n = 0 ∨ n = 1) with rfl | rfl
  · exact asideKey_regKey _ _ _
  · exact asideKey_regKey _ _ _

theorem Keeps.planeState {d d' : Dev} {n : Nat} (h : Keeps AsideKey d d') (hn : n ≤ 1) (pc : Nat) : d'.planeState pc n = d.planeState pc n := by
  simp only [Dev.planeState, Dev.get, Fld.nth]
  rw [h.reg (planeKey_aside hn pc)]

theorem Keeps.planeHolds {d d' : Dev} {n : Nat} (h : Keeps AsideKey d d') (hn : n ≤ 1) (pc id : Nat) : d'.planeHolds pc n id = d.planeHolds pc n id := by
  have himage := h.get (F.CELL_ARR_PLANE_IMAGE_ID.nth n) (planeKey_aside hn pc)
  rw [Dev.planeHolds, h.planeState hn pc, himage, Dev.planeHolds]

theorem ArrayState.shadow_le (a : ArrayState) : a.shadow ≤ 1 := by
  unfold ArrayState.shadow
  split <;> decide

theorem ArrayState.activePlane_ne (a : ArrayState) : a.activePlane ≠ a.shadow := by
  unfold ArrayState.activePlane ArrayState.shadow
  split <;> decide

theorem ArrayState.plane_setPlane (a : ArrayState) (n : Nat) (img : List Byte) : (a.setPlane n img).plane n = img := by
  unfold ArrayState.setPlane ArrayState.plane
  by_cases h : n = 0
  · rw [if_pos h, if_pos h]
  · rw [if_neg h, if_neg h]

/-- The bytes of a plane change nothing else of the array. -/
theorem ArrayState.setPlane_rest (a : ArrayState) (n : Nat) (img : List Byte) : { a.setPlane n img with plane0 := a.plane0, plane1 := a.plane1 } = a := by
  unfold ArrayState.setPlane
  split <;> rfl

/-! ## Well-formed array instructions (R91, Table 04-6) -/

theorem FmtS.ok_useArr {f : FmtS} {mask : Nat} (hxb : f.xb = 0) (hfl : within mask f.fl.toNat = true) (himm : f.imm = 0) : f.ok (useArr mask) = true := by
  simp only [FmtS.ok, useArr, hxb, hfl, himm]
  rfl

/-- An array instruction acts in order behind the slab operations of its context. -/
theorem Does.aload {pc : Slot} {c : Ctx} {f : FmtS} {d : Dev} {post : Dev → Prop}
    (h : post (d.issueOrdered pc c (f.ok (useArr 0)) (fun d => d.aload pc c f))) : Does (.aload pc c f) d post := fun _ => ⟨_, rfl, h⟩

theorem Does.alaunch {pc : Slot} {c : Ctx} {f : FmtS} {d : Dev} {post : Dev → Prop}
    (h : post (d.issueOrdered pc c (f.ok (useArr 0)) (fun d => d.alaunch pc c f))) : Does (.alaunch pc c f) d post := fun _ => ⟨_, rfl, h⟩

/-! ## Image loads (R132, R139, R140) -/

section
variable {pc : Slot} {c : Ctx} {f : FmtS} {d : Dev} (hready : d.ready pc c = true) (hpending : d.anyPending pc c = false)
  (hxb : f.xb = 0) (hfl : f.fl = 0) (himm : f.imm = 0)
include hready hpending hxb hfl himm

/-- An ALOAD whose load has ended delivers the result. -/
theorem Does.aload_done {r : Nat} (hdone : SMap.find c.val (d.arr pc).loadDone = some r) : Does (.aload pc c f) d (fun d' =>
    CounterCommits d d' pc c f.xd.toNat r false ∧ SMap.find c.val (d'.arr pc).loadDone = none) := by
  have hbody : d.aload pc c f = (d.modArr pc (fun a => { a with loadDone := SMap.erase c a.loadDone })).commitSync pc c f.xd.toNat r := by
    simp only [Dev.aload, hdone]
  refine Does.aload ?_
  rw [Dev.issueOrdered_commits hready hpending (FmtS.ok_useArr hxb (by rw [hfl]; rfl) himm) hbody]
  refine ⟨CounterCommits.syncDone (.modArr d pc _) rfl _ _ _, ?_⟩
  rw [(InContexts.syncDone ..).arr, Dev.arr_modArr]
  exact SMap.find_erase_same _ _

/-- An ALOAD that has not asked yet joins the loads that wait, and parks. -/
theorem Does.aload_asks (hdone : SMap.find c.val (d.arr pc).loadDone = none) (hload : (d.arr pc).load.any (fun l => l.ctx = c.val) = false)
    (hwait : (d.arr pc).loadWait.any (fun l => l.ctx = c.val) = false) : Does (.aload pc c f) d (fun d' =>
      (d'.ctx pc c).phase = .parked ∧ (d'.ctx pc c).wait = some .plane ∧ (d'.ctx pc c).pc = (d.ctx pc c).pc ∧
      (d'.ctx pc c).x = (d.ctx pc c).x ∧ (d'.arr pc).loadWait = (d.arr pc).loadWait ++ [⟨c, d.xaOf pc c f⟩] ∧ d'.mem = d.mem ∧ CellsStand d d' pc) := by
  have hbody : d.aload pc c f = .park (d.modArr pc (fun a => { a with loadWait := a.loadWait ++ [⟨c, d.xaOf pc c f⟩] })) .plane := by
    simp only [Dev.aload, hdone, hload, hwait, Bool.or_self, Bool.false_eq_true, if_false]
  refine Does.aload ?_
  rw [Dev.issueOrdered_parks hready hpending (FmtS.ok_useArr hxb (by rw [hfl]; rfl) himm) hbody]
  have hin := InContexts.parked (d.modArr pc (fun a => { a with loadWait := a.loadWait ++ [⟨c, d.xaOf pc c f⟩] })) pc c .plane
  obtain ⟨hphase, hw, hpc, hx⟩ := Dev.parked_ctx (d.modArr pc (fun a => { a with loadWait := a.loadWait ++ [⟨c, d.xaOf pc c f⟩] })) pc c .plane
  rw [Dev.ctx_modArr] at hpc hx
  refine ⟨hphase, hw, hpc, hx, ?_, hin.mem, (CellsStand.modArr d pc _).trans hin.others⟩
  rw [hin.arr, Dev.arr_modArr]

end

/-- The load that has waited longest starts, and the shadow plane is LOADING. -/
theorem Does.aloadStart {pc : Slot} {d : Dev} {l : ImageLoad} {ls : List ImageLoad} (hon : d.domOn pc = true) (hthawed : d.isFrozen pc = false)
    (hfree : (d.arr pc).load = none) (hheld : d.shadowHeld pc = false) (hwait : (d.arr pc).loadWait = l :: ls) : Does (.aloadStart pc) d (fun d' =>
      (d'.arr pc).load = some l ∧ (d'.arr pc).loadWait = ls ∧ d'.planeState pc (d.arr pc).shadow = 1 ∧
      d'.planeState pc (d.arr pc).activePlane = d.planeState pc (d.arr pc).activePlane ∧ d'.mem = d.mem ∧ CellsStand d d' pc) := by
  refine Does.of_run (f := fun d => d.aloadStart pc) (fun _ => rfl) ?_
  have hstart : d.aloadStart pc =
      (d.modArr pc (fun a => { a with load := some l, loadWait := ls })).setReg (F.CELL_ARR_PLANE.base + 8 * (d.arr pc).shadow) pc 0 (1 * 2 ^ 18) := by
    simp only [Dev.aloadStart, hon, hthawed, hfree, hheld, hwait, Option.isSome_none, Bool.not_true, Bool.or_self, Bool.false_eq_true, if_false]
  have hin := InContexts.setReg pc (d.modArr pc (fun a => { a with load := some l, loadWait := ls })) (F.CELL_ARR_PLANE.base + 8 * (d.arr pc).shadow) pc 0 (1 * 2 ^ 18)
  rw [hstart]
  refine ⟨?_, ?_, Dev.planeState_setReg_same .., Dev.planeState_setReg_other _ (ArrayState.activePlane_ne _) .., hin.mem, (CellsStand.modArr d pc _).trans hin.others⟩
  · rw [hin.arr, Dev.arr_modArr]
  · rw [hin.arr, Dev.arr_modArr]

/-- The end of a load: the shadow plane takes its bytes and the word of its register, and the load's context its result. -/
def Dev.loadEnds (d : Dev) (pc : Nat) (l : ImageLoad) (img : List Byte) (word r : Nat) : Dev :=
  (((d.modArr pc (fun a => a.setPlane a.shadow img)).setReg (F.CELL_ARR_PLANE.base + 8 * (d.arr pc).shadow) pc 0 word).modArr pc (fun a => { a with
    load := none, loadDone := if l.ctx < 32 then SMap.insert l.ctx r a.loadDone else a.loadDone })).wakePlane pc

section
variable (d : Dev) (pc : Nat) (l : ImageLoad) (img : List Byte) (word r : Nat)

theorem Dev.loadEnds_arr : (d.loadEnds pc l img word r).arr pc = { (d.arr pc).setPlane (d.arr pc).shadow img with
    load := none, loadDone := if l.ctx < 32 then SMap.insert l.ctx r (d.arr pc).loadDone else (d.arr pc).loadDone } := by
  have hdone : ((d.arr pc).setPlane (d.arr pc).shadow img).loadDone = (d.arr pc).loadDone := congrArg (fun a => a.loadDone) ((d.arr pc).setPlane_rest _ img)
  rw [Dev.loadEnds, (Steady.wakePlane pc _).arr, Dev.arr_modArr, (InContexts.setReg pc ..).arr, Dev.arr_modArr, hdone]

theorem Dev.loadEnds_loadDone (h : l.ctx < 32) : SMap.find l.ctx ((d.loadEnds pc l img word r).arr pc).loadDone = some r := by
  simp only [Dev.loadEnds_arr, if_pos h]
  exact SMap.find_insert_same _ _ _

theorem Dev.loadEnds_stands : (d.loadEnds pc l img word r).mem = d.mem ∧ CellsStand d (d.loadEnds pc l img word r) pc := by
  have hreg := InContexts.setReg pc (d.modArr pc (fun a => a.setPlane a.shadow img)) (F.CELL_ARR_PLANE.base + 8 * (d.arr pc).shadow) pc 0 word
  have hwake := fun e => Steady.wakePlane pc e
  exact ⟨(hwake _).mem.trans hreg.mem, (((CellsStand.modArr d pc _).trans hreg.others).trans (.modArr _ pc _)).trans (hwake _).others⟩

/-- Of the registers, the shadow plane's is the one that says how the load ended. -/
theorem Dev.loadEnds_regs : Keeps AsideKey ((d.modArr pc (fun a => a.setPlane a.shadow img)).setReg (F.CELL_ARR_PLANE.base + 8 * (d.arr pc).shadow) pc 0 word)
    (d.loadEnds pc l img word r) := (Keeps.modArr _ pc _).trans (Steady.wakePlane pc _).regs

end

theorem leNat_lt (bs : List Byte) : leNat bs < 256 ^ bs.length := by
  induction bs with
  | nil => decide
  | cons b bs ih =>
    have hb := b.isLt
    rw [leNat, List.length_cons, Nat.pow_succ]
    omega

/-- IMAGE_ID has 16 bits. -/
theorem imgId_lt (img : List Byte) : imgId img < 2 ^ 16 := by
  have hlen : ((img.drop 2).take 2).length ≤ 2 := List.length_take_le ..
  calc imgId img < 256 ^ ((img.drop 2).take 2).length := leNat_lt _
    _ ≤ 256 ^ 2 := Nat.pow_le_pow_right (by decide) hlen

/-- A load that succeeds leaves the shadow plane VALID with its image. -/
theorem Does.aloadDone_valid {pc : Slot} {d : Dev} {l : ImageLoad} {img : List Byte} (hload : (d.arr pc).load = some l) (himg : d.readImage pc l.addr = some img) :
    Does (.aloadDone pc) d (fun d' =>
      d'.planeHolds pc (d.arr pc).shadow (imgId img) = true ∧ (d'.arr pc).plane (d.arr pc).shadow = img ∧ (d'.arr pc).load = none ∧
      (l.ctx < 32 → SMap.find l.ctx (d'.arr pc).loadDone = some 0) ∧ d'.mem = d.mem ∧ CellsStand d d' pc) := by
  refine Does.of_run (f := fun d => d.aloadDone pc) (fun _ => rfl) ?_
  have hend : d.aloadDone pc = d.loadEnds pc l img (2 * 2 ^ 18 + b2n (imgDataflow img) * 2 ^ 16 + imgId img) 0 := by
    simp only [Dev.aloadDone, hload, himg]
    rfl
  have hmode := b2n_le (imgDataflow img)
  have hid := imgId_lt img
  rw [hend]
  refine ⟨?_, ?_, ?_, d.loadEnds_loadDone pc l img _ 0, d.loadEnds_stands pc l img _ 0⟩
  · rw [(d.loadEnds_regs pc l img _ 0).planeHolds (ArrayState.shadow_le _)]
    exact Dev.planeHolds_setReg _ _ _ (by omega) (by omega)
  · rw [Dev.loadEnds_arr]
    exact ArrayState.plane_setPlane _ _ _
  · rw [Dev.loadEnds_arr]

/-- A load that fails leaves the shadow plane INVALID, with BAD_IMAGE for its ALOAD. -/
theorem Does.aloadDone_invalid {pc : Slot} {d : Dev} {l : ImageLoad} (hload : (d.arr pc).load = some l) (himg : d.readImage pc l.addr = none) :
    Does (.aloadDone pc) d (fun d' => d'.planeState pc (d.arr pc).shadow = 3 ∧ (d'.arr pc).load = none ∧
      (l.ctx < 32 → SMap.find l.ctx (d'.arr pc).loadDone = some 1) ∧ d'.mem = d.mem ∧ CellsStand d d' pc) := by
  refine Does.of_run (f := fun d => d.aloadDone pc) (fun _ => rfl) ?_
  have hend : d.aloadDone pc = d.loadEnds pc l [] (3 * 2 ^ 18) 1 := by
    simp only [Dev.aloadDone, hload, himg]
    rfl
  rw [hend]
  refine ⟨?_, ?_, d.loadEnds_loadDone pc l [] _ 1, d.loadEnds_stands pc l [] _ 1⟩
  · rw [(d.loadEnds_regs pc l [] _ 1).planeState (ArrayState.shadow_le _), Dev.planeState_setReg_same, Nat.mul_div_cancel _ (by decide)]
  · rw [Dev.loadEnds_arr]

end Sys2Proof.Machine
end

section
namespace Sys2Proof.Machine

/-! ## ALAUNCH (R141) -/

/-- The launch that an ALAUNCH queues. -/
def Dev.queuedLaunch (d : Dev) (pc c : Nat) (w : LaunchWords) (sds : SMap StreamDesc) (statusAddr : Nat) : LaunchDesc :=
  { handle := (d.arr pc).nextHandle, ctx := c, bindId := (d.ctx pc c).bindId, sched := (d.ctx pc c).sched, pc := (d.ctx pc c).pc,
    imageId := w.imageId, doneCtr := w.doneCtr, tileCtr := w.tileCtr, seed := bitOf w.flags 0, tileEn := bitOf w.flags 1, ports := sds,
    m := w.m, n := w.n, k := w.k, statusAddr := statusAddr }

section
variable {pc : Slot} {c : Ctx} {f : FmtS} {d : Dev} (hready : d.ready pc c = true) (hpending : d.anyPending pc c = false)
  (hxb : f.xb = 0) (hfl : f.fl = 0) (himm : f.imm = 0)
include hready hpending hxb hfl himm

/-- A pending launch holds an ALAUNCH back. -/
theorem Does.alaunch_waits (hpend : (d.arr pc).pend ≠ none) : Does (.alaunch pc c f) d (fun d' =>
    (d'.ctx pc c).phase = .parked ∧ (d'.ctx pc c).wait = some .plane ∧ (d'.ctx pc c).pc = (d.ctx pc c).pc ∧ d'.mem = d.mem ∧ d'.arr pc = d.arr pc) := by
  have hbody : d.alaunch pc c f = .park d .plane := by
    simp only [Dev.alaunch, Option.isSome_iff_ne_none.2 hpend, Bool.true_or, if_true]
  refine Does.alaunch ?_
  rw [Dev.issueOrdered_parks hready hpending (FmtS.ok_useArr hxb (by rw [hfl]; rfl) himm) hbody]
  have hin := InContexts.parked d pc c .plane
  obtain ⟨hphase, hw, hpc, -⟩ := Dev.parked_ctx d pc c .plane
  exact ⟨hphase, hw, hpc, hin.mem, hin.arr⟩

variable {st : Nat} (hpend : (d.arr pc).pend = none) (hplane0 : d.planeState pc 0 ≠ 1) (hplane1 : d.planeState pc 1 ≠ 1)
  (haddr : d.coreAddr (d.xaOf pc c f) 64 = some st)
include hpend hplane0 hplane1 haddr

/-- A launch that passes its checks is queued, and its handle delivered. -/
theorem Does.alaunch_queues {sds : SMap StreamDesc} (hcheck : d.checkLaunch pc c (launchWords (d.load st 64)) = some sds) : Does (.alaunch pc c f) d (fun d' =>
    CounterCommits d d' pc c f.xd.toNat (d.arr pc).nextHandle false ∧ (d'.arr pc).nextHandle = ((d.arr pc).nextHandle + 1) % 2 ^ 32 ∧
    (d'.arr pc).run = (d.arr pc).run ∧ ∃ l, (d'.arr pc).pend = some l ∧ l.handle = (d.arr pc).nextHandle ∧ l.ctx = c ∧ l.bindId = (d.ctx pc c).bindId ∧
      l.imageId = (launchWords (d.load st 64)).imageId ∧ l.doneCtr = (launchWords (d.load st 64)).doneCtr ∧ l.ports = sds ∧
      (l.m, l.n, l.k) = ((launchWords (d.load st 64)).m, (launchWords (d.load st 64)).n, (launchWords (d.load st 64)).k) ∧
      l.statusAddr = d.xaOf pc c f + 0x20) := by
  have hbody : d.alaunch pc c f = (d.modArr pc (fun a => { a with
      pend := some (d.queuedLaunch pc c (launchWords (d.load st 64)) sds (d.xaOf pc c f + 0x20)),
      nextHandle := (a.nextHandle + 1) % 2 ^ 32 })).commitSync pc c f.xd.toNat (d.arr pc).nextHandle := by
    simp only [Dev.alaunch, hpend, hplane0, hplane1, haddr, hcheck, Option.isSome_none, decide_false, Bool.or_self, Bool.false_eq_true, if_false]
    rfl
  refine Does.alaunch ?_
  rw [Dev.issueOrdered_commits hready hpending (FmtS.ok_useArr hxb (by rw [hfl]; rfl) himm) hbody]
  refine ⟨CounterCommits.syncDone (.modArr d pc _) rfl _ _ _, ?_⟩
  rw [(InContexts.syncDone ..).arr, Dev.arr_modArr]
  exact ⟨rfl, rfl, _, rfl, rfl, rfl, rfl, rfl, rfl, rfl, rfl, rfl⟩

/-- A launch that fails them faults with ARRAY, and BAD_LAUNCH is latched. -/
theorem Does.alaunch_faults (hcheck : d.checkLaunch pc c (launchWords (d.load st 64)) = none) : Does (.alaunch pc c f) d (fun d' =>
    FaultedAt d d' pc c ∧ d'.bit F.CELL_ARR_FAULT_VALID pc = true ∧
    (d.bit F.CELL_ARR_FAULT_VALID pc = false → d'.get F.CELL_ARR_FAULT_KIND pc = 7) ∧ d'.mem = d.mem) := by
  have hbody : d.alaunch pc c f = .fault (d.latchArrFault pc 7 0xFF 0 0 0) 0x0A := by
    simp only [Dev.alaunch, hpend, hplane0, hplane1, haddr, hcheck, Option.isSome_none, decide_false, Bool.or_self, Bool.false_eq_true, if_false]
  have hcells := d.latchArrFault_cells pc 7 0xFF 0 0 0
  have hspares := FaultSpares.faultAt (d.latchArrFault pc 7 0xFF 0 0 0) pc c 0x0A ((d.latchArrFault pc 7 0xFF 0 0 0).ctx pc c).pc 0 0 0
  have hfault := FaultedAt.fault (d.latchArrFault pc 7 0xFF 0 0 0) pc c 0x0A
  refine Does.alaunch ?_
  rw [Dev.issueOrdered_faults hready hpending (FmtS.ok_useArr hxb (by rw [hfl]; rfl) himm) hbody]
  refine ⟨?_, ?_, fun hfree => ?_, ?_⟩
  · rwa [FaultedAt, Dev.ctx_of_cells hcells] at hfault
  · exact (congrArg (· != 0) (hspares.regs.get F.CELL_ARR_FAULT_VALID (asideKey_regKey _ _ _))).trans
      (d.latchArrFault_valid pc (by decide) (by decide) (by decide) (by decide) (by decide))
  · exact (hspares.regs.get F.CELL_ARR_FAULT_KIND (asideKey_regKey _ _ _)).trans
      (d.latchArrFault_kind pc (by decide) (by decide) (by decide) (by decide) (by decide) hfree)
  · exact (hspares.mem (by rwa [Dev.arr_of_cells hcells])).trans (d.latchArrFault_mem pc 7 0xFF 0 0 0)

end

/-- Settles O29: an ALOAD or ALAUNCH by how its body ends, a load's start and end by the plane whose register it writes. -/
theorem imagesLoadAndLaunchesAreQueued : Obligations.ImagesLoadAndLaunchesAreQueued := by
  intro pc d
  refine ⟨fun c f hready hpending hxb hfl himm => ⟨fun r hdone => ?_, fun hdone hload hwait => ?_, fun hpend h0 h1 st haddr => ⟨fun sds hcheck => ?_, fun hcheck => ?_⟩,
    fun hpend => ?_⟩, fun l ls hon hthawed hfree hheld hwait => ?_, fun l hload => ⟨fun img himg => ?_, fun himg => ?_⟩⟩
  · exact .aload_done hready hpending hxb hfl himm hdone
  · exact .aload_asks hready hpending hxb hfl himm hdone hload hwait
  · exact .alaunch_queues hready hpending hxb hfl himm hpend h0 h1 haddr hcheck
  · exact .alaunch_faults hready hpending hxb hfl himm hpend h0 h1 haddr hcheck
  · exact .alaunch_waits hready hpending hxb hfl himm hpend
  · exact .aloadStart hon hthawed hfree hheld hwait
  · exact .aloadDone_valid hload himg
  · exact .aloadDone_invalid hload himg

end Sys2Proof.Machine
end

section
namespace Sys2Proof.Machine

/-! ## Event counters beside other registers (R16) -/

theorem regKey_ne {base base' : Nat} (h : base % 2 ^ 12 ≠ base' % 2 ^ 12) (inst item inst' item' : Nat) : regKey base inst item ≠ regKey base' inst' item' :=
  fun he => h (by rw [← regKey_mod base inst item, ← regKey_mod base' inst' item', he])

theorem Dev.reg_count_other (d : Dev) (f : Fld) {base : Nat} (h : base % 2 ^ 12 ≠ f.base % 2 ^ 12) (inst item inst' item' n : Nat) :
    (d.count f inst' item' n).reg base inst item = d.reg base inst item := Dev.reg_setReg_other d _ (regKey_ne h _ _ _ _)

theorem Counted.count (d : Dev) (f : Fld) (inst : Nat) : Counted d (d.count f inst) f inst := Dev.reg_setReg_same d _ _ _ _

theorem Counted.before {d d1 d' : Dev} {f : Fld} {inst : Nat} (h : Counted d1 d' f inst) (hreg : d1.reg f.base inst = d.reg f.base inst) : Counted d d' f inst := by
  rw [Counted, h, hreg]

theorem Counted.then {d d1 d' : Dev} {f : Fld} {inst : Nat} (h : Counted d d1 f inst) (hreg : d'.reg f.base inst = d1.reg f.base inst) : Counted d d' f inst :=
  hreg.trans h

/-! ## LAUNCH_START (R128, R143) -/

/-- A pending launch starts where none runs and the cell is not frozen. -/
theorem Does.launchStart {pc : Slot} {d : Dev} {l : LaunchDesc} (hon : d.domOn pc = true) (hthawed : d.isFrozen pc = false) (hrun : (d.arr pc).run = none)
    (hpend : (d.arr pc).pend = some l) : Does (.launchStart pc) d (fun d' =>
      (d'.arr pc).pend = none ∧
      (d'.arr pc).active = (if d.planeHolds pc (d.arr pc).activePlane l.imageId = true then (d.arr pc).active else !(d.arr pc).active) ∧
      (∃ r, (d'.arr pc).run = some r ∧ r.desc = l ∧ r.tile = 0 ∧ r.ending = none ∧ r.drain = none ∧ r.lanes = []) ∧
      Counted d d' F.CELL_ARR_LAUNCHES pc ∧ d'.mem = d.mem ∧ CellsStand d d' pc) := by
  obtain ⟨act, hact⟩ : ∃ act, (if d.planeHolds pc (d.arr pc).activePlane l.imageId = true then (d.arr pc).active else !(d.arr pc).active) = act := ⟨_, rfl⟩
  have hstart : d.launchStart pc = ((d.modArr pc (fun a => { a with
      active := act, pend := none, run := some (startLaunch l ((d.arr pc).plane (if act then 1 else 0))) })).count F.CELL_ARR_LAUNCHES pc).wakePlane pc := by
    simp only [Dev.launchStart, hrun, hpend, hon, hthawed, hact, Bool.not_true, Bool.or_self, Bool.false_eq_true, if_false]
  refine Does.of_run (f := fun d => d.launchStart pc) (fun _ => rfl) ?_
  rw [hstart, hact]
  have hwake := Steady.wakePlane pc ((d.modArr pc (fun a => { a with
    active := act, pend := none, run := some (startLaunch l ((d.arr pc).plane (if act then 1 else 0))) })).count F.CELL_ARR_LAUNCHES pc)
  have hcount := InContexts.count pc (d.modArr pc (fun a => { a with
    active := act, pend := none, run := some (startLaunch l ((d.arr pc).plane (if act then 1 else 0))) })) F.CELL_ARR_LAUNCHES pc 0 1
  rw [hwake.arr, hcount.arr, Dev.arr_modArr]
  exact ⟨rfl, rfl, ⟨_, rfl, rfl, rfl, rfl, rfl, rfl⟩, (Counted.count _ _ _).then (hwake.regs.reg (asideKey_regKey _ _ _)), hwake.mem.trans hcount.mem,
    (CellsStand.modArr d pc _).trans (hcount.others.trans hwake.others)⟩

/-! ## ASTAT (R145) -/

theorem Does.astat {pc : Slot} {c : Ctx} {f : FmtS} {d : Dev} {post : Dev → Prop} (h : post (d.issueOrdered pc c (f.ok (useArr 1)) (fun d =>
    if bitOf f.fl.toNat 0 && ((d.arr pc).statusOf (d.xaOf pc c f % 2 ^ 32)).2 then .park d (.launchEnd (d.xaOf pc c f % 2 ^ 32))
    else d.commitSync pc c f.xd.toNat ((d.arr pc).statusOf (d.xaOf pc c f % 2 ^ 32)).1))) : Does (.astat pc c f) d post := fun _ => ⟨_, rfl, h⟩

section
variable {pc : Slot} {c : Ctx} {f : FmtS} {d : Dev} (hready : d.ready pc c = true) (hpending : d.anyPending pc c = false)
  (hxb : f.xb = 0) (himm : f.imm = 0)
include hready hpending hxb himm

/-- ASTAT delivers the status of a launch at once, or of one that has ended. -/
theorem Does.astat_delivers (hfl : f.fl.toNat ≤ 1) (hnow : f.fl = 0 ∨ ((d.arr pc).statusOf (d.xaOf pc c f % 2 ^ 32)).2 = false) :
    Does (.astat pc c f) d (fun d' =>
      CounterCommits d d' pc c f.xd.toNat ((d.arr pc).statusOf (d.xaOf pc c f % 2 ^ 32)).1 false ∧ d'.arr pc = d.arr pc) := by
  have hwithin : within 1 f.fl.toNat = true := decide_eq_true (by rw [Nat.and_one_is_mod]; omega)
  have hgo : (bitOf f.fl.toNat 0 && ((d.arr pc).statusOf (d.xaOf pc c f % 2 ^ 32)).2) = false := by
    rcases hnow with h0 | hdead
    · rw [h0]
      rfl
    · rw [hdead, Bool.and_false]
  refine Does.astat ?_
  rw [Dev.issueOrdered_commits hready hpending (FmtS.ok_useArr hxb hwithin himm) (if_neg (by rw [hgo]; decide))]
  exact ⟨CounterCommits.syncDone (.refl pc d) rfl _ _ _, (InContexts.syncDone ..).arr⟩

/-- ASTAT with FL 1 waits for a launch that has not ended. -/
theorem Does.astat_waits (hfl : f.fl = 1) (hlive : ((d.arr pc).statusOf (d.xaOf pc c f % 2 ^ 32)).2 = true) : Does (.astat pc c f) d (fun d' =>
    (d'.ctx pc c).phase = .parked ∧ (d'.ctx pc c).wait = some (.launchEnd (d.xaOf pc c f % 2 ^ 32)) ∧ (d'.ctx pc c).pc = (d.ctx pc c).pc ∧ d'.mem = d.mem) := by
  have hstop : (bitOf f.fl.toNat 0 && ((d.arr pc).statusOf (d.xaOf pc c f % 2 ^ 32)).2) = true := by
    rw [hfl, hlive]
    rfl
  refine Does.astat ?_
  rw [Dev.issueOrdered_parks hready hpending (FmtS.ok_useArr hxb (by rw [hfl]; rfl) himm) (if_pos hstop)]
  obtain ⟨hphase, hw, hpc, -⟩ := Dev.parked_ctx d pc c (.launchEnd (d.xaOf pc c f % 2 ^ 32))
  exact ⟨hphase, hw, hpc, (InContexts.parked d pc c _).mem⟩

end

end Sys2Proof.Machine
end

section
namespace Sys2Proof.Machine

/-! ## ADRAIN (R146) -/

theorem Does.adrain {pc : Slot} {c : Ctx} {f : FmtS} {d : Dev} {post : Dev → Prop}
    (h : post (d.issueOrdered pc c (f.ok (useArr 0)) (fun d => d.adrain pc c f))) : Does (.adrain pc c f) d post := fun _ => ⟨_, rfl, h⟩

/-- The device after the array has forgotten a context's drain. -/
def Dev.drainAnswered (d : Dev) (pc c : Nat) : Dev := d.modArr pc (fun a => { a with drains := SMap.erase c a.drains })

/-- A pending launch of the context is removed. -/
theorem Dev.adrain_pending {pc : Slot} {c : Ctx} {f : FmtS} {d : Dev} {l : LaunchDesc} (hrun : (d.arr pc).run = none) (hpend : (d.arr pc).pend = some l)
    (hhandle : l.handle = d.xaOf pc c f % 2 ^ 32) (hctx : l.ctx = c) :
    d.adrain pc c f = ((d.abortLaunches pc c .adrain (some (d.xaOf pc c f % 2 ^ 32))).drainAnswered pc c).commitSync pc c f.xd.toNat 0 := by
  have hown : (some l).filter (fun l : LaunchDesc => l.handle = d.xaOf pc c f % 2 ^ 32 && l.ctx = c) = some l := by
    simp [Option.filter, hhandle, hctx]
  simp only [Dev.adrain, hrun, hpend, hown, Option.filter_none]
  rfl

section
variable {pc : Slot} {c : Ctx} {f : FmtS} {d : Dev} (hdrains : SMap.find c.val (d.arr pc).drains = none)
include hdrains

/-- The drain of a running launch of the context starts, unless its last output is written. -/
theorem Dev.adrain_running {l : Launch} (hrun : (d.arr pc).run = some l) (hhandle : l.desc.handle = d.xaOf pc c f % 2 ^ 32) (hctx : l.desc.ctx = c) :
    d.adrain pc c f = if l.committed then (d.drainAnswered pc c).commitSync pc c f.xd.toNat 1
      else .park ((d.abortLaunches pc c .adrain (some (d.xaOf pc c f % 2 ^ 32))).modArr pc (fun a => { a with
        drains := SMap.insert c (d.xaOf pc c f % 2 ^ 32) a.drains })) (.launchEnd (d.xaOf pc c f % 2 ^ 32)) := by
  have hown : (some l).filter (fun l : Launch => l.desc.handle = d.xaOf pc c f % 2 ^ 32 && l.desc.ctx = c) = some l := by
    simp [Option.filter, hhandle, hctx]
  have hasked : ¬ (SMap.find c.val (d.arr pc).drains = some (d.xaOf pc c f % 2 ^ 32)) := by
    rw [hdrains]
    exact nofun
  simp only [Dev.adrain, hrun, hown, if_neg hasked]
  rfl

/-- Of a launch that the array does not know, ADRAIN answers 2. -/
theorem Dev.adrain_unknown (hrun : (d.arr pc).run = none) (hpend : (d.arr pc).pend = none)
    (hended : ∀ e ∈ (d.arr pc).ended, ¬ (e.handle = d.xaOf pc c f % 2 ^ 32 ∧ e.ctx = c.val)) :
    d.adrain pc c f = (d.drainAnswered pc c).commitSync pc c f.xd.toNat 2 := by
  have hnone : (d.arr pc).ended.reverse.find? (fun e => e.handle = d.xaOf pc c f % 2 ^ 32 && e.ctx = c.val) = none := by
    rw [List.find?_eq_none]
    intro e he
    simpa using hended e (List.mem_reverse.1 he)
  have hasked : ¬ (SMap.find c.val (d.arr pc).drains = some (d.xaOf pc c f % 2 ^ 32)) := by
    rw [hdrains]
    exact nofun
  simp only [Dev.adrain, hrun, hpend, hnone, if_neg hasked, Option.filter_none]
  rfl

end

section
variable {pc : Slot} {c : Ctx} {f : FmtS} {d : Dev} (hready : d.ready pc c = true) (hpending : d.anyPending pc c = false)
  (hxb : f.xb = 0) (hfl : f.fl = 0) (himm : f.imm = 0)
include hready hpending hxb hfl himm

/-- A drain that changes no launch answers at once. -/
theorem Does.adrain_answers {v : Nat} (hbody : d.adrain pc c f = (d.drainAnswered pc c).commitSync pc c f.xd.toNat v) : Does (.adrain pc c f) d (fun d' =>
    CounterCommits d d' pc c f.xd.toNat v false ∧ (d'.arr pc).run = (d.arr pc).run) := by
  refine Does.adrain ?_
  rw [Dev.issueOrdered_commits hready hpending (FmtS.ok_useArr hxb (by rw [hfl]; rfl) himm) hbody]
  refine ⟨CounterCommits.syncDone (.modArr d pc _) rfl _ _ _, ?_⟩
  rw [(InContexts.syncDone ..).arr, Dev.drainAnswered, Dev.arr_modArr]

/-- The drain of a running launch starts, and its ADRAIN waits for the launch's end. -/
theorem Does.adrain_starts (hdrains : SMap.find c.val (d.arr pc).drains = none) {l : Launch} (hrun : (d.arr pc).run = some l) (hpend : (d.arr pc).pend = none)
    (hhandle : l.desc.handle = d.xaOf pc c f % 2 ^ 32) (hctx : l.desc.ctx = c) (hopen : l.ending = none) : Does (.adrain pc c f) d (fun d' =>
      (d'.ctx pc c).phase = .parked ∧ (d'.ctx pc c).wait = some (.launchEnd (d.xaOf pc c f % 2 ^ 32)) ∧
      (d'.arr pc).run = some { l with drain := some .adrain } ∧ SMap.find c.val (d'.arr pc).drains = some (d.xaOf pc c f % 2 ^ 32) ∧ d'.mem = d.mem) := by
  have hbody := Dev.adrain_running hdrains hrun hhandle hctx
  rw [Launch.committed, hopen, Option.isSome_none, if_neg Bool.false_ne_true, Dev.abortLaunches_eq, Dev.abortPend_none hpend] at hbody
  have hhit : l.desc.hit c (some (d.xaOf pc c f % 2 ^ 32)) = true := by simp [LaunchDesc.hit, hctx, hhandle]
  have hstop := ArrayState.abortRun_hit hrun hhit hopen .adrain
  refine Does.adrain ?_
  rw [Dev.issueOrdered_parks hready hpending (FmtS.ok_useArr hxb (by rw [hfl]; rfl) himm) hbody]
  obtain ⟨hphase, hw, -⟩ := Dev.parked_ctx ((d.modArr pc (fun a => a.abortRun c .adrain (some (d.xaOf pc c f % 2 ^ 32)))).modArr pc (fun a => { a with
    drains := SMap.insert c (d.xaOf pc c f % 2 ^ 32) a.drains })) pc c (.launchEnd (d.xaOf pc c f % 2 ^ 32))
  refine ⟨hphase, hw, ?_, ?_, (InContexts.parked ..).mem⟩
  · rw [(InContexts.parked ..).arr, Dev.arr_modArr, Dev.arr_modArr, hstop]
  · rw [(InContexts.parked ..).arr, Dev.arr_modArr]
    exact SMap.find_insert_same _ _ _

/-- A pending launch is removed: it ends ABORTED, and its ADRAIN answers 0. -/
theorem Does.adrain_removes {l : LaunchDesc} (hrun : (d.arr pc).run = none) (hpend : (d.arr pc).pend = some l)
    (hhandle : l.handle = d.xaOf pc c f % 2 ^ 32) (hctx : l.ctx = c) : Does (.adrain pc c f) d (fun d' =>
      (d'.arr pc).pend = none ∧ (d'.ctx pc c).pc = d.seqPc pc c ∧
      (∀ r, (d'.ctx pc c).xr r = if r = f.xd.toNat ∧ r ≠ 0 then 0 else (d.ctx pc c).xr r) ∧
      LaunchEnded d d' pc l (launchStatus l.handle 3 false false false false)) := by
  have hhit : l.hit c (some (d.xaOf pc c f % 2 ^ 32)) = true := by simp [LaunchDesc.hit, hctx, hhandle]
  obtain ⟨e, he⟩ : ∃ e, (d.modArr pc (fun a => { a with pend := none })).endLaunch pc l l.aborted = e := ⟨_, rfl⟩
  have hclose : Closed pc l l.aborted (d.modArr pc (fun a => { a with pend := none })) e := he ▸ Closed.endLaunch _ pc l l.aborted
  have hended : LaunchEnded d e pc l l.aborted :=
    LaunchEnded.before (he ▸ LaunchEnded.endLaunch _ pc l l.aborted) (Keeps.modArr d pc _) rfl (d.counter_modArr pc _ _)
  have hbody := Dev.adrain_pending hrun hpend hhandle hctx
  rw [Dev.abortLaunches_eq, Dev.abortPend_hit hpend hhit, he] at hbody
  have hcalm : Calm pc d ((e.modArr pc (fun a => a.abortRun c .adrain (some (d.xaOf pc c f % 2 ^ 32)))).drainAnswered pc c) :=
    (((Calm.modArr d pc _).trans hclose.toCalm).trans (.modArr e pc _)).trans (.modArr _ pc _)
  have harr : ((e.modArr pc (fun a => a.abortRun c .adrain (some (d.xaOf pc c f % 2 ^ 32)))).drainAnswered pc c).arr pc =
      { (e.arr pc).abortRun c .adrain (some (d.xaOf pc c f % 2 ^ 32)) with
        drains := SMap.erase c ((e.arr pc).abortRun c .adrain (some (d.xaOf pc c f % 2 ^ 32))).drains } := by
    rw [Dev.drainAnswered, Dev.arr_modArr, Dev.arr_modArr]
  have hin := InContexts.syncDone ((e.modArr pc (fun a => a.abortRun c .adrain (some (d.xaOf pc c f % 2 ^ 32)))).drainAnswered pc c) pc c f.xd.toNat 0
  obtain ⟨hpc, hxr⟩ := hcalm.syncDone_ctx c f.xd.toNat 0
  refine Does.adrain ?_
  rw [Dev.issueOrdered_commits hready hpending (FmtS.ok_useArr hxb (by rw [hfl]; rfl) himm) hbody]
  refine ⟨?_, hpc, hxr, LaunchEnded.then hended ?_ ?_ ?_⟩
  · rw [hin.arr, harr]
    exact (ArrayState.abortRun_rest ..).1.trans (by rw [hclose.arr, Dev.arr_modArr]; rfl)
  · rw [hin.arr, harr]
    exact (ArrayState.abortRun_rest ..).2
  · rw [hin.counter, Dev.drainAnswered, Dev.counter_modArr, Dev.counter_modArr]
  · rw [hin.mem]
    rfl

end

end Sys2Proof.Machine
end

section
namespace Sys2Proof.Machine

/-! ## Ends and drains (R144, R155, R156, R436) -/

theorem LaunchEnded.endRun (d : Dev) (pc : Nat) (l : Launch) (st : Nat) : LaunchEnded d (d.endRun pc l st) pc l.desc (l.status st) :=
  LaunchEnded.before (LaunchEnded.endLaunch _ pc l.desc (l.status st)) (Keeps.modArr d pc _) rfl (d.counter_modArr pc _ _)

theorem Dev.endRun_arr (d : Dev) (pc : Nat) (l : Launch) (st : Nat) :
    (d.endRun pc l st).arr pc = { d.arr pc with run := none }.close l.desc (l.status st) := by
  rw [Dev.endRun, (Closed.endLaunch ..).arr, Dev.arr_modArr]

theorem Calm.endRun (d : Dev) (pc : Nat) (l : Launch) (st : Nat) : Calm pc d (d.endRun pc l st) :=
  (Calm.modArr d pc _).trans (Closed.endLaunch _ pc l.desc (l.status st)).toCalm

/-- A launch whose end is decided writes its status and posts its counter. -/
theorem Does.launchEnd {pc : Slot} {d : Dev} {l : Launch} {st : Nat} (hrun : (d.arr pc).run = some l) (hst : l.ending = some st) (hdrain : l.drain = none)
    (hon : d.domOn pc = true) : Does (.launchEnd pc) d (fun d' => (d'.arr pc).run = none ∧ LaunchEnded d d' pc l.desc (l.status st)) := by
  have hend : d.launchEnd pc = d.endRun pc l st := by
    simp only [Dev.launchEnd, hrun, hst, hdrain, hon, Option.isSome_none, Bool.not_true, Bool.false_and, Bool.or_self, Bool.false_eq_true, if_false]
  refine Does.of_run (f := fun d => d.launchEnd pc) (fun _ => rfl) ?_
  rw [hend, Dev.endRun_arr]
  exact ⟨rfl, LaunchEnded.endRun d pc l st⟩

theorem Dev.arr_modRun {d : Dev} {pc : Nat} {l : Launch} (hrun : (d.arr pc).run = some l) (f : Launch → Launch) :
    (d.modRun pc f).arr pc = { d.arr pc with run := some (f l) } := by
  rw [Dev.modRun, Dev.arr_modArr, hrun]
  rfl

/-- A launch drained for a freeze is held. -/
theorem Does.drainDone_holds {pc : Slot} {d : Dev} {l : Launch} (hrun : (d.arr pc).run = some l) (hdrain : l.drain = some .freeze) (hheld : l.held = false)
    (hopen : l.ending = none) : Does (.drainDone pc) d (fun d' =>
      (d'.arr pc).run = some { l with held := true } ∧ Counted d d' F.CELL_ARR_DRAINS pc ∧ d'.mem = d.mem) := by
  have hdone : d.drainDone pc = (d.modRun pc (fun l => { l with held := true })).count F.CELL_ARR_DRAINS pc := by
    simp only [Dev.drainDone, hrun, hdrain, hheld, hopen, Option.isSome_none, Bool.or_self, Bool.false_eq_true, if_false]
  have hcount := InContexts.count pc (d.modRun pc (fun l => { l with held := true })) F.CELL_ARR_DRAINS pc 0 1
  refine Does.of_run (f := fun d => d.drainDone pc) (fun _ => rfl) ?_
  rw [hdone, hcount.arr, Dev.arr_modRun hrun]
  exact ⟨rfl, Counted.count (d.modRun pc _) _ _, hcount.mem⟩

/-- A drained launch with its state discarded: it is to end, ABORTED unless its end was decided. -/
def Launch.discard (l : Launch) : Launch :=
  { l with drain := none, held := false, repeating := none, lanes := [], units := [], edges := [], portPos := [],
           ending := l.ending.orElse (fun _ => some 3) }

/-- A launch drained for any other cause is discarded, and its end is decided. -/
theorem Does.drainDone_discards {pc : Slot} {d : Dev} {l : Launch} {cause : DrainCause} (hrun : (d.arr pc).run = some l) (hdrain : l.drain = some cause)
    (hcause : cause ≠ .freeze) : Does (.drainDone pc) d (fun d' =>
      (∃ r, (d'.arr pc).run = some r ∧ r.desc = l.desc ∧ r.drain = none ∧ r.lanes = [] ∧ r.units = [] ∧ r.edges = [] ∧ r.tile = l.tile ∧
        r.ending = some (l.ending.getD 3)) ∧ Counted d d' F.CELL_ARR_DRAINS pc ∧ d'.mem = d.mem) := by
  have hdone : d.drainDone pc = (d.modRun pc Launch.discard).count F.CELL_ARR_DRAINS pc := by
    cases cause with
    | freeze => exact absurd rfl hcause
    | adrain => simp only [Dev.drainDone, hrun, hdrain]; rfl
    | kill => simp only [Dev.drainDone, hrun, hdrain]; rfl
    | fault => simp only [Dev.drainDone, hrun, hdrain]; rfl
  have hcount := InContexts.count pc (d.modRun pc Launch.discard) F.CELL_ARR_DRAINS pc 0 1
  refine Does.of_run (f := fun d => d.drainDone pc) (fun _ => rfl) ?_
  rw [hdone, hcount.arr, Dev.arr_modRun hrun]
  refine ⟨⟨_, rfl, rfl, rfl, rfl, rfl, rfl, rfl, ?_⟩, Counted.count (d.modRun pc _) _ _, hcount.mem⟩
  cases hend : l.ending with
  | none => rw [Launch.discard, hend]; rfl
  | some st => rw [Launch.discard, hend]; rfl

/-! ## DRAIN_TIMEOUT (R436) -/

/-- Both planes are EMPTY, and neither a load nor a pending launch is left. -/
def Dev.clearPlanes (d : Dev) (pc : Nat) : Dev :=
  ((d.setReg (F.CELL_ARR_PLANE.base + 8 * 0) pc 0 0).setReg (F.CELL_ARR_PLANE.base + 8 * 1) pc 0 0).modArr pc (fun a => { a with
    load := none, pend := none, plane0 := [], plane1 := [] })

/-- The drain is given up: it is counted and recorded, and the launch ends in state 5. -/
def Dev.giveUpDrain (d : Dev) (pc : Nat) (l : Launch) (cause : DrainCause) : Dev :=
  ((d.count F.WDOG_DRAIN_TIMEOUTS).record 0x0204 cause.code 2 pc 2 l.desc.handle).endRun pc l 5

theorem Dev.drainTimeout_eq {d : Dev} {pc : Nat} {l : Launch} {cause : DrainCause} (hrun : (d.arr pc).run = some l) (hdrain : l.drain = some cause)
    (hheld : l.held = false) (hpend : (d.arr pc).pend = none) : d.drainTimeout pc =
      ((((d.clearPlanes pc).giveUpDrain pc l cause).arrayFault pc l.desc 0x0D).count F.WDOG_PROGRESS_FAULTS) := by
  have hpend' : (((d.setReg F.CELL_ARR_PLANE.base pc 0 0).setReg (F.CELL_ARR_PLANE.base + 8) pc 0 0).arr pc).pend = none := by
    rwa [(InContexts.setReg ..).arr, (InContexts.setReg ..).arr]
  simp only [Dev.drainTimeout, hrun, hdrain, hheld, hpend']
  rfl

theorem Dev.clearPlanes_planeState (d : Dev) (pc : Nat) : (d.clearPlanes pc).planeState pc 0 = 0 ∧ (d.clearPlanes pc).planeState pc 1 = 0 :=
  ⟨(Dev.planeState_setReg_other _ (by decide) pc 0).trans (Dev.planeState_setReg_same d pc 0 0), Dev.planeState_setReg_same _ pc 1 0⟩

theorem Dev.clearPlanes_arr (d : Dev) (pc : Nat) : (d.clearPlanes pc).arr pc = { d.arr pc with load := none, pend := none, plane0 := [], plane1 := [] } := by
  rw [Dev.clearPlanes, Dev.arr_modArr, (InContexts.setReg ..).arr, (InContexts.setReg ..).arr]

theorem Dev.clearPlanes_mem (d : Dev) (pc : Nat) : (d.clearPlanes pc).mem = d.mem :=
  ((InContexts.setReg pc d (F.CELL_ARR_PLANE.base + 8 * 0) pc 0 0).trans (.setReg pc _ (F.CELL_ARR_PLANE.base + 8 * 1) pc 0 0)).mem

theorem Dev.clearPlanes_ctx (d : Dev) (pc c : Nat) : (d.clearPlanes pc).ctx pc c = d.ctx pc c := by
  rw [Dev.clearPlanes, Dev.ctx_modArr, Dev.ctx_setReg, Dev.ctx_setReg]

/-- Only the registers of the planes change. -/
theorem Dev.clearPlanes_reg (d : Dev) (pc : Nat) {base : Nat} (h0 : base % 2 ^ 12 ≠ F.CELL_ARR_PLANE.base % 2 ^ 12)
    (h1 : base % 2 ^ 12 ≠ (F.CELL_ARR_PLANE.base + 8 * 1) % 2 ^ 12) (inst item : Nat) : (d.clearPlanes pc).reg base inst item = d.reg base inst item :=
  (Dev.reg_setReg_other _ 0 (regKey_ne h1 _ _ _ _)).trans (Dev.reg_setReg_other d 0 (regKey_ne h0 _ _ _ _))

/-- What giving up a drain keeps, apart from the count of DRAIN_TIMEOUT. -/
theorem Calm.giveUpDrain (d : Dev) (pc : Nat) (l : Launch) (cause : DrainCause) : Calm pc (d.count F.WDOG_DRAIN_TIMEOUTS) (d.giveUpDrain pc l cause) :=
  (Steady.record pc _ (by decide)).toCalm.trans (.endRun _ pc l 5)

theorem Dev.giveUpDrain_arr (d : Dev) (pc : Nat) (l : Launch) (cause : DrainCause) :
    (d.giveUpDrain pc l cause).arr pc = { d.arr pc with run := none }.close l.desc (l.status 5) := by
  rw [Dev.giveUpDrain, Dev.endRun_arr, (Steady.record pc _ (by decide)).arr, (InContexts.count ..).arr]

theorem not_storageKey (base inst item : Nat) (h : base % 2 ^ 12 ≠ 0x018 ∧ (base % 2 ^ 12 < 0x200 ∨ 0x280 ≤ base % 2 ^ 12) := by decide) :
    ¬ StorageKey (regKey base inst item) := by
  rw [StorageKey, LmapKey, regKey_mod]
  omega

/-- The launch whose drain is given up ends in state 5 (R436). -/
theorem LaunchEnded.giveUpDrain (d : Dev) (pc : Nat) (l : Launch) (cause : DrainCause) :
    LaunchEnded d ((d.clearPlanes pc).giveUpDrain pc l cause) pc l.desc (l.status 5) := by
  have hplanes : Keeps StorageKey d (d.clearPlanes pc) :=
    ((Keeps.setReg d _ _ _ _ (not_storageKey _ _ _)).trans (.setReg _ _ _ _ _ (not_storageKey _ _ _))).trans (.modArr _ pc _)
  have hcount : Keeps StorageKey (d.clearPlanes pc) ((d.clearPlanes pc).count F.WDOG_DRAIN_TIMEOUTS) := .count _ _ _ _ _ (not_storageKey _ _ _)
  have hrecord := Steady.record pc ((d.clearPlanes pc).count F.WDOG_DRAIN_TIMEOUTS) (event := 0x0204) (key := cause.code) (cls := 2) (inst := pc) (sev := 2)
    (d0 := l.desc.handle) (d1 := 0) (d2 := 0) (by decide)
  refine LaunchEnded.before (LaunchEnded.endRun _ pc l 5) ((hplanes.trans hcount).trans (hrecord.regs.mono fun _ => StorageKey.aside)) ?_ ?_
  · rw [hrecord.mem, Dev.count_mem, Dev.clearPlanes_mem]
  · rw [hrecord.counter, (InContexts.count ..).counter, Dev.clearPlanes, Dev.counter_modArr, (InContexts.setReg ..).counter, (InContexts.setReg ..).counter]

theorem Dev.planeState_of_reg {d d' : Dev} {pc n : Nat} (h : d'.reg (F.CELL_ARR_PLANE.base + 8 * n) pc = d.reg (F.CELL_ARR_PLANE.base + 8 * n) pc) :
    d'.planeState pc n = d.planeState pc n := by
  simp only [Dev.planeState, Dev.get, Fld.nth]
  rw [h]

theorem plane_mod_ne {n k : Nat} (hn : n ≤ 1) (hk : k ≠ 0x408 ∧ k ≠ 0x410) : (F.CELL_ARR_PLANE.base + 8 * n) % 2 ^ 12 ≠ k := by
  simp only
  omega

/-- A drain that times out clears the array, ends the launch in state 5 and faults its context with PROGRESS. -/
theorem Does.drainTimeout {pc : Slot} {d : Dev} {l : Launch} {cause : DrainCause} (hrun : (d.arr pc).run = some l) (hdrain : l.drain = some cause)
    (hheld : l.held = false) (hpend : (d.arr pc).pend = none) : Does (.drainTimeout pc) d (fun d' =>
      (d'.arr pc).run = none ∧ (d'.arr pc).pend = none ∧ d'.planeState pc 0 = 0 ∧ d'.planeState pc 1 = 0 ∧
      LaunchEnded d d' pc l.desc (l.status 5) ∧ LaunchFaulted d d' pc l.desc ∧ Counted d d' F.WDOG_DRAIN_TIMEOUTS ∧
      Counted d d' F.WDOG_PROGRESS_FAULTS) := by
  obtain ⟨e, he⟩ : ∃ e, (d.clearPlanes pc).giveUpDrain pc l cause = e := ⟨_, rfl⟩
  have hcalm : Calm pc ((d.clearPlanes pc).count F.WDOG_DRAIN_TIMEOUTS) e := he ▸ Calm.giveUpDrain _ pc l cause
  have hended : LaunchEnded d e pc l.desc (l.status 5) := he ▸ LaunchEnded.giveUpDrain d pc l cause
  have harr : e.arr pc = { (d.clearPlanes pc).arr pc with run := none }.close l.desc (l.status 5) := he ▸ Dev.giveUpDrain_arr _ pc l cause
  have hfree : (e.arr pc).pend = none := by
    rw [harr, Dev.clearPlanes_arr]
    rfl
  have hidle : (e.arr pc).run = none := by
    rw [harr]
    rfl
  have hspares := FaultSpares.arrayFault e pc l.desc 0x0D 0 0 0
  have hlast := InContexts.count pc (e.arrayFault pc l.desc 0x0D) F.WDOG_PROGRESS_FAULTS 0 0 1
  have hkeeps := hcalm.regs.trans hspares.regs
  refine Does.of_run (f := fun d => d.drainTimeout pc) (fun _ => rfl) ?_
  rw [Dev.drainTimeout_eq hrun hdrain hheld hpend, he]
  have hplane : ∀ n ≤ 1, ((e.arrayFault pc l.desc 0x0D).count F.WDOG_PROGRESS_FAULTS).planeState pc n = (d.clearPlanes pc).planeState pc n := by
    intro n hn
    refine Dev.planeState_of_reg ?_
    rw [Dev.reg_count_other _ _ (plane_mod_ne hn (by decide)), hkeeps.reg (planeKey_aside hn pc), Dev.reg_count_other _ _ (plane_mod_ne hn (by decide))]
  refine ⟨?_, ?_, (hplane 0 (by decide)).trans (d.clearPlanes_planeState pc).1, (hplane 1 (by decide)).trans (d.clearPlanes_planeState pc).2,
    LaunchEnded.then hended ?_ ?_ ?_, .then (.before (.arrayFault e pc l.desc 0x0D 0 0 0) ?_) (Dev.ctx_count ..), ?_, ?_⟩
  · rw [hlast.arr, hspares.run (ArrayState.decided_none hidle), hidle]
  · rw [hlast.arr, hspares.pend hfree]
  · rw [hlast.arr, hspares.ended hfree]
  · rw [hlast.counter, hspares.counter hfree]
  · rw [hlast.mem, hspares.mem hfree]
  · have hctx := hcalm.ctx l.desc.ctx
    rwa [Dev.ctx_count, Dev.clearPlanes_ctx] at hctx
  · refine .then (.before (Counted.count (d.clearPlanes pc) F.WDOG_DRAIN_TIMEOUTS 0) (d.clearPlanes_reg pc (by decide) (by decide) 0 0)) ?_
    rw [Dev.reg_count_other _ _ (by decide), hkeeps.reg (asideKey_regKey _ _ _)]
  · refine .before (Counted.count _ F.WDOG_PROGRESS_FAULTS 0) ?_
    rw [hkeeps.reg (asideKey_regKey _ _ _), Dev.reg_count_other _ _ (by decide), d.clearPlanes_reg pc (by decide) (by decide)]

/-- Settles O30: a launch's start and end, the answers of ASTAT and ADRAIN, and what ends a drain, each by what its command does to the launch. -/
theorem launchesStartDrainAndEnd : Obligations.LaunchesStartDrainAndEnd := by
  intro pc d
  refine ⟨fun l hon hthawed hrun hpend => ?_, fun c f h hready hpending hxb himm hh => ?_, fun l st hrun hst hdrain hon => ?_,
    fun l hrun cause hdrain => ⟨fun hcause hheld hopen => ?_, fun hcause => ?_, fun hheld hpend => ?_⟩⟩
  · exact .launchStart hon hthawed hrun hpend
  · subst hh
    refine ⟨fun hfl hnow => ?_, fun hfl hlive => ?_, fun hfl hdrains => ⟨fun l hrun hpend hhandle hctx => ⟨fun hopen => ?_, fun hend => ?_⟩,
      fun l hrun hpend hhandle hctx => ?_, fun hrun hpend hended => ?_⟩⟩
    · exact .astat_delivers hready hpending hxb himm hfl hnow
    · exact .astat_waits hready hpending hxb himm hfl hlive
    · exact .adrain_starts hready hpending hxb hfl himm hdrains hrun hpend hhandle hctx hopen
    · have hcommitted : l.committed = true := Option.isSome_iff_ne_none.2 hend
      exact .adrain_answers hready hpending hxb hfl himm ((Dev.adrain_running hdrains hrun hhandle hctx).trans (if_pos hcommitted))
    · exact .adrain_removes hready hpending hxb hfl himm hrun hpend hhandle hctx
    · exact (Does.adrain_answers hready hpending hxb hfl himm (Dev.adrain_unknown hdrains hrun hpend hended)).imp fun _ hpost => hpost.1
  · exact .launchEnd hrun hst hdrain hon
  · exact .drainDone_holds hrun (hcause ▸ hdrain) hheld hopen
  · exact .drainDone_discards hrun hdrain hcause
  · exact .drainTimeout hrun hdrain hheld hpend

end Sys2Proof.Machine
end

section
namespace Sys2Proof.Machine

/-! ## Bytes that a tile writes (R154) -/

/-- The step from `d` to `d'` changes storage alone, and the step from `e` to `e'` changes it alike. -/
structure StoresAlike (d e d' e' : Dev) : Prop where
  rest : { d' with mem := d.mem } = d
  mem : d.mem = e.mem → d'.mem = e'.mem

theorem StoresAlike.refl (d e : Dev) : StoresAlike d e d e := ⟨rfl, id⟩

theorem StoresAlike.trans {a b a' b' a'' b'' : Dev} (h : StoresAlike a b a' b') (h' : StoresAlike a' b' a'' b'') : StoresAlike a b a'' b'' := by
  have hsplit : { a'' with mem := a.mem } = { ({ a'' with mem := a'.mem } : Dev) with mem := a.mem } := rfl
  exact ⟨by rw [hsplit, h'.rest, h.rest], fun hm => h'.mem (h.mem hm)⟩

theorem StoresAlike.store (d e : Dev) (a : Nat) (bs : List Byte) : StoresAlike d e (d.store a bs) (e.store a bs) :=
  ⟨rfl, fun hm => by rw [Dev.store_mem, Dev.store_mem, hm]⟩

section
variable {d e d' e' : Dev} (h : StoresAlike d e d' e')
include h

theorem StoresAlike.cells : d'.cells = d.cells := by rw [← h.rest]
theorem StoresAlike.slots : d'.slots = d.slots := by rw [← h.rest]
theorem StoresAlike.regs : d'.regs = d.regs := by rw [← h.rest]

end

theorem StoresAlike.foldl {f : Dev × Nat → Nat → Dev × Nat} (hf : ∀ a b s, StoresAlike a.1 b.1 (f a s).1 (f b s).1) (rows : List Nat) (a b : Dev × Nat) :
    StoresAlike a.1 b.1 (rows.foldl f a).1 (rows.foldl f b).1 := by
  induction rows generalizing a b with
  | nil => exact .refl a.1 b.1
  | cons s rows ih => exact (hf a b s).trans (ih (f a s) (f b s))

theorem StoresAlike.writeTileRow (d e : Dev) (pc : Nat) (l : LaunchDesc) (fo i j0 : Nat) (es : List Ea) :
    StoresAlike d e (d.writeTileRow pc l fo i j0 es).1 (e.writeTileRow pc l fo i j0 es).1 := by
  unfold Dev.writeTileRow
  split
  · exact .store d e _ _
  · split
    · exact .trans (.store d e _ _) (.store _ _ _ _)
    · exact .store d e _ _

/-- One row of a tile more, with its status joined. -/
def tileRowStored (pc : Nat) (l : LaunchDesc) (fo i0 j0 : Nat) (g : List (List Ea)) (acc : Dev × Nat) (s : Nat) : Dev × Nat :=
  let r := acc.1.writeTileRow pc l fo (i0 + s) j0 ((g.getD s []).take (min 32 (l.n - j0)))
  (r.1, acc.2 ||| r.2)

theorem Dev.writeTile_eq (d : Dev) (pc : Nat) (l : LaunchDesc) (fo i0 j0 : Nat) (g : List (List Ea)) :
    d.writeTile pc l fo i0 j0 g = (List.range (min 32 (l.m - i0))).foldl (tileRowStored pc l fo i0 j0 g) (d, 0) := rfl

theorem StoresAlike.writeTile (d e : Dev) (pc : Nat) (l : LaunchDesc) (fo i0 j0 : Nat) (g : List (List Ea)) :
    StoresAlike d e (d.writeTile pc l fo i0 j0 g).1 (e.writeTile pc l fo i0 j0 g).1 := by
  have hrow : ∀ a b s, StoresAlike a.1 b.1 (tileRowStored pc l fo i0 j0 g a s).1 (tileRowStored pc l fo i0 j0 g b s).1 :=
    fun a b s => .writeTileRow a.1 b.1 pc l fo (i0 + s) j0 _
  rw [Dev.writeTile_eq, Dev.writeTile_eq]
  exact .foldl hrow _ (d, 0) (e, 0)

end Sys2Proof.Machine
end

section
namespace Sys2Proof.Machine

/-! ## What the check of a tile counts (R62, R152) -/

/-- Every register but CELL_ARITH_STATUS and the count of inexact checks. -/
def TallyKey (k : Nat) : Prop := k % 2 ^ 12 ∉ [0x300, 0x478]

theorem tallyKey_regKey (base inst item : Nat) (h : base % 2 ^ 12 ∉ [0x300, 0x478] := by decide) : TallyKey (regKey base inst item) := by
  rwa [TallyKey, regKey_mod]

theorem not_tallyKey (base inst item : Nat) (h : base % 2 ^ 12 ∈ [0x300, 0x478] := by decide) : ¬ TallyKey (regKey base inst item) := by
  rw [TallyKey, regKey_mod]
  exact fun hn => hn h

/-- Only those two registers change. -/
structure Tallied (d d' : Dev) : Prop where
  rest : { d' with regs := d.regs } = d
  regs : Keeps TallyKey d d'

theorem Tallied.refl (d : Dev) : Tallied d d := ⟨rfl, .refl d⟩

theorem Tallied.trans {a b c : Dev} (h : Tallied a b) (h' : Tallied b c) : Tallied a c := by
  have hc : { c with regs := a.regs } = { ({ c with regs := b.regs } : Dev) with regs := a.regs } := rfl
  exact ⟨by rw [hc, h'.rest, h.rest], h.regs.trans h'.regs⟩

theorem Dev.onlyRegs (d : Dev) (regs : SMap Word) : { ({ d with regs := regs } : Dev) with regs := d.regs } = d := rfl

theorem Tallied.setReg (d : Dev) {base inst item v : Nat} (h : ¬ TallyKey (regKey base inst item)) : Tallied d (d.setReg base inst item v) :=
  ⟨d.onlyRegs _, .setReg d _ _ _ _ h⟩

section
variable {d d' : Dev} (h : Tallied d d')
include h

theorem Tallied.mem : d'.mem = d.mem := by rw [← h.rest]
theorem Tallied.cells : d'.cells = d.cells := by rw [← h.rest]
theorem Tallied.slots : d'.slots = d.slots := by rw [← h.rest]

end

theorem Tallied.arith (d : Dev) (pc st : Nat) : Tallied d (d.arith pc st) := by
  unfold Dev.arith
  split
  · exact .refl d
  · exact .setReg d (not_tallyKey _ _ _)

/-- The device after a tile's check has been counted: its operands' status is joined, and an inexact check counted where it is new. -/
def Dev.tallyTile (d : Dev) (pc : Nat) (l : Launch) (e : TileErr) (counts : Bool) : Dev :=
  if counts then (d.runTile pc l e).1.count F.CELL_ARR_INEXACT_CHECKS pc else (d.runTile pc l e).1

theorem Tallied.tallyTile (d : Dev) (pc : Nat) (l : Launch) (e : TileErr) (counts : Bool) : Tallied d (d.tallyTile pc l e counts) := by
  have harith : Tallied d (d.runTile pc l e).1 := Tallied.arith d pc _
  unfold Dev.tallyTile
  split
  · exact harith.trans (.setReg _ (not_tallyKey _ _ _))
  · exact harith

theorem Dev.matmulRun_some {d : Dev} {pc : Nat} {l : Launch} (h : d.matmulRun pc = some l) : (d.arr pc).run = some l ∧ l.ending = none := by
  obtain ⟨hrun, hl⟩ := Option.filter_eq_some_iff.1 h
  simp only [Bool.and_eq_true, Option.isNone_iff_eq_none] at hl
  exact ⟨hrun, hl.1.1.2⟩

end Sys2Proof.Machine
end

section
namespace Sys2Proof.Machine

/-! ## A tile that passes (R154) -/

/-- The tile of a launch has been written, counted and posted, as the obligation says it. -/
def TileWritten (d d' : Dev) (pc : Nat) (l : Launch) (g : List (List Ea)) (retried : Bool) : Prop :=
  (∃ r, (d'.arr pc).run = some r ∧ r.desc = l.desc ∧ r.tile = l.tile + 1 ∧ r.repeating = none ∧ r.retried = (l.retried || retried) ∧
    (l.desc.tiles ≤ l.tile + 1 → l.drain = none → r.ending = some 2) ∧ (l.tile + 1 < l.desc.tiles → r.ending = none)) ∧
  Counted d d' F.CELL_ARR_TILES pc ∧
  d'.mem = (d.writeTile pc l.desc (d.runFmts pc).2.2 (l.desc.tileAt l.tile).1 (l.desc.tileAt l.tile).2 g).1.mem ∧
  (∀ n, d'.counter pc n = if l.desc.tileEn = true ∧ n = l.desc.tileCtr then min (d.counter pc n + 1) (2 ^ 64 - 1) else d.counter pc n)

theorem TileWritten.then {d d1 d' : Dev} {pc : Nat} {l : Launch} {g : List (List Ea)} {retried : Bool} (h : TileWritten d d1 pc l g retried)
    (hin : InContexts pc d1 d') (hreg : d'.reg F.CELL_ARR_TILES.base pc = d1.reg F.CELL_ARR_TILES.base pc) : TileWritten d d' pc l g retried := by
  obtain ⟨hrun, hcount, hmem, hctr⟩ := h
  exact ⟨hin.arr ▸ hrun, hcount.then hreg, hin.mem.trans hmem, fun n => (hin.counter n).trans (hctr n)⟩

/-- The running launch with its tile done. -/
def Launch.tileDone (l : Launch) (t : TileCheck) (st : Nat) (retried : Bool) : Launch :=
  { l with tile := l.tile + 1, repeating := none, inexact := l.inexact || t.inexact, retried := l.retried || retried,
           ovf := l.ovf || bitOf st 1, under := l.under || bitOf st 0 }

/-- The launch after a tile: with no tile left its end is decided. -/
def Launch.afterTile (l : Launch) (t : TileCheck) (st : Nat) (retried : Bool) : Launch :=
  if l.desc.tiles ≤ l.tile + 1 then (l.tileDone t st retried).finish else l.tileDone t st retried

/-- A tile stored and counted; its status is that of the values stored. -/
def Dev.storeTile (d : Dev) (pc : Nat) (l : Launch) (fo : Nat) (g : List (List Ea)) : Dev :=
  (((d.writeTile pc l.desc fo (l.desc.tileAt l.tile).1 (l.desc.tileAt l.tile).2 g).1.arith pc
    (d.writeTile pc l.desc fo (l.desc.tileAt l.tile).1 (l.desc.tileAt l.tile).2 g).2).count F.CELL_ARR_TILES pc)

/-- TILE_CTR is posted where the launch asks for it. -/
def Dev.postTile (d : Dev) (pc : Nat) (l : LaunchDesc) : Dev := if l.tileEn then d.addCounter pc l.tileCtr 1 else d

theorem Dev.passTile_eq (d : Dev) (pc : Nat) (l : Launch) (fo : Nat) (g : List (List Ea)) (t : TileCheck) (retried : Bool) :
    ∃ st, d.passTile pc l fo g t retried = ((d.storeTile pc l fo g).modRun pc (fun _ => l.afterTile t st retried)).postTile pc l.desc := ⟨_, rfl⟩

theorem Launch.afterTile_fields {l : Launch} (h : l.ending = none) (t : TileCheck) (st : Nat) (retried : Bool) :
    (l.afterTile t st retried).desc = l.desc ∧ (l.afterTile t st retried).tile = l.tile + 1 ∧ (l.afterTile t st retried).repeating = none ∧
    (l.afterTile t st retried).retried = (l.retried || retried) ∧
    (l.desc.tiles ≤ l.tile + 1 → l.drain = none → (l.afterTile t st retried).ending = some 2) ∧
    (l.tile + 1 < l.desc.tiles → (l.afterTile t st retried).ending = none) := by
  have hdone : (l.tileDone t st retried).ending = none := h
  unfold Launch.afterTile
  split
  next hlast =>
    unfold Launch.finish
    split
    next => exact ⟨rfl, rfl, rfl, rfl, fun _ _ => rfl, fun hlt => absurd hlast (by omega)⟩
    next hdrain =>
      refine ⟨rfl, rfl, rfl, rfl, fun _ hfree => absurd ?_ hdrain, fun _ => hdone⟩
      have hfree' : (l.tileDone t st retried).drain = none := hfree
      rw [hfree']
      rfl
  next hmore => exact ⟨rfl, rfl, rfl, rfl, fun hlast => absurd hlast hmore, fun _ => hdone⟩

section
variable (d : Dev) (pc : Nat) (l : LaunchDesc)

theorem Calm.postTile : Calm pc d (d.postTile pc l) := by
  unfold Dev.postTile
  split
  · exact (Posted.addCounter d pc l.tileCtr 1).toCalm
  · exact .refl pc d

theorem Dev.postTile_stands : (d.postTile pc l).mem = d.mem ∧ (d.postTile pc l).arr pc = d.arr pc := by
  have hpost := Posted.addCounter d pc l.tileCtr 1
  unfold Dev.postTile
  split
  · exact ⟨hpost.mem, hpost.arr⟩
  · exact ⟨rfl, rfl⟩

theorem Dev.postTile_counter (n : Nat) : (d.postTile pc l).counter pc n =
    if l.tileEn = true ∧ n = l.tileCtr then min (d.counter pc n + 1) (2 ^ 64 - 1) else d.counter pc n := by
  unfold Dev.postTile
  cases hen : l.tileEn with
  | true =>
    rw [if_pos rfl, (Posted.addCounter d pc l.tileCtr 1).counter]
    by_cases hn : n = l.tileCtr
    · rw [if_pos hn, if_pos ⟨rfl, hn⟩, hn]
    · rw [if_neg hn, if_neg fun h => hn h.2]
  | false => rw [if_neg Bool.false_ne_true, if_neg fun h => Bool.false_ne_true h.1]

theorem Dev.modCell_slots (f : CellState → CellState) : (d.modCell pc f).slots = d.slots := rfl

theorem Dev.putCounter_slots (n v : Nat) : (d.putCounter pc n v).slots = d.slots := by
  simp only [Dev.putCounter]
  split
  · exact d.modCell_slots pc _
  · rw [Dev.reselect, Dev.modCell_slots, Dev.count_slots, Dev.modCell_slots, Dev.modCell_slots]

theorem Dev.record_slots {event key cls inst sev d0 d1 d2 : Nat} (h : sev ≠ 4) : (d.record event key cls inst sev d0 d1 d2).slots = d.slots := by
  rw [d.record_eq h]
  split
  · rfl
  · exact d.count_slots ..

theorem Dev.postTile_slots : (d.postTile pc l).slots = d.slots := by
  simp only [Dev.postTile, Dev.addCounter]
  split
  · split
    · rw [Dev.putCounter_slots, Dev.record_slots _ (by decide), Dev.set_slots]
    · exact d.putCounter_slots pc _ _
  · rfl

end

/-- Storing a tile writes its bytes, CELL_ARITH_STATUS and the count of tiles. -/
theorem Dev.storeTile_stands (d : Dev) (pc : Nat) (l : Launch) (fo : Nat) (g : List (List Ea)) :
    (d.storeTile pc l fo g).mem = (d.writeTile pc l.desc fo (l.desc.tileAt l.tile).1 (l.desc.tileAt l.tile).2 g).1.mem ∧
    (d.storeTile pc l fo g).cells = d.cells ∧ (d.storeTile pc l fo g).slots = d.slots ∧ Counted d (d.storeTile pc l fo g) F.CELL_ARR_TILES pc ∧
    (d.storeTile pc l fo g).reg F.CELL_ARR_TILE_RETRIES.base pc = d.reg F.CELL_ARR_TILE_RETRIES.base pc := by
  have hbytes := StoresAlike.writeTile d d pc l.desc fo (l.desc.tileAt l.tile).1 (l.desc.tileAt l.tile).2 g
  have harith := Tallied.arith (d.writeTile pc l.desc fo (l.desc.tileAt l.tile).1 (l.desc.tileAt l.tile).2 g).1 pc
    (d.writeTile pc l.desc fo (l.desc.tileAt l.tile).1 (l.desc.tileAt l.tile).2 g).2
  rw [Dev.storeTile]
  refine ⟨(Dev.count_mem ..).trans harith.mem, (Dev.count_cells ..).trans (harith.cells.trans hbytes.cells), (Dev.count_slots ..).trans (harith.slots.trans hbytes.slots),
    .before (Counted.count _ _ _) ?_, ?_⟩
  · rw [harith.regs.reg (tallyKey_regKey _ _ _), Dev.reg_of_regs hbytes.regs]
  · rw [Dev.reg_count_other _ _ (by decide), harith.regs.reg (tallyKey_regKey _ _ _), Dev.reg_of_regs hbytes.regs]

theorem Dev.modRun_mem (d : Dev) (pc : Nat) (f : Launch → Launch) : (d.modRun pc f).mem = d.mem := rfl

theorem Dev.modRun_slots (d : Dev) (pc : Nat) (f : Launch → Launch) : (d.modRun pc f).slots = d.slots := rfl

section
variable {d d1 : Dev} {pc : Nat} {l : Launch} (htally : Tallied d d1) (g : List (List Ea)) (t : TileCheck) (retried : Bool)
include htally

/-- A tile that passes its check, after the check has been counted. -/
theorem TileWritten.passTile (hrun : (d.arr pc).run = some l) (hopen : l.ending = none) : TileWritten d (d1.passTile pc l (d1.runFmts pc).2.2 g t retried) pc l g retried := by
  obtain ⟨st, hpass⟩ := d1.passTile_eq pc l (d1.runFmts pc).2.2 g t retried
  obtain ⟨hmem, hcells, -, hcount, -⟩ := d1.storeTile_stands pc l (d1.runFmts pc).2.2 g
  have hfmts : d1.runFmts pc = d.runFmts pc := by rw [Dev.runFmts, Dev.arr_of_cells htally.cells, Dev.runFmts]
  have hcells' := hcells.trans htally.cells
  have hrun' : ((d1.storeTile pc l (d1.runFmts pc).2.2 g).arr pc).run = some l := by
    rw [Dev.arr_of_cells hcells']
    exact hrun
  obtain ⟨hpmem, hparr⟩ := Dev.postTile_stands ((d1.storeTile pc l (d1.runFmts pc).2.2 g).modRun pc (fun _ => l.afterTile t st retried)) pc l.desc
  have hpost := Calm.postTile ((d1.storeTile pc l (d1.runFmts pc).2.2 g).modRun pc (fun _ => l.afterTile t st retried)) pc l.desc
  have hkeeps := (Keeps.modArr (d1.storeTile pc l (d1.runFmts pc).2.2 g) pc _).trans hpost.regs
  rw [hpass]
  refine ⟨⟨l.afterTile t st retried, ?_, Launch.afterTile_fields hopen t st retried⟩, ?_, ?_, fun n => ?_⟩
  · rw [hparr, Dev.arr_modRun hrun']
  · exact (hcount.before (htally.regs.reg (tallyKey_regKey _ _ _))).then (hkeeps.reg (asideKey_regKey _ _ _))
  · rw [hpmem, ← hfmts, Dev.modRun_mem]
    exact hmem.trans ((StoresAlike.writeTile d1 d pc l.desc _ _ _ g).mem htally.mem)
  · rw [Dev.postTile_counter, Dev.modRun, Dev.counter_modArr, Dev.counter_of_cells hcells']

/-- What a tile that passes leaves alone besides. -/
theorem Dev.passTile_stands : CellsStand d (d1.passTile pc l (d1.runFmts pc).2.2 g t retried) pc ∧
    (d1.passTile pc l (d1.runFmts pc).2.2 g t retried).slots = d.slots ∧
    (d1.passTile pc l (d1.runFmts pc).2.2 g t retried).reg F.CELL_ARR_TILE_RETRIES.base pc = d.reg F.CELL_ARR_TILE_RETRIES.base pc := by
  obtain ⟨st, hpass⟩ := d1.passTile_eq pc l (d1.runFmts pc).2.2 g t retried
  obtain ⟨-, hcells, hslots, -, hreg⟩ := d1.storeTile_stands pc l (d1.runFmts pc).2.2 g
  have hpost := Calm.postTile ((d1.storeTile pc l (d1.runFmts pc).2.2 g).modRun pc (fun _ => l.afterTile t st retried)) pc l.desc
  have hkeeps := (Keeps.modArr (d1.storeTile pc l (d1.runFmts pc).2.2 g) pc _).trans hpost.regs
  rw [hpass]
  refine ⟨((CellsStand.of_cells (hcells.trans htally.cells) pc).trans (.modArr _ pc _)).trans hpost.others, ?_, ?_⟩
  · rw [Dev.postTile_slots, Dev.modRun_slots]
    exact hslots.trans htally.slots
  · rw [hkeeps.reg (asideKey_regKey _ _ _)]
    exact hreg.trans (htally.regs.reg (tallyKey_regKey _ _ _))

end

end Sys2Proof.Machine
end

section
namespace Sys2Proof.Machine

/-! ## The latch of a mismatch (Tables 04-14, 04-15) -/

/-- The masks stand in registers of their own. -/
theorem Dev.latchCheck_reg (d : Dev) (pc handle : Nat) (t : TileCheck) (failed lost : Bool) : (d.latchCheck pc handle t failed lost).reg F.CELL_ARR_CHECK.base pc =
    (2 ^ 63 + b2n lost * 2 ^ 62 + b2n failed * 2 ^ 61 + b2n t.inexact * 2 ^ 60 + handle) % 2 ^ 64 := by
  rw [Dev.latchCheck, Dev.reg_setReg_other _ _ (regKey_ne (by decide) _ _ _ _), Dev.reg_setReg_other _ _ (regKey_ne (by decide) _ _ _ _), Dev.reg_setReg_same]

theorem Dev.latchCheck_stands (d : Dev) (pc handle : Nat) (t : TileCheck) (failed lost : Bool) :
    (d.latchCheck pc handle t failed lost).cells = d.cells ∧ (d.latchCheck pc handle t failed lost).mem = d.mem := by
  rw [Dev.latchCheck]
  exact ⟨by simp only [Dev.setReg_cells], by simp only [Dev.setReg_mem]⟩

section
variable {d : Dev} {pc handle : Nat} (hhandle : handle < 2 ^ 32) (t : TileCheck) (failed lost : Bool)
include hhandle

theorem Dev.latchCheck_valid : (d.latchCheck pc handle t failed lost).bit F.CELL_ARR_CHECK_VALID pc = true := by
  have hreg := d.latchCheck_reg pc handle t failed lost
  have hlost := b2n_le lost
  have hfailed := b2n_le failed
  have hinexact := b2n_le t.inexact
  simp only [Dev.bit, Dev.get, bitsOf, bne_iff_ne] at hreg ⊢
  omega

theorem Dev.latchCheck_handle : (d.latchCheck pc handle t failed lost).get F.CELL_ARR_CHECK_HANDLE pc = handle := by
  have hreg := d.latchCheck_reg pc handle t failed lost
  simp only [Dev.get, bitsOf] at hreg ⊢
  omega

theorem Dev.latchCheck_failed : (d.latchCheck pc handle t true lost).bit F.CELL_ARR_CHECK_RETRY_FAILED pc = true := by
  have hreg := d.latchCheck_reg pc handle t true lost
  have hlost := b2n_le lost
  have hinexact := b2n_le t.inexact
  have hfailed : b2n true = 1 := rfl
  simp only [Dev.bit, Dev.get, bitsOf, bne_iff_ne] at hreg ⊢
  omega

end

/-- A first mismatch is latched, or LOST is set where one stands. -/
def Dev.noteMismatch (d : Dev) (pc handle : Nat) (t : TileCheck) : Dev :=
  if d.bit F.CELL_ARR_CHECK_VALID pc then d.set F.CELL_ARR_CHECK_LOST 1 pc else d.latchCheck pc handle t false (d.bit F.CELL_ARR_CHECK_LOST pc)

theorem Dev.noteMismatch_stands (d : Dev) (pc handle : Nat) (t : TileCheck) :
    (d.noteMismatch pc handle t).cells = d.cells ∧ (d.noteMismatch pc handle t).mem = d.mem := by
  unfold Dev.noteMismatch
  split
  · exact ⟨d.set_cells .., d.set_mem ..⟩
  · exact d.latchCheck_stands pc handle t _ _

theorem Dev.noteMismatch_valid (d : Dev) (pc : Nat) {handle : Nat} (hhandle : handle < 2 ^ 32) (t : TileCheck) :
    (d.noteMismatch pc handle t).bit F.CELL_ARR_CHECK_VALID pc = true := by
  unfold Dev.noteMismatch
  split
  next hvalid =>
    have hget := Dev.get_set_disjoint d F.CELL_ARR_CHECK_LOST F.CELL_ARR_CHECK_VALID 1 pc 0 rfl (by decide) (by decide) (.inr (by decide))
    rwa [Dev.bit, hget]
  next => exact Dev.latchCheck_valid hhandle t _ _

theorem Dev.noteMismatch_lost {d : Dev} {pc : Nat} (hvalid : d.bit F.CELL_ARR_CHECK_VALID pc = true) (handle : Nat) (t : TileCheck) :
    (d.noteMismatch pc handle t).bit F.CELL_ARR_CHECK_LOST pc = true := by
  rw [Dev.noteMismatch, if_pos hvalid, Dev.bit, Dev.get_set_same d _ 1 pc 0 (by decide) (by decide)]
  rfl

/-! ## TILE_CHECK (R151 to R154) -/

/-- The launch after a check that failed for the first time: its tile repeats. -/
def Launch.repeats (l : Launch) (t : TileCheck) : Launch := { l with repeating := some ⟨t.rows, t.cols, t.inexact⟩ }

/-- The launch after a repeat that failed: it is to end FAILED. -/
def Launch.failed (l : Launch) (t : TileCheck) : Launch := { l with repeating := none, inexact := l.inexact || t.inexact, ending := some 4 }

/-- Fewer than four retries of a slot are kept, and no more. -/
theorem Dev.noteRetry_few {d : Dev} {pc : Nat} (h : (d.slotInfo pc).retries < 3) :
    d.noteRetry pc = d.modSlot pc (fun i => { i with retries := (d.slotInfo pc).retries + 1 }) := by
  have hfew : ¬ 4 ≤ (d.slotInfo pc).retries + 1 := by omega
  simp only [Dev.noteRetry, if_neg hfew]

theorem Dev.slotInfo_modSlot (d : Dev) (pc : Nat) (f : SlotInfo → SlotInfo) : (d.modSlot pc f).slotInfo pc = f (d.slotInfo pc) := SMap.read_write_same ..

section
variable {pc : Slot} {e : TileErr} {d : Dev} {l : Launch} (hrun : d.matmulRun pc = some l)
include hrun

theorem Dev.tileCheck_eq (hfirst : l.repeating = none) : d.tileCheck pc e =
    if (d.runTile pc l e).2.2.passed then (d.tallyTile pc l e (d.runTile pc l e).2.2.inexact).passTile pc l
      ((d.tallyTile pc l e (d.runTile pc l e).2.2.inexact).runFmts pc).2.2 (d.runTile pc l e).2.1 (d.runTile pc l e).2.2 false
    else ((d.tallyTile pc l e (d.runTile pc l e).2.2.inexact).modRun pc (fun r => r.repeats (d.runTile pc l e).2.2)).noteMismatch pc l.desc.handle
        (d.runTile pc l e).2.2 := by
  obtain ⟨d1, g, t, hr⟩ : ∃ d1 g t, d.runTile pc l e = (d1, g, t) := ⟨_, _, _, rfl⟩
  simp only [Dev.tileCheck, hrun, hfirst, Option.isSome_none, Bool.false_eq_true, if_false, Dev.tallyTile, Dev.noteMismatch, Launch.repeats, hr]

/-- A tile that passes is written. -/
theorem Does.tileCheck_passes (hfirst : l.repeating = none) (hpass : (d.runTile pc l e).2.2.passed = true) : Does (.tileCheck pc e) d (fun d' =>
    TileWritten d d' pc l (d.runTile pc l e).2.1 false ∧ CellsStand d d' pc) := by
  obtain ⟨hlaunch, hopen⟩ := Dev.matmulRun_some hrun
  have htally := Tallied.tallyTile d pc l e (d.runTile pc l e).2.2.inexact
  refine Does.of_run (f := fun d => d.tileCheck pc e) (fun _ => rfl) ?_
  rw [Dev.tileCheck_eq hrun hfirst, if_pos hpass]
  exact ⟨.passTile htally _ _ _ hlaunch hopen, (Dev.passTile_stands htally _ _ _).1⟩

/-- A tile that fails repeats, and its mismatch is latched. -/
theorem Does.tileCheck_fails (hfirst : l.repeating = none) (hfail : (d.runTile pc l e).2.2.passed = false) : Does (.tileCheck pc e) d (fun d' =>
    (d'.arr pc).run = some (l.repeats (d.runTile pc l e).2.2) ∧
    (l.desc.handle < 2 ^ 32 → d'.bit F.CELL_ARR_CHECK_VALID pc = true) ∧
    (d.bit F.CELL_ARR_CHECK_VALID pc = true → d'.bit F.CELL_ARR_CHECK_LOST pc = true) ∧ d'.mem = d.mem ∧ CellsStand d d' pc) := by
  have htally := Tallied.tallyTile d pc l e (d.runTile pc l e).2.2.inexact
  have hlaunch : ((d.tallyTile pc l e (d.runTile pc l e).2.2.inexact).arr pc).run = some l := by
    rw [Dev.arr_of_cells htally.cells]
    exact (Dev.matmulRun_some hrun).1
  refine Does.of_run (f := fun d => d.tileCheck pc e) (fun _ => rfl) ?_
  rw [Dev.tileCheck_eq hrun hfirst, hfail, if_neg Bool.false_ne_true]
  generalize d.tallyTile pc l e (d.runTile pc l e).2.2.inexact = d1 at htally hlaunch ⊢
  generalize (d.runTile pc l e).2.2 = t
  obtain ⟨hcells, hmem⟩ := Dev.noteMismatch_stands (d1.modRun pc (fun r => r.repeats t)) pc l.desc.handle t
  refine ⟨?_, fun hhandle => Dev.noteMismatch_valid _ pc hhandle t, fun hvalid => Dev.noteMismatch_lost ?_ _ t, hmem.trans htally.mem, ?_⟩
  · rw [Dev.arr_of_cells hcells, Dev.arr_modRun hlaunch]
  · exact (congrArg (· != 0) (htally.regs.get F.CELL_ARR_CHECK_VALID (tallyKey_regKey _ _ _))).trans hvalid
  · exact ((CellsStand.of_cells htally.cells pc).trans (.modArr d1 pc _)).trans (.of_cells hcells pc)

/-! ## TILE_REPEAT_DONE (R153, R382, R505) -/

variable {m : Mismatch} (hrepeat : l.repeating = some m)
include hrepeat

theorem Dev.tileRepeatDone_passes (hpass : (d.runTile pc l e).2.2.passed = true) : d.tileRepeatDone pc e =
    ((((d.tallyTile pc l e ((d.runTile pc l e).2.2.inexact && !m.inexact)).passTile pc l
      ((d.tallyTile pc l e ((d.runTile pc l e).2.2.inexact && !m.inexact)).runFmts pc).2.2 (d.runTile pc l e).2.1 (d.runTile pc l e).2.2 true).count
        F.CELL_ARR_TILE_RETRIES pc).record 0x0102 0 2 pc 1 m.rows m.cols l.desc.handle).noteRetry pc := by
  obtain ⟨d1, g, t, hr⟩ : ∃ d1 g t, d.runTile pc l e = (d1, g, t) := ⟨_, _, _, rfl⟩
  rw [hr] at hpass
  simp only [Dev.tileRepeatDone, hrun, hrepeat, hr, hpass, if_true, Dev.tallyTile]

theorem Dev.tileRepeatDone_fails (hfail : (d.runTile pc l e).2.2.passed = false) : ∃ lost, d.tileRepeatDone pc e =
    ((((d.tallyTile pc l e ((d.runTile pc l e).2.2.inexact && !m.inexact)).latchCheck pc l.desc.handle (d.runTile pc l e).2.2 true lost).modRun pc
      (fun r => r.failed (d.runTile pc l e).2.2)).arrayFault pc l.desc 0x0C (d.runTile pc l e).2.2.rows (d.runTile pc l e).2.2.cols l.desc.handle).suspectSlot pc := by
  obtain ⟨d1, g, t, hr⟩ : ∃ d1 g t, d.runTile pc l e = (d1, g, t) := ⟨_, _, _, rfl⟩
  rw [hr] at hfail
  simp only [Dev.tileRepeatDone, hrun, hrepeat, hr, hfail, Bool.false_eq_true, if_false, Dev.tallyTile, Dev.containIntegrity]
  exact ⟨_, rfl⟩

/-- A repeat that passes is written, and counted as corrected. -/
theorem Does.tileRepeatDone_passes (hpass : (d.runTile pc l e).2.2.passed = true) (hfew : (d.slotInfo pc).retries < 3) :
    Does (.tileRepeatDone pc e) d (fun d' => TileWritten d d' pc l (d.runTile pc l e).2.1 true ∧ Counted d d' F.CELL_ARR_TILE_RETRIES pc ∧
      (d'.slotInfo pc).retries = (d.slotInfo pc).retries + 1 ∧ CellsStand d d' pc) := by
  obtain ⟨hlaunch, hopen⟩ := Dev.matmulRun_some hrun
  have htally := Tallied.tallyTile d pc l e ((d.runTile pc l e).2.2.inexact && !m.inexact)
  have hwritten := TileWritten.passTile htally (d.runTile pc l e).2.1 (d.runTile pc l e).2.2 true hlaunch hopen
  obtain ⟨hcells, hslots, hreg⟩ := Dev.passTile_stands htally (l := l) (pc := pc) (d.runTile pc l e).2.1 (d.runTile pc l e).2.2 true
  refine Does.of_run (f := fun d => d.tileRepeatDone pc e) (fun _ => rfl) ?_
  rw [Dev.tileRepeatDone_passes hrun hrepeat hpass]
  generalize Dev.passTile _ _ _ _ _ _ _ = d2 at hwritten hcells hslots hreg ⊢
  have hcount := InContexts.count pc d2 F.CELL_ARR_TILE_RETRIES pc 0 1
  have hrecord := Steady.record pc (d2.count F.CELL_ARR_TILE_RETRIES pc) (event := 0x0102) (key := 0) (cls := 2) (inst := pc) (sev := 1)
    (d0 := m.rows) (d1 := m.cols) (d2 := l.desc.handle) (by decide)
  have hinfo : ((d2.count F.CELL_ARR_TILE_RETRIES pc).record 0x0102 0 2 pc 1 m.rows m.cols l.desc.handle).slotInfo pc = d.slotInfo pc := by
    rw [Dev.slotInfo, Dev.record_slots _ (by decide), Dev.count_slots, hslots, Dev.slotInfo]
  rw [Dev.noteRetry_few (by rwa [hinfo]), hinfo]
  have hin : InContexts pc d2 (((d2.count F.CELL_ARR_TILE_RETRIES pc).record 0x0102 0 2 pc 1 m.rows m.cols l.desc.handle).modSlot pc
      (fun i => { i with retries := (d.slotInfo pc).retries + 1 })) := (hcount.trans hrecord.inContexts).trans (.of_cells pc rfl rfl)
  refine ⟨TileWritten.then hwritten hin ?_, ?_, congrArg SlotInfo.retries (Dev.slotInfo_modSlot ..), hcells.trans hin.others⟩
  · exact (hrecord.regs.reg (asideKey_regKey _ _ _)).trans (Dev.reg_count_other d2 _ (by decide) _ _ _ _ _)
  · exact ((Counted.count d2 F.CELL_ARR_TILE_RETRIES pc).before hreg).then (hrecord.regs.reg (asideKey_regKey _ _ _))

/-- A repeat that fails ends the launch FAILED and faults its context; its handle is latched, and the cell becomes a suspect. -/
theorem Does.tileRepeatDone_fails (hfail : (d.runTile pc l e).2.2.passed = false) (hhandle : l.desc.handle < 2 ^ 32) :
    Does (.tileRepeatDone pc e) d (fun d' =>
      ∃ d1 : Dev, d' = d1.suspectSlot pc ∧ (∃ r, (d1.arr pc).run = some r ∧ r.desc = l.desc ∧ r.tile = l.tile ∧ r.ending = some 4) ∧
        LaunchFaulted d d1 pc l.desc ∧ d1.bit F.CELL_ARR_CHECK_RETRY_FAILED pc = true ∧ d1.get F.CELL_ARR_CHECK_HANDLE pc = l.desc.handle) := by
  have htally := Tallied.tallyTile d pc l e ((d.runTile pc l e).2.2.inexact && !m.inexact)
  obtain ⟨lost, hdone⟩ := Dev.tileRepeatDone_fails hrun hrepeat hfail
  refine Does.of_run (f := fun d => d.tileRepeatDone pc e) (fun _ => rfl) ⟨_, hdone, ?_⟩
  generalize d.tallyTile pc l e ((d.runTile pc l e).2.2.inexact && !m.inexact) = d1 at htally ⊢
  generalize (d.runTile pc l e).2.2 = t
  have hcells : (d1.latchCheck pc l.desc.handle t true lost).cells = d.cells := (d1.latchCheck_stands ..).1.trans htally.cells
  have hlaunch : ((d1.latchCheck pc l.desc.handle t true lost).arr pc).run = some l := by
    rw [Dev.arr_of_cells hcells]
    exact (Dev.matmulRun_some hrun).1
  have hfailed := congrArg ArrayState.run (Dev.arr_modRun hlaunch (fun r => r.failed t))
  have hctx : ((d1.latchCheck pc l.desc.handle t true lost).modRun pc (fun r => r.failed t)).ctx pc l.desc.ctx = d.ctx pc l.desc.ctx := by
    rw [Dev.modRun, Dev.ctx_modArr, Dev.ctx_of_cells hcells]
  have hspares := FaultSpares.arrayFault ((d1.latchCheck pc l.desc.handle t true lost).modRun pc (fun r => r.failed t)) pc l.desc 0x0C t.rows t.cols l.desc.handle
  have hkeeps : Keeps AsideKey (d1.latchCheck pc l.desc.handle t true lost) (((d1.latchCheck pc l.desc.handle t true lost).modRun pc
      (fun r => r.failed t)).arrayFault pc l.desc 0x0C t.rows t.cols l.desc.handle) := (Keeps.modArr _ pc _).trans hspares.regs
  refine ⟨⟨l.failed t, ?_, rfl, rfl, rfl⟩, .before (.arrayFault _ pc l.desc 0x0C t.rows t.cols l.desc.handle) (hctx ▸ .refl _), ?_, ?_⟩
  · exact (hspares.run (ArrayState.decided_some hfailed rfl)).trans hfailed
  · exact (congrArg (· != 0) (hkeeps.get F.CELL_ARR_CHECK_RETRY_FAILED (asideKey_regKey _ _ _))).trans (Dev.latchCheck_failed hhandle t lost)
  · exact (hkeeps.get F.CELL_ARR_CHECK_HANDLE (asideKey_regKey _ _ _)).trans (Dev.latchCheck_handle hhandle t true lost)

end

/-- Settles O31: a check of a tile passes or fails, and so does a repeat. -/
theorem tilesAreCheckedWrittenAndRepeated : Obligations.TilesAreCheckedWrittenAndRepeated := by
  intro pc e d l hrun
  refine ⟨fun hfirst hpass => ?_, fun hfirst hfail => ?_, fun m hrepeat hpass hfew => ?_, fun m hrepeat hfail hhandle => ?_⟩
  · exact .tileCheck_passes hrun hfirst hpass
  · exact .tileCheck_fails hrun hfirst hfail
  · exact .tileRepeatDone_passes hrun hrepeat hpass hfew
  · exact .tileRepeatDone_fails hrun hrepeat hfail hhandle

end Sys2Proof.Machine
end

section
namespace Sys2Proof.Machine

/-! ## Protocol faults (R137, R158) -/

theorem ProtocolFaulted.protocolFault {d : Dev} {pc : Nat} {r l : Launch} (hrun : (d.arr pc).run = some r) {kind unit lane ta tb : Nat}
    (hkind : kind < 2 ^ 8) (hunit : unit < 2 ^ 8) (hlane : lane < 2 ^ 11) (hta : ta < 2 ^ 8) (htb : tb < 2 ^ 8) :
    ProtocolFaulted d (d.protocolFault pc l kind unit lane ta tb) pc l kind := by
  obtain ⟨e, he⟩ : ∃ e, d.latchArrFault pc kind unit lane ta tb = e := ⟨_, rfl⟩
  have hcells : e.cells = d.cells := he ▸ d.latchArrFault_cells pc kind unit lane ta tb
  have hdecided : (e.modRun pc (fun _ => { l with ending := some 5, drain := some .fault })).arr pc =
      { e.arr pc with run := some { l with ending := some 5, drain := some .fault } } := Dev.arr_modRun (by rwa [Dev.arr_of_cells hcells]) _
  have hrun' := congrArg ArrayState.run hdecided
  have hspares := FaultSpares.arrayFault (e.modRun pc (fun _ => { l with ending := some 5, drain := some .fault })) pc l.desc 0x0A 0 0 0
  have hctx : (e.modRun pc (fun _ => { l with ending := some 5, drain := some .fault })).ctx pc l.desc.ctx = d.ctx pc l.desc.ctx := by
    rw [Dev.modRun, Dev.ctx_modArr, Dev.ctx_of_cells hcells]
  have hfault : d.protocolFault pc l kind unit lane ta tb = (e.modRun pc (fun _ => { l with ending := some 5, drain := some .fault })).arrayFault pc l.desc 0x0A :=
    he ▸ rfl
  have hkeeps : Keeps AsideKey e ((e.modRun pc (fun _ => { l with ending := some 5, drain := some .fault })).arrayFault pc l.desc 0x0A) :=
    (Keeps.modArr _ pc _).trans hspares.regs
  rw [hfault]
  refine ⟨⟨_, (hspares.run (ArrayState.decided_some hrun' rfl)).trans hrun', rfl, rfl, rfl⟩, .before (.arrayFault _ pc l.desc 0x0A 0 0 0) (hctx ▸ .refl _), ?_, fun hfree => ?_⟩
  · exact (congrArg (· != 0) (hkeeps.get F.CELL_ARR_FAULT_VALID (asideKey_regKey _ _ _))).trans
      (he ▸ d.latchArrFault_valid pc hkind hunit hlane hta htb)
  · exact (hkeeps.get F.CELL_ARR_FAULT_KIND (asideKey_regKey _ _ _)).trans (he ▸ d.latchArrFault_kind pc hkind hunit hlane hta htb hfree)

/-- What the device did before the fault leaves the context and CELL_ARR_FAULT. -/
theorem ProtocolFaulted.before {d d1 d' : Dev} {pc : Nat} {l : Launch} {kind : Nat} (h : ProtocolFaulted d1 d' pc l kind)
    (hctx : d1.ctx pc l.desc.ctx = d.ctx pc l.desc.ctx) (hreg : d1.reg F.CELL_ARR_FAULT.base pc = d.reg F.CELL_ARR_FAULT.base pc) : ProtocolFaulted d d' pc l kind := by
  obtain ⟨hrun, hfault, hvalid, hkind⟩ := h
  have hbit : d1.bit F.CELL_ARR_FAULT_VALID pc = d.bit F.CELL_ARR_FAULT_VALID pc := congrArg (fun v => bitsOf v 63 63 != 0) hreg
  exact ⟨hrun, hfault.before (hctx ▸ .refl _), hvalid, fun hfree => hkind (hbit.trans hfree)⟩

/-! ## The running DATAFLOW launch -/

theorem Dev.dataflowRun_some {d : Dev} {pc : Nat} {l : Launch} {img : List Byte} (h : d.dataflowRun pc = some (l, img)) :
    (d.arr pc).run = some l ∧ d.domOn pc = true := by
  unfold Dev.dataflowRun at h
  split at h
  next r hr =>
    split at h
    next hgo =>
      rw [Bool.and_eq_true] at hgo
      exact ⟨(Prod.mk.inj (Option.some.inj h)).1 ▸ hr, hgo.2⟩
    next => exact nomatch h
  next => exact nomatch h

theorem Dev.dataflowRun_of_cells {d d' : Dev} {pc : Nat} (h : d'.cells = d.cells) (hon : d'.domOn pc = d.domOn pc) : d'.dataflowRun pc = d.dataflowRun pc := by
  rw [Dev.dataflowRun, Dev.arr_of_cells h, hon, Dev.dataflowRun]

/-- The launch with its end decided where nothing is left to do. -/
def Launch.settled (img : List Byte) (l : Launch) : Launch := if l.complete img then l.finish else l

/-- That changes its end alone. -/
theorem Launch.settled_rest (img : List Byte) (l : Launch) : { l.settled img with ending := l.ending } = l := by
  unfold Launch.settled Launch.finish
  split
  · split <;> rfl
  · rfl

theorem Launch.settled_unit (img : List Byte) (l : Launch) (u : Nat) : (l.settled img).unit u = l.unit u := congrArg (fun r => r.unit u) (l.settled_rest img)

theorem Launch.settled_edges (img : List Byte) (l : Launch) : (l.settled img).edges = l.edges := congrArg (fun r => r.edges) (l.settled_rest img)

theorem Launch.settled_portPos (img : List Byte) (l : Launch) : (l.settled img).portPos = l.portPos := congrArg (fun r => r.portPos) (l.settled_rest img)

theorem Launch.settled_moved (img : List Byte) (l : Launch) (p : Nat) : (l.settled img).moved p = l.moved p := by
  rw [Launch.moved, Launch.settled_portPos, Launch.moved]

theorem Launch.unit_setUnit (l : Launch) (u : Nat) (x : UnitState) : (l.setUnit u x).unit u = x := SMap.read_write_same ..

theorem Launch.moved_advance (l : Launch) (p : Nat) : (l.advance p).moved p = l.moved p + 1 := by
  rw [Launch.moved, Launch.advance, SMap.read, SMap.find_insert_same]
  rfl

/-- The launch's new state changes the array of its cell alone. -/
theorem Dev.setRun_stands {d : Dev} {pc : Nat} {l : Launch} (hrun : (d.arr pc).run = some l) (img : List Byte) (l' : Launch) :
    ((d.setRun pc img l').arr pc).run = some (l'.settled img) ∧ (d.setRun pc img l').mem = d.mem ∧ (d.setRun pc img l').regs = d.regs ∧
    CellsStand d (d.setRun pc img l') pc :=
  ⟨congrArg ArrayState.run (Dev.arr_modRun hrun _), rfl, rfl, .modArr d pc _⟩

end Sys2Proof.Machine
end

section
namespace Sys2Proof.Machine

/-! ## LANE_FIRE (R125, R131) -/

theorem flushLane_empty {img : List Byte} {i : Nat} {r : LaneRec} {l : Launch} (h : (l.lane i).out = []) (n : Nat) : flushLane img i r n l = l := by
  cases n with
  | zero => rfl
  | succ n => rw [flushLane, h]

theorem Dev.dataflowRun_linkCorrected (d : Dev) (pc : Slot) (n : Nat) : (d.count F.CELL_ARR_LINK_CORRECTED pc 0 n).dataflowRun pc = d.dataflowRun pc :=
  Dev.dataflowRun_of_cells (d.count_cells ..) (Keeps.domOn (.count d _ _ _ _ (not_pdKey _ _ (by decide))) (Nat.lt_trans pc.isLt (by decide)))

/-- The tag of a lane's first operand, which the others must have. -/
def leadTag (ops : List (Option AWord)) : Nat := ((ops.filterMap id).headD ⟨false, 0, 0⟩).tag

/-- What lane i makes of its operands. -/
def Launch.laneResult (l : Launch) (img : List Byte) (i : Nat) (ops : List (Option AWord)) : LaneState × List AWord × Nat :=
  Machine.laneResult img (laneRec img i) (LaneState.consume (laneRec img i) (l.lane i)) ops

/-- The launch after lane i has fired, with its result words not yet sent. -/
def Launch.fired (l : Launch) (img : List Byte) (i : Nat) (ops : List (Option AWord)) : Launch :=
  { l with ovf := l.ovf || (!(l.laneResult img i ops).2.1.isEmpty && bitOf (l.laneResult img i ops).2.2 1),
           under := l.under || (!(l.laneResult img i ops).2.1.isEmpty && bitOf (l.laneResult img i ops).2.2 0) }.setLane i
    { (l.laneResult img i ops).1 with out := (l.laneResult img i ops).2.1 }

theorem laneGuard_false {r : LaneRec} {ops : List (Option AWord)} (hop : r.op ≠ 0) (hfull : (ops.take r.needs).any Option.isNone = false) :
    (r.op = 0 || (ops.take r.needs).any Option.isNone) = false := by
  rw [hfull, Bool.or_false]
  exact decide_eq_false hop

section
variable {pc : Slot} {i n : Nat} {d : Dev} {l : Launch} {img : List Byte} (hrun : d.dataflowRun pc = some (l, img))
  {ops : List (Option AWord)} (hout : (l.lane i).out = []) (hops : laneOperands (laneRec img i) (l.lane i) = some ops) (hop : (laneRec img i).op ≠ 0)
  (hfull : (ops.take (laneRec img i).needs).any Option.isNone = false)
include hrun hout hops hop hfull

theorem Dev.laneFire_one (htags : (ops.filterMap id).find? (fun w => w.tag != leadTag ops) = none) : d.laneFire pc i n =
    ((d.count F.CELL_ARR_LINK_CORRECTED pc 0 n).arith pc (l.laneResult img i ops).2.2).setRun pc img
      (flushLane img i (laneRec img i) 4 (l.fired img i ops)) := by
  rw [leadTag] at htags
  simp only [Dev.laneFire, (Dev.dataflowRun_some hrun).2, if_true, Dev.dataflowRun_linkCorrected, hrun, flushLane_empty hout, hout, List.isEmpty_nil, Bool.not_true,
    Bool.false_eq_true, if_false, hops, laneGuard_false hop hfull, htags]
  rfl

theorem Dev.laneFire_other {w : AWord} (htags : (ops.filterMap id).find? (fun w => w.tag != leadTag ops) = some w) : d.laneFire pc i n =
    (d.count F.CELL_ARR_LINK_CORRECTED pc 0 n).protocolFault pc l 4 0xFF i (leadTag ops) w.tag := by
  rw [leadTag] at htags
  simp only [Dev.laneFire, (Dev.dataflowRun_some hrun).2, if_true, Dev.dataflowRun_linkCorrected, hrun, flushLane_empty hout, hout, List.isEmpty_nil, Bool.not_true,
    Bool.false_eq_true, if_false, hops, laneGuard_false hop hfull, htags, leadTag]

/-- With one tag the result is sent under it. -/
theorem Dev.laneFire_fires (htags : ∀ w ∈ ops.filterMap id, w.tag = leadTag ops) :
    ((d.laneFire pc i n).arr pc).run = some ((flushLane img i (laneRec img i) 4 (l.fired img i ops)).settled img) ∧ (d.laneFire pc i n).mem = d.mem ∧
    CellsStand d (d.laneFire pc i n) pc ∧ (n = 1 → Counted d (d.laneFire pc i n) F.CELL_ARR_LINK_CORRECTED pc) := by
  have hnone : (ops.filterMap id).find? (fun w => w.tag != leadTag ops) = none := by
    rw [List.find?_eq_none]
    intro w hw
    simp [htags w hw]
  have hcount := InContexts.count pc d F.CELL_ARR_LINK_CORRECTED pc 0 n
  have harith := Tallied.arith (d.count F.CELL_ARR_LINK_CORRECTED pc 0 n) pc (l.laneResult img i ops).2.2
  have hlaunch : (((d.count F.CELL_ARR_LINK_CORRECTED pc 0 n).arith pc (l.laneResult img i ops).2.2).arr pc).run = some l := by
    rw [Dev.arr_of_cells harith.cells, hcount.arr]
    exact (Dev.dataflowRun_some hrun).1
  obtain ⟨hset, hmem, hregs, hcells⟩ := Dev.setRun_stands hlaunch img (flushLane img i (laneRec img i) 4 (l.fired img i ops))
  rw [Dev.laneFire_one hrun hout hops hop hfull hnone]
  refine ⟨hset, hmem.trans (harith.mem.trans hcount.mem), (hcount.others.trans (.of_cells harith.cells pc)).trans hcells, ?_⟩
  rintro rfl
  exact (Counted.count d F.CELL_ARR_LINK_CORRECTED pc).then ((Dev.reg_of_regs hregs _ _ _).trans (harith.regs.reg (tallyKey_regKey _ _ _)))

/-- With different tags the lane meets a fault of kind 4. -/
theorem Dev.laneFire_clashes (hi : i < 2 ^ 11) (hclash : (ops.filterMap id).any (fun w => w.tag ≠ leadTag ops) = true) (hlead : leadTag ops < 2 ^ 8)
    (htags : ∀ w ∈ ops.filterMap id, w.tag < 2 ^ 8) : ProtocolFaulted d (d.laneFire pc i n) pc l 4 := by
  obtain ⟨v, hv, hne⟩ := List.any_eq_true.1 hclash
  obtain ⟨w, hw⟩ : ∃ w, (ops.filterMap id).find? (fun w => w.tag != leadTag ops) = some w :=
    Option.isSome_iff_exists.1 (List.find?_isSome.2 ⟨v, hv, bne_iff_ne.2 (of_decide_eq_true hne)⟩)
  have hlaunch : ((d.count F.CELL_ARR_LINK_CORRECTED pc 0 n).arr pc).run = some l := by
    rw [(InContexts.count ..).arr]
    exact (Dev.dataflowRun_some hrun).1
  have htag := htags w (List.mem_of_find?_eq_some hw)
  have hfault := ProtocolFaulted.protocolFault hlaunch (l := l) (kind := 4) (unit := 0xFF) (by decide) (by decide) hi hlead htag
  rw [Dev.laneFire_other hrun hout hops hop hfull hw]
  exact ProtocolFaulted.before hfault (Dev.ctx_count ..) (Dev.reg_count_other d _ (by decide) _ _ _ _ _)

end

end Sys2Proof.Machine
end

section
namespace Sys2Proof.Machine

/-! ## STEER_INPUT_ARRIVAL (R133, R134) -/

/-- Taking a word from its source leaves the steering units. -/
theorem Dev.takeSource_units {d : Dev} {pc : Nat} {l l' : Launch} {token : Bool} {src : SteerSrc} {w : AWord} (h : d.takeSource pc l token src = some (w, l')) :
    l'.units = l.units := by
  cases src with
  | edge e =>
    obtain ⟨_, -, hw⟩ := Option.map_eq_some_iff.1 h
    rw [← (Prod.mk.inj hw).2]
  | port p =>
    simp only [Dev.takeSource] at h
    split at h
    next => exact nomatch h
    next => rw [← (Prod.mk.inj (Option.some.inj h)).2]; rfl

section
variable {pc : Slot} {u : Fin 66} {d : Dev} {l l' : Launch} {img : List Byte} {src : SteerSrc} {w : AWord} (hrun : d.dataflowRun pc = some (l, img))
  (hmode : (steerRec img u).mode = 1) (hsrc : steerSrc u (steerRec img u).dataSrc = some src) (htake : d.takeSource pc l false src = some (w, l'))
include hrun hmode hsrc htake

theorem Dev.steerArrival_data : d.steerArrival pc u false =
    if (steerRec img u).dataDepth ≤ (l.unit u).data.length then d else d.acceptWord pc img l' u (steerRec img u) false w := by
  simp only [Dev.steerArrival, hrun, hmode, hsrc, htake, Bool.false_and, Bool.or_false, Bool.false_eq_true, if_false, decide_eq_true_eq,
    Nat.one_ne_zero, Nat.reduceEqDiff, decide_false, Bool.and_false]

/-- A data word with room in the buffer enters it. -/
theorem Dev.steerArrival_accepts (hroom : (l.unit u).data.length < (steerRec img u).dataDepth) (hdata : w.token = false) :
    ∃ l2, ((d.steerArrival pc u false).arr pc).run = some l2 ∧ (l2.unit u).data = (l.unit u).data ++ [w] ∧ l2.edges = l'.edges ∧
      l2.portPos = l'.portPos ∧ (d.steerArrival pc u false).mem = d.mem ∧ CellsStand d (d.steerArrival pc u false) pc := by
  have hunit : l'.unit u = l.unit u := by rw [Launch.unit, Dev.takeSource_units htake, Launch.unit]
  have haccept : d.acceptWord pc img l' u (steerRec img u) false w =
      d.setRun pc img (l'.setUnit u { l.unit u with data := (l.unit u).data ++ [w] }) := by
    have hplain : ((steerRec img u).mode = 2) = False := eq_false (by rw [hmode]; decide)
    simp only [Dev.acceptWord, hdata, hunit, hplain, bne_self_eq_false, Bool.false_and, Bool.false_eq_true, if_false]
  obtain ⟨hset, hmem, -, hcells⟩ := Dev.setRun_stands (Dev.dataflowRun_some hrun).1 img (l'.setUnit u { l.unit u with data := (l.unit u).data ++ [w] })
  rw [Dev.steerArrival_data hrun hmode hsrc htake, if_neg (by omega), haccept]
  refine ⟨_, hset, ?_, ?_, ?_, hmem, hcells⟩
  · rw [Launch.settled_unit, Launch.unit_setUnit]
  · rw [Launch.settled_edges]
    rfl
  · rw [Launch.settled_portPos]
    rfl

end

end Sys2Proof.Machine
end

section
namespace Sys2Proof.Machine

/-! ## STEER_FIRE (R135, R137) -/

theorem steerSend_port (img : List Byte) (pc : Nat) (l : Launch) (u : Nat) {entry : Nat} (w : AWord) (h : entry % 4 = 2) : steerSend img pc l u entry w =
    if (l.desc.port (bitsOf entry 6 4)).words ≤ l.moved (bitsOf entry 6 4) then .overrun
    else .store (l.advance (bitsOf entry 6 4)) (l.portAddr pc (bitsOf entry 6 4) (l.moved (bitsOf entry 6 4))) := by
  simp only [steerSend, h]

section
variable {pc : Slot} {u : Fin 66} {d : Dev} {l : Launch} {img : List Byte} (hrun : d.dataflowRun pc = some (l, img))
  {w : AWord} {ws : List AWord} (hdata : (l.unit u).data = w :: ws)
include hrun hdata

/-- PASS to an output port: the word is stored, or the stream covers no more. -/
theorem Dev.steerFire_port (hmode : (steerRec img u).mode = 1) {p : Nat} (hroute : (steerRec img u).routes.getD 0 0 % 4 = 2)
    (hp : bitsOf ((steerRec img u).routes.getD 0 0) 6 4 = p) : d.steerFire pc u =
    if (l.desc.port p).words ≤ l.moved p then d.protocolFault pc l 5 u 0 w.tag 0
    else (d.storeNat (l.portAddr pc p (l.moved p)) 8 w.data.toNat).setRun pc img ((l.setUnit u { l.unit u with data := ws }).advance p) := by
  subst hp
  have hsend := steerSend_port img pc (l.setUnit u { l.unit u with data := ws }) u w hroute
  by_cases hover : (l.desc.port (bitsOf ((steerRec img u).routes.getD 0 0) 6 4)).words ≤ l.moved (bitsOf ((steerRec img u).routes.getD 0 0) 6 4)
  · rw [if_pos hover]
    simp only [Dev.steerFire, hrun, hmode, hdata, hsend.trans (if_pos hover)]
  · rw [if_neg hover]
    simp only [Dev.steerFire, hrun, hmode, hdata, hsend.trans (if_neg hover)]
    rfl

/-- The word is stored at its place in the port's stream, and the port has moved one more. -/
theorem Dev.steerFire_stores (hmode : (steerRec img u).mode = 1) {p : Nat} (hroute : (steerRec img u).routes.getD 0 0 % 4 = 2)
    (hp : bitsOf ((steerRec img u).routes.getD 0 0) 6 4 = p) (hroom : l.moved p < (l.desc.port p).words) :
    Memory.read (d.steerFire pc u).mem (l.portAddr pc p (l.moved p)) 8 = leBytes 8 w.data.toNat ∧ BytesStand d (d.steerFire pc u) (l.portAddr pc p (l.moved p)) 8 ∧
    ∃ l2, ((d.steerFire pc u).arr pc).run = some l2 ∧ (l2.unit u).data = ws ∧ l2.moved p = l.moved p + 1 := by
  have hlaunch : ((d.storeNat (l.portAddr pc p (l.moved p)) 8 w.data.toNat).arr pc).run = some l := (Dev.dataflowRun_some hrun).1
  obtain ⟨hset, hmem, -, -⟩ := Dev.setRun_stands hlaunch img ((l.setUnit u { l.unit u with data := ws }).advance p)
  have hread := d.load_store_same (l.portAddr pc p (l.moved p)) (leBytes 8 w.data.toNat) (leBytes_length 8 _)
  have hstand := BytesStand.store d (l.portAddr pc p (l.moved p)) (leBytes 8 w.data.toNat)
  rw [leBytes_length] at hstand
  rw [Dev.steerFire_port hrun hdata hmode hroute hp, if_neg (by omega)]
  refine ⟨hmem ▸ hread, hstand.trans (.of_mem hmem _ 8), _, hset, ?_, ?_⟩
  · rw [Launch.settled_unit]
    exact congrArg UnitState.data ((l.unit_setUnit u { l.unit u with data := ws }))
  · rw [Launch.settled_moved, Launch.moved_advance]
    rfl

theorem Dev.steerFire_overruns (hmode : (steerRec img u).mode = 1) {p : Nat} (hroute : (steerRec img u).routes.getD 0 0 % 4 = 2)
    (hp : bitsOf ((steerRec img u).routes.getD 0 0) 6 4 = p) (hover : (l.desc.port p).words ≤ l.moved p) (htag : w.tag < 2 ^ 8) :
    ProtocolFaulted d (d.steerFire pc u) pc l 5 := by
  rw [Dev.steerFire_port hrun hdata hmode hroute hp, if_pos hover]
  exact ProtocolFaulted.protocolFault (Dev.dataflowRun_some hrun).1 (by decide) (Nat.lt_trans u.isLt (by decide)) (by decide) htag (by decide)

variable {t : AWord} {ts : List AWord} (htokens : (l.unit u).tokens = t :: ts) (hmode : (steerRec img u).mode = 2)
include htokens hmode

/-- A token of another tag, ANY clear, is a fault of kind 1. -/
theorem Dev.steerFire_clashes (hany : t.any = false) (hne : t.tag ≠ w.tag) (ht : t.tag < 2 ^ 8) (hw : w.tag < 2 ^ 8) :
    ProtocolFaulted d (d.steerFire pc u) pc l 1 := by
  have hfault : d.steerFire pc u = d.protocolFault pc l 1 u 0 w.tag t.tag := by
    simp only [Dev.steerFire, hrun, hmode, hdata, htokens, hany, bne_iff_ne.2 hne, Bool.not_false, Bool.and_self, if_true]
  rw [hfault]
  exact ProtocolFaulted.protocolFault (Dev.dataflowRun_some hrun).1 (by decide) (Nat.lt_trans u.isLt (by decide)) (by decide) hw ht

/-- A token of route 15 drops the data word. -/
theorem Dev.steerFire_drops (hpair : t.any = true ∨ t.tag = w.tag) (hok : t.tokenOk (steerRec img u) = true) (hroute : t.route = 15)
    (hclash : ({ l.unit u with data := ws, tokens := ts } : UnitState).clash = none) :
    (∃ l2, ((d.steerFire pc u).arr pc).run = some l2 ∧ (l2.unit u).data = ws ∧ (l2.unit u).tokens = ts) ∧ (d.steerFire pc u).mem = d.mem ∧
    CellsStand d (d.steerFire pc u) pc := by
  have hmatch : (!t.any && t.tag != w.tag) = false := by
    rcases hpair with h | h
    · rw [h]
      rfl
    · rw [h, bne_self_eq_false, Bool.and_false]
  have hdrop : d.steerFire pc u = d.setRun pc img (l.setUnit u { l.unit u with data := ws, tokens := ts }) := by
    have hsend : steerSend img pc (l.setUnit u { l.unit u with data := ws, tokens := ts }) u 3 w = .done (l.setUnit u { l.unit u with data := ws, tokens := ts }) := rfl
    simp only [Dev.steerFire, hrun, hmode, hdata, htokens, hmatch, hok, hroute, hsend, hclash, Bool.not_true, Bool.false_eq_true, if_false, if_true]
  obtain ⟨hset, hmem, -, hcells⟩ := Dev.setRun_stands (Dev.dataflowRun_some hrun).1 img (l.setUnit u { l.unit u with data := ws, tokens := ts })
  rw [hdrop]
  refine ⟨⟨_, hset, ?_, ?_⟩, hmem, hcells⟩
  · rw [Launch.settled_unit, Launch.unit_setUnit]
  · rw [Launch.settled_unit, Launch.unit_setUnit]

end

/-! ## DATAFLOW_DEADLOCK (R158) -/

theorem Dev.dataflowDeadlock_faults {pc : Slot} {d : Dev} {l : Launch} {img : List Byte} (hrun : d.dataflowRun pc = some (l, img)) (hdrain : l.drain = none)
    (hthawed : d.isFrozen pc = false) : ProtocolFaulted d (d.dataflowDeadlock pc) pc l 6 := by
  have hfault : d.dataflowDeadlock pc = d.protocolFault pc l 6 0xFF 0 0 0 := by
    simp only [Dev.dataflowDeadlock, hrun, hdrain, hthawed, Option.isSome_none, Bool.or_self, Bool.false_eq_true, if_false]
  rw [hfault]
  exact ProtocolFaulted.protocolFault (Dev.dataflowRun_some hrun).1 (by decide) (by decide) (by decide) (by decide) (by decide)

/-- Settles O32: a lane fires or faults, a steering unit takes, sends, drops or faults, and a launch that stands still faults. -/
theorem dataflowWordsMoveUnderTheirTags : Obligations.DataflowWordsMoveUnderTheirTags := by
  intro pc d l img hrun
  refine ⟨fun s k n ops hout hops hop hfull => ?_, fun u => ⟨fun src w l' hmode hsrc htake => ⟨fun hroom hdata => ?_, fun hfull => ?_⟩,
    fun w ws hdata hmode hroute => ⟨fun hroom => ?_, fun hover htag => ?_⟩, fun w ws t ts hdata htokens hmode => ⟨fun hany hne ht hw => ?_, fun hpair hok hdrop hclash => ?_⟩⟩,
    fun hdrain hthawed => ?_⟩
  · have fire : ∀ {post : Dev → Prop}, post (d.laneFire pc (33 * s.val + k.val) n) → Does (.laneFire pc s k n) d post := fun h _ => ⟨_, rfl, h⟩
    have hlane : 33 * s.val + k.val < 2 ^ 11 := by omega
    exact ⟨fun htags => fire (Dev.laneFire_fires hrun hout hops hop hfull htags),
      fun hclash hlead htags => fire (Dev.laneFire_clashes hrun hout hops hop hfull hlane hclash hlead htags)⟩
  · exact .of_run (f := fun d => d.steerArrival pc u false) (fun _ => rfl) (Dev.steerArrival_accepts hrun hmode hsrc htake hroom hdata)
  · exact .of_run (f := fun d => d.steerArrival pc u false) (fun _ => rfl) ((Dev.steerArrival_data hrun hmode hsrc htake).trans (if_pos hfull))
  · exact .of_run (f := fun d => d.steerFire pc u) (fun _ => rfl) (Dev.steerFire_stores hrun hdata hmode hroute rfl hroom)
  · exact .of_run (f := fun d => d.steerFire pc u) (fun _ => rfl) (Dev.steerFire_overruns hrun hdata hmode hroute rfl hover htag)
  · exact .of_run (f := fun d => d.steerFire pc u) (fun _ => rfl) (Dev.steerFire_clashes hrun hdata htokens hmode hany hne ht hw)
  · exact .of_run (f := fun d => d.steerFire pc u) (fun _ => rfl) (Dev.steerFire_drops hrun hdata htokens hmode hpair hok hdrop hclash)
  · exact .of_run (f := fun d => d.dataflowDeadlock pc) (fun _ => rfl) (Dev.dataflowDeadlock_faults hrun hdrain hthawed)

end Sys2Proof.Machine
end

section
namespace Sys2Proof.Machine

/-! ## Windows: what a window command leaves (R182 to R184) -/

theorem Dev.win_setWin_same (d : Dev) (w : Nat) (x : Window) : (d.setWin w x).win w = x := SMap.read_write_same ..

theorem Dev.win_setWin_other (d : Dev) {w k : Nat} (h : k ≠ w) (x : Window) : (d.setWin w x).win k = d.win k := SMap.read_write_other h ..

theorem Dev.win_setReg (d : Dev) (base inst item v k : Nat) : (d.setReg base inst item v).win k = d.win k := by
  rw [Dev.win, Dev.setReg_wins, Dev.win]

theorem Dev.win_winStatus (d : Dev) (m : Master) (w cmd result : Nat) (busy : Bool) (k : Nat) : (d.winStatus m w cmd result busy).win k = d.win k :=
  d.win_setReg ..

/-- A command of a master whose copy is not BUSY has its effect (R182). -/
theorem Dev.winCmd_free {d : Dev} {m : Master} (h : d.bit F.DEV_WIN_STATUS_BUSY 0 (masterItem m) = false) (f : Dev → Dev) : d.winCmd m f = f d := by
  rw [Dev.winCmd, h, if_neg Bool.false_ne_true]

/-- One register is written, and every other stands. -/
theorem RegsStand.setReg {d d1 : Dev} (h : d1.regs = d.regs) (base inst item v : Nat) : RegsStand d (d1.setReg base inst item v) [regKey base inst item] := by
  intro base' inst' item' hkey
  rw [Dev.reg_setReg_other _ _ (List.ne_of_not_mem_cons hkey), Dev.reg_of_regs h]

section
variable (d : Dev) (m : Master) {w cmd result : Nat} (busy : Bool) (hw : w < 2 ^ 10) (hcmd : cmd < 2 ^ 3) (hresult : result < 2 ^ 8)
include hw hcmd hresult

/-- The fields of DEV_WIN_STATUS after a command (Table 05-17). -/
theorem Dev.winStatus_fields :
    (d.winStatus m w cmd result busy).get F.DEV_WIN_STATUS_CMD 0 (masterItem m) = cmd ∧
    (d.winStatus m w cmd result busy).get F.DEV_WIN_STATUS_WIN 0 (masterItem m) = w ∧
    (d.winStatus m w cmd result busy).get F.DEV_WIN_STATUS_RESULT 0 (masterItem m) = result ∧
    (d.winStatus m w cmd result busy).bit F.DEV_WIN_STATUS_BUSY 0 (masterItem m) = busy ∧
    (d.winStatus m w cmd result busy).get F.DEV_WIN_STATUS_GEN 0 (masterItem m) = (d.win w).gen % 2 ^ 32 := by
  have hbusy : b2n busy < 2 ∧ (b2n busy != 0) = busy := by cases busy <;> decide
  have hfield : ∀ f : Fld, f.base = F.DEV_WIN_STATUS.base → (d.winStatus m w cmd result busy).get f 0 (masterItem m) =
      bitsOf (((d.win w).gen % 2 ^ 32 * 2 ^ 32 + b2n busy * 2 ^ 31 + cmd * 2 ^ 28 + w * 2 ^ 16 + result) % 2 ^ 64) f.hi f.lo := by
    intro f hf
    rw [Dev.get, hf, Dev.winStatus, Dev.reg_setReg_same]
  rw [Dev.bit, hfield F.DEV_WIN_STATUS_CMD rfl, hfield F.DEV_WIN_STATUS_WIN rfl, hfield F.DEV_WIN_STATUS_RESULT rfl, hfield F.DEV_WIN_STATUS_BUSY rfl,
    hfield F.DEV_WIN_STATUS_GEN rfl]
  simp only [bitsOf, Nat.shiftRight_eq_div_pow]
  refine ⟨by omega, by omega, by omega, (congrArg (· != 0) ?_).trans hbusy.2, by omega⟩
  omega

end

/-- A command of a master is answered in its copy of DEV_WIN_STATUS, and neither storage nor a cell nor another window changes. -/
def WinAnswered (d d' : Dev) (m : Master) (w cmd result : Nat) : Prop :=
  d'.get F.DEV_WIN_STATUS_CMD 0 (masterItem m) = cmd ∧ d'.get F.DEV_WIN_STATUS_WIN 0 (masterItem m) = w ∧
  d'.get F.DEV_WIN_STATUS_RESULT 0 (masterItem m) = result ∧ d'.mem = d.mem ∧ d'.cells = d.cells ∧ ∀ k, k ≠ w → d'.win k = d.win k

theorem WinAnswered.winStatus {d d1 : Dev} (hmem : d1.mem = d.mem) (hcells : d1.cells = d.cells) {w : Fin 1024} (hwins : ∀ k, k ≠ w.val → d1.win k = d.win k)
    (m : Master) {cmd result : Nat} (busy : Bool) (hcmd : cmd < 2 ^ 3 := by decide) (hresult : result < 2 ^ 8 := by decide) :
    WinAnswered d (d1.winStatus m w cmd result busy) m w cmd result := by
  obtain ⟨hc, hw, hr, -, -⟩ := d1.winStatus_fields m busy w.isLt hcmd hresult
  exact ⟨hc, hw, hr, (d1.setReg_mem ..).trans hmem, (d1.setReg_cells ..).trans hcells, fun k hk => (d1.win_winStatus ..).trans (hwins k hk)⟩

/-- The answer where the command's own window may change too. -/
theorem WinAnswered.setWin (d : Dev) (m : Master) (w : Fin 1024) (x : Window) {cmd result : Nat} (busy : Bool) (hcmd : cmd < 2 ^ 3 := by decide)
    (hresult : result < 2 ^ 8 := by decide) : WinAnswered d ((d.setWin w x).winStatus m w cmd result busy) m w cmd result :=
  .winStatus (d := d) (d1 := d.setWin w x) (w := w) rfl rfl (fun _ hk => d.win_setWin_other hk x) m busy hcmd hresult

/-- The answer of a command that changes no window. -/
theorem Dev.winStatus_refuses (d : Dev) (m : Master) (w : Fin 1024) {cmd result : Nat} (hcmd : cmd < 2 ^ 3 := by decide) (hresult : result < 2 ^ 8 := by decide) :
    WinAnswered d (d.winStatus m w cmd result false) m w cmd result ∧
    RegsStand d (d.winStatus m w cmd result false) [regKey F.DEV_WIN_STATUS.base 0 (masterItem m)] ∧ (d.winStatus m w cmd result false).win w = d.win w :=
  ⟨.winStatus rfl rfl (fun _ _ => rfl) m false hcmd hresult, .setReg rfl _ _ _ _, d.win_winStatus ..⟩

/-- A window that is closing refuses every packet, before any other check (R184, R185). -/
theorem Dev.winCheck_closing {d : Dev} {w : Nat} (h : (d.win w).closing = true) (gen src key : Nat) (write : Bool) (off len : Nat) :
    d.winCheck w gen src key write off len = 1 := by
  simp only [Dev.winCheck, h, Bool.or_true, if_true]

/-! ## The window commands -/

/-- The window that a master has staged in its registers, in place of an entry (R182). -/
def Dev.staged (d : Dev) (m : Master) (x : Window) : Window :=
  { x with d0 := d.reg F.DEV_WIN_D0.base 0 (masterItem m), d1 := d.reg F.DEV_WIN_D1.base 0 (masterItem m),
           d2 := d.reg F.DEV_WIN_D2.base 0 (masterItem m), key := d.reg F.DEV_WIN_D3.base 0 (masterItem m) }

section
variable {m : Master} {w : Fin 1024} {d : Dev} (hup : d.power.mainUp = true)
include hup

section
variable (hfree : d.bit F.DEV_WIN_STATUS_BUSY 0 (masterItem m) = false)
include hfree

/-- The rule for the window commands: main power is on and the master's copy is free. -/
theorem Does.winCmd {c : Instr} {f : Dev → Dev} {post : Dev → Prop} (h : ∀ s, exec c s = s.runMain (fun d => d.winCmd m f)) (hp : post (f d)) : Does c d post :=
  .of_runMain hup h (by rwa [Dev.winCmd_free hfree])

theorem Does.winOpen_opens (hclosed : (d.win w).isOpen = false) (hok : d.winDescOk (d.staged m (d.win w)) = true) : Does (.winOpen m w) d (fun d' =>
    WinAnswered d d' m w 1 0 ∧ RegsStand d d' [regKey F.DEV_WIN_STATUS.base 0 (masterItem m)] ∧
    d'.win w = { d.staged m (d.win w) with gen := ((d.win w).gen + 1) % 2 ^ 32, isOpen := true, closing := false } ∧
    d'.get F.DEV_WIN_STATUS_GEN 0 (masterItem m) = ((d.win w).gen + 1) % 2 ^ 32 ∧ d'.bit F.DEV_WIN_STATUS_BUSY 0 (masterItem m) = false) := by
  refine .winCmd hup hfree (fun _ => rfl) ?_
  rw [if_neg (by rw [hclosed]; decide), if_neg (by rw [← Dev.staged, hok]; decide), ← Dev.staged]
  obtain ⟨-, -, -, hbusy, hgen⟩ := Dev.winStatus_fields (d.setWin w { d.staged m (d.win w) with gen := ((d.win w).gen + 1) % 2 ^ 32, isOpen := true, closing := false })
    m (cmd := 1) (result := 0) false w.isLt (by decide) (by decide)
  rw [Dev.win_setWin_same] at hgen
  exact ⟨.setWin .., .setReg rfl _ _ _ _, (Dev.win_winStatus ..).trans (d.win_setWin_same ..), hgen.trans (Nat.mod_mod _ _), hbusy⟩

theorem Does.winOpen_refuses {result : Nat} (hresult : result < 2 ^ 8)
    (h : ((d.win w).isOpen = false ∧ d.winDescOk (d.staged m (d.win w)) = false ∧ result = 1) ∨ ((d.win w).isOpen = true ∧ result = 2)) :
    Does (.winOpen m w) d (fun d' => WinAnswered d d' m w 1 result ∧ RegsStand d d' [regKey F.DEV_WIN_STATUS.base 0 (masterItem m)] ∧ d'.win w = d.win w) := by
  refine .winCmd hup hfree (fun _ => rfl) ?_
  rcases h with ⟨hclosed, hbad, rfl⟩ | ⟨hopen, rfl⟩
  · rw [if_neg (by rw [hclosed]; decide), if_pos (by rw [← Dev.staged, hbad]; decide)]
    exact d.winStatus_refuses m w
  · rw [if_pos hopen]
    exact d.winStatus_refuses m w

theorem Does.winClose_closes (hopen : (d.win w).isOpen = true) (hstays : (d.win w).closing = false) : Does (.winClose m w) d (fun d' =>
    WinAnswered d d' m w 2 0 ∧ RegsStand d d' [regKey F.DEV_WIN_STATUS.base 0 (masterItem m)] ∧ d'.bit F.DEV_WIN_STATUS_BUSY 0 (masterItem m) = true ∧
    d'.win w = { d.win w with closing := true } ∧ ∀ gen src key wr off len, d'.winCheck w gen src key wr off len = 1) := by
  refine .winCmd hup hfree (fun _ => rfl) ?_
  rw [if_neg (by rw [hopen, hstays]; decide)]
  obtain ⟨-, -, -, hbusy, -⟩ := Dev.winStatus_fields (d.setWin w { d.win w with closing := true }) m (cmd := 2) (result := 0) true w.isLt (by decide) (by decide)
  have hwin := (Dev.win_winStatus _ m w 2 0 true w).trans (d.win_setWin_same w { d.win w with closing := true })
  exact ⟨.setWin .., .setReg rfl _ _ _ _, hbusy, hwin, Dev.winCheck_closing (by rw [hwin])⟩

theorem Does.winClose_refuses (hclosed : (d.win w).isOpen = false) : Does (.winClose m w) d (fun d' =>
    WinAnswered d d' m w 2 3 ∧ RegsStand d d' [regKey F.DEV_WIN_STATUS.base 0 (masterItem m)] ∧ d'.win w = d.win w) := by
  refine .winCmd hup hfree (fun _ => rfl) ?_
  rw [if_pos (by simp [hclosed])]
  exact d.winStatus_refuses m w

theorem Does.winRead : Does (.winRead m w) d (fun d' => WinAnswered d d' m w 3 0 ∧ d'.win w = d.win w ∧
    d'.reg F.DEV_WIN_D0.base 0 (masterItem m) = (d.win w).d0 % 2 ^ 64 ∧ d'.reg F.DEV_WIN_D1.base 0 (masterItem m) = (d.win w).d1 % 2 ^ 64 ∧
    d'.reg F.DEV_WIN_D2.base 0 (masterItem m) = (d.win w).d2 % 2 ^ 64 ∧ d'.reg F.DEV_WIN_D3.base 0 (masterItem m) = d.reg F.DEV_WIN_D3.base 0 (masterItem m)) := by
  refine .winCmd hup hfree (fun _ => rfl) ⟨.winStatus (by simp only [Dev.setReg_mem]) (by simp only [Dev.setReg_cells]) (fun k _ => ?_) m false, ?_, ?_, ?_, ?_, ?_⟩
  · simp only [Dev.win_setReg]
  · simp only [Dev.win_winStatus, Dev.win_setReg]
  · rw [Dev.winStatus, Dev.reg_setReg_other _ _ (regKey_ne (by decide) _ _ _ _), Dev.reg_setReg_other _ _ (regKey_ne (by decide) _ _ _ _),
      Dev.reg_setReg_other _ _ (regKey_ne (by decide) _ _ _ _), Dev.reg_setReg_same]
  · rw [Dev.winStatus, Dev.reg_setReg_other _ _ (regKey_ne (by decide) _ _ _ _), Dev.reg_setReg_other _ _ (regKey_ne (by decide) _ _ _ _), Dev.reg_setReg_same]
  · rw [Dev.winStatus, Dev.reg_setReg_other _ _ (regKey_ne (by decide) _ _ _ _), Dev.reg_setReg_same]
  · rw [Dev.winStatus, Dev.reg_setReg_other _ _ (regKey_ne (by decide) _ _ _ _), Dev.reg_setReg_other _ _ (regKey_ne (by decide) _ _ _ _),
      Dev.reg_setReg_other _ _ (regKey_ne (by decide) _ _ _ _), Dev.reg_setReg_other _ _ (regKey_ne (by decide) _ _ _ _)]

end

theorem Does.winCloseDone (hbusy : d.bit F.DEV_WIN_STATUS_BUSY 0 (masterItem m) = true) (hwin : d.get F.DEV_WIN_STATUS_WIN 0 (masterItem m) = w.val)
    (hclosing : (d.win w).closing = true) : Does (.winCloseDone m w) d (fun d' =>
      WinAnswered d d' m w 2 0 ∧ RegsStand d d' [regKey F.DEV_WIN_STATUS.base 0 (masterItem m)] ∧ d'.bit F.DEV_WIN_STATUS_BUSY 0 (masterItem m) = false ∧
      (d'.win w).gen = ((d.win w).gen + 1) % 2 ^ 32 ∧ (d'.win w).key = 0 ∧ (d'.win w).isOpen = false) := by
  refine .of_runMain (f := fun d => if d.bit F.DEV_WIN_STATUS_BUSY 0 (masterItem m) && d.get F.DEV_WIN_STATUS_WIN 0 (masterItem m) = w then
    (if (d.win w).closing then d.setWin w (d.win w).closed else d).winStatus m w 2 0 false else d) hup (fun _ => rfl) ?_
  rw [if_pos (by rw [hbusy, hwin]; simp), if_pos hclosing, Dev.win_winStatus, Dev.win_setWin_same]
  obtain ⟨-, -, -, hfree, -⟩ := Dev.winStatus_fields (d.setWin w (d.win w).closed) m (cmd := 2) (result := 0) false w.isLt (by decide) (by decide)
  exact ⟨.setWin .., .setReg rfl _ _ _ _, hfree, rfl, rfl, rfl⟩

end

/-- Settles O35: a command of a master whose copy is free goes by the checks of R183, and its answer stands in DEV_WIN_STATUS alone. -/
theorem windowsOpenCloseAndRead : Obligations.WindowsOpenCloseAndRead := by
  intro m w d hup
  refine ⟨fun hfree => ⟨fun hclosed hok => ?_, fun hclosed hbad => ?_, fun hopen => ?_, fun hopen hstays => ?_, fun hclosed => ?_, ?_⟩, fun hbusy hwin hclosing => ?_⟩
  · exact .winOpen_opens hup hfree hclosed hok
  · exact .winOpen_refuses hup hfree (by decide) (.inl ⟨hclosed, hbad, rfl⟩)
  · exact .winOpen_refuses hup hfree (by decide) (.inr ⟨hopen, rfl⟩)
  · exact .winClose_closes hup hfree hopen hstays
  · exact .winClose_refuses hup hfree hclosed
  · exact .winRead hup hfree
  · exact .winCloseDone hup hbusy hwin hclosing

end Sys2Proof.Machine
end

section
namespace Sys2Proof.Machine

/-! ## Fields of a register of several (R10) -/

/-- A one-bit field reads as it was written. -/
theorem Dev.bit_set_same (d : Dev) (f : Fld) (v inst item : Nat) (h : f.hi = f.lo := by decide) (h' : f.hi ≤ 63 := by decide) : (d.set f v inst item).bit f inst item = (v % 2 != 0) := by
  have hwidth : f.hi + 1 - f.lo = 1 := by omega
  rw [Dev.bit, Dev.get_set_same d f v inst item (by omega) h', hwidth, Nat.pow_one]

/-- A one-bit field stands where another field of its register is written. -/
theorem Dev.bit_set_disjoint (d : Dev) (f g : Fld) (v inst item : Nat) (hb : g.base = f.base := by decide) (hf : f.lo ≤ f.hi := by decide)
    (hg : g.hi ≤ 63 := by decide) (h : g.hi < f.lo ∨ f.hi < g.lo := by decide) : (d.set f v inst item).bit g inst item = d.bit g inst item := by
  rw [Dev.bit, Dev.get_set_disjoint d f g v inst item hb hf hg h, Dev.bit]

@[simp] theorem Dev.modSlot_mem (d : Dev) (pc : Nat) (f : SlotInfo → SlotInfo) : (d.modSlot pc f).mem = d.mem := rfl

@[simp] theorem Dev.modSlot_cells (d : Dev) (pc : Nat) (f : SlotInfo → SlotInfo) : (d.modSlot pc f).cells = d.cells := rfl

theorem Keeps.modSlot {S : Nat → Prop} (d : Dev) (pc : Nat) (f : SlotInfo → SlotInfo) : Keeps S d (d.modSlot pc f) := .of_regs rfl

theorem Keeps.bit {S : Nat → Prop} {d d' : Dev} (h : Keeps S d d') (f : Fld) {inst item : Nat} (hs : S (regKey f.base inst item)) :
    d'.bit f inst item = d.bit f inst item := by
  rw [Dev.bit, h.get f hs, Dev.bit]

/-! ## What the decoder makes of few flipped bits (R25) -/

theorem w80Decode_one {e : BitVec 80} (h : flips e = 1) (draw : Nat) (stored : Word) : w80Decode draw stored e = .corrected false := by
  simp only [w80Decode, h]

theorem w80Decode_three {e : BitVec 80} (h : flips e = 3) (draw : Nat) (stored : Word) : w80Decode draw stored e = .uncorrectable := by
  simp only [w80Decode, h]

/-- A read of one word with one flipped bit: it is corrected, and the data is delivered (R165). -/
theorem Dev.checkWords_corrects {e : BitVec 80} (h : flips e = 1) (d : Dev) (a requester i : Nat) :
    d.checkWords a requester [(i, e)] = (d.noteCorrection (a / 8 * 8 + 8 * i) false, true) := by
  simp only [Dev.checkWords, w80Decode_one h]

/-- A read of one word with three flipped bits: the error is reported at its source, and nothing is delivered (R166). -/
theorem Dev.checkWords_reports {e : BitVec 80} (h : flips e = 3) (d : Dev) {a i cls inst loc off : Nat} (requester : Nat)
    (hsource : (errBlock (a / 8 * 8 + 8 * i)).source = (cls, inst, loc, off)) :
    d.checkWords a requester [(i, e)] = (d.uncorrectable cls inst loc off requester, false) := by
  simp only [Dev.checkWords, w80Decode_three h, hsource]

end Sys2Proof.Machine
end

section
namespace Sys2Proof.Machine

/-! ## A correction in a slice (R165) -/

/-- An address of a slice is counted at its slot and offset. -/
theorem errBlock_slice {pc off : Nat} (h : off < 2 ^ 24) : errBlock (sliceBase pc + off) = .slice pc off := by
  have hslot : (sliceBase pc + off - 0x800000000000) / 2 ^ 24 = pc := by rw [sliceBase]; omega
  have hoff : (sliceBase pc + off) % 2 ^ 24 = off := by rw [sliceBase]; omega
  rw [errBlock, if_pos (by rw [sliceBase]; omega), hslot, hoff]

/-- SPAD_ECC_LAST after a correction (Table 05-10). -/
def Dev.latchEcc (d : Dev) (pc off : Nat) (double : Bool) : Dev :=
  ((d.set F.SPAD_ECC_LAST_VALID 1 pc).set F.SPAD_ECC_LAST_DOUBLE (b2n double) pc).set F.SPAD_ECC_LAST_OFFSET off pc

theorem Dev.latchEcc_valid (d : Dev) (pc off : Nat) (double : Bool) : (d.latchEcc pc off double).bit F.SPAD_ECC_LAST_VALID pc = true := by
  rw [Dev.latchEcc, Dev.bit_set_disjoint _ F.SPAD_ECC_LAST_OFFSET F.SPAD_ECC_LAST_VALID, Dev.bit_set_disjoint _ F.SPAD_ECC_LAST_DOUBLE F.SPAD_ECC_LAST_VALID,
    Dev.bit_set_same _ F.SPAD_ECC_LAST_VALID]
  rfl

theorem Dev.latchEcc_double (d : Dev) (pc off : Nat) (double : Bool) : (d.latchEcc pc off double).bit F.SPAD_ECC_LAST_DOUBLE pc = double := by
  rw [Dev.latchEcc, Dev.bit_set_disjoint _ F.SPAD_ECC_LAST_OFFSET F.SPAD_ECC_LAST_DOUBLE, Dev.bit_set_same _ F.SPAD_ECC_LAST_DOUBLE]
  cases double <;> rfl

theorem Dev.latchEcc_offset (d : Dev) (pc : Nat) {off : Nat} (h : off < 2 ^ 24) (double : Bool) : (d.latchEcc pc off double).get F.SPAD_ECC_LAST_OFFSET pc = off := by
  rw [Dev.latchEcc, Dev.get_set_same _ _ _ _ _ (by decide) (by decide)]
  exact Nat.mod_eq_of_lt h

theorem Dev.noteCorrection_slice (d : Dev) {a pc off : Nat} (h : errBlock a = .slice pc off) : d.noteCorrection a false =
    ((d.count F.SPAD_CORRECTED pc).latchEcc pc off false).modSlot pc (fun i => { i with ecc := i.ecc ++ [off] }) := by
  rw [Dev.noteCorrection, h]
  rfl

theorem Dev.slotInfo_of_slots {d d' : Dev} (h : d'.slots = d.slots) (pc : Nat) : d'.slotInfo pc = d.slotInfo pc := by rw [Dev.slotInfo, Dev.slotInfo, h]

/-- Counting and latching change registers alone. -/
theorem Dev.countEcc_stands (d : Dev) (pc off : Nat) (double : Bool) : ((d.count F.SPAD_CORRECTED pc).latchEcc pc off double).mem = d.mem ∧
    ((d.count F.SPAD_CORRECTED pc).latchEcc pc off double).cells = d.cells ∧ ((d.count F.SPAD_CORRECTED pc).latchEcc pc off double).slots = d.slots := by
  simp only [Dev.latchEcc, Dev.set_mem, Dev.set_cells, Dev.set_slots, Dev.count_mem, Dev.count_cells, Dev.count_slots, and_self]

theorem Dev.countEcc_counts (d : Dev) (pc off : Nat) (double : Bool) : Counted d ((d.count F.SPAD_CORRECTED pc).latchEcc pc off double) F.SPAD_CORRECTED pc := by
  have hset : ∀ (e : Dev) (f : Fld) (v : Nat), F.SPAD_CORRECTED.base % 2 ^ 12 ≠ f.base % 2 ^ 12 →
      (e.set f v pc).reg F.SPAD_CORRECTED.base pc = e.reg F.SPAD_CORRECTED.base pc := fun e f v hne => Dev.reg_setReg_other e _ (regKey_ne hne _ _ _ _)
  exact (Counted.count d _ _).then (((hset _ _ _ (by decide)).trans (hset _ _ _ (by decide))).trans (hset _ _ _ (by decide)))

/-- A correction is counted and latched, and waits for its write-back; no byte changes. -/
theorem Dev.noteCorrection_effect (d : Dev) {a pc off : Nat} (ha : errBlock a = .slice pc off) (h : off < 2 ^ 24) :
    Counted d (d.noteCorrection a false) F.SPAD_CORRECTED pc ∧
    (d.noteCorrection a false).bit F.SPAD_ECC_LAST_VALID pc = true ∧
    (d.noteCorrection a false).bit F.SPAD_ECC_LAST_DOUBLE pc = false ∧
    (d.noteCorrection a false).get F.SPAD_ECC_LAST_OFFSET pc = off ∧
    ((d.noteCorrection a false).slotInfo pc).ecc = (d.slotInfo pc).ecc ++ [off] ∧
    (d.noteCorrection a false).mem = d.mem ∧ (d.noteCorrection a false).cells = d.cells := by
  rw [d.noteCorrection_slice ha]
  obtain ⟨hmem, hcells, hslots⟩ := d.countEcc_stands pc off false
  have hcount := d.countEcc_counts pc off false
  have hvalid := (d.count F.SPAD_CORRECTED pc).latchEcc_valid pc off false
  have hdouble := (d.count F.SPAD_CORRECTED pc).latchEcc_double pc off false
  have hoffset := (d.count F.SPAD_CORRECTED pc).latchEcc_offset pc h false
  have hkeep := Keeps.modSlot (S := fun _ => True) ((d.count F.SPAD_CORRECTED pc).latchEcc pc off false) pc (fun i => { i with ecc := i.ecc ++ [off] })
  refine ⟨hcount.then (hkeep.reg trivial), (hkeep.bit _ trivial).trans hvalid, (hkeep.bit _ trivial).trans hdouble, (hkeep.get _ trivial).trans hoffset, ?_,
    (Dev.modSlot_mem ..).trans hmem, (Dev.modSlot_cells ..).trans hcells⟩
  rw [Dev.slotInfo_modSlot, Dev.slotInfo_of_slots hslots]

end Sys2Proof.Machine
end

section
namespace Sys2Proof.Machine

/-! ## The scrubber's step (R168) -/

/-- The scrubber stands at its next line, and a whole pass is counted. -/
def Dev.scrubNext (d : Dev) (pc : Nat) : Dev :=
  let k := (d.slotInfo pc).scrub
  let d := d.modSlot pc (fun i => { i with scrub := (k + 1) % sliceLines })
  if k + 1 = sliceLines then d.count F.SPAD_SCRUB_PASSES pc else d

theorem Dev.scrubNext_eq (d : Dev) (pc : Nat) : d.scrubNext pc = if (d.slotInfo pc).scrub + 1 = sliceLines
    then (d.modSlot pc (fun i => { i with scrub := ((d.slotInfo pc).scrub + 1) % sliceLines })).count F.SPAD_SCRUB_PASSES pc
    else d.modSlot pc (fun i => { i with scrub := ((d.slotInfo pc).scrub + 1) % sliceLines }) := rfl

theorem Dev.scrubNext_slotInfo (d : Dev) (pc : Nat) :
    (d.scrubNext pc).slotInfo pc = { d.slotInfo pc with scrub := ((d.slotInfo pc).scrub + 1) % sliceLines } := by
  rw [Dev.scrubNext_eq]
  split
  · rw [Dev.slotInfo_of_slots (Dev.count_slots ..), Dev.slotInfo_modSlot]
  · rw [Dev.slotInfo_modSlot]

theorem Dev.scrubNext_stands (d : Dev) (pc : Nat) : (d.scrubNext pc).mem = d.mem ∧ (d.scrubNext pc).cells = d.cells := by
  rw [Dev.scrubNext_eq]
  split
  · exact ⟨Dev.count_mem .., Dev.count_cells ..⟩
  · exact ⟨rfl, rfl⟩

theorem Dev.scrubNext_counts {d : Dev} {pc : Nat} (h : (d.slotInfo pc).scrub + 1 = sliceLines) : Counted d (d.scrubNext pc) F.SPAD_SCRUB_PASSES pc := by
  rw [Dev.scrubNext_eq, if_pos h]
  exact (Counted.count _ _ _).before rfl

/-- No other register changes. -/
theorem Keeps.scrubNext {S : Nat → Prop} (d : Dev) (pc : Nat) (h : ¬ S (regKey F.SPAD_SCRUB_PASSES.base pc 0)) : Keeps S d (d.scrubNext pc) := by
  rw [Dev.scrubNext_eq]
  exact .ite ((Keeps.modSlot d pc _).trans (.count _ _ _ _ _ h)) (.modSlot d pc _)

/-- A word of a slot that hosts a cell is handled as a read's. -/
theorem Dev.scrubWords_hosted {d : Dev} {pc : Nat} (h : (d.hosted pc).isSome = true) (a i : Nat) (e : BitVec 80) :
    d.scrubWords pc a [(i, e)] = (d.checkWords a pc [(i % 8, e)]).1 := by
  have hnone : (d.hosted pc).isNone = false := by rw [Option.isNone_eq_false_iff, h]
  simp only [Dev.scrubWords, hnone, Bool.false_and, Bool.false_eq_true, if_false, ite_self]

section
variable {pc : Slot} {d : Dev} (hon : d.domOn pc = true)
include hon

theorem Does.spadScrubRead {u : Upsets} {post : Dev → Prop} (h : post ((d.scrubNext pc).scrubWords pc (sliceBase pc + 64 * (d.slotInfo pc).scrub) u)) :
    Does (.spadScrubRead pc u) d post := by
  refine .of_run (f := fun d => if !d.domOn pc then d else (d.scrubNext pc).scrubWords pc (sliceBase pc + 64 * (d.slotInfo pc).scrub) u) (fun _ => rfl) ?_
  rwa [hon, if_neg (by decide)]

/-- A line without an upset: only the scrubber's place moves on. -/
theorem Does.spadScrubRead_clean : Does (.spadScrubRead pc []) d (fun d' =>
    (d'.slotInfo pc).scrub = ((d.slotInfo pc).scrub + 1) % 196608 ∧ d'.mem = d.mem ∧ d'.cells = d.cells ∧
    ((d.slotInfo pc).scrub + 1 = 196608 → Counted d d' F.SPAD_SCRUB_PASSES pc)) :=
  .spadScrubRead hon ⟨congrArg SlotInfo.scrub (d.scrubNext_slotInfo pc), (d.scrubNext_stands pc).1, (d.scrubNext_stands pc).2, Dev.scrubNext_counts⟩

section
variable (i : Fin 8) {e : BitVec 80} (hhost : (d.hosted pc).isSome = true) (hline : (d.slotInfo pc).scrub < 196608)
include hhost

/-- A line with an upset in one word, of a slot that hosts a cell. -/
theorem Does.spadScrubRead_word {post : Dev → Prop}
    (h : post ((d.scrubNext pc).checkWords (sliceBase pc + 64 * (d.slotInfo pc).scrub) pc [(i.val, e)]).1) : Does (.spadScrubRead pc [(i.val, e)]) d post := by
  have hkeeps : Keeps PartKey d (d.scrubNext pc) := .scrubNext d pc (not_partKey (.inr (by simp only [regKey]; omega)))
  refine .spadScrubRead hon ?_
  rwa [Dev.scrubWords_hosted (by rwa [hkeeps.hosted pc]), Nat.mod_eq_of_lt i.isLt]

include hline

omit hon hhost in
/-- The address of a word of the scrubbed line. -/
theorem scrubbedWord : (sliceBase pc + 64 * (d.slotInfo pc).scrub) / 8 * 8 + 8 * i.val = sliceBase pc + (64 * (d.slotInfo pc).scrub + 8 * i.val) ∧
    64 * (d.slotInfo pc).scrub + 8 * i.val < 2 ^ 24 := by
  constructor
  · rw [sliceBase]
    omega
  · omega

theorem Does.spadScrubRead_corrects (hflips : flips e = 1) : Does (.spadScrubRead pc [(i.val, e)]) d (fun d' =>
    Counted d d' F.SPAD_CORRECTED pc ∧ d'.bit F.SPAD_ECC_LAST_VALID pc = true ∧ d'.bit F.SPAD_ECC_LAST_DOUBLE pc = false ∧
    d'.get F.SPAD_ECC_LAST_OFFSET pc = 64 * (d.slotInfo pc).scrub + 8 * i.val ∧
    (d'.slotInfo pc).ecc = (d.slotInfo pc).ecc ++ [64 * (d.slotInfo pc).scrub + 8 * i.val] ∧ d'.mem = d.mem ∧ d'.cells = d.cells) := by
  obtain ⟨haddr, hoff⟩ := scrubbedWord i hline
  refine .spadScrubRead_word hon i hhost ?_
  rw [Dev.checkWords_corrects hflips, haddr]
  obtain ⟨hcount, hvalid, hdouble, hoffset, hecc, hmem, hcells⟩ := (d.scrubNext pc).noteCorrection_effect (errBlock_slice (pc := pc) hoff) hoff
  have hkeeps : Keeps (fun k => k % 2 ^ 12 ≠ 0x568) d (d.scrubNext pc) := .scrubNext d pc (by rw [regKey_mod]; decide)
  have hinfo := congrArg SlotInfo.ecc (d.scrubNext_slotInfo pc)
  exact ⟨hcount.before (hkeeps.reg (by rw [regKey_mod]; decide)), hvalid, hdouble, hoffset, hinfo ▸ hecc, hmem.trans (d.scrubNext_stands pc).1,
    hcells.trans (d.scrubNext_stands pc).2⟩

theorem Does.spadScrubRead_reports (hflips : flips e = 3) : Does (.spadScrubRead pc [(i.val, e)]) d (fun d' =>
    ∃ d1 : Dev, d1.mem = d.mem ∧ d1.cells = d.cells ∧
      d' = d1.uncorrectable 2 pc (if 64 * (d.slotInfo pc).scrub + 8 * i.val < 0xB00000 then 0 else 1) (64 * (d.slotInfo pc).scrub + 8 * i.val) pc) := by
  obtain ⟨haddr, hoff⟩ := scrubbedWord i hline
  refine .spadScrubRead_word hon i hhost ⟨d.scrubNext pc, (d.scrubNext_stands pc).1, (d.scrubNext_stands pc).2, ?_⟩
  rw [Dev.checkWords_reports hflips _ _ (by rw [haddr, errBlock_slice hoff, ErrBlock.source])]
  rfl

end

/-! ## The write-back and the promotion (R165, R170) -/

theorem Does.eccWriteback : Does (.eccWriteback pc) d (fun d' =>
    (d'.slotInfo pc).ecc = (d.slotInfo pc).ecc.drop 1 ∧ d'.mem = d.mem ∧ d'.cells = d.cells ∧ d'.regs = d.regs) := by
  refine .of_run (f := fun d => if d.domOn pc then d.modSlot pc (fun i => { i with ecc := i.ecc.drop 1 }) else d) (fun _ => rfl) ?_
  rw [if_pos hon]
  exact ⟨congrArg SlotInfo.ecc (d.slotInfo_modSlot pc _), rfl, rfl, rfl⟩

theorem Does.narrowPromote (w : Bool) : Does (.narrowPromote pc w) d (fun d' => Counted d d' F.SPAD_NARROW_PROMOTED pc ∧ d'.mem = d.mem ∧ d'.cells = d.cells ∧
    d'.reg F.SPAD_NARROW_WAIT.base pc = countUp (d.reg F.SPAD_NARROW_WAIT.base pc) 64 % 2 ^ 64) := by
  refine .of_run (f := fun d => if d.domOn pc then (d.count F.SPAD_NARROW_PROMOTED pc).count F.SPAD_NARROW_WAIT pc 0 64 else d) (fun _ => rfl) ?_
  rw [if_pos hon]
  refine ⟨(Counted.count d _ _).then (Dev.reg_count_other _ _ (by decide) _ _ _ _ _), by simp only [Dev.count_mem], by simp only [Dev.count_cells], ?_⟩
  rw [Dev.count, Dev.reg_setReg_same, Dev.reg_count_other _ _ (by decide)]

end

/-- Settles O33: a line goes through the scrubber's step, and a word with an upset through the decoder of R25. -/
theorem scrubbersCorrectAndReport : Obligations.ScrubbersCorrectAndReport := by
  intro pc d hon
  refine ⟨.spadScrubRead_clean hon, fun i e hline hhost => ⟨fun hflips => ?_, fun hflips => ?_⟩, .eccWriteback hon, .narrowPromote hon⟩
  · exact .spadScrubRead_corrects hon i hhost hline hflips
  · exact .spadScrubRead_reports hon i hhost hline hflips

end Sys2Proof.Machine
end

section
namespace Sys2Proof.Machine

/-! ## The operation set and the enable of a near-memory unit (R174, R179) -/

theorem RegsStand.refl (d : Dev) (keys : List Nat) : RegsStand d d keys := fun _ _ _ _ => rfl

theorem RegsStand.trans {a b c : Dev} {keys : List Nat} (h : RegsStand a b keys) (h' : RegsStand b c keys) : RegsStand a c keys :=
  fun base inst item hk => (h' base inst item hk).trans (h base inst item hk)

theorem RegsStand.set (d : Dev) (f : Fld) (v inst item : Nat) : RegsStand d (d.set f v inst item) [regKey f.base inst item] := .setReg rfl _ _ _ _

theorem Dev.get_lt (d : Dev) (f : Fld) (inst item : Nat) : d.get f inst item < 2 ^ (f.hi + 1 - f.lo) := Nat.mod_lt _ (Nat.two_pow_pos _)

/-- Only SPAD_OPSET of a slot changes. -/
structure OpsetOnly (pc : Nat) (d d' : Dev) : Prop where
  mem : d'.mem = d.mem
  cells : d'.cells = d.cells
  regs : RegsStand d d' [regKey F.SPAD_OPSET.base pc 0]

theorem OpsetOnly.refl (pc : Nat) (d : Dev) : OpsetOnly pc d d := ⟨rfl, rfl, .refl d _⟩

theorem OpsetOnly.trans {pc : Nat} {a b c : Dev} (h : OpsetOnly pc a b) (h' : OpsetOnly pc b c) : OpsetOnly pc a c :=
  ⟨h'.mem.trans h.mem, h'.cells.trans h.cells, h.regs.trans h'.regs⟩

theorem OpsetOnly.set (pc : Nat) (d : Dev) (f : Fld) (v : Nat) (h : f.base = F.SPAD_OPSET.base := by rfl) : OpsetOnly pc d (d.set f v pc) :=
  ⟨d.set_mem .., d.set_cells .., h ▸ RegsStand.set d f v pc 0⟩

theorem OpsetOnly.cell {pc : Nat} {d d' : Dev} (h : OpsetOnly pc d d') (p : Nat) : d'.cell p = d.cell p := by rw [Dev.cell, h.cells, Dev.cell]

/-- A switch starts if the unit is between commands and REQ differs from CUR; it changes neither. -/
theorem Dev.opsetNext_effect (d : Dev) (pc : Nat) :
    (d.opsetNext pc).get F.SPAD_OPSET_REQ pc = d.get F.SPAD_OPSET_REQ pc ∧ (d.opsetNext pc).get F.SPAD_OPSET_CUR pc = d.get F.SPAD_OPSET_CUR pc ∧
    ((d.opsetNext pc).bit F.SPAD_OPSET_SWITCHING pc = true ↔
      d.bit F.SPAD_OPSET_SWITCHING pc = true ∨ ((d.cell pc).nm = none ∧ d.get F.SPAD_OPSET_REQ pc ≠ d.get F.SPAD_OPSET_CUR pc)) ∧
    OpsetOnly pc d (d.opsetNext pc) := by
  rw [Dev.opsetNext]
  split
  next hstart =>
    rw [Bool.and_eq_true, Option.isNone_iff_eq_none, bne_iff_ne] at hstart
    rw [Dev.get_set_disjoint d F.SPAD_OPSET_SWITCHING F.SPAD_OPSET_REQ 1 pc 0 rfl (by decide) (by decide) (by decide),
      Dev.get_set_disjoint d F.SPAD_OPSET_SWITCHING F.SPAD_OPSET_CUR 1 pc 0 rfl (by decide) (by decide) (by decide), Dev.bit_set_same d F.SPAD_OPSET_SWITCHING]
    exact ⟨rfl, rfl, iff_of_true rfl (.inr hstart), .set pc d F.SPAD_OPSET_SWITCHING 1⟩
  next hstay =>
    rw [Bool.and_eq_true, Option.isNone_iff_eq_none, bne_iff_ne] at hstay
    exact ⟨rfl, rfl, (or_iff_left hstay).symm, .refl pc d⟩

/-- A unit in a powered slot whose EN reads 0, or whose CHAN is written as it stands, takes the write (R174). -/
theorem Does.spadNmCtlWrite_takes {pc : Slot} {d : Dev} {v : Word} (m : Master) (hon : d.domOn pc = true)
    (hfree : d.bit F.SPAD_NM_CTL_EN pc = false ∨ bitsOf v.toNat 5 0 = d.get F.SPAD_NM_CTL_CHAN pc) : Does (.spadNmCtlWrite m pc v) d (fun d' =>
      d'.bit F.SPAD_NM_CTL_EN pc = v.getLsbD 63 ∧ d'.get F.SPAD_NM_CTL_CHAN pc = bitsOf v.toNat 5 0 ∧ d'.mem = d.mem ∧ d'.cells = d.cells ∧
      RegsStand d d' [regKey F.SPAD_NM_CTL.base pc 0]) := by
  refine .of_run (f := fun d => d.writeNmCtl pc v.toNat) (fun _ => rfl) ?_
  have hguard : (!d.domOn pc || (d.bit F.SPAD_NM_CTL_EN pc && bitsOf v.toNat 5 0 != d.get F.SPAD_NM_CTL_CHAN pc)) = false := by
    rcases hfree with h | h <;> simp [hon, h]
  have hen : bitsOf v.toNat 63 63 % 2 = bitsOf v.toNat 63 63 := Nat.mod_eq_of_lt (Nat.mod_lt _ (by decide))
  have hchan : bitsOf v.toNat 5 0 < 2 ^ 6 := Nat.mod_lt _ (by decide)
  rw [Dev.writeNmCtl, hguard, if_neg Bool.false_ne_true]
  refine ⟨?_, ?_, by simp only [Dev.set_mem], by simp only [Dev.set_cells], (RegsStand.set d F.SPAD_NM_CTL_EN _ pc 0).trans (.set _ F.SPAD_NM_CTL_CHAN _ pc 0)⟩
  · rw [Dev.bit_set_disjoint _ F.SPAD_NM_CTL_CHAN F.SPAD_NM_CTL_EN, Dev.bit_set_same _ F.SPAD_NM_CTL_EN, hen, bitsOf_bit]
    rfl
  · rw [Dev.get_set_same _ F.SPAD_NM_CTL_CHAN _ _ _ (by decide) (by decide)]
    exact Nat.mod_eq_of_lt hchan

/-- While EN reads 1 a write that changes CHAN is ignored (R174). -/
theorem Does.spadNmCtlWrite_ignores {pc : Slot} {d : Dev} {v : Word} (m : Master) (hen : d.bit F.SPAD_NM_CTL_EN pc = true)
    (hchan : bitsOf v.toNat 5 0 ≠ d.get F.SPAD_NM_CTL_CHAN pc) : Does (.spadNmCtlWrite m pc v) d (fun d' => d' = d) := by
  refine .of_run (f := fun d => d.writeNmCtl pc v.toNat) (fun _ => rfl) ?_
  rw [Dev.writeNmCtl, if_pos]
  simp [hen, hchan]

/-- A write of REQ is taken, and may start a switch (R179). -/
theorem Does.opsetSwitch {pc : Slot} {d : Dev} (m : Master) (v : Word) (hon : d.domOn pc = true) : Does (.opsetSwitch m pc v) d (fun d' =>
    d'.get F.SPAD_OPSET_REQ pc = v.toNat % 2 ∧ d'.get F.SPAD_OPSET_CUR pc = d.get F.SPAD_OPSET_CUR pc ∧
    (d'.bit F.SPAD_OPSET_SWITCHING pc = true ↔ d.bit F.SPAD_OPSET_SWITCHING pc = true ∨
      ((d.cell pc).nm = none ∧ v.toNat % 2 ≠ d.get F.SPAD_OPSET_CUR pc)) ∧ d'.mem = d.mem ∧ d'.cells = d.cells ∧
    RegsStand d d' [regKey F.SPAD_OPSET.base pc 0]) := by
  refine .of_run (f := fun d => d.writeOpset pc (v.toNat % 2)) (fun _ => rfl) ?_
  have hreq : (d.set F.SPAD_OPSET_REQ (v.toNat % 2) pc).get F.SPAD_OPSET_REQ pc = v.toNat % 2 :=
    (Dev.get_set_same d F.SPAD_OPSET_REQ _ pc 0 (by decide) (by decide)).trans (Nat.mod_mod _ _)
  have hcur := Dev.get_set_disjoint d F.SPAD_OPSET_REQ F.SPAD_OPSET_CUR (v.toNat % 2) pc 0 rfl (by decide) (by decide) (by decide)
  have hsw := Dev.bit_set_disjoint d F.SPAD_OPSET_REQ F.SPAD_OPSET_SWITCHING (v.toNat % 2) pc 0
  have hset := OpsetOnly.set pc d F.SPAD_OPSET_REQ (v.toNat % 2)
  have hwrite : d.writeOpset pc (v.toNat % 2) = if d.bit F.SPAD_OPSET_SWITCHING pc then d.set F.SPAD_OPSET_REQ (v.toNat % 2) pc
      else (d.set F.SPAD_OPSET_REQ (v.toNat % 2) pc).opsetNext pc := by
    simp only [Dev.writeOpset, hon, Bool.not_true, Bool.false_eq_true, if_false, Dev.switching, hsw]
  rw [hwrite]
  by_cases hbusy : d.bit F.SPAD_OPSET_SWITCHING pc = true
  · rw [if_pos hbusy]
    exact ⟨hreq, hcur, iff_of_true (hsw.trans hbusy) (.inl hbusy), hset.mem, hset.cells, hset.regs⟩
  · rw [if_neg hbusy]
    obtain ⟨hreq', hcur', hsw', honly⟩ := (d.set F.SPAD_OPSET_REQ (v.toNat % 2) pc).opsetNext_effect pc
    rw [hreq, hcur, hsw, hset.cell] at hsw'
    exact ⟨hreq'.trans hreq, hcur'.trans hcur, hsw', (hset.trans honly).mem, (hset.trans honly).cells, (hset.trans honly).regs⟩

/-- The end of a switch changes CUR, and starts a further switch if REQ differs (R179). -/
theorem Does.opsetSwitchEnd {pc : Slot} {d : Dev} (hon : d.domOn pc = true) (hbusy : d.bit F.SPAD_OPSET_SWITCHING pc = true) :
    Does (.opsetSwitchEnd pc) d (fun d' =>
      d'.get F.SPAD_OPSET_CUR pc = 1 - d.get F.SPAD_OPSET_CUR pc ∧ d'.get F.SPAD_OPSET_REQ pc = d.get F.SPAD_OPSET_REQ pc ∧
      (d'.bit F.SPAD_OPSET_SWITCHING pc = true ↔ (d.cell pc).nm = none ∧ d.get F.SPAD_OPSET_REQ pc = d.get F.SPAD_OPSET_CUR pc) ∧
      d'.mem = d.mem ∧ d'.cells = d.cells ∧ RegsStand d d' [regKey F.SPAD_OPSET.base pc 0]) := by
  refine .of_run (f := fun d => if d.domOn pc && d.switching pc then
    ((d.set F.SPAD_OPSET_CUR (1 - d.get F.SPAD_OPSET_CUR pc) pc).set F.SPAD_OPSET_SWITCHING 0 pc).opsetNext pc else d) (fun _ => rfl) ?_
  rw [if_pos (by rw [hon, Dev.switching, hbusy]; rfl)]
  have hlt : d.get F.SPAD_OPSET_CUR pc < 2 := d.get_lt ..
  have hreqlt : d.get F.SPAD_OPSET_REQ pc < 2 := d.get_lt ..
  generalize hcurs : d.get F.SPAD_OPSET_CUR pc = cur at *
  have hcur : ((d.set F.SPAD_OPSET_CUR (1 - cur) pc).set F.SPAD_OPSET_SWITCHING 0 pc).get F.SPAD_OPSET_CUR pc = 1 - cur := by
    rw [Dev.get_set_disjoint _ F.SPAD_OPSET_SWITCHING F.SPAD_OPSET_CUR 0 pc 0 rfl (by decide) (by decide) (by decide),
      Dev.get_set_same d F.SPAD_OPSET_CUR _ pc 0 (by decide) (by decide)]
    exact Nat.mod_eq_of_lt (show 1 - cur < 2 by omega)
  have hreq : ((d.set F.SPAD_OPSET_CUR (1 - cur) pc).set F.SPAD_OPSET_SWITCHING 0 pc).get F.SPAD_OPSET_REQ pc = d.get F.SPAD_OPSET_REQ pc := by
    rw [Dev.get_set_disjoint _ F.SPAD_OPSET_SWITCHING F.SPAD_OPSET_REQ 0 pc 0 rfl (by decide) (by decide) (by decide),
      Dev.get_set_disjoint d F.SPAD_OPSET_CUR F.SPAD_OPSET_REQ _ pc 0 rfl (by decide) (by decide) (by decide)]
  have hsw := Dev.bit_set_same (d.set F.SPAD_OPSET_CUR (1 - cur) pc) F.SPAD_OPSET_SWITCHING 0 pc 0
  have hset := (OpsetOnly.set pc d F.SPAD_OPSET_CUR (1 - cur)).trans (.set pc _ F.SPAD_OPSET_SWITCHING 0)
  obtain ⟨hreq', hcur', hsw', honly⟩ := ((d.set F.SPAD_OPSET_CUR (1 - cur) pc).set F.SPAD_OPSET_SWITCHING 0 pc).opsetNext_effect pc
  rw [hreq, hcur, hsw, hset.cell] at hsw'
  refine ⟨hcur'.trans hcur, hreq'.trans hreq, hsw'.trans ?_, (hset.trans honly).mem, (hset.trans honly).cells, (hset.trans honly).regs⟩
  have hne : d.get F.SPAD_OPSET_REQ pc ≠ 1 - cur ↔ d.get F.SPAD_OPSET_REQ pc = cur := by omega
  rw [hne]
  exact or_iff_right (by decide)

theorem nearMemorySwitches : NearMemorySwitches := by
  intro m pc v d hon
  exact ⟨.spadNmCtlWrite_takes m hon, .spadNmCtlWrite_ignores m, .opsetSwitch m v hon, .opsetSwitchEnd hon⟩

end Sys2Proof.Machine
end

section
namespace Sys2Proof.Machine

/-! ## What leaves a near-memory unit's command and its registers alone -/

/-- A register of a near-memory unit other than SPAD_OPSET: its enable, its status and its counters. -/
def NmKey (k : Nat) : Prop := k % 2 ^ 12 ∈ [0x508, 0x510, 0x540, 0x548]

theorem nmKey_regKey (base inst item : Nat) (h : base % 2 ^ 12 ∈ [0x508, 0x510, 0x540, 0x548] := by decide) : NmKey (regKey base inst item) := by
  rwa [NmKey, regKey_mod]

theorem not_nmKey (base inst item : Nat) (h : base % 2 ^ 12 ∉ [0x508, 0x510, 0x540, 0x548] := by decide) : ¬ NmKey (regKey base inst item) := by
  rwa [NmKey, regKey_mod]

theorem NmKey.aside {k : Nat} (h : NmKey k) : AsideKey k := by
  simp only [NmKey, AsideKey, asideOffsets, List.mem_cons, List.not_mem_nil, or_false] at *
  omega

/-- The unit's registers and the command under way stand. -/
structure SameNm (pc : Nat) (d d' : Dev) : Prop where
  regs : Keeps NmKey d d'
  nm : (d'.cell pc).nm = (d.cell pc).nm

theorem SameNm.refl (pc : Nat) (d : Dev) : SameNm pc d d := ⟨.refl d, rfl⟩

theorem SameNm.trans {pc : Nat} {a b c : Dev} (h : SameNm pc a b) (h' : SameNm pc b c) : SameNm pc a c := ⟨h.regs.trans h'.regs, h'.nm.trans h.nm⟩

theorem SameNm.ite {pc : Nat} {d a b : Dev} {p : Prop} [Decidable p] (ha : SameNm pc d a) (hb : SameNm pc d b) : SameNm pc d (if p then a else b) := by
  split
  · exact ha
  · exact hb

theorem SameNm.of_cells {d d' : Dev} (pc : Nat) (hregs : Keeps NmKey d d') (h : d'.cells = d.cells) : SameNm pc d d' := ⟨hregs, by rw [Dev.cell, h, Dev.cell]⟩

theorem SameNm.setReg {base : Nat} (pc : Nat) (d : Dev) (inst item v : Nat) (h : base % 2 ^ 12 ∉ [0x508, 0x510, 0x540, 0x548] := by decide) :
    SameNm pc d (d.setReg base inst item v) := .of_cells pc (.setReg d _ _ _ _ (not_nmKey _ _ _ h)) (d.setReg_cells ..)

theorem SameNm.modCell {pc : Nat} (d : Dev) {f : CellState → CellState} (h : (f (d.cell pc)).nm = (d.cell pc).nm) : SameNm pc d (d.modCell pc f) :=
  ⟨.modCell d pc f, by rwa [Dev.cell_modCell_same]⟩

theorem SameNm.reselect (pc : Nat) (d : Dev) : SameNm pc d (d.reselect pc) := .modCell d (congrArg (fun s => s.nm) (d.cell pc).reselect_same)

theorem SameNm.record (pc : Nat) (d : Dev) {event key cls inst sev d0 d1 d2 : Nat} (h : sev ≠ 4) : SameNm pc d (d.record event key cls inst sev d0 d1 d2) :=
  .of_cells pc ((Steady.record pc d h).regs.mono fun _ => NmKey.aside) (Reported.record d h).cells

/-- Waking contexts changes contexts alone. -/
theorem CellState.nm_wakes (l : List Nat) (s : CellState) : (l.foldl (fun s c => s.setCtx c (s.ctx c).wake) s).nm = s.nm := by
  induction l generalizing s with
  | nil => rfl
  | cons c l ih => exact ih _

theorem SameNm.putCounter (pc : Nat) (d : Dev) (n v : Nat) : SameNm pc d (d.putCounter pc n v) := by
  simp only [Dev.putCounter]
  have hctr : SameNm pc d (d.modCell pc (fun s => { s with ctrs := SMap.write 0 s.ctrs n (wOf v) })) := .modCell d rfl
  exact .ite hctr (((hctr.trans (.modCell _ (CellState.nm_wakes _ _))).trans (.setReg pc _ _ _ _)).trans (.reselect pc _))

theorem SameNm.addCounter (pc : Nat) (d : Dev) (n amount : Nat) : SameNm pc d (d.addCounter pc n amount) := by
  simp only [Dev.addCounter]
  exact .ite (((SameNm.setReg pc d _ _ _).trans (.record pc _ (by decide))).trans (.putCounter pc _ _ _)) (.putCounter pc d _ _)

/-! ## The head of a channel of the cell is freed (R173, R218, R220) -/

theorem SameNm.modChan (pc : Nat) (d : Dev) (k : Nat) (f : ChanState → ChanState) : SameNm pc d (d.modChan (.cell pc) k f) :=
  .modCell (f := fun s => { s with chans := SMap.write ChanState.reset s.chans k (f (d.chan (.cell pc) k)) }) d rfl

theorem SameNm.freeHead (pc : Nat) (d : Dev) (k : Nat) : SameNm pc d (d.freeHead (.cell pc) k) := by
  have hrd : ∀ v, SameNm pc d (d.os (.cell pc) k F.CELL_CHAN_PTR_RD F.DEV_OSCH_PTR_RD v) := fun v => .setReg (base := F.CELL_CHAN_PTR_RD.base) pc d _ _ _
  simp only [Dev.freeHead]
  exact (hrd _).trans (.modChan pc _ k _)

theorem SameNm.eatPad (pc : Nat) (d : Dev) (k : Nat) : SameNm pc d (d.eatPad (.cell pc) k) :=
  .ite ((SameNm.freeHead pc d k).trans (.setReg (base := F.CELL_CHAN_PADS.base) pc _ _ _ _)) (.refl pc d)

theorem SameNm.creditCheck (pc : Nat) (d : Dev) (k : Nat) : SameNm pc d (d.creditCheck (.cell pc) k) := by
  have hreturn : SameNm pc d (d.creditReturn (.cell pc) k) := by
    unfold Dev.creditReturn
    split
    · exact .refl pc d
    next w _ =>
      have hsend : ∀ p : PktSpec, SameNm pc d (d.send p) := fun p => ⟨.of_regs rfl, rfl⟩
      exact (hsend _).trans (.modChan pc _ k _)
  exact .ite hreturn (.refl pc d)

theorem SameNm.advance (pc : Nat) (d : Dev) (k : Nat) : SameNm pc d (d.advance (.cell pc) k) :=
  ((SameNm.freeHead pc d k).trans (.eatPad pc _ k)).trans (.creditCheck pc _ k)

/-! ## NM_COMMAND_START (R173, R176, R177) -/

/-- The command that the unit takes from the head of its channel. -/
def Dev.nmTaken (d : Dev) (pc : Nat) : NmCommand :=
  let k := d.get F.SPAD_NM_CTL_CHAN pc
  let b := d.load (d.ringBase (.cell pc) k + d.chanRd (.cell pc) k + 16) 64
  ⟨b, nmResult (d.headLen (.cell pc) k) (d.bit F.SPAD_OPSET_CUR pc) b, false⟩

theorem Does.nmCommandStart {pc : Slot} {d : Dev} (hon : d.domOn pc = true) (hthawed : d.isFrozen pc = false) (hen : d.bit F.SPAD_NM_CTL_EN pc = true)
    (hidle : (d.cell pc).nm = none) (hsw : d.bit F.SPAD_OPSET_SWITCHING pc = false) (hhead : d.hasHead (.cell pc) (d.get F.SPAD_NM_CTL_CHAN pc) = true) :
    Does (.nmCommandStart pc) d (fun d' => d'.bit F.SPAD_NM_STATUS_BUSY pc = true ∧ (d'.cell pc).nm = some (d.nmTaken pc)) := by
  have hstart : d.nmStart pc = ((d.modCell pc (fun s => { s with nm := some (d.nmTaken pc) })).set F.SPAD_NM_STATUS_BUSY 1 pc).advance (.cell pc)
      (d.get F.SPAD_NM_CTL_CHAN pc) := by
    rw [Dev.nmStart, if_neg (by simp [hon, hthawed, hen, hidle, Dev.switching, hsw, hhead])]
    rfl
  refine .of_run (f := fun d => d.nmStart pc) (fun _ => rfl) ?_
  rw [hstart]
  have hadvance := SameNm.advance pc ((d.modCell pc (fun s => { s with nm := some (d.nmTaken pc) })).set F.SPAD_NM_STATUS_BUSY 1 pc) (d.get F.SPAD_NM_CTL_CHAN pc)
  refine ⟨(hadvance.regs.bit _ (nmKey_regKey _ _ _)).trans (Dev.bit_set_same _ F.SPAD_NM_STATUS_BUSY 1 pc 0), hadvance.nm.trans ?_⟩
  rw [Dev.set, Dev.cell_setReg, Dev.cell_modCell_same]

end Sys2Proof.Machine
end

section
namespace Sys2Proof.Machine

/-! ## NM_COMMAND_END (R177, R179) -/

/-- The unit is between commands, and its status shows the last one's operation and result. -/
def Dev.nmClose (d : Dev) (pc : Nat) (c : NmCommand) : Dev :=
  (((d.modCell pc (fun s => { s with nm := none })).set F.SPAD_NM_STATUS_BUSY 0 pc).set F.SPAD_NM_STATUS_LAST_OP (nmOp c.bytes) pc).set
    F.SPAD_NM_STATUS_LAST_RESULT c.result pc

/-- A command is counted, and one that was refused also as such. -/
def Dev.nmTally (d : Dev) (pc result : Nat) : Dev :=
  if result = 0 then d.count F.SPAD_NM_CMDS pc else (d.count F.SPAD_NM_CMDS pc).count F.SPAD_NM_REFUSED pc

/-- TAG and the result are written and DONE_CTR is posted, or neither and a record is made. -/
def Dev.nmPost (d : Dev) (pc : Nat) (c : NmCommand) : Dev :=
  let b := c.bytes
  if nmStatusOk b then
    let d := d.store (sliceBase pc + nmF b 0x28 4) ((b.drop 0x30).take 8 ++ leBytes 8 c.result)
    if nmF b 2 1 ≤ 191 then d.addCounter pc (nmF b 2 1) 1 else d
  else d.record 0x0143 (nmOp b) 2 pc 0 (nmF b 0x30 8)

theorem Dev.nmEnd_eq {d : Dev} {pc : Nat} {c : NmCommand} (h : NmHas d pc c) (hdone : c.result ≠ 0 ∨ c.performed = true) :
    d.nmEnd pc = (((d.nmClose pc c).nmTally pc c.result).nmPost pc c).opsetNext pc := by
  obtain ⟨hon, hthawed, hnm, -⟩ := h
  have hguard : (c.result = 0 && !c.performed || d.isFrozen pc || !d.domOn pc) = false := by
    rcases hdone with h | h <;> simp [hon, hthawed, h]
  simp only [Dev.nmEnd, hnm, hguard, Bool.false_eq_true, if_false]
  rfl

section
variable (d : Dev) (pc : Nat) (c : NmCommand)

theorem Dev.nmClose_status : (d.nmClose pc c).bit F.SPAD_NM_STATUS_BUSY pc = false ∧
    (d.nmClose pc c).get F.SPAD_NM_STATUS_LAST_RESULT pc = c.result % 2 ^ 8 := by
  constructor
  · rw [Dev.nmClose, Dev.bit_set_disjoint _ F.SPAD_NM_STATUS_LAST_RESULT F.SPAD_NM_STATUS_BUSY, Dev.bit_set_disjoint _ F.SPAD_NM_STATUS_LAST_OP F.SPAD_NM_STATUS_BUSY,
      Dev.bit_set_same _ F.SPAD_NM_STATUS_BUSY]
    rfl
  · exact Dev.get_set_same _ F.SPAD_NM_STATUS_LAST_RESULT c.result pc 0 (by decide) (by decide)

theorem Dev.nmClose_stands : (d.nmClose pc c).mem = d.mem ∧ ((d.nmClose pc c).cell pc).nm = none ∧ (∀ n, (d.nmClose pc c).counter pc n = d.counter pc n) ∧
    ∀ {base : Nat}, base % 2 ^ 12 ≠ 0x510 → (d.nmClose pc c).reg base pc = d.reg base pc := by
  have hcells : (d.nmClose pc c).cells = (d.modCell pc (fun s => { s with nm := none })).cells := by simp only [Dev.nmClose, Dev.set_cells]
  have hcell : (d.nmClose pc c).cell pc = { d.cell pc with nm := none } := by rw [Dev.cell, hcells, ← Dev.cell, Dev.cell_modCell_same]
  refine ⟨?_, by rw [hcell], fun n => by rw [Dev.counter, hcell, Dev.counter], fun hbase => ?_⟩
  · simp only [Dev.nmClose, Dev.set_mem]
    rfl
  · rw [Dev.nmClose]
    simp only [Dev.set]
    rw [Dev.reg_setReg_other _ _ (regKey_ne hbase _ _ _ _), Dev.reg_setReg_other _ _ (regKey_ne hbase _ _ _ _), Dev.reg_setReg_other _ _ (regKey_ne hbase _ _ _ _)]
    rfl

theorem Dev.nmTally_counts (result : Nat) : Counted d (d.nmTally pc result) F.SPAD_NM_CMDS pc ∧
    (result ≠ 0 → Counted d (d.nmTally pc result) F.SPAD_NM_REFUSED pc) := by
  rw [Dev.nmTally]
  split
  next h => exact ⟨.count d _ _, fun hne => absurd h hne⟩
  next => exact ⟨(Counted.count d _ _).then (Dev.reg_count_other _ _ (by decide) _ _ _ _ _),
      fun _ => (Counted.count _ F.SPAD_NM_REFUSED pc).before (Dev.reg_count_other _ _ (by decide) _ _ _ _ _)⟩

theorem Dev.nmTally_stands (result : Nat) : (d.nmTally pc result).mem = d.mem ∧ (d.nmTally pc result).cells = d.cells ∧
    ∀ {base : Nat}, base % 2 ^ 12 ≠ 0x540 → base % 2 ^ 12 ≠ 0x548 → (d.nmTally pc result).reg base pc = d.reg base pc := by
  rw [Dev.nmTally]
  split
  · exact ⟨d.count_mem .., d.count_cells .., fun h _ => Dev.reg_count_other d F.SPAD_NM_CMDS h _ _ _ _ _⟩
  · exact ⟨by simp only [Dev.count_mem], by simp only [Dev.count_cells],
      fun h h' => (Dev.reg_count_other _ F.SPAD_NM_REFUSED h' _ _ _ _ _).trans (Dev.reg_count_other d F.SPAD_NM_CMDS h _ _ _ _ _)⟩

theorem SameNm.nmPost : SameNm pc d (d.nmPost pc c) := by
  have hstore : SameNm pc d (d.store (sliceBase pc + nmF c.bytes 0x28 4) ((c.bytes.drop 0x30).take 8 ++ leBytes 8 c.result)) := ⟨.of_regs rfl, rfl⟩
  exact .ite (.ite (hstore.trans (.addCounter pc _ _ 1)) hstore) (.record pc d (by decide))

/-- With a good STATUS_OFF, TAG and the result are stored, and DONE_CTR counts one, if it may be posted (R177). -/
theorem Dev.nmPost_writes (h : nmStatusOk c.bytes = true) :
    (d.nmPost pc c).mem = (d.store (sliceBase pc + nmF c.bytes 0x28 4) ((c.bytes.drop 0x30).take 8 ++ leBytes 8 c.result)).mem ∧
    ∀ n, (d.nmPost pc c).counter pc n = if nmF c.bytes 2 1 ≤ 191 ∧ n = nmF c.bytes 2 1 then min (d.counter pc n + 1) (2 ^ 64 - 1) else d.counter pc n := by
  simp only [Dev.nmPost, h, if_true]
  split
  next hctr =>
    have hpost := Posted.addCounter (d.store (sliceBase pc + nmF c.bytes 0x28 4) ((c.bytes.drop 0x30).take 8 ++ leBytes 8 c.result)) pc (nmF c.bytes 2 1) 1
    refine ⟨hpost.mem, fun n => (hpost.counter n).trans ?_⟩
    by_cases hn : n = nmF c.bytes 2 1
    · rw [if_pos hn, if_pos ⟨hctr, hn⟩, hn]
      rfl
    · rw [if_neg hn, if_neg fun hand => hn hand.2]
      rfl
  next hctr => exact ⟨rfl, fun n => (if_neg fun hand => hctr hand.1).symm⟩

/-- Else neither, and a record is made. -/
theorem Dev.nmPost_records (h : nmStatusOk c.bytes = false) : (d.nmPost pc c).mem = d.mem ∧ (d.nmPost pc c).cells = d.cells := by
  simp only [Dev.nmPost, h, Bool.false_eq_true, if_false]
  exact ⟨(Reported.record d (by decide)).mem, (Reported.record d (by decide)).cells⟩

/-- A switch that starts is of no concern to the unit's command and its counts. -/
theorem SameNm.opsetNext : SameNm pc d (d.opsetNext pc) := by
  obtain ⟨-, -, -, honly⟩ := d.opsetNext_effect pc
  refine .of_cells pc ⟨fun hk => honly.regs _ _ _ fun hmem => ?_⟩ honly.cells
  rw [List.mem_singleton.1 hmem] at hk
  exact not_nmKey _ _ _ (by decide) hk

end

/-- The unit is idle, shows the result, and has counted the command. -/
def Dev.nmIdle (d : Dev) (pc : Nat) (c : NmCommand) : Dev := (d.nmClose pc c).nmTally pc c.result

theorem Dev.nmIdle_stands (d : Dev) (pc : Nat) (c : NmCommand) :
    (d.nmIdle pc c).mem = d.mem ∧ ((d.nmIdle pc c).cell pc).nm = none ∧ ∀ n, (d.nmIdle pc c).counter pc n = d.counter pc n := by
  obtain ⟨hmem, hnm, hctr, -⟩ := d.nmClose_stands pc c
  obtain ⟨hmem', hcells, -⟩ := (d.nmClose pc c).nmTally_stands pc c.result
  exact ⟨hmem'.trans hmem, by rw [Dev.nmIdle, Dev.cell, hcells, ← Dev.cell, hnm], fun n => (Dev.counter_of_cells hcells pc n).trans (hctr n)⟩

theorem Dev.nmIdle_shows (d : Dev) (pc : Nat) {c : NmCommand} (h : c.result ≤ 4) :
    (d.nmIdle pc c).bit F.SPAD_NM_STATUS_BUSY pc = false ∧ (d.nmIdle pc c).get F.SPAD_NM_STATUS_LAST_RESULT pc = c.result ∧
    Counted d (d.nmIdle pc c) F.SPAD_NM_CMDS pc ∧ (c.result ≠ 0 → Counted d (d.nmIdle pc c) F.SPAD_NM_REFUSED pc) := by
  obtain ⟨hbusy, hlast⟩ := d.nmClose_status pc c
  obtain ⟨-, -, -, hreg⟩ := d.nmClose_stands pc c
  obtain ⟨-, -, hreg'⟩ := (d.nmClose pc c).nmTally_stands pc c.result
  obtain ⟨hcmds, hrefused⟩ := (d.nmClose pc c).nmTally_counts pc c.result
  have hstatus : (d.nmIdle pc c).reg F.SPAD_NM_STATUS.base pc = (d.nmClose pc c).reg F.SPAD_NM_STATUS.base pc := hreg' (by decide) (by decide)
  refine ⟨?_, ?_, hcmds.before (hreg (by decide)), fun hne => (hrefused hne).before (hreg (by decide))⟩
  · rw [Dev.bit, Dev.get, hstatus]
    exact hbusy
  · rw [Dev.get, hstatus]
    exact hlast.trans (Nat.mod_eq_of_lt (by omega))

/-- The bytes of TAG and the result. -/
theorem nmStatus_length {d : Dev} {pc : Nat} {c : NmCommand} (h : NmHas d pc c) : ((c.bytes.drop 0x30).take 8 ++ leBytes 8 c.result).length = 16 := by
  obtain ⟨-, -, -, hlen⟩ := h
  rw [List.length_append, List.length_take, List.length_drop, hlen, leBytes_length]
  rfl

theorem Does.nmCommandEnd {pc : Slot} {d : Dev} {c : NmCommand} (h : NmHas d pc c) (hdone : c.result ≠ 0 ∨ c.performed = true) (hresult : c.result ≤ 4) :
    Does (.nmCommandEnd pc) d (fun d' =>
      (d'.cell pc).nm = none ∧ d'.bit F.SPAD_NM_STATUS_BUSY pc = false ∧ d'.get F.SPAD_NM_STATUS_LAST_RESULT pc = c.result ∧
      Counted d d' F.SPAD_NM_CMDS pc ∧ (c.result ≠ 0 → Counted d d' F.SPAD_NM_REFUSED pc) ∧
      (nmStatusOk c.bytes = true → Memory.read d'.mem (sliceBase pc + nmF c.bytes 0x28 4) 16 = (c.bytes.drop 0x30).take 8 ++ leBytes 8 c.result ∧
        BytesStand d d' (sliceBase pc + nmF c.bytes 0x28 4) 16) ∧ (nmStatusOk c.bytes = false → d'.mem = d.mem) ∧
      ∀ n, d'.counter pc n = if nmStatusOk c.bytes = true ∧ nmF c.bytes 2 1 ≤ 191 ∧ n = nmF c.bytes 2 1 then min (d.counter pc n + 1) (2 ^ 64 - 1)
        else d.counter pc n) := by
  refine .of_run (f := fun d => d.nmEnd pc) (fun _ => rfl) ?_
  rw [Dev.nmEnd_eq h hdone, ← Dev.nmIdle]
  obtain ⟨hmem, hnm, hctr⟩ := d.nmIdle_stands pc c
  obtain ⟨hbusy, hlast, hcmds, hrefused⟩ := d.nmIdle_shows pc hresult
  have hwrites := (d.nmIdle pc c).nmPost_writes pc c
  have hrecords := (d.nmIdle pc c).nmPost_records pc c
  have hsame := (SameNm.nmPost (d.nmIdle pc c) pc c).trans (.opsetNext _ pc)
  obtain ⟨-, -, -, hswitch⟩ := ((d.nmIdle pc c).nmPost pc c).opsetNext_effect pc
  have hctr' : ∀ n, (((d.nmIdle pc c).nmPost pc c).opsetNext pc).counter pc n = ((d.nmIdle pc c).nmPost pc c).counter pc n := Dev.counter_of_cells hswitch.cells pc
  refine ⟨hsame.nm.trans hnm, (hsame.regs.bit _ (nmKey_regKey _ _ _)).trans hbusy, (hsame.regs.get _ (nmKey_regKey _ _ _)).trans hlast,
    hcmds.then (hsame.regs.reg (nmKey_regKey _ _ _)), fun hne => (hrefused hne).then (hsame.regs.reg (nmKey_regKey _ _ _)), fun hok => ?_,
    fun hbad => hswitch.mem.trans ((hrecords hbad).1.trans hmem), fun n => (hctr' n).trans ?_⟩
  · have hstore := (hswitch.mem.trans (hwrites hok).1).trans (congrArg (fun m => Memory.write m _ _) hmem)
    have hstand := BytesStand.store d (sliceBase pc + nmF c.bytes 0x28 4) ((c.bytes.drop 0x30).take 8 ++ leBytes 8 c.result)
    rw [(nmStatus_length h)] at hstand
    refine ⟨?_, hstand.trans (.of_mem hstore _ _)⟩
    rw [hstore]
    exact d.load_store_same _ _ (nmStatus_length h)
  · cases hok : nmStatusOk c.bytes with
    | true =>
      rw [(hwrites hok).2, hctr]
      simp only [true_and]
    | false =>
      rw [Dev.counter_of_cells (hrecords hok).2, hctr, if_neg fun hand => Bool.false_ne_true hand.1]

end Sys2Proof.Machine
end

section
namespace Sys2Proof.Machine

/-! ## Bytes of a store, one by one -/

theorem Memory.getD_read (m : List (Nat × Byte)) (a : Nat) {n i : Nat} (h : i < n) : (Memory.read m a n).getD i 0 = Memory.byte m (a + i) := by
  induction n generalizing a i with
  | zero => omega
  | succ n ih =>
    cases i with
    | zero => rfl
    | succ i =>
      rw [Memory.read, List.getD_cons_succ, ih _ (by omega)]
      congr 1
      omega

theorem Memory.byte_write_inside (m : List (Nat × Byte)) (a : Nat) {bs : List Byte} {i : Nat} (h : i < bs.length) :
    Memory.byte (Memory.write m a bs) (a + i) = bs.getD i 0 := by
  rw [← Memory.getD_read _ a h, Memory.read_write_same]

/-- A pattern, repeated, shows the pattern's byte at each place. -/
theorem getD_flatten_replicate (p : List Byte) {k i : Nat} (h : i < k * p.length) : (List.replicate k p).flatten.getD i 0 = p.getD (i % p.length) 0 := by
  induction k generalizing i with
  | zero => omega
  | succ k ih =>
    rw [List.replicate_succ, List.flatten_cons]
    by_cases hi : i < p.length
    · rw [List.getD_append _ _ _ _ hi, Nat.mod_eq_of_lt hi]
    · rw [Nat.succ_mul] at h
      rw [List.getD_append_right _ _ _ _ (by omega), ih (by omega), ← Nat.mod_eq_sub_mod (by omega)]

/-! ## Copies of equal size, one after the other -/

/-- `n` copies of `e` bytes: the i-th from `src i` to `dst i`. -/
def Dev.copies (d : Dev) (src dst : Nat → Nat) (e n : Nat) : Dev := (List.range n).foldl (fun d i => d.copyMem (src i) (dst i) e) d

section
variable (d : Dev) (src dst : Nat → Nat) (e n : Nat)

theorem Dev.copies_succ : d.copies src dst e (n + 1) = (d.copies src dst e n).copyMem (src n) (dst n) e := by
  rw [Dev.copies, List.range_succ, List.foldl_append, List.foldl_cons, List.foldl_nil, Dev.copies]

/-- Copies are storage alone. -/
theorem Dev.copies_frame : (d.copies src dst e n).cells = d.cells ∧ (d.copies src dst e n).regs = d.regs := by
  induction n with
  | zero => exact ⟨rfl, rfl⟩
  | succ n ih =>
    rw [Dev.copies_succ]
    exact ih

variable {d src dst e n}

/-- A byte that is in no destination stands. -/
theorem Dev.copies_outside {x : Nat} (h : ∀ i < n, x < dst i ∨ dst i + e ≤ x) : Memory.byte (d.copies src dst e n).mem x = Memory.byte d.mem x := by
  induction n with
  | zero => rfl
  | succ n ih =>
    rw [Dev.copies_succ, Dev.copyMem, Memory.byte_copy, if_neg (by have := h n (by omega); omega)]
    exact ih fun i hi => h i (by omega)

/-- Where no destination meets a source or another destination, each destination holds what its source held at first. -/
theorem Dev.copies_inside (hsrc : ∀ i < n, ∀ j < n, src i + e ≤ dst j ∨ dst j + e ≤ src i) (hdst : ∀ i < n, ∀ j < n, i ≠ j → dst i + e ≤ dst j ∨ dst j + e ≤ dst i)
    {i k : Nat} (hi : i < n) (hk : k < e) : Memory.byte (d.copies src dst e n).mem (dst i + k) = Memory.byte d.mem (src i + k) := by
  induction n with
  | zero => omega
  | succ n ih =>
    rw [Dev.copies_succ, Dev.copyMem, Memory.byte_copy]
    by_cases hin : i = n
    · subst hin
      have hplace : dst i + k - dst i + src i = src i + k := by omega
      rw [if_pos (by omega), hplace]
      exact Dev.copies_outside fun j hj => by have := hsrc i hi j (by omega); omega
    · rw [if_neg (by have := hdst i hi n (by omega) hin; omega)]
      exact ih (fun i hi j hj => hsrc i (by omega) j (by omega)) (fun i hi j hj => hdst i (by omega) j (by omega)) (by omega)

end

end Sys2Proof.Machine
end

section
namespace Sys2Proof.Machine

/-! ## A passed command acts (R175, R176) -/

/-- The command has been performed; beside storage only the cell's unit has changed. -/
def NmActed (d d' : Dev) (pc : Nat) (c : NmCommand) : Prop :=
  (d'.cell pc).nm = some { c with performed := true } ∧ CellsStand d d' pc ∧ d'.regs = d.regs

/-- The device after an operation: `d1` is the device with its bytes written. -/
def Dev.nmActed (d1 : Dev) (pc : Nat) (c : NmCommand) : Dev := d1.modCell pc (fun s => { s with nm := some { c with performed := true } })

theorem NmActed.nmActed {d d1 : Dev} (hcells : d1.cells = d.cells) (hregs : d1.regs = d.regs) (pc : Nat) (c : NmCommand) : NmActed d (d1.nmActed pc c) pc c :=
  ⟨congrArg (fun s => s.nm) (d1.cell_modCell_same pc _), (CellsStand.of_cells hcells pc).trans (.modCell d1 pc _), hregs⟩

theorem Does.nmPerform {x : Instr} {pc op : Nat} {d : Dev} {c : NmCommand} {f : Dev → List Byte → Dev} {post : Dev → Prop} (h : NmReady d pc c op)
    (hexec : ∀ s, exec x s = s.run (fun d => d.nmPerform pc op f)) (hp : post ((f d c.bytes).nmActed pc c)) : Does x d post := by
  obtain ⟨⟨hon, hthawed, hnm, -⟩, hresult, hperformed, hop, -, -, -⟩ := h
  have hperform : d.nmPerform pc op f = (f d c.bytes).nmActed pc c := by
    simp only [Dev.nmPerform, hnm]
    rw [if_neg (by simp [hresult, hperformed, hop, hthawed, hon])]
    rfl
  exact .of_run hexec (hperform ▸ hp)

/-- An operation of set A takes whole lines. -/
theorem nmFieldsOk_lines {b : List Byte} (hop : nmOp b = 0x01 ∨ nmOp b = 0x02) (h : nmFieldsOk b = true) : nmF b 0x0C 4 % 64 = 0 := by
  rcases hop with hop | hop
  · simp [nmFieldsOk, nmSetB, hop] at h
    omega
  · simp [nmFieldsOk, nmSetB, hop] at h
    omega

/-- Where the source has bytes, it lies wholly on one side of the destination (R176). -/
theorem nmOverlap_apart {b : List Byte} (h : nmOverlap b = false) (hsrc : 0 < nmSrcSpan b) :
    nmF b 8 4 + nmSrcSpan b ≤ nmF b 4 4 ∨ nmF b 4 4 + nmDstSpan b ≤ nmF b 8 4 := by
  simp only [nmOverlap, hsrc, decide_true, Bool.true_and, Bool.and_eq_false_iff, decide_eq_false_iff_not] at h
  omega

theorem nmE_pos (b : List Byte) : 0 < nmE b := Nat.two_pow_pos _

section
variable {pc : Slot} {d : Dev} {c : NmCommand}

theorem Does.nmFill (h : NmReady d pc c 0x01) : Does (.nmFill pc) d (fun d' => NmActed d d' pc c ∧
    BytesStand d d' (sliceBase pc + nmF c.bytes 4 4) (nmF c.bytes 0x0C 4) ∧
    ∀ i < nmF c.bytes 0x0C 4, Memory.byte d'.mem (sliceBase pc + nmF c.bytes 4 4 + i) = c.bytes.getD (0x10 + i % 8) 0) := by
  refine .nmPerform h (fun _ => rfl) ?_
  obtain ⟨⟨-, -, -, hbytes⟩, -, -, hop, hfields, -, -⟩ := h
  have hlines := nmFieldsOk_lines (.inl hop) hfields
  have hpat : ((c.bytes.drop 0x10).take 8).length = 8 := by rw [List.length_take, List.length_drop, hbytes]; rfl
  have hlen : ((List.replicate (nmF c.bytes 0x0C 4 / 8) ((c.bytes.drop 0x10).take 8)).flatten).length = nmF c.bytes 0x0C 4 := by
    rw [List.length_flatten, List.map_replicate, List.sum_replicate, hpat, smul_eq_mul]
    omega
  refine ⟨.nmActed rfl rfl pc c, ?_, fun i hi => ?_⟩
  · exact (hlen ▸ BytesStand.store d _ _).trans (.of_mem rfl _ _)
  · refine (Memory.byte_write_inside d.mem _ (by rwa [hlen])).trans ?_
    rw [getD_flatten_replicate _ (by rw [hpat]; omega), hpat, List.getD_eq_getElem?_getD, List.getElem?_take_of_lt (by omega), List.getElem?_drop,
      ← List.getD_eq_getElem?_getD]

theorem Does.nmCopy (h : NmReady d pc c 0x02) : Does (.nmCopy pc) d (fun d' => NmActed d d' pc c ∧
    BytesStand d d' (sliceBase pc + nmF c.bytes 4 4) (nmF c.bytes 0x0C 4) ∧
    ∀ i < nmF c.bytes 0x0C 4, Memory.byte d'.mem (sliceBase pc + nmF c.bytes 4 4 + i) = Memory.byte d.mem (sliceBase pc + nmF c.bytes 8 4 + i)) := by
  refine .nmPerform h (fun _ => rfl) ⟨.nmActed rfl rfl pc c, fun x hx => ?_, fun i hi => ?_⟩
  · exact (Memory.byte_copy ..).trans (if_neg (by omega))
  · refine (Memory.byte_copy ..).trans ((if_pos (by omega)).trans (congrArg _ ?_))
    omega

/-- The element at a place of a row of `n` lies in the row. -/
theorem row_bound {i n e : Nat} (h : i < n) : i * e + e ≤ n * e := by
  rw [← Nat.succ_mul]
  exact Nat.mul_le_mul_right e h

theorem Does.nmStrided (h : NmReady d pc c 0x11) : Does (.nmStrided pc) d (fun d' => NmActed d d' pc c ∧
    BytesStand d d' (sliceBase pc + nmF c.bytes 4 4) (nmF c.bytes 0x18 4 * nmE c.bytes) ∧
    ∀ n < nmF c.bytes 0x18 4, ∀ i < nmE c.bytes, Memory.byte d'.mem (sliceBase pc + nmF c.bytes 4 4 + n * nmE c.bytes + i) =
      Memory.byte d.mem (sliceBase pc + nmF c.bytes 8 4 + n * nmF c.bytes 0x1C 4 + i)) := by
  refine .nmPerform h (fun _ => rfl) ?_
  obtain ⟨-, -, -, hop, -, -, hover⟩ := h
  have he := nmE_pos c.bytes
  have hsrcSpan : nmSrcSpan c.bytes = (nmF c.bytes 0x18 4 - 1) * nmF c.bytes 0x1C 4 + nmE c.bytes := by simp only [nmSrcSpan, hop]
  have hdstSpan : nmDstSpan c.bytes = nmF c.bytes 0x18 4 * nmE c.bytes := by simp only [nmDstSpan, hop]
  have hapart := nmOverlap_apart hover (by omega)
  rw [hsrcSpan, hdstSpan] at hapart
  have hsrc : ∀ i < nmF c.bytes 0x18 4, i * nmF c.bytes 0x1C 4 ≤ (nmF c.bytes 0x18 4 - 1) * nmF c.bytes 0x1C 4 := fun i hi => Nat.mul_le_mul_right _ (by omega)
  have hdst : ∀ {i k : Nat}, i < k → i * nmE c.bytes + nmE c.bytes ≤ k * nmE c.bytes := row_bound
  obtain ⟨hcells, hregs⟩ := d.copies_frame (fun n => sliceBase pc + nmF c.bytes 8 4 + n * nmF c.bytes 0x1C 4)
    (fun n => sliceBase pc + nmF c.bytes 4 4 + n * nmE c.bytes) (nmE c.bytes) (nmF c.bytes 0x18 4)
  refine ⟨.nmActed hcells hregs pc c, fun x hx => ?_, fun n hn i hi => ?_⟩
  · exact Dev.copies_outside fun i hi => by have := hdst hi; omega
  · refine Dev.copies_inside (fun i hi j hj => ?_) (fun i hi j hj hne => ?_) hn hi
    · have := hsrc i hi
      have := hdst hj
      omega
    · rcases Nat.lt_or_gt_of_ne hne with hlt | hlt
      · have := hdst hlt
        omega
      · have := hdst hlt
        omega

end

end Sys2Proof.Machine
end

section
namespace Sys2Proof.Machine

/-! ## TRANSPOSE (R175, R176) -/

/-- The shape of a transposition: `rows` of `cols` elements of `e` bytes, read at `stride` from `src` and written at `pitch` from `dst`. -/
structure NmShape where
  src : Nat
  dst : Nat
  rows : Nat
  cols : Nat
  stride : Nat
  pitch : Nat
  e : Nat

/-- The shape that a command gives (Table 05-4). -/
def nmShape (pc : Nat) (b : List Byte) : NmShape :=
  ⟨sliceBase pc + nmF b 8 4, sliceBase pc + nmF b 4 4, nmF b 0x18 4, nmF b 0x20 4, nmF b 0x1C 4, nmF b 0x24 4, nmE b⟩

/-- Where element i of the source lies, and where it goes. -/
def NmShape.from (t : NmShape) (i : Nat) : Nat := t.src + i / t.cols * t.stride + i % t.cols * t.e

def NmShape.to (t : NmShape) (i : Nat) : Nat := t.dst + i % t.cols * t.pitch + i / t.cols * t.e

/-- A shape that R176 takes: the rows of the destination do not meet, and the source lies on one side of the destination. -/
structure NmShape.ok (t : NmShape) : Prop where
  fits : t.rows * t.e ≤ t.pitch
  apart : t.src + ((t.rows - 1) * t.stride + t.cols * t.e) ≤ t.dst ∨ t.dst + ((t.cols - 1) * t.pitch + t.rows * t.e) ≤ t.src

theorem nmShape_ok {d : Dev} {pc : Nat} {c : NmCommand} (h : NmReady d pc c 0x12) : (nmShape pc c.bytes).ok := by
  obtain ⟨-, -, -, hop, hfields, hrange, hover⟩ := h
  have hcols : 1 ≤ nmF c.bytes 0x20 4 := by
    simp [nmFieldsOk, nmSetB, hop] at hfields
    omega
  have hfits : nmF c.bytes 0x18 4 * nmE c.bytes ≤ nmF c.bytes 0x24 4 := by
    simp [nmRangeOk, hop] at hrange
    omega
  have hsrcSpan : nmSrcSpan c.bytes = (nmF c.bytes 0x18 4 - 1) * nmF c.bytes 0x1C 4 + nmF c.bytes 0x20 4 * nmE c.bytes := by simp only [nmSrcSpan, hop]
  have hdstSpan : nmDstSpan c.bytes = (nmF c.bytes 0x20 4 - 1) * nmF c.bytes 0x24 4 + nmF c.bytes 0x18 4 * nmE c.bytes := by simp only [nmDstSpan, hop]
  have hpos : 0 < nmF c.bytes 0x20 4 * nmE c.bytes := Nat.mul_pos hcols (nmE_pos _)
  have hapart := nmOverlap_apart hover (by omega)
  rw [hsrcSpan, hdstSpan] at hapart
  refine ⟨hfits, ?_⟩
  simp only [nmShape]
  omega

section
variable {t : NmShape}

/-- An index is its row and its column. -/
theorem NmShape.index {i : Nat} (h : i < t.rows * t.cols) : i / t.cols < t.rows ∧ i % t.cols < t.cols := by
  have hcols : 0 < t.cols := Nat.pos_of_ne_zero fun h0 => by rw [h0] at h; omega
  exact ⟨Nat.div_lt_of_lt_mul (Nat.mul_comm .. ▸ h), Nat.mod_lt _ hcols⟩

theorem NmShape.to_row {i : Nat} (h : i < t.rows * t.cols) : t.to i + t.e ≤ t.dst + i % t.cols * t.pitch + t.rows * t.e := by
  have := row_bound (e := t.e) (t.index h).1
  simp only [NmShape.to]
  omega

variable (hok : t.ok)
include hok

theorem NmShape.to_apart {i j : Nat} (hi : i < t.rows * t.cols) (hj : j < t.rows * t.cols) (hne : i ≠ j) : t.to i + t.e ≤ t.to j ∨ t.to j + t.e ≤ t.to i := by
  have later : ∀ {i j : Nat}, i < t.rows * t.cols → i % t.cols < j % t.cols → t.to i + t.e ≤ t.to j := fun {i j} hi hlt => by
    have hrow := t.to_row hi
    have hpitch := row_bound (e := t.pitch) hlt
    have hfits := hok.fits
    simp only [NmShape.to] at hrow ⊢
    omega
  have below : ∀ {i j : Nat}, i % t.cols = j % t.cols → i / t.cols < j / t.cols → t.to i + t.e ≤ t.to j := fun {i j} heq hlt => by
    have hrow := row_bound (e := t.e) hlt
    simp only [NmShape.to, heq]
    omega
  rcases Nat.lt_trichotomy (i % t.cols) (j % t.cols) with hlt | heq | hlt
  · exact .inl (later hi hlt)
  · have hdiv : i / t.cols ≠ j / t.cols := fun hdiv => hne (by rw [← Nat.div_add_mod i t.cols, ← Nat.div_add_mod j t.cols, hdiv, heq])
    exact (Nat.lt_or_gt_of_ne hdiv).imp (below heq) (below heq.symm)
  · exact .inr (later hj hlt)

theorem NmShape.from_apart {i j : Nat} (hi : i < t.rows * t.cols) (hj : j < t.rows * t.cols) : t.from i + t.e ≤ t.to j ∨ t.to j + t.e ≤ t.from i := by
  obtain ⟨hrow, hcol⟩ := t.index hi
  obtain ⟨-, hcol'⟩ := t.index hj
  have hto := t.to_row hj
  have hstride : i / t.cols * t.stride ≤ (t.rows - 1) * t.stride := Nat.mul_le_mul_right _ (by omega)
  have hpitch : j % t.cols * t.pitch ≤ (t.cols - 1) * t.pitch := Nat.mul_le_mul_right _ (by omega)
  have helem := row_bound (e := t.e) hcol
  have hside := hok.apart
  simp only [NmShape.from, NmShape.to] at *
  omega

end

theorem Does.nmTranspose {pc : Slot} {d : Dev} {c : NmCommand} (h : NmReady d pc c 0x12) : Does (.nmTranspose pc) d (fun d' => NmActed d d' pc c ∧
    (∀ r < nmF c.bytes 0x18 4, ∀ k < nmF c.bytes 0x20 4, ∀ i < nmE c.bytes,
      Memory.byte d'.mem (sliceBase pc + nmF c.bytes 4 4 + k * nmF c.bytes 0x24 4 + r * nmE c.bytes + i) =
        Memory.byte d.mem (sliceBase pc + nmF c.bytes 8 4 + r * nmF c.bytes 0x1C 4 + k * nmE c.bytes + i)) ∧
    ∀ x, (∀ k < nmF c.bytes 0x20 4, x < sliceBase pc + nmF c.bytes 4 4 + k * nmF c.bytes 0x24 4 ∨
        sliceBase pc + nmF c.bytes 4 4 + k * nmF c.bytes 0x24 4 + nmF c.bytes 0x18 4 * nmE c.bytes ≤ x) →
      Memory.byte d'.mem x = Memory.byte d.mem x) := by
  refine .nmPerform h (fun _ => rfl) ?_
  have hok := nmShape_ok h
  obtain ⟨hcells, hregs⟩ := d.copies_frame (nmShape pc c.bytes).from (nmShape pc c.bytes).to (nmE c.bytes) (nmF c.bytes 0x18 4 * nmF c.bytes 0x20 4)
  refine ⟨.nmActed hcells hregs pc c, fun r hr k hk i hi => ?_, fun x hx => ?_⟩
  · have hindex : r * nmF c.bytes 0x20 4 + k < nmF c.bytes 0x18 4 * nmF c.bytes 0x20 4 :=
      Nat.lt_of_lt_of_le (by omega) (row_bound (e := nmF c.bytes 0x20 4) hr)
    have hdiv : (r * nmF c.bytes 0x20 4 + k) / nmF c.bytes 0x20 4 = r := by
      rw [Nat.mul_comm, Nat.mul_add_div (by omega), Nat.div_eq_of_lt hk, Nat.add_zero]
    have hmod : (r * nmF c.bytes 0x20 4 + k) % nmF c.bytes 0x20 4 = k := by rw [Nat.mul_comm, Nat.mul_add_mod, Nat.mod_eq_of_lt hk]
    have hcopy := Dev.copies_inside (d := d) (fun i hi j hj => NmShape.from_apart hok hi hj) (fun i hi j hj => NmShape.to_apart hok hi hj) hindex hi
    simp only [NmShape.from, NmShape.to, nmShape, hdiv, hmod] at hcopy
    exact hcopy
  · refine Dev.copies_outside (src := (nmShape pc c.bytes).from) (dst := (nmShape pc c.bytes).to) fun i hi => ?_
    have hrow := (nmShape pc c.bytes).to_row hi
    have hout := hx (i % nmF c.bytes 0x20 4) (NmShape.index (t := nmShape pc c.bytes) hi).2
    simp only [NmShape.to, nmShape] at *
    omega

/-! ## The unit's commands and its operation sets -/

theorem nearMemoryCommands : NearMemoryCommands := by
  intro pc d
  refine ⟨fun hon hthawed hen hidle hsw hhead => ?_, fun c => ⟨.nmFill, .nmCopy, .nmStrided, .nmTranspose, .nmCommandEnd⟩⟩
  exact (Does.nmCommandStart hon hthawed hen hidle hsw hhead).imp fun d' ⟨hbusy, hnm⟩ => ⟨hbusy, d.nmTaken pc, hnm, rfl, rfl, rfl⟩

/-- Settles O34: each command acts where it passes its checks, and a switch of sets runs between commands. -/
theorem nearMemoryUnitsActAndSwitch : Obligations.NearMemoryUnitsActAndSwitch := ⟨nearMemoryCommands, nearMemorySwitches⟩

end Sys2Proof.Machine
end

section
namespace Sys2Proof.Machine

/-! ## A packet sent, and a packet that arrives (R284, R286, R292) -/

/-- Only the registers change, and none of those that say where storage lies. -/
structure TrafficOnly (d d' : Dev) : Prop where
  rest : { d' with regs := d.regs } = d
  regs : Keeps StorageKey d d'

theorem TrafficOnly.refl (d : Dev) : TrafficOnly d d := ⟨rfl, .refl d⟩

theorem TrafficOnly.trans {a b c : Dev} (h : TrafficOnly a b) (h' : TrafficOnly b c) : TrafficOnly a c := by
  refine ⟨?_, h.regs.trans h'.regs⟩
  rw [← h.rest, ← h'.rest]

theorem TrafficOnly.count (d : Dev) {f : Fld} (inst item n : Nat) (h : f.base % 2 ^ 12 ≠ 0x018 ∧ (f.base % 2 ^ 12 < 0x200 ∨ 0x280 ≤ f.base % 2 ^ 12)) :
    TrafficOnly d (d.count f inst item n) := ⟨d.onlyRegs _, .count d _ _ _ _ (not_storageKey _ _ _ h)⟩

theorem TrafficOnly.foldl {α : Type} {f : Dev → α → Dev} (hf : ∀ d a, TrafficOnly d (f d a)) (l : List α) (d : Dev) : TrafficOnly d (l.foldl f d) := by
  induction l generalizing d with
  | nil => exact .refl d
  | cons a l ih => exact (hf d a).trans (ih (f d a))

/-- Counting far-memory traffic (R275). -/
theorem TrafficOnly.farMoved (d : Dev) (cls a n : Nat) : TrafficOnly d (d.farMoved cls a n) := by
  have hfld : ∀ cls, ([F.FAR_BYTES_S, F.FAR_BYTES_U, F.FAR_BYTES_OS].getD cls F.FAR_BYTES_U).base % 2 ^ 12 ∈ [0x110, 0x118, 0x120]
    | 0 | 1 | 2 => by decide
    | _ + 3 => by simp
  simp only [Dev.farMoved]
  split
  · exact .refl d
  · refine .foldl (fun d k => .count d _ _ _ ?_) _ d
    have h := hfld cls
    simp only [List.mem_cons, List.not_mem_nil, or_false] at h
    omega

/-- Counting the bytes of an item (R246, R275). -/
theorem TrafficOnly.countTraffic (d : Dev) (e : Nat) (i : EngItem) (op : EngOp) (x : ItemEnd) : TrafficOnly d (d.countTraffic e i op x) := by
  simp only [Dev.countTraffic]
  exact (TrafficOnly.trans (.count d _ _ _ (by decide)) (.count _ _ _ _ (by decide))).trans (.foldl (fun d y => .farMoved d _ _ _) _ _)

section
variable {d d' : Dev} (h : TrafficOnly d d')
include h

theorem TrafficOnly.mem : d'.mem = d.mem := by rw [← h.rest]
theorem TrafficOnly.cells : d'.cells = d.cells := by rw [← h.rest]
theorem TrafficOnly.net : d'.net = d.net := by rw [← h.rest]
theorem TrafficOnly.engs : d'.engs = d.engs := by rw [← h.rest]
theorem TrafficOnly.remotes : d'.remotes = d.remotes := by rw [← h.rest]

end

/-- On its way a packet changes in its LOCAL bytes alone. -/
theorem Dev.aim_rest (d : Dev) (at' : Nat) (p : Packet) : { d.aim at' p with loc := p.loc } = p := by
  have hloc : ∀ dpc hops esc fwd, { pktSetLoc p dpc hops esc fwd with loc := p.loc } = p := fun _ _ _ _ => rfl
  unfold Dev.aim
  split
  · exact hloc _ _ _ _
  · split
    · exact hloc _ _ _ _
    · split
      · exact hloc _ _ _ _
      · split <;> exact hloc _ _ _ _

/-- A packet sent after the one that landed is its answer. -/
theorem answered_send {d d1 : Dev} {p : Packet} (hnet : d1.net = (d.landed p).net) {typ : Nat} (htyp : typ < 2 ^ 8) (dev unit src : Nat) (payload : List Byte) :
    Answered d (d1.send (uPkt typ dev unit src [] payload)) p typ dev unit payload := by
  have hrest := d1.aim_rest (dpcRouter 0 ((d1.unitDpc src).getD 0)) (d1.mkPkt (uPkt typ dev unit src [] payload))
  have htyp' := congrArg (fun q => q.typ.toNat) hrest
  have hdev := congrArg (fun q => q.dstDev.toNat) hrest
  have hunit := congrArg (fun q => q.dstUnit.toNat) hrest
  have hpayload := congrArg (fun q => q.payload) hrest
  simp only [Dev.mkPkt, pktSeal, uPkt, BitVec.toNat_ofNat] at htyp' hdev hunit hpayload
  exact ⟨_, congrArg (· ++ _) hnet, htyp'.trans (Nat.mod_eq_of_lt htyp), hdev, hunit, hpayload⟩

/-- What a delivery does with a packet that reaches its unit. -/
theorem Dev.deliver_arrives {d : Dev} {p : Packet} {typ : Nat} (h : Arrives d p typ) (n : Option Port) (k : Dev → Dev) : d.deliver typ p n k = k (d.landed p) := by
  obtain ⟨htyp, hin, hcrc, hmcast, hdev⟩ := h
  have hid : (d.landed p).deviceId = d.deviceId := rfl
  rw [Dev.deliver, if_neg (by simp [htyp, hin])]
  simp only [hcrc, hid, hmcast, hdev, Bool.not_true, Bool.false_eq_true, if_false, ne_eq, not_true_eq_false, decide_false, Bool.and_false]

/-- The rule for deliveries: a packet that arrives has the effect of its type on the device where it has landed. -/
theorem Does.delivers {x : Instr} {d : Dev} {p : Packet} {typ : Nat} {n : Option Port} {k : Dev → Dev} {post : Dev → Prop} (h : Arrives d p typ)
    (hexec : ∀ s, exec x s = s.run (fun d => d.deliver typ p n k)) (hp : post (k (d.landed p))) : Does x d post :=
  .of_run hexec (by rwa [Dev.deliver_arrives h])

end Sys2Proof.Machine
end

section
namespace Sys2Proof.Machine

/-! ## Where a remote access lands, and windows that refuse (R185) -/

/-- An access that lands changes nothing on its way. -/
theorem Dev.landing_lands {d : Dev} {p : Packet} {write : Bool} {len : Nat} {x : Nat × Option Agent} (h : (d.landing p write len).2 = some x) :
    d.landing p write len = (d, some x) := by
  refine Prod.ext ?_ h
  revert h
  simp only [Dev.landing]
  split
  · split
    · exact nofun
    · split
      · exact fun _ => rfl
      · exact nofun
  · split
    · exact nofun
    · split
      · exact fun _ => rfl
      · exact nofun

/-- A window that refuses: the denial is counted and recorded, and the packet is answered with the reason. -/
theorem Dev.landing_refuses {d : Dev} {p : Packet} {write : Bool} {len r : Nat} (hext : p.ext.length = 24) (hr : r ≠ 0)
    (hcheck : d.winCheck (extAt p 8 2 % 1024) (extAt p 12 4) (pktSrc p) (extAt p 16 8) write (extAt p 0 8 % 2 ^ 34) len = r) :
    d.landing p write len = ((d.winDeny (extAt p 8 2 % 1024) (pktSrc p) r).refuse p r, none) := by
  simp only [Dev.landing, hext, hcheck, if_true, if_pos hr]

theorem Dev.winDeny_effect (d : Dev) (w src reason : Nat) : Counted d (d.winDeny w src reason) F.DEV_WIN_DENIED ∧
    (d.winDeny w src reason).mem = d.mem ∧ (d.winDeny w src reason).cells = d.cells ∧ (d.winDeny w src reason).net = d.net := by
  have hrecord := Reported.record ((d.count F.DEV_WIN_DENIED).setReg F.DEV_WIN_LAST_DENIAL.base 0 0 (2 ^ 63 + reason * 2 ^ 32 + w * 2 ^ 16 + src))
    (event := 0x0141) (key := reason) (cls := 0) (inst := 0) (sev := 0) (d0 := w) (d1 := src) (d2 := 0) (by decide)
  have hnet := congrArg (fun d => d.net) hrecord.dev
  refine ⟨((Counted.count d _ _).then ?_).then (hrecord.regs.reg (by unfold LossKey; decide)), hrecord.mem.trans ?_, hrecord.cells.trans ?_, hnet.trans ?_⟩
  · exact Dev.reg_setReg_other _ _ (by decide)
  · simp only [Dev.setReg_mem, Dev.count_mem]
  · simp only [Dev.setReg_cells, Dev.count_cells]
  · simp only [Dev.setReg_net, Dev.count_net]

/-- What a refusal by a window leaves. -/
theorem answered_denied (d : Dev) (p : Packet) (r : Nat) : Answered d (((d.landed p).winDeny (extAt p 8 2 % 1024) (pktSrc p) r).refuse p r) p 0x05 (pktSrc p) p.srcUnit.toNat
      (leBytes 1 r) ∧ Counted d (((d.landed p).winDeny (extAt p 8 2 % 1024) (pktSrc p) r).refuse p r) F.DEV_WIN_DENIED ∧
    (((d.landed p).winDeny (extAt p 8 2 % 1024) (pktSrc p) r).refuse p r).mem = d.mem ∧
    (((d.landed p).winDeny (extAt p 8 2 % 1024) (pktSrc p) r).refuse p r).cells = d.cells := by
  obtain ⟨hcount, hmem, hcells, hnet⟩ := (d.landed p).winDeny_effect (extAt p 8 2 % 1024) (pktSrc p) r
  exact ⟨answered_send hnet (by decide) _ _ _ _, hcount, hmem, hcells⟩

section
variable {p : Packet} {d : Dev} (n : Option Port)

theorem Does.writePkt_stores {a : Nat} {who : Option Agent} (h : Arrives d p 0x01) (hland : ((d.landed p).landing p true p.payload.length).2 = some (a, who))
    (hring : d.ringAt a p.payload.length = none) : Does (.writePkt p n) d (fun d' =>
      Memory.read d'.mem a p.payload.length = p.payload ∧ BytesStand d d' a p.payload.length ∧ Answered d d' p 0x04 (pktSrc p) p.srcUnit.toNat [] ∧ d'.cells = d.cells) := by
  refine .delivers h (fun _ => rfl) ?_
  rw [Dev.landing_lands hland]
  have hmoved := TrafficOnly.farMoved (d.landed p) 1 a p.payload.length
  have hfree : ((d.landed p).farMoved 1 a p.payload.length).ringAt a p.payload.length = none := (hmoved.regs.ringAt _ _).trans hring
  have hstore : ((d.landed p).farMoved 1 a p.payload.length).agentStore who a p.payload = ((d.landed p).farMoved 1 a p.payload.length).store a p.payload := by
    rw [Dev.agentStore, hfree]
  simp only [hstore]
  have hmem : (((d.landed p).farMoved 1 a p.payload.length).store a p.payload).mem = (d.store a p.payload).mem := congrArg (Memory.write · a p.payload) hmoved.mem
  refine ⟨?_, (BytesStand.store d a p.payload).trans (.of_mem hmem _ _), answered_send hmoved.net (by decide) _ _ _ _, hmoved.cells⟩
  exact (congrArg (Memory.read · a p.payload.length) hmem).trans (Memory.read_write_same d.mem a p.payload)

theorem Does.readReqPkt_answers {a : Nat} {who : Option Agent} (h : Arrives d p 0x02) (hland : ((d.landed p).landing p false p.len.toNat).2 = some (a, who)) :
    Does (.readReqPkt p n) d (fun d' => Answered d d' p 0x03 (pktSrc p) p.srcUnit.toNat (d.load a p.len.toNat) ∧ d'.mem = d.mem ∧ d'.cells = d.cells) := by
  refine .delivers h (fun _ => rfl) ?_
  rw [Dev.landing_lands hland]
  have hmoved := TrafficOnly.farMoved (d.landed p) 1 a p.len.toNat
  exact ⟨answered_send hmoved.net (by decide) _ _ _ _, hmoved.mem, hmoved.cells⟩

section
variable {r : Nat} (hr : r ≠ 0) (hext : p.ext.length = 24)
include hr hext

theorem Does.writePkt_refused (h : Arrives d p 0x01)
    (hcheck : d.winCheck (extAt p 8 2 % 1024) (extAt p 12 4) (pktSrc p) (extAt p 16 8) true (extAt p 0 8 % 2 ^ 34) p.payload.length = r) :
    Does (.writePkt p n) d (fun d' => Answered d d' p 0x05 (pktSrc p) p.srcUnit.toNat (leBytes 1 r) ∧ Counted d d' F.DEV_WIN_DENIED ∧ d'.mem = d.mem ∧ d'.cells = d.cells) := by
  refine .delivers h (fun _ => rfl) ?_
  rw [Dev.landing_refuses (d := d.landed p) hext hr hcheck]
  exact answered_denied d p r

theorem Does.readReqPkt_refused (h : Arrives d p 0x02)
    (hcheck : d.winCheck (extAt p 8 2 % 1024) (extAt p 12 4) (pktSrc p) (extAt p 16 8) false (extAt p 0 8 % 2 ^ 34) p.len.toNat = r) :
    Does (.readReqPkt p n) d (fun d' => Answered d d' p 0x05 (pktSrc p) p.srcUnit.toNat (leBytes 1 r) ∧ Counted d d' F.DEV_WIN_DENIED ∧ d'.mem = d.mem ∧ d'.cells = d.cells) := by
  refine .delivers h (fun _ => rfl) ?_
  rw [Dev.landing_refuses (d := d.landed p) hext hr hcheck]
  exact answered_denied d p r

end

end

end Sys2Proof.Machine
end

section
namespace Sys2Proof.Machine

/-! ## Items of the engines, and requests that await an answer (R257, R258) -/

/-- Neither a cell nor an engine nor a request that awaits an answer changes. -/
structure SameItems (d d' : Dev) : Prop where
  cells : d'.cells = d.cells
  engs : d'.engs = d.engs
  remotes : d'.remotes = d.remotes

theorem SameItems.refl (d : Dev) : SameItems d d := ⟨rfl, rfl, rfl⟩

theorem SameItems.trans {a b c : Dev} (h : SameItems a b) (h' : SameItems b c) : SameItems a c :=
  ⟨h'.cells.trans h.cells, h'.engs.trans h.engs, h'.remotes.trans h.remotes⟩

theorem SameItems.foldl {α : Type} {f : Dev → α → Dev} (hf : ∀ d a, SameItems d (f d a)) (l : List α) (d : Dev) : SameItems d (l.foldl f d) := by
  induction l generalizing d with
  | nil => exact .refl d
  | cons a l ih => exact (hf d a).trans (ih (f d a))

theorem TrafficOnly.sameItems {d d' : Dev} (h : TrafficOnly d d') : SameItems d d' := ⟨h.cells, h.engs, h.remotes⟩

theorem SameItems.eng {d d' : Dev} (h : SameItems d d') (e : Nat) : d'.eng e = d.eng e := by rw [Dev.eng, h.engs, Dev.eng]

theorem SameItems.item {d d' : Dev} (h : SameItems d d') (r : Nat × Nat × Nat) : d'.item r = d.item r := by
  simp only [Dev.item, Dev.runner, h.eng]

theorem SameItems.reqItem {d d' : Dev} (h : SameItems d d') (r : RemoteReq) : d'.reqItem r = d.reqItem r := by rw [Dev.reqItem, h.item, Dev.reqItem]

theorem SameItems.itemReqs {d d' : Dev} (h : SameItems d d') (i : EngItem) : d'.itemReqs i = d.itemReqs i := by rw [Dev.itemReqs, h.remotes, Dev.itemReqs]

theorem Reported.sameItems {d d' : Dev} (h : Reported d d') : SameItems d d' :=
  ⟨h.cells, congrArg (fun d => d.engs) h.dev, congrArg (fun d => d.remotes) h.dev⟩

theorem SameItems.setReg (d : Dev) (base inst item v : Nat) : SameItems d (d.setReg base inst item v) :=
  ⟨d.setReg_cells _ _ _ _, d.setReg_engs _ _ _ _, d.setReg_remotes _ _ _ _⟩

theorem SameItems.count (d : Dev) (f : Fld) (inst item n : Nat) : SameItems d (d.count f inst item n) :=
  ⟨d.count_cells _ _ _ _, d.count_engs _ _ _ _, d.count_remotes _ _ _ _⟩

theorem SameItems.ringRefused (d : Dev) (e q reason seq : Nat) : SameItems d (d.ringRefused e q reason seq) := by
  unfold Dev.ringRefused
  exact ((SameItems.count d _ _ _ _).trans (.setReg _ _ _ _ _)).trans (Reported.record _ (by decide)).sameItems

/-- A store, or its refusal by a ring. -/
theorem SameItems.plainStore (d : Dev) (who : Option Agent) (a : Nat) (bs : List Byte) : SameItems d (d.plainStore who a bs) := by
  unfold Dev.plainStore
  split
  · exact ⟨d.store_cells _ _, d.store_engs _ _, d.store_remotes _ _⟩
  · exact .ringRefused d _ _ _ _

/-- An engine's write reaches storage, an aperture or nothing. -/
theorem SameItems.deposit (d : Dev) (a : Nat) (bs : List Byte) : SameItems d (d.deposit a bs) := by
  unfold Dev.deposit
  split
  · exact .refl d
  · split
    · exact ⟨rfl, rfl, rfl⟩
    · split
      · split
        · exact ⟨rfl, rfl, rfl⟩
        · exact .foldl (fun d _ => .plainStore d _ _ _) _ d
      · exact .refl d

/-- In storage outside every enabled ring an engine's write is a store (R250). -/
theorem Dev.deposit_mem {d : Dev} {a t : Nat} {bs : List Byte} (hplace : (d.place false a bs.length).storage = some t) (hring : d.ringAt t bs.length = none) :
    (d.deposit a bs).mem = (d.store t bs).mem := by
  unfold Dev.deposit
  split
  next hempty => rw [List.isEmpty_iff.1 hempty]; rfl
  next =>
    split
    next p off hpcie => rw [hpcie] at hplace; exact nomatch hplace
    next => rw [hplace]; simp only [hring, Option.isNone_none, if_true]

/-! ## An item that is changed in place -/

section
variable {d : Dev} {r : Nat × Nat × Nat} {e : Nat} {i : EngItem} (hitem : d.item r = some (e, i))
include hitem

theorem Dev.item_some : d.runner r = some e ∧ (d.eng e).items.find? (fun i => i.ref = r) = some i := by
  unfold Dev.item at hitem
  split at hitem
  · exact nomatch hitem
  next e' hrun =>
    obtain ⟨i', hfind, heq⟩ := Option.map_eq_some_iff.1 hitem
    obtain ⟨rfl, rfl⟩ := Prod.mk.inj heq
    exact ⟨hrun, hfind⟩

theorem Dev.item_ref : i.ref = r := by
  simpa using List.find?_some (Dev.item_some hitem).2

/-- An item that is changed, its name kept, is found changed where it was. -/
theorem Dev.item_modItem {f : EngItem → EngItem} (hf : ∀ i, (f i).ref = i.ref) : (d.modItem r f).item r = some (e, f i) := by
  obtain ⟨hrun, hfind⟩ := Dev.item_some hitem
  have hname : ∀ j : EngItem, (if j.ref = r then f j else j).ref = j.ref := fun j => by split; exacts [hf j, rfl]
  have hmod : d.modItem r f = d.modEng e (fun s => { s with items := s.items.map (fun i => if i.ref = r then f i else i) }) := by rw [Dev.modItem, hrun]
  have hsame : (d.modItem r f).eng e = { d.eng e with items := (d.eng e).items.map (fun i => if i.ref = r then f i else i) } := by
    rw [hmod]
    exact SMap.read_write_same ..
  have hother : ∀ k, k ≠ e → (d.modItem r f).eng k = d.eng k := fun k hk => by
    rw [hmod]
    exact SMap.read_write_other hk ..
  have hany : ∀ k, ((d.modItem r f).eng k).items.any (fun i => i.ref = r) = (d.eng k).items.any (fun i => i.ref = r) := by
    intro k
    by_cases hk : k = e
    · subst hk
      simp only [hsame, List.any_map, Function.comp_def, hname]
    · rw [hother k hk]
  have hrun' : (d.modItem r f).runner r = some e := by
    rw [← hrun]
    simp only [Dev.runner, hany]
  rw [Dev.item, hrun']
  simp only [hsame, List.find?_map, Function.comp_def, hname, hfind, Option.map_some, if_pos (Dev.item_ref hitem)]

end

theorem Dev.modItem_stands (d : Dev) (r : Nat × Nat × Nat) (f : EngItem → EngItem) :
    (d.modItem r f).mem = d.mem ∧ (d.modItem r f).cells = d.cells ∧ (d.modItem r f).remotes = d.remotes := by
  unfold Dev.modItem
  split <;> exact ⟨rfl, rfl, rfl⟩

/-- An item has ended in a way. -/
def EndsWith (d' : Dev) (r : RemoteReq) (e : Nat) (x : ItemEnd) : Prop := ∃ i, d'.item r.item = some (e, i) ∧ i.ending = some x

/-! ## A request that is answered (R257, R258) -/

section
variable {d : Dev} {r : RemoteReq} {e : Nat} {i : EngItem} (hreq : d.reqItem r = some (e, i))
include hreq

theorem Dev.reqItem_some : d.item r.item = some (e, i) ∧ i.run = r.run ∧ i.ending = none := by
  unfold Dev.reqItem at hreq
  split at hreq
  next e' i' hitem =>
    split at hreq
    next hruns =>
      obtain ⟨rfl, rfl⟩ := Prod.mk.inj (Option.some.inj hreq)
      rw [Bool.and_eq_true, Option.isNone_iff_eq_none] at hruns
      exact ⟨hitem, of_decide_eq_true hruns.1, hruns.2⟩
    next => exact nomatch hreq
  next => exact nomatch hreq

theorem Dev.reqItem_ref : i.ref = r.item := Dev.item_ref (Dev.reqItem_some hreq).1

/-- With its last packet answered and none refused, the item is DONE (R257). -/
theorem Dev.settleRemote_done (hlast : d.itemReqs i = []) (hgood : i.refused = none) : EndsWith (d.settleRemote r) r e (doneEnd (itF i.desc 0x0C 4)) := by
  have hsettle : d.settleRemote r = (d.countTraffic e i .copy (doneEnd (itF i.desc 0x0C 4))).endItem r.item (doneEnd (itF i.desc 0x0C 4)) := by
    simp only [Dev.settleRemote, hreq, hlast, hgood, List.isEmpty_nil, Bool.not_true, Bool.false_eq_true, if_false, Dev.reqItem_ref hreq]
  have hitem := ((TrafficOnly.countTraffic d e i .copy (doneEnd (itF i.desc 0x0C 4))).sameItems.item r.item).trans (Dev.reqItem_some hreq).1
  rw [hsettle]
  exact ⟨_, Dev.item_modItem hitem fun _ => rfl, rfl⟩

/-- With its last packet answered and one refused, it has FAILED with that refusal's reason (R258). -/
theorem Dev.settleRemote_fails {reason : Nat} (hlast : d.itemReqs i = []) (hbad : i.refused = some reason) : EndsWith (d.settleRemote r) r e (failEnd 5 reason) := by
  have hsettle : d.settleRemote r = d.endItem r.item (failEnd 5 reason) := by
    simp only [Dev.settleRemote, hreq, hlast, hbad, List.isEmpty_nil, Bool.not_true, Bool.false_eq_true, if_false, Dev.reqItem_ref hreq]
  rw [hsettle]
  exact ⟨_, Dev.item_modItem (Dev.reqItem_some hreq).1 fun _ => rfl, rfl⟩

end

theorem Dev.settleRemote_stands (d : Dev) (r : RemoteReq) : (d.settleRemote r).mem = d.mem ∧ (d.settleRemote r).cells = d.cells := by
  have hend : ∀ (d : Dev) r x, (d.endItem r x).mem = d.mem ∧ (d.endItem r x).cells = d.cells := fun d r x =>
    ⟨(d.modItem_stands r _).1, (d.modItem_stands r _).2.1⟩
  unfold Dev.settleRemote
  split
  · exact ⟨rfl, rfl⟩
  next e i _ =>
    split
    · exact ⟨rfl, rfl⟩
    · split
      · exact hend d _ _
      · have htraffic := TrafficOnly.countTraffic d e i .copy (doneEnd (itF i.desc 0x0C 4))
        obtain ⟨hmem, hcells⟩ := hend (d.countTraffic e i .copy (doneEnd (itF i.desc 0x0C 4))) i.ref (doneEnd (itF i.desc 0x0C 4))
        exact ⟨hmem.trans htraffic.mem, hcells.trans htraffic.cells⟩

/-- Taking a request off the list changes nothing else. -/
theorem Dev.takeReq_rest {d d1 : Dev} {p : Packet} {sel : RemoteReq → Bool} {r : RemoteReq} (h : d.takeReq p sel = some (r, d1)) : { d1 with remotes := d.remotes } = d := by
  unfold Dev.takeReq at h
  dsimp only at h
  split at h
  · exact nomatch h
  · obtain ⟨-, rfl⟩ := Prod.mk.inj (Option.some.inj h)
    rfl

end Sys2Proof.Machine
end

section
namespace Sys2Proof.Machine

/-! ## Answers that reach the item that asked (R257, R258) -/

section
variable {p : Packet} {d d1 : Dev} (n : Option Port) {r : RemoteReq} {e : Nat} {i : EngItem} (hreq : d1.reqItem r = some (e, i))
include hreq

/-- Data of a get is written at its place, and the item ends with its last packet. -/
theorem Does.readRespPkt (h : Arrives d p 0x03) (htake : (d.landed p).takeReq p (fun r => !r.write) = some (r, d1)) : Does (.readRespPkt p n) d (fun d' =>
    Deposited d d' (itF i.desc 0x18 8 + r.off) (p.payload.take r.len) ∧ OnlyDeposited d d' (itF i.desc 0x18 8 + r.off) (p.payload.take r.len).length 0 0 ∧
    d'.cells = d.cells ∧ (d1.itemReqs i = [] → i.refused = none → EndsWith d' r e (doneEnd (itF i.desc 0x0C 4)))) := by
  refine .delivers h (fun _ => rfl) ?_
  simp only [htake, hreq]
  have hrest := Dev.takeReq_rest htake
  have hregs : d1.regs = d.regs := congrArg (fun d => d.regs) hrest
  have hmem : d1.mem = d.mem := congrArg (fun d => d.mem) hrest
  have hcells : d1.cells = d.cells := congrArg (fun d => d.cells) hrest
  have hkeeps : Keeps StorageKey d d1 := .of_regs hregs
  have hsame := SameItems.deposit d1 (itF i.desc 0x18 8 + r.off) (p.payload.take r.len)
  obtain ⟨hsettle, hcells'⟩ := (d1.deposit (itF i.desc 0x18 8 + r.off) (p.payload.take r.len)).settleRemote_stands r
  have hstored : ∀ t, (d.place false (itF i.desc 0x18 8 + r.off) (p.payload.take r.len).length).storage = some t → d.ringAt t (p.payload.take r.len).length = none →
      ((d1.deposit (itF i.desc 0x18 8 + r.off) (p.payload.take r.len)).settleRemote r).mem = (d.store t (p.payload.take r.len)).mem := fun t hplace hring => by
    rw [hsettle, Dev.deposit_mem (by rw [hkeeps.place, hplace]) (by rw [hkeeps.ringAt, hring]), Dev.store_mem, Dev.store_mem, hmem]
  refine ⟨fun t hplace hring => ?_, fun t _ x hplace hring _ hx _ => ?_, hcells'.trans (hsame.cells.trans hcells), fun hlast hgood => ?_⟩
  · rw [Dev.load_of_mem (hstored t hplace hring)]
    exact d.load_store_same t _ rfl
  · rw [hstored t hplace hring]
    exact BytesStand.store d t _ x hx
  · exact Dev.settleRemote_done ((hsame.reqItem r).trans hreq) ((hsame.itemReqs i).trans hlast) hgood

/-- The item ends with its last packet, DONE or with the refusal that it remembers. -/
theorem Does.writeAckPkt (h : Arrives d p 0x04) (htake : (d.landed p).takeReq p (fun r => r.write) = some (r, d1)) : Does (.writeAckPkt p n) d (fun d' =>
    d'.mem = d.mem ∧ d'.cells = d.cells ∧ (d1.itemReqs i = [] → i.refused = none → EndsWith d' r e (doneEnd (itF i.desc 0x0C 4))) ∧
    (∀ reason, d1.itemReqs i = [] → i.refused = some reason → EndsWith d' r e (failEnd 5 reason))) := by
  refine .delivers h (fun _ => rfl) ?_
  simp only [htake]
  have hrest := Dev.takeReq_rest htake
  have hmem : d1.mem = d.mem := congrArg (fun d => d.mem) hrest
  have hcells : d1.cells = d.cells := congrArg (fun d => d.cells) hrest
  obtain ⟨hmem', hcells'⟩ := d1.settleRemote_stands r
  exact ⟨hmem'.trans hmem, hcells'.trans hcells, Dev.settleRemote_done hreq, fun _ => Dev.settleRemote_fails hreq⟩

/-- The first refusal is remembered, and the item ends with it when nothing is outstanding. -/
theorem Does.refusePkt (h : Arrives d p 0x05) (htake : (d.landed p).takeReq p (fun _ => true) = some (r, d1)) (hlast : d1.itemReqs i = []) (hfirst : i.refused = none) :
    Does (.refusePkt p n) d (fun d' => d'.mem = d.mem ∧ d'.cells = d.cells ∧ EndsWith d' r e (failEnd 5 (payAt p 0 1))) := by
  refine .delivers h (fun _ => rfl) ?_
  simp only [htake, hreq]
  obtain ⟨hitem, hrun, hending⟩ := Dev.reqItem_some hreq
  rw [Dev.reqItem_ref hreq]
  have hrest := Dev.takeReq_rest htake
  have hmem : d1.mem = d.mem := congrArg (fun d => d.mem) hrest
  have hcells : d1.cells = d.cells := congrArg (fun d => d.cells) hrest
  obtain ⟨hmem1, hcells1, hremotes⟩ := d1.modItem_stands r.item (fun i => { i with refused := i.refused.orElse (fun _ => some (payAt p 0 1)) })
  obtain ⟨hmem2, hcells2⟩ := (d1.modItem r.item (fun i => { i with refused := i.refused.orElse (fun _ => some (payAt p 0 1)) })).settleRemote_stands r
  have hitem' := Dev.item_modItem (f := fun i => { i with refused := i.refused.orElse (fun _ => some (payAt p 0 1)) }) hitem fun _ => rfl
  refine ⟨hmem2.trans (hmem1.trans hmem), hcells2.trans (hcells1.trans hcells), Dev.settleRemote_fails (i := { i with refused := i.refused.orElse (fun _ => some (payAt p 0 1)) })
    ?_ ?_ ?_⟩
  · simp only [Dev.reqItem, hitem', hrun, hending, decide_true, Option.isNone_none, Bool.and_self, if_true]
  · rw [Dev.itemReqs, hremotes]
    exact hlast
  · simp only [hfirst, Option.orElse_none]

end

/-- Settles O40: an access that lands is served, one that a window denies is refused, and an answer settles the request that it is for. -/
theorem remoteAccessesAreServedRefusedAndAnswered : Obligations.RemoteAccessesAreServedRefusedAndAnswered := by
  intro p n d
  refine ⟨fun a who => .writePkt_stores n, fun a who => .readReqPkt_answers n, fun r hr hext => ⟨.writePkt_refused n hr hext, .readReqPkt_refused n hr hext⟩,
    fun r d1 e i hreq => ⟨fun h htake => .readRespPkt n hreq h htake, fun h htake => .writeAckPkt n hreq h htake, fun h htake hlast hfirst => ?_⟩⟩
  exact .refusePkt n hreq h htake hlast hfirst

end Sys2Proof.Machine
end

section
namespace Sys2Proof.Machine

/-! ## Fields that a write leaves as they are (R12) -/

/-- A write of field `f` leaves field `g`, which stands in another register or in other bits of the same one. -/
def Fld.leaves (f g : Fld) : Bool :=
  decide (g.base % 2 ^ 12 ≠ f.base % 2 ^ 12) ||
    (decide (g.base = f.base) && decide (f.lo ≤ f.hi) && decide (g.hi ≤ 63) && (decide (g.hi < f.lo) || decide (f.hi < g.lo)))

theorem Dev.get_setReg_apart {base : Nat} {g : Fld} (h : g.base % 2 ^ 12 ≠ base % 2 ^ 12) (d : Dev) (inst item v inst' item' : Nat) :
    (d.setReg base inst item v).get g inst' item' = d.get g inst' item' := by
  rw [Dev.get, Dev.reg_setReg_other d v (regKey_ne h _ _ _ _), Dev.get]

theorem Dev.get_set_apart {f g : Fld} (h : g.base % 2 ^ 12 ≠ f.base % 2 ^ 12) (d : Dev) (v inst item inst' item' : Nat) :
    (d.set f v inst item).get g inst' item' = d.get g inst' item' := Dev.get_setReg_apart h d _ _ _ _ _

theorem Dev.get_count_apart {f g : Fld} (h : g.base % 2 ^ 12 ≠ f.base % 2 ^ 12) (d : Dev) (inst item n inst' item' : Nat) :
    (d.count f inst item n).get g inst' item' = d.get g inst' item' := Dev.get_setReg_apart h d _ _ _ _ _

theorem Dev.reg_set_apart {f : Fld} {base : Nat} (h : base % 2 ^ 12 ≠ f.base % 2 ^ 12) (d : Dev) (v inst item inst' item' : Nat) :
    (d.set f v inst item).reg base inst' item' = d.reg base inst' item' := Dev.reg_setReg_other d _ (regKey_ne h _ _ _ _)

theorem Dev.get_set_leaves {f g : Fld} (h : f.leaves g = true) (d : Dev) (v inst item : Nat) : (d.set f v inst item).get g inst item = d.get g inst item := by
  simp only [Fld.leaves, Bool.or_eq_true, Bool.and_eq_true, decide_eq_true_eq] at h
  rcases h with hapart | ⟨⟨⟨hbase, hf⟩, hg⟩, hbits⟩
  · exact Dev.get_set_apart hapart d v inst item inst item
  · exact Dev.get_set_disjoint d f g v inst item hbase hf hg hbits

theorem Dev.reg_count_same (d : Dev) (f : Fld) (inst item n : Nat) : (d.count f inst item n).reg f.base inst item = countUp (d.reg f.base inst item) n % 2 ^ 64 :=
  Dev.reg_setReg_same d _ _ _ _

/-! ## The registers of an owner's channels and endpoints (Tables 07-12 to 07-24) -/

/-- A field of a cell's register and the OS complex's field of the same meaning stand in the same bits. -/
def Fld.alike (c s : Fld) : Bool := decide (c.hi = s.hi) && decide (c.lo = s.lo) && decide (c.lo ≤ c.hi) && decide (c.hi ≤ 63)

section
variable (d : Dev) (o : Owner) (k : Nat)

theorem Dev.og_os_same {c s : Fld} (h : c.alike s = true) (v : Nat) : (d.os o k c s v).og o k c s = v % 2 ^ (c.hi + 1 - c.lo) := by
  simp only [Fld.alike, Bool.and_eq_true, decide_eq_true_eq] at h
  obtain ⟨⟨⟨hhi, hlo⟩, hle⟩, hmax⟩ := h
  cases o with
  | cell pc => exact Dev.get_set_same d c v pc (k + 1) hle hmax
  | os =>
    rw [hhi, hlo]
    exact Dev.get_set_same d s v 0 (k + 1) (by omega) (by omega)

theorem Dev.og_os_leaves {c s c' s' : Fld} (hc : c.leaves c' = true) (hs : s.leaves s' = true) (v : Nat) :
    (d.os o k c s v).og o k c' s' = d.og o k c' s' := by
  cases o with
  | cell pc => exact Dev.get_set_leaves hc d v pc (k + 1)
  | os => exact Dev.get_set_leaves hs d v 0 (k + 1)

theorem Dev.og_oc {c s c' s' : Fld} (hc : c'.base % 2 ^ 12 ≠ c.base % 2 ^ 12) (hs : s'.base % 2 ^ 12 ≠ s.base % 2 ^ 12) (n : Nat) :
    (d.oc o k c s n).og o k c' s' = d.og o k c' s' := by
  cases o with
  | cell pc => exact Dev.get_count_apart hc d pc (k + 1) n pc (k + 1)
  | os => exact Dev.get_count_apart hs d 0 (k + 1) n 0 (k + 1)

variable {d o k} in
/-- The recorded source is what the fields of its register say. -/
theorem Dev.chanSource_of {d' : Dev}
    (h : ∀ c s : Fld, c.base = F.CELL_CHAN_SRC.base → s.base = F.DEV_OSCH_SRC.base → d'.og o k c s = d.og o k c s) : d'.chanSource o k = d.chanSource o k := by
  simp only [Dev.chanSource, h F.CELL_CHAN_SRC_VALID F.DEV_OSCH_SRC_VALID rfl rfl, h F.CELL_CHAN_SRC_OS F.DEV_OSCH_SRC_OS rfl rfl,
    h F.CELL_CHAN_SRC_AON F.DEV_OSCH_SRC_AON rfl rfl, h F.CELL_CHAN_SRC_DEVICE F.DEV_OSCH_SRC_DEVICE rfl rfl,
    h F.CELL_CHAN_SRC_LC F.DEV_OSCH_SRC_LC rfl rfl, h F.CELL_CHAN_SRC_SEP F.DEV_OSCH_SRC_SEP rfl rfl]

/-! ## What each update of a channel or an endpoint leaves alone -/

variable (c s : Fld) (v n : Nat) (f : ChanState → ChanState) (g : SepState → SepState) (p : PktSpec) (l : List PktSpec) (a : Nat) (bs : List Byte)

@[simp] theorem Dev.os_mem : (d.os o k c s v).mem = d.mem := d.set_mem ..
@[simp] theorem Dev.os_net : (d.os o k c s v).net = d.net := d.set_net ..
@[simp] theorem Dev.os_cells : (d.os o k c s v).cells = d.cells := d.set_cells ..
@[simp] theorem Dev.os_osChans : (d.os o k c s v).osChans = d.osChans := d.set_osChans ..
@[simp] theorem Dev.os_osSeps : (d.os o k c s v).osSeps = d.osSeps := d.set_osSeps ..
@[simp] theorem Dev.oc_mem : (d.oc o k c s n).mem = d.mem := d.count_mem ..
@[simp] theorem Dev.oc_net : (d.oc o k c s n).net = d.net := d.count_net ..
@[simp] theorem Dev.oc_cells : (d.oc o k c s n).cells = d.cells := d.count_cells ..
@[simp] theorem Dev.oc_osChans : (d.oc o k c s n).osChans = d.osChans := d.count_osChans ..
@[simp] theorem Dev.oc_osSeps : (d.oc o k c s n).osSeps = d.osSeps := d.count_osSeps ..
@[simp] theorem Dev.modChan_regs : (d.modChan o k f).regs = d.regs := by cases o <;> rfl
@[simp] theorem Dev.modChan_mem : (d.modChan o k f).mem = d.mem := by cases o <;> rfl
@[simp] theorem Dev.modChan_net : (d.modChan o k f).net = d.net := by cases o <;> rfl
@[simp] theorem Dev.modChan_os_cells : (d.modChan .os k f).cells = d.cells := rfl
@[simp] theorem Dev.modSep_mem : (d.modSep o k g).mem = d.mem := by cases o <;> rfl
@[simp] theorem Dev.modSep_net : (d.modSep o k g).net = d.net := by cases o <;> rfl
@[simp] theorem Dev.send_regs : (d.send p).regs = d.regs := rfl
@[simp] theorem Dev.send_mem : (d.send p).mem = d.mem := rfl
@[simp] theorem Dev.send_cells : (d.send p).cells = d.cells := rfl

@[simp] theorem Dev.og_modChan : (d.modChan o k f).og o k c s = d.og o k c s := by cases o <;> rfl
@[simp] theorem Dev.og_modSep : (d.modSep o k g).og o k c s = d.og o k c s := by cases o <;> rfl
@[simp] theorem Dev.og_send : (d.send p).og o k c s = d.og o k c s := rfl
@[simp] theorem Dev.og_store : (d.store a bs).og o k c s = d.og o k c s := rfl

theorem Dev.chan_of_cells {d d' : Dev} (h : d'.cells = d.cells) (hos : d'.osChans = d.osChans) : d'.chan o k = d.chan o k := by
  cases o with
  | cell pc => rw [Dev.chan, Dev.chan, Dev.cell, Dev.cell, h]
  | os => rw [Dev.chan, Dev.chan, hos]

theorem Dev.sep_of_cells {d d' : Dev} (h : d'.cells = d.cells) (hos : d'.osSeps = d.osSeps) : d'.sep o k = d.sep o k := by
  cases o with
  | cell pc => rw [Dev.sep, Dev.sep, Dev.cell, Dev.cell, h]
  | os => rw [Dev.sep, Dev.sep, hos]

@[simp] theorem Dev.chan_os (k' : Nat) : (d.os o k' c s v).chan o k = d.chan o k := Dev.chan_of_cells o k (by simp) (by simp)
@[simp] theorem Dev.chan_oc (k' : Nat) : (d.oc o k' c s n).chan o k = d.chan o k := Dev.chan_of_cells o k (by simp) (by simp)
@[simp] theorem Dev.chan_send : (d.send p).chan o k = d.chan o k := Dev.chan_of_cells o k rfl rfl
@[simp] theorem Dev.chan_store : (d.store a bs).chan o k = d.chan o k := Dev.chan_of_cells o k rfl rfl
@[simp] theorem Dev.chan_modChan : (d.modChan o k f).chan o k = f (d.chan o k) := by
  cases o with
  | cell pc => rw [Dev.modChan, Dev.chan, Dev.cell_modCell_same, SMap.read_write_same]
  | os => exact SMap.read_write_same ..

@[simp] theorem Dev.sep_os (k' : Nat) : (d.os o k' c s v).sep o k = d.sep o k := Dev.sep_of_cells o k (by simp) (by simp)
@[simp] theorem Dev.sep_modSep : (d.modSep o k g).sep o k = g (d.sep o k) := by
  cases o with
  | cell pc => rw [Dev.modSep, Dev.sep, Dev.cell_modCell_same, SMap.read_write_same]
  | os => exact SMap.read_write_same ..

end

/-! ## Updates of one cell: its contexts, its outbox and the other cells -/

section
variable (d : Dev) (pc : Nat) (f : CellState → CellState)

@[simp] theorem Dev.modCell_mem : (d.modCell pc f).mem = d.mem := rfl
@[simp] theorem Dev.modCell_net : (d.modCell pc f).net = d.net := rfl
@[simp] theorem Dev.get_modCell (g : Fld) (inst item : Nat) : (d.modCell pc f).get g inst item = d.get g inst item := rfl

end

section
variable (d : Dev) (pc k c : Nat) (f : ChanState → ChanState) (g : SepState → SepState)

@[simp] theorem Dev.ctx_modChan : (d.modChan (.cell pc) k f).ctx pc c = d.ctx pc c := by
  rw [Dev.ctx, Dev.modChan, Dev.cell_modCell_same]
  rfl

theorem CellsStand.modChan : CellsStand d (d.modChan (.cell pc) k f) pc := .modCell d pc _

theorem CellsStand.modSep : CellsStand d (d.modSep (.cell pc) k g) pc := .modCell d pc _

end

end Sys2Proof.Machine
end

section
namespace Sys2Proof.Machine

/-! ## What stands beside channels, endpoints and combining queues -/

/-- A register of channels, endpoints or combining queues (Tables 07-10 to 07-24). -/
def ChanKey (k : Nat) : Prop := 0x700 ≤ k % 2 ^ 12 ∧ k % 2 ^ 12 < 0x900

theorem chanKey_regKey (base inst item : Nat) (h : 0x700 ≤ base % 2 ^ 12 ∧ base % 2 ^ 12 < 0x900 := by decide) : ChanKey (regKey base inst item) := by
  rwa [ChanKey, regKey_mod]

theorem not_chanKey (base inst item : Nat) (h : ¬ (0x700 ≤ base % 2 ^ 12 ∧ base % 2 ^ 12 < 0x900) := by decide) : ¬ ChanKey (regKey base inst item) := by
  rwa [ChanKey, regKey_mod]

/-- A cell with the contexts, their turn and the counters of another. -/
def CellState.tasksOf (t s : CellState) : CellState := { t with ctxs := s.ctxs, ctrs := s.ctrs, lastRun := s.lastRun }

/-- Of a cell only contexts, their turn and counters change. -/
def CellState.SameUnits (s t : CellState) : Prop := t.tasksOf s = s

theorem CellState.SameUnits.trans {s t u : CellState} (h : s.SameUnits t) (h' : t.SameUnits u) : s.SameUnits u :=
  (congrArg (fun x : CellState => x.tasksOf s) h').trans h

theorem CellState.SameUnits.part {s t : CellState} (h : s.SameUnits t) {α : Type} (f : CellState → α) (hf : f (t.tasksOf s) = f t) : f t = f s :=
  hf.symm.trans (congrArg f h)

/-- Waking contexts, one after the other, changes contexts alone. -/
theorem CellState.SameUnits.wakes {f : CellState → Nat → CellState} (hf : ∀ s c, f s c = s ∨ f s c = s.setCtx c (s.ctx c).wake) (l : List Nat) (s : CellState) :
    s.SameUnits (l.foldl f s) := by
  induction l generalizing s with
  | nil => rfl
  | cons c l ih =>
    have hfirst : s.SameUnits (f s c) := by
      rcases hf s c with he | he
      · rw [he]
        rfl
      · rw [he]
        rfl
    exact hfirst.trans (ih (f s c))

theorem CellState.SameUnits.reselect (s : CellState) : s.SameUnits s.reselect :=
  have hctrs : s.reselect.tasksOf s = { ({ s.reselect with ctxs := s.ctxs, lastRun := s.lastRun } : CellState) with ctrs := s.ctrs } := rfl
  hctrs.trans (congrArg (fun t : CellState => { t with ctrs := s.ctrs }) s.reselect_same)

/-- Registers of other units, records, and contexts and counters of one cell change, and nothing else. -/
structure Beside (pc : Nat) (d d' : Dev) : Prop where
  regs : Keeps ChanKey d d'
  units : (d.cell pc).SameUnits (d'.cell pc)
  others : CellsStand d d' pc
  dev : { d' with cells := d.cells, regs := d.regs, reports := d.reports } = d

theorem Beside.refl (pc : Nat) (d : Dev) : Beside pc d d := ⟨.refl d, rfl, .refl d pc, rfl⟩

theorem Beside.trans {pc : Nat} {a b c : Dev} (h : Beside pc a b) (h' : Beside pc b c) : Beside pc a c := by
  have hdev : { c with cells := a.cells, regs := a.regs, reports := a.reports } = { b with cells := a.cells, regs := a.regs, reports := a.reports } :=
    congrArg (fun e : Dev => { e with cells := a.cells, regs := a.regs, reports := a.reports }) h'.dev
  exact ⟨h.regs.trans h'.regs, h.units.trans h'.units, h.others.trans h'.others, hdev.trans h.dev⟩

theorem Beside.ite {pc : Nat} {d a b : Dev} {p : Prop} [Decidable p] (ha : Beside pc d a) (hb : Beside pc d b) : Beside pc d (if p then a else b) := by
  split
  · exact ha
  · exact hb

theorem Dev.besideRegs (d : Dev) (x : SMap Word) : { ({ d with regs := x } : Dev) with cells := d.cells, regs := d.regs, reports := d.reports } = d := rfl

theorem Beside.setReg {base : Nat} (pc : Nat) (d : Dev) (inst item v : Nat) (h : ¬ (0x700 ≤ base % 2 ^ 12 ∧ base % 2 ^ 12 < 0x900) := by decide) :
    Beside pc d (d.setReg base inst item v) :=
  ⟨.setReg d _ _ _ _ (not_chanKey _ _ _ h), by rw [Dev.cell_setReg]; rfl, .of_cells (d.setReg_cells ..) pc, d.besideRegs _⟩

theorem Beside.modCell {pc : Nat} {d : Dev} {f : CellState → CellState} (h : (d.cell pc).SameUnits (f (d.cell pc))) : Beside pc d (d.modCell pc f) :=
  ⟨.modCell d pc f, by rwa [Dev.cell_modCell_same], .modCell d pc f, rfl⟩

theorem Beside.reselect (pc : Nat) (d : Dev) : Beside pc d (d.reselect pc) := .modCell (.reselect _)

theorem Beside.record (pc : Nat) (d : Dev) {event key cls inst sev d0 d1 d2 : Nat} (h : sev ≠ 4) : Beside pc d (d.record event key cls inst sev d0 d1 d2) := by
  rw [d.record_eq h]
  exact .ite ⟨.of_regs rfl, rfl, .refl d pc, rfl⟩ (.setReg pc d _ _ _)

theorem Beside.putCounter (pc : Nat) (d : Dev) (n v : Nat) : Beside pc d (d.putCounter pc n v) := by
  have hctr : Beside pc d (d.writeCtr pc n v) := .modCell rfl
  have hwoken : Beside pc (d.writeCtr pc n v) ((d.writeCtr pc n v).modCell pc (fun s =>
      (((d.writeCtr pc n v).cell pc).reached n v).foldl (fun s c => s.setCtx c (s.ctx c).wake) s)) :=
    .modCell (.wakes (fun _ _ => .inr rfl) _ _)
  exact .ite hctr (((hctr.trans hwoken).trans (.setReg pc _ _ _ _)).trans (.reselect pc _))

theorem Beside.addCounter (pc : Nat) (d : Dev) (n amount : Nat) : Beside pc d (d.addCounter pc n amount) := by
  simp only [Dev.addCounter]
  exact .ite (((Beside.setReg pc d _ _ _).trans (.record pc _ (by decide))).trans (.putCounter pc _ _ _)) (.putCounter pc d _ _)

theorem Beside.arith (pc : Nat) (d : Dev) (st : Nat) : Beside pc d (d.arith pc st) := .ite (.refl pc d) (.setReg pc d _ _ _)

theorem Beside.modCtx (pc : Nat) (d : Dev) (c : Nat) (f : CtxState → CtxState) : Beside pc d (d.modCtx pc c f) :=
  .modCell (f := fun s => s.setCtx c (f (d.ctx pc c))) rfl

theorem Beside.syncDone (pc : Nat) (d : Dev) (c xd v : Nat) : Beside pc d (d.syncDone pc c xd v) :=
  ((Beside.modCtx pc d c _).trans (.modCtx pc _ c _)).trans ((((Beside.modCtx pc _ c _).trans (.modCtx pc _ c _)).trans (.setReg pc _ _ _ _)).trans (.reselect pc _))

section
variable {pc : Nat} {d d' : Dev} (h : Beside pc d d')
include h

theorem Beside.mem : d'.mem = d.mem := by rw [← h.dev]
theorem Beside.net : d'.net = d.net := by rw [← h.dev]
theorem Beside.chans : (d'.cell pc).chans = (d.cell pc).chans := h.units.part (fun s => s.chans) rfl
theorem Beside.outbox : (d'.cell pc).outbox = (d.cell pc).outbox := h.units.part (fun s => s.outbox) rfl
theorem Beside.contribs : (d'.cell pc).contribs = (d.cell pc).contribs := h.units.part (fun s => s.contribs) rfl
theorem Beside.cqWait : (d'.cell pc).cqWait = (d.cell pc).cqWait := h.units.part (fun s => s.cqWait) rfl
theorem Beside.chan (k : Nat) : d'.chan (.cell pc) k = d.chan (.cell pc) k := by rw [Dev.chan, Dev.chan, h.chans]
theorem Beside.sep (k : Nat) : d'.sep (.cell pc) k = d.sep (.cell pc) k := h.units.part (fun s => SMap.read SepState.reset s.seps k) rfl
theorem Beside.cq (q : Nat) : d'.cq pc q = d.cq pc q := h.units.part (fun s => SMap.read CqState.reset s.cqs q) rfl
theorem Beside.reg (base : Nat) {inst item : Nat} (hb : 0x700 ≤ base % 2 ^ 12 ∧ base % 2 ^ 12 < 0x900 := by decide) : d'.reg base inst item = d.reg base inst item :=
  h.regs.reg (chanKey_regKey _ _ _ hb)
theorem Beside.get (f : Fld) {inst item : Nat} (hb : 0x700 ≤ f.base % 2 ^ 12 ∧ f.base % 2 ^ 12 < 0x900 := by decide) : d'.get f inst item = d.get f inst item :=
  h.regs.get f (chanKey_regKey _ _ _ hb)
theorem Beside.chanOpen (k : Nat) : d'.chanOpen (.cell pc) k = d.chanOpen (.cell pc) k := congrArg (fun v => decide (v = 1)) (h.get F.CELL_CHAN_RING_OPEN)
theorem Beside.chanRd (k : Nat) : d'.chanRd (.cell pc) k = d.chanRd (.cell pc) k := h.get F.CELL_CHAN_PTR_RD
theorem Beside.chanGen (k : Nat) : d'.chanGen (.cell pc) k = d.chanGen (.cell pc) k := h.get F.CELL_CHAN_GEN_GEN
theorem Beside.sepState (k : Nat) : d'.sepState (.cell pc) k = d.sepState (.cell pc) k := h.get F.CELL_SEP_STATE_STATE
theorem Beside.sent (k : Nat) : d'.sent (.cell pc) k = d.sent (.cell pc) k := h.get F.CELL_SEP_CREDITS_SENT
theorem Beside.freed (k : Nat) : d'.freed (.cell pc) k = d.freed (.cell pc) k := h.get F.CELL_SEP_CREDITS_FREED
theorem Beside.cqState (q : Nat) : d'.cqState pc q = d.cqState pc q := h.get F.CELL_CQ_STATE_STATE
theorem Beside.chanSource (k : Nat) : d'.chanSource (.cell pc) k = d.chanSource (.cell pc) k :=
  Dev.chanSource_of fun c _ hc _ => h.get c (by rw [hc]; decide)

end

end Sys2Proof.Machine
end

section
namespace Sys2Proof.Machine

/-! ## Waking contexts that wait on channels, credits and queues (R222, R224, R227, R229, R235) -/

/-- A wake of every parked context whose wait `p` accepts. -/
def Dev.wakeWhere (d : Dev) (pc : Nat) (p : Option Wait → Bool) : Dev :=
  (d.modCell pc (fun s => (List.range 32).foldl (fun s c => if (s.ctx c).phase = .parked && p (s.ctx c).wait then s.setCtx c (s.ctx c).wake else s) s)).reselect pc

/-- A wake concerns contexts alone, and neither storage nor counters. -/
structure Wakes (pc : Nat) (d d' : Dev) : Prop extends Beside pc d d' where
  steady : Steady pc d d'

theorem Wakes.refl (pc : Nat) (d : Dev) : Wakes pc d d := ⟨.refl pc d, .refl pc d⟩

theorem Wakes.wakeWhere (pc : Nat) (d : Dev) (p : Option Wait → Bool) : Wakes pc d (d.wakeWhere pc p) := by
  constructor
  · refine .trans (.modCell (.wakes (fun s c => ?_) _ _)) (.reselect pc _)
    split
    · exact .inr rfl
    · exact .inl rfl
  · refine .trans (.modCell d ?_) (.reselect pc _)
    refine Rechosen.wakes (fun s c => (s.ctx c).phase = .parked && p (s.ctx c).wait) _ fun c _ t _ hp => ?_
    rw [Bool.and_eq_true] at hp
    exact .inr (.inr (of_decide_eq_true hp.1))

theorem Wakes.wakeReceivers (pc : Nat) (d : Dev) (k : Nat) : Wakes pc d (d.wakeReceivers (.cell pc) k) := .wakeWhere pc d (fun w => w = some (.receive k))

theorem Wakes.wakeQueue (pc : Nat) (d : Dev) (q : Nat) : Wakes pc d (d.wakeQueue pc q) := .wakeWhere pc d (fun w => w = some (.queue 1 q))

/-- Senders that wake are parked ones. -/
theorem Wakes.wakeSenders (pc : Nat) (d : Dev) : Wakes pc d (d.wakeSenders pc) := by
  simp only [Dev.wakeSenders]
  split
  · exact .refl pc d
  · constructor
    · exact .trans (.modCell (.wakes (fun _ _ => .inr rfl) _ _)) (.reselect pc _)
    · refine .trans (.modCell d ?_) (.reselect pc _)
      refine Rechosen.wakes (fun _ _ => true) _ fun c hc t ht _ => (ht.ctx c).live ?_
      have hparked := (List.mem_filter.1 hc).2
      rw [Bool.and_eq_true] at hparked
      exact .inr (.inr (of_decide_eq_true hparked.1))

end Sys2Proof.Machine
end

section
namespace Sys2Proof.Machine

/-! ## How an instruction of class 0x9 ends (R193) -/

/-- An instruction that commits leaves its context at the next word with its value in XD, whatever it did beside the context. -/
theorem CounterCommits.of_ctx {d d1 : Dev} {pc c : Nat} (hctx : d1.ctx pc c = d.ctx pc c) (hmem : d1.mem = d.mem) (hothers : CellsStand d d1 pc) (xd v : Nat) :
    CounterCommits d (d1.syncDone pc c xd v) pc c xd v false := by
  have hin := InContexts.syncDone d1 pc c xd v
  refine ⟨fun r => ?_, ?_, d1.syncDone_start pc c xd v, hin.mem.trans hmem, hothers.trans hin.others⟩
  · rw [Dev.syncDone_xr, hctx]
  · rw [Dev.syncDone_pc, hctx, Dev.seqPc]

/-- The fields that an instruction of class 0x9 on an item of IMM may use. -/
theorem FmtS.ok_item {f : FmtS} {xa : Bool} {fl imm : Nat} (hxa : xa = true ∨ f.xa = 0) (hxb : f.xb = 0) (hfl : within fl f.fl.toNat = true)
    (himm : within imm f.imm.toNat = true) : f.ok ⟨true, xa, false, fl, imm⟩ = true := by
  rcases hxa with h | h <;> simp [FmtS.ok, h, hxb, hfl, himm]

/-- Every bit of a number below a power of two is within its mask. -/
theorem within_mask {n v : Nat} (h : v < 2 ^ n) : within (2 ^ n - 1) v = true := by
  rw [within, Nat.and_two_pow_sub_one_of_lt_two_pow h]
  exact decide_eq_true rfl

end Sys2Proof.Machine
end

section
namespace Sys2Proof.Machine

/-! ## Packets that enter the mesh (R284, R285) -/

/-- A packet's kind and the unit of a device that it is for. -/
def PktFor (q : Packet) (typ dev unit : Nat) : Prop := q.typ.toNat = typ ∧ q.dstDev.toNat = dev % 2 ^ 16 ∧ q.dstUnit.toNat = unit % 2 ^ 16

/-- Packets of one kind for one unit enter the mesh, or none does. -/
def Sends (d d' : Dev) (typ dev unit : Nat) : Prop := ∃ fs, d'.net = d.net ++ fs ∧ ∀ fl ∈ fs, PktFor fl.pkt typ dev unit

section
variable {d d1 d2 d' : Dev} {typ dev unit : Nat}

theorem Sends.refl (d : Dev) (typ dev unit : Nat) : Sends d d typ dev unit := ⟨[], (List.append_nil _).symm, nofun⟩

theorem Sends.trans (h : Sends d d1 typ dev unit) (h' : Sends d1 d2 typ dev unit) : Sends d d2 typ dev unit := by
  obtain ⟨fs, hnet, hfs⟩ := h
  obtain ⟨gs, hnet', hgs⟩ := h'
  exact ⟨fs ++ gs, by rw [hnet', hnet, List.append_assoc], fun fl hfl => (List.mem_append.1 hfl).elim (hfs fl) (hgs fl)⟩

theorem Sends.foldl {α : Type} {f : Dev → α → Dev} (l : List α) (hf : ∀ d, ∀ a ∈ l, Sends d (f d a) typ dev unit) (d : Dev) : Sends d (l.foldl f d) typ dev unit := by
  induction l generalizing d with
  | nil => exact .refl d ..
  | cons a l ih => exact (hf d a (List.mem_cons_self ..)).trans (ih (fun d b hb => hf d b (List.mem_cons_of_mem _ hb)) _)

theorem Launches.sends (h : Launches d d1 typ dev unit) (h' : Sends d1 d2 typ dev unit) : Launches d d2 typ dev unit := by
  obtain ⟨fs, hne, hnet, hfs⟩ := h
  obtain ⟨gs, hnet', hgs⟩ := h'
  exact ⟨fs ++ gs, List.append_ne_nil_of_left_ne_nil hne gs, by rw [hnet', hnet, List.append_assoc], fun fl hfl => (List.mem_append.1 hfl).elim (hfs fl) (hgs fl)⟩

/-- What else happens before and after does not matter, if no packet enters or leaves. -/
theorem Launches.within (h : Launches d1 d2 typ dev unit) (hnet : d1.net = d.net) (hnet' : d'.net = d2.net) : Launches d d' typ dev unit := by
  obtain ⟨fs, hne, hfs, hall⟩ := h
  exact ⟨fs, hne, by rw [hnet', hfs, hnet], hall⟩

end

/-- On its way into the mesh a packet keeps what its source gave it. -/
theorem Launches.send (d : Dev) {s : PktSpec} (h : s.typ < 2 ^ 8) : Launches d (d.send s) s.typ s.dstDev s.dstUnit := by
  have hrest := d.aim_rest (dpcRouter 0 ((d.unitDpc s.srcUnit).getD 0)) (d.mkPkt s)
  have htyp := congrArg (fun q => q.typ.toNat) hrest
  have hdev := congrArg (fun q => q.dstDev.toNat) hrest
  have hunit := congrArg (fun q => q.dstUnit.toNat) hrest
  simp only [Dev.mkPkt, pktSeal, BitVec.toNat_ofNat] at htyp hdev hunit
  refine ⟨_, List.cons_ne_nil _ [], rfl, fun fl hfl => ?_⟩
  rw [List.mem_singleton.1 hfl]
  exact ⟨htyp.trans (Nat.mod_eq_of_lt h), hdev, hunit⟩

theorem Launches.toSends {d d' : Dev} {typ dev unit : Nat} (h : Launches d d' typ dev unit) : Sends d d' typ dev unit :=
  h.imp fun _ hfs => hfs.2

/-! ## From the outbox to the mesh (R223, R285) -/

/-- A record for one target goes in packets of TYPE RECORD to the unit that its item names. -/
theorem Launches.itemPackets (d : Dev) {i : OutItem} (hcontrib : i.contrib = false) (hmcast : i.mcast = false) (src a b cls route : Nat) :
    Launches d (d.sendAll (d.itemPackets src i a b cls route)) 0x06 i.dstDev i.unit := by
  simp only [Dev.itemPackets, hcontrib, hmcast, Bool.false_eq_true, if_false]
  exact Launches.send d (by show 0x06 < 2 ^ 8; decide)

/-- What is left of a record is cut into one packet at least. -/
theorem cuts_cons {n a b fuel : Nat} (h : a < b) : ∃ e, cuts n a b (fuel + 1) = (a, e) :: cuts n e b fuel := by
  rw [cuts, if_neg (by omega)]
  exact ⟨_, rfl⟩

theorem Launches.sendItem (d : Dev) {i : OutItem} (hcontrib : i.contrib = false) (hmcast : i.mcast = false) (src : Nat) {a b : Nat} (h : a < b) (cls route : Nat) :
    Launches d (d.sendItem src i a b cls route) 0x06 i.dstDev i.unit := by
  have hpiece : ∀ (d : Dev) (c : Nat × Nat), Launches d (d.sendAll (d.itemPackets src i c.1 c.2 cls route)) 0x06 i.dstDev i.unit :=
    fun d c => Launches.itemPackets d hcontrib hmcast src c.1 c.2 cls route
  obtain ⟨e, hcuts⟩ := cuts_cons (n := pieceLimit i cls) (fuel := b) h
  rw [Dev.sendItem, hcuts]
  exact Launches.sends (hpiece d (a, e)) (.foldl _ (fun d c _ => Launches.toSends (hpiece d c)) _)

/-- Sending touches the mesh alone. -/
theorem Dev.sendAll_onlyNet (d : Dev) (l : List PktSpec) : { d.sendAll l with net := d.net } = d := by
  induction l generalizing d with
  | nil => rfl
  | cons s l ih => exact (congrArg (fun e : Dev => { e with net := d.net }) (ih (d.send s))).trans rfl

theorem Dev.sendItem_onlyNet (d : Dev) (src : Nat) (i : OutItem) (a b cls route : Nat) : { d.sendItem src i a b cls route with net := d.net } = d := by
  unfold Dev.sendItem
  generalize cuts (pieceLimit i cls) a b (b + 1) = l
  induction l generalizing d with
  | nil => rfl
  | cons c l ih =>
    have hfirst := d.sendAll_onlyNet (d.itemPackets src i c.1 c.2 cls route)
    exact (congrArg (fun e : Dev => { e with net := d.net }) (ih (d.sendAll (d.itemPackets src i c.1 c.2 cls route)))).trans hfirst

end Sys2Proof.Machine
end

section
namespace Sys2Proof.Machine

/-! ## A message is placed (R213 to R216, R222) -/

theorem ringBytes_le {size : Nat} (h : size ≤ 8) : ringBytes size ≤ 2 ^ 20 := by
  have hpow : 2 ^ size ≤ 2 ^ 8 := Nat.pow_le_pow_right (by decide) h
  rw [ringBytes]
  omega

/-- An offset in a ring fits the 20 bits of its field. -/
theorem mod_ringBytes_lt {size : Nat} (h : size ≤ 8) (v : Nat) : v % ringBytes size < 2 ^ 20 := by
  have hpos : 0 < ringBytes size := Nat.mul_pos (by decide) (Nat.two_pow_pos size)
  exact Nat.lt_of_lt_of_le (Nat.mod_lt v hpos) (ringBytes_le h)

section
variable {d : Dev} {o : Owner} {k : Nat} {msg : List Byte}

/-- The record of a message: its outbox item, and the device with the endpoint moved past it. -/
def Dev.messageRecord (d : Dev) (o : Owner) (k : Nat) (msg : List Byte) : OutItem × Dev :=
  let u := recUnits 0 msg.length
  d.placeRecord o k msg.length 0 u (padTo (64 * u - 16) msg) (64 * u)

/-- The device with a message that needs no pad placed and counted. -/
def Dev.placed (d : Dev) (o : Owner) (k : Nat) (msg : List Byte) : Dev :=
  ((d.messageRecord o k msg).2.oc o k F.CELL_SEP_MSGS_SENT F.DEV_OSEP_MSGS_SENT).oc o k F.CELL_SEP_BYTES_SENT F.DEV_OSEP_BYTES_SENT msg.length

theorem Dev.padUnits_fits {u : Nat} (h : d.og o k F.CELL_SEP_STATE_WR F.DEV_OSEP_STATE_WR + 64 * u ≤ d.sepRing o k) : d.padUnits o k u = 0 := by
  rw [Dev.padUnits, if_pos]
  omega

theorem Dev.placeMessage_fits (h : d.padUnits o k (recUnits 0 msg.length) = 0) : d.placeMessage o k msg = ([(d.messageRecord o k msg).1], d.placed o k msg) := by
  simp only [Dev.placeMessage, h, if_true]
  rfl

theorem Dev.placed_sent : (d.placed o k msg).sent o k = (d.sent o k + recUnits 0 msg.length) % 2 ^ 32 := by
  have hwr : ∀ v, (d.os o k F.CELL_SEP_STATE_WR F.DEV_OSEP_STATE_WR v).sent o k = d.sent o k := fun v => d.og_os_leaves o k (by decide) (by decide) v
  rw [Dev.sent, Dev.placed, Dev.og_oc _ _ _ (by decide) (by decide), Dev.og_oc _ _ _ (by decide) (by decide), Dev.messageRecord, Dev.placeRecord, Dev.og_modSep,
    Dev.og_os_same _ _ _ (by decide), hwr]
  exact Nat.mod_eq_of_lt (Nat.mod_lt _ (Nat.two_pow_pos 32))

theorem Dev.placed_wr (hsize : d.og o k F.CELL_SEP_STATE_SIZE F.DEV_OSEP_STATE_SIZE ≤ 8) : (d.placed o k msg).og o k F.CELL_SEP_STATE_WR F.DEV_OSEP_STATE_WR =
    (d.og o k F.CELL_SEP_STATE_WR F.DEV_OSEP_STATE_WR + 64 * recUnits 0 msg.length) % d.sepRing o k := by
  rw [Dev.placed, Dev.og_oc _ _ _ (by decide) (by decide), Dev.og_oc _ _ _ (by decide) (by decide), Dev.messageRecord, Dev.placeRecord, Dev.og_modSep,
    Dev.og_os_leaves _ _ _ (by decide) (by decide), Dev.og_os_same _ _ _ (by decide)]
  exact Nat.mod_eq_of_lt (mod_ringBytes_lt hsize _)

theorem Dev.placed_mem : (d.placed o k msg).mem = d.mem := by simp [Dev.placed, Dev.messageRecord, Dev.placeRecord]

theorem Dev.placed_net : (d.placed o k msg).net = d.net := by simp [Dev.placed, Dev.messageRecord, Dev.placeRecord]

theorem padTo_take {n : Nat} {msg : List Byte} (h : msg.length ≤ n) : (padTo n msg).take msg.length = msg := by
  rw [padTo, List.take_take, Nat.min_eq_left h, List.take_append_of_le_length (Nat.le_refl _), List.take_length]

end

section
variable (d : Dev) (pc k c : Nat) (msg : List Byte)

/-- Of the cell the endpoint alone changes. -/
theorem Dev.placed_cell : (d.placed (.cell pc) k msg).cell pc = { d.cell pc with seps := ((d.placed (.cell pc) k msg).cell pc).seps } := by
  have hcells : (d.placed (.cell pc) k msg).cells = (d.messageRecord (.cell pc) k msg).2.cells := by rw [Dev.placed, Dev.oc_cells, Dev.oc_cells]
  rw [Dev.cell, hcells, ← Dev.cell, Dev.messageRecord, Dev.placeRecord, Dev.modSep, Dev.cell_modCell_same]
  simp only [Dev.cell, Dev.os_cells]

theorem Dev.placed_others : CellsStand d (d.placed (.cell pc) k msg) pc := by
  have hos : ∀ (e : Dev) (c s : Fld) (v : Nat), CellsStand e (e.os (.cell pc) k c s v) pc := fun e c s v => .of_cells (e.os_cells ..) pc
  have hoc : ∀ (e : Dev) (c s : Fld) (v : Nat), CellsStand e (e.oc (.cell pc) k c s v) pc := fun e c s v => .of_cells (e.oc_cells ..) pc
  exact (((hos d _ _ _).trans (hos _ _ _ _)).trans (.modSep _ pc k _)).trans ((hoc _ _ _ _).trans (hoc _ _ _ _))

end

end Sys2Proof.Machine
end

section
namespace Sys2Proof.Machine

/-! ## An instruction that commits, by what its body does (R107, R193) -/

theorem Does.ordered {x : Instr} {d : Dev} (d1 : Dev) {pc c : Nat} (xd v : Nat) {legal : Bool} {body : Dev → CoreEnd} {post : Dev → Prop} (hready : d.ready pc c = true)
    (hpending : d.anyPending pc c = false) (hlegal : legal = true) (hexec : ∀ s, exec x s = s.run (fun d => d.issueOrdered pc c legal body))
    (hbody : body d = d1.commitSync pc c xd v) (hp : post (d1.syncDone pc c xd v)) : Does x d post :=
  .of_run hexec (by rwa [Dev.issueOrdered_commits hready hpending hlegal hbody])

/-- An instruction that answers without an effect of its own. -/
theorem CounterCommits.answers (d : Dev) (pc c xd v : Nat) : CounterCommits d (d.syncDone pc c xd v) pc c xd v false ∧
    ((d.syncDone pc c xd v).cell pc).chans = (d.cell pc).chans ∧ ((d.syncDone pc c xd v).cell pc).outbox = (d.cell pc).outbox :=
  have hdone := Beside.syncDone pc d c xd v
  ⟨CounterCommits.of_ctx rfl rfl (.refl d pc) xd v, hdone.chans, hdone.outbox⟩

/-! ## CSEND (R222) -/

/-- The device with a message that needs no pad placed, and its record in the outbox. -/
def Dev.sendPlaced (d : Dev) (pc k : Nat) (msg : List Byte) : Dev :=
  (d.placed (.cell pc) k msg).modCell pc (fun s => { s with outbox := s.outbox ++ [(d.messageRecord (.cell pc) k msg).1] })

section
variable (d : Dev) (pc k : Nat) (msg : List Byte)

theorem Dev.sendPlaced_outbox : ((d.sendPlaced pc k msg).cell pc).outbox = (d.cell pc).outbox ++ [(d.messageRecord (.cell pc) k msg).1] := by
  rw [Dev.sendPlaced, Dev.cell_modCell_same, d.placed_cell pc k msg]

theorem Dev.sendPlaced_ctx (c : Nat) : (d.sendPlaced pc k msg).ctx pc c = d.ctx pc c := by
  rw [Dev.ctx, Dev.sendPlaced, Dev.cell_modCell_same, d.placed_cell pc k msg]
  rfl

theorem Dev.sendPlaced_mem : (d.sendPlaced pc k msg).mem = d.mem := (Dev.modCell_mem _ pc _).trans Dev.placed_mem

theorem Dev.sendPlaced_get (f : Fld) : (d.sendPlaced pc k msg).get f pc (k + 1) = (d.placed (.cell pc) k msg).get f pc (k + 1) := Dev.get_modCell _ pc _ f _ _

theorem Dev.sendPlaced_others : CellsStand d (d.sendPlaced pc k msg) pc := (d.placed_others pc k msg).trans (.modCell _ pc _)

end

section
variable {pc : Slot} {c : Ctx} {f : FmtS} {d : Dev} (hready : d.ready pc c = true) (hpending : d.anyPending pc c = false)
  (hxb : f.xb = 0) (hfl : f.fl.toNat ≤ 1) (himm : f.imm.toNat < 64)
include hready hpending hxb hfl himm

section
variable {src len : Nat} (hdesc : d.sendDesc pc ((d.ctx pc c).xr f.xa.toNat).toNat = some (src, len))
include hdesc

/-- CSEND commits with the status that R222 gives, and sends nothing. -/
theorem Does.csend_answers {code : Nat} (hcheck : d.sendCheck (.cell pc) f.imm.toNat len (d.outFree pc) = .status code) : Does (.csend pc c f) d (fun d' =>
    CounterCommits d d' pc c f.xd.toNat code false ∧ (d'.cell pc).outbox = (d.cell pc).outbox) := by
  refine .ordered d f.xd.toNat code hready hpending (FmtS.ok_item (.inl rfl) hxb (within_mask (n := 1) (by omega)) (within_mask (n := 6) himm)) (fun _ => rfl) ?_ ?_
  · simp only [hdesc, Nat.mod_eq_of_lt himm, hcheck]
  · obtain ⟨hcommits, -, hbox⟩ := CounterCommits.answers d pc c f.xd.toNat code
    exact ⟨hcommits, hbox⟩

/-- CSEND places a message that fits before the end of the ring, and returns 0. -/
theorem Does.csend_sends (hcheck : d.sendCheck (.cell pc) f.imm.toNat len (d.outFree pc) = .go) (hsize : d.get F.CELL_SEP_STATE_SIZE pc (f.imm.toNat + 1) ≤ 8)
    (hfits : d.get F.CELL_SEP_STATE_WR pc (f.imm.toNat + 1) + 64 * ((16 + len + 63) / 64) ≤ d.sepRing (.cell pc) f.imm.toNat) : Does (.csend pc c f) d (fun d' =>
    CounterCommits d d' pc c f.xd.toNat 0 false ∧
    (∃ it, (d'.cell pc).outbox = (d.cell pc).outbox ++ [it] ∧ it.sep = f.imm.toNat ∧ it.seq = (d.sep (.cell pc) f.imm.toNat).seq ∧
      it.off = d.get F.CELL_SEP_STATE_WR pc (f.imm.toNat + 1) ∧ it.contrib = false ∧ it.sent = 0 ∧ it.body.take len = d.spad pc src len) ∧
    d'.get F.CELL_SEP_STATE_WR pc (f.imm.toNat + 1) =
      (d.get F.CELL_SEP_STATE_WR pc (f.imm.toNat + 1) + 64 * ((16 + len + 63) / 64)) % d.sepRing (.cell pc) f.imm.toNat ∧
    d'.sent (.cell pc) f.imm.toNat = (d.sent (.cell pc) f.imm.toNat + (16 + len + 63) / 64) % 2 ^ 32) := by
  have hlen : (d.spad pc src len).length = len := Memory.read_length ..
  have hfits' : d.padUnits (.cell pc) f.imm.toNat (recUnits 0 (d.spad pc src len).length) = 0 := Dev.padUnits_fits (by rw [hlen]; exact hfits)
  refine .ordered (d.sendPlaced pc f.imm.toNat (d.spad pc src len)) f.xd.toNat 0 hready hpending
    (FmtS.ok_item (.inl rfl) hxb (within_mask (n := 1) (by omega)) (within_mask (n := 6) himm)) (fun _ => rfl) ?_ ?_
  · simp only [hdesc, Nat.mod_eq_of_lt himm, hcheck, Dev.placeMessage_fits hfits']
    rfl
  · have hdone := Beside.syncDone pc (d.sendPlaced pc f.imm.toNat (d.spad pc src len)) c f.xd.toNat 0
    have hunits : recUnits 0 (d.spad pc src len).length = (16 + len + 63) / 64 := by rw [hlen]; rfl
    have hbody : (padTo (64 * recUnits 0 (d.spad pc src len).length - 16) (d.spad pc src len)).take len = d.spad pc src len := by
      have htake := padTo_take (n := 64 * recUnits 0 (d.spad pc src len).length - 16) (msg := d.spad pc src len) (by rw [hunits, hlen]; omega)
      rw [hunits] at htake ⊢
      rwa [hlen] at htake
    refine ⟨CounterCommits.of_ctx (d.sendPlaced_ctx pc _ _ c) (d.sendPlaced_mem pc _ _) (d.sendPlaced_others pc _ _) _ _,
      ⟨_, hdone.outbox.trans (d.sendPlaced_outbox pc _ _), rfl, rfl, rfl, rfl, rfl, hbody⟩, ?_, ?_⟩
    · have hwr := Dev.placed_wr (msg := d.spad pc src len) (o := .cell pc) hsize
      rw [hunits] at hwr
      exact ((hdone.get F.CELL_SEP_STATE_WR).trans (d.sendPlaced_get pc _ _ _)).trans hwr
    · have hsent := Dev.placed_sent (d := d) (o := .cell pc) (k := f.imm.toNat) (msg := d.spad pc src len)
      rw [hunits] at hsent
      exact ((hdone.get F.CELL_SEP_CREDITS_SENT).trans (d.sendPlaced_get pc _ _ _)).trans hsent

end

/-! ## CPEEK (R224, R226) -/

section
variable (hxa : f.xa = 0)
include hxa

/-- CPEEK commits with a word, and leaves the channel as it is. -/
theorem Does.cpeek_answers {v : Nat} (hv : d.nmReads pc f.imm.toNat = true ∧ v = 7 ∨
    d.nmReads pc f.imm.toNat = false ∧ (d.chanOpen (.cell pc) f.imm.toNat = false ∧ v = 1 ∨ d.hasHead (.cell pc) f.imm.toNat = true ∧
      v = 2 ^ 63 + d.headLen (.cell pc) f.imm.toNat * 2 ^ 24 + (d.get F.CELL_CHAN_RING_BASE pc (f.imm.toNat + 1) + d.chanRd (.cell pc) f.imm.toNat + 16))) :
    Does (.cpeek pc c f) d (fun d' => CounterCommits d d' pc c f.xd.toNat v false ∧ (d'.cell pc).chans = (d.cell pc).chans) := by
  refine .ordered d f.xd.toNat v hready hpending (FmtS.ok_item (.inr hxa) hxb (within_mask (n := 1) (by omega)) (within_mask (n := 6) himm)) (fun _ => rfl) ?_ ?_
  · rcases hv with ⟨hnm, rfl⟩ | ⟨hnm, ⟨hclosed, rfl⟩ | ⟨hhead, rfl⟩⟩
    · simp only [Nat.mod_eq_of_lt himm, hnm, if_true]
    · simp only [Nat.mod_eq_of_lt himm, hnm, hclosed, Bool.not_false, Bool.false_eq_true, if_false, if_true]
    · have hopen : d.chanOpen (.cell pc) f.imm.toNat = true := (Bool.and_eq_true_iff.1 hhead).1
      simp only [Nat.mod_eq_of_lt himm, hnm, hopen, hhead, Bool.not_true, Bool.false_eq_true, if_false, if_true]
  · obtain ⟨hcommits, hchans, -⟩ := CounterCommits.answers d pc c f.xd.toNat v
    exact ⟨hcommits, hchans⟩

end

end

end Sys2Proof.Machine
end

section
namespace Sys2Proof.Machine

/-! ## The head of a channel is freed (R218, R220, R225) -/

section
variable {d : Dev} {o : Owner} {k : Nat}

/-- Units of the record at RD. -/
def Dev.headUnits (d : Dev) (o : Owner) (k : Nat) : Nat := recUnits (d.headKind o k) (d.headLen o k)

/-- Where RD stands once the record at RD is freed. -/
def Dev.nextRd (d : Dev) (o : Owner) (k : Nat) : Nat := (d.chanRd o k + 64 * d.headUnits o k) % d.chanBytes o k

theorem Dev.headUnits_message (h : d.headKind o k = 0) : d.headUnits o k = (16 + d.headLen o k + 63) / 64 := by
  rw [Dev.headUnits, h]
  rfl

theorem Dev.loadNat_lt (d : Dev) (a n : Nat) : d.loadNat a n < 256 ^ n := by
  have h := leNat_lt (d.load a n)
  have hlen : (d.load a n).length = n := Memory.read_length ..
  rwa [hlen] at h

theorem Dev.headLen_lt (d : Dev) (o : Owner) (k : Nat) : d.headLen o k < 65536 := d.loadNat_lt _ 2

theorem Dev.freeHead_eq : d.freeHead o k = (d.os o k F.CELL_CHAN_PTR_RD F.DEV_OSCH_PTR_RD (d.nextRd o k)).modChan o k
    (fun c => { c with visible := c.visible - d.headUnits o k, freed := (c.freed + d.headUnits o k) % 2 ^ 32 }) := rfl

theorem Dev.freeHead_chan : (d.freeHead o k).chan o k =
    { d.chan o k with visible := (d.chan o k).visible - d.headUnits o k, freed := ((d.chan o k).freed + d.headUnits o k) % 2 ^ 32 } := by
  rw [Dev.freeHead_eq, Dev.chan_modChan, Dev.chan_os]

theorem Dev.freeHead_rd (hsize : d.og o k F.CELL_CHAN_RING_SIZE F.DEV_OSCH_RING_SIZE ≤ 8) : (d.freeHead o k).chanRd o k = d.nextRd o k := by
  rw [Dev.freeHead_eq, Dev.chanRd, Dev.og_modChan, Dev.og_os_same _ _ _ (by decide)]
  exact Nat.mod_eq_of_lt (mod_ringBytes_lt hsize _)

theorem Dev.freeHead_og {c s : Fld} (hc : F.CELL_CHAN_PTR_RD.leaves c = true) (hs : F.DEV_OSCH_PTR_RD.leaves s = true) : (d.freeHead o k).og o k c s = d.og o k c s := by
  rw [Dev.freeHead_eq, Dev.og_modChan, Dev.og_os_leaves _ _ _ hc hs]

theorem Dev.freeHead_mem : (d.freeHead o k).mem = d.mem := by rw [Dev.freeHead_eq, Dev.modChan_mem, Dev.os_mem]

theorem Dev.freeHead_net : (d.freeHead o k).net = d.net := by rw [Dev.freeHead_eq, Dev.modChan_net, Dev.os_net]

theorem Dev.freeHead_source : (d.freeHead o k).chanSource o k = d.chanSource o k := Dev.chanSource_of fun c s hc hs =>
  Dev.freeHead_og (by rw [Fld.leaves, hc]; rfl) (by rw [Fld.leaves, hs]; rfl)

theorem Dev.freeHead_ringBase (pc : Nat) : (d.freeHead (.cell pc) k).ringBase (.cell pc) k = d.ringBase (.cell pc) k :=
  congrArg (sliceBase pc + ·) (Dev.freeHead_og (o := .cell pc) (c := F.CELL_CHAN_RING_BASE) (s := F.DEV_OSCH_RING_BASE) (by decide) (by decide))

theorem Dev.eatPad_none (h : (d.hasHead o k && d.headKind o k = 1) = false) : d.eatPad o k = d := by
  rw [Dev.eatPad, h, if_neg Bool.false_ne_true]

/-- With nothing visible left there is no pad to consume. -/
theorem Dev.eatPad_freeHead_last (h : (d.chan o k).visible ≤ d.headUnits o k) : (d.freeHead o k).eatPad o k = d.freeHead o k := by
  refine Dev.eatPad_none ?_
  have hvisible : ((d.freeHead o k).chan o k).visible = 0 := by
    rw [Dev.freeHead_chan]
    exact Nat.sub_eq_zero_of_le h
  rw [Dev.hasHead, hvisible]
  simp

end

/-! ## A credit return (R220) -/

section
variable (d : Dev) (o : Owner) (k : Nat)

/-- A credit return sends a packet, and the units returned are those freed. -/
theorem Dev.creditReturn_some {w : Nat} (h : d.chanSource o k = some w) : ∃ body, d.creditReturn o k =
    (d.send (uPkt 0x07 (bitsOf w 29 20) (sourceUnit w) (d.ownerUnit o) [] body)).modChan o k (fun c => { c with returned := c.freed }) := by
  rw [Dev.creditReturn, h]
  exact ⟨_, rfl⟩

/-- What a credit check leaves of the channel and of the device, whether a return is due or not. -/
theorem Dev.creditCheck_stands : (d.creditCheck o k).mem = d.mem ∧ (d.creditCheck o k).regs = d.regs ∧ ((d.creditCheck o k).chan o k).visible = (d.chan o k).visible ∧
    ((d.creditCheck o k).chan o k).freed = (d.chan o k).freed := by
  simp only [Dev.creditCheck]
  split
  · cases h : d.chanSource o k with
    | none =>
      rw [Dev.creditReturn, h]
      exact ⟨rfl, rfl, rfl, rfl⟩
    | some w =>
      obtain ⟨body, hreturn⟩ := d.creditReturn_some o k h
      rw [hreturn]
      simp
  · exact ⟨rfl, rfl, rfl, rfl⟩

/-- With nothing left to read, units freed and not returned are returned at once. -/
theorem Dev.creditCheck_sends {w : Nat} (hsource : d.chanSource o k = some w) (hempty : (d.chan o k).visible = 0)
    (hdue : ((d.chan o k).freed + 2 ^ 32 - (d.chan o k).returned) % 2 ^ 32 ≠ 0) : Launches d (d.creditCheck o k) 0x07 (bitsOf w 29 20) (sourceUnit w) := by
  obtain ⟨body, hreturn⟩ := d.creditReturn_some o k hsource
  rw [Dev.creditCheck, if_pos (by rw [Bool.or_eq_true, Bool.and_eq_true]; exact .inr ⟨decide_eq_true hempty, decide_eq_true hdue⟩), hreturn]
  exact Launches.within (Launches.send d (s := uPkt 0x07 (bitsOf w 29 20) (sourceUnit w) (d.ownerUnit o) [] body) (by show 0x07 < 2 ^ 8; decide)) rfl (Dev.modChan_net ..)

end

section
variable (d : Dev) (pc k : Nat)

theorem Dev.creditCheck_cell : CellsStand d (d.creditCheck (.cell pc) k) pc ∧ ∀ c, (d.creditCheck (.cell pc) k).ctx pc c = d.ctx pc c := by
  simp only [Dev.creditCheck]
  split
  · cases h : d.chanSource (.cell pc) k with
    | none =>
      rw [Dev.creditReturn, h]
      exact ⟨.refl d pc, fun _ => rfl⟩
    | some w =>
      obtain ⟨body, hreturn⟩ := d.creditReturn_some (.cell pc) k h
      rw [hreturn]
      exact ⟨(CellsStand.of_cells rfl pc).trans (.modChan _ pc k _), fun c => Dev.ctx_modChan _ pc k c _⟩
  · exact ⟨.refl d pc, fun _ => rfl⟩

theorem Dev.freeHead_cell : CellsStand d (d.freeHead (.cell pc) k) pc ∧ ∀ c, (d.freeHead (.cell pc) k).ctx pc c = d.ctx pc c := by
  rw [Dev.freeHead_eq]
  refine ⟨(CellsStand.of_cells (d.os_cells ..) pc).trans (.modChan _ pc k _), fun c => ?_⟩
  rw [Dev.ctx_modChan, Dev.ctx_of_cells (d.os_cells ..)]

end

/-! ## A message at the head is advanced over (R225) -/

section
variable {d : Dev} {o : Owner} {k : Nat} (hpad : (d.freeHead o k).eatPad o k = d.freeHead o k)
include hpad

theorem Dev.advance_eq : d.advance o k = (d.freeHead o k).creditCheck o k := by rw [Dev.advance, hpad]

theorem Dev.advance_og (c s : Fld) : (d.advance o k).og o k c s = (d.freeHead o k).og o k c s := by
  obtain ⟨-, hregs, -, -⟩ := (d.freeHead o k).creditCheck_stands o k
  rw [Dev.advance_eq hpad]
  exact congrArg (fun v => bitsOf v _ _) (Dev.reg_of_regs hregs _ _ _)

theorem Dev.advance_chan : ((d.advance o k).chan o k).visible = (d.chan o k).visible - d.headUnits o k ∧
    ((d.advance o k).chan o k).freed = ((d.chan o k).freed + d.headUnits o k) % 2 ^ 32 := by
  obtain ⟨-, -, hvisible, hfreed⟩ := (d.freeHead o k).creditCheck_stands o k
  rw [Dev.advance_eq hpad, hvisible, hfreed, Dev.freeHead_chan]
  exact ⟨rfl, rfl⟩

theorem Dev.advance_mem : (d.advance o k).mem = d.mem := by
  obtain ⟨hmem, -, -, -⟩ := (d.freeHead o k).creditCheck_stands o k
  rw [Dev.advance_eq hpad, hmem, Dev.freeHead_mem]

end

theorem Dev.advance_rd {d : Dev} {o : Owner} {k : Nat} (hpad : (d.freeHead o k).eatPad o k = d.freeHead o k)
    (hsize : d.og o k F.CELL_CHAN_RING_SIZE F.DEV_OSCH_RING_SIZE ≤ 8) : (d.advance o k).chanRd o k = d.nextRd o k :=
  (Dev.advance_og hpad _ _).trans (Dev.freeHead_rd hsize)

theorem Dev.advance_cell {d : Dev} {pc k : Nat} (hpad : (d.freeHead (.cell pc) k).eatPad (.cell pc) k = d.freeHead (.cell pc) k) :
    CellsStand d (d.advance (.cell pc) k) pc ∧ ∀ c, (d.advance (.cell pc) k).ctx pc c = d.ctx pc c := by
  obtain ⟨hothers, hctx⟩ := d.freeHead_cell pc k
  obtain ⟨hothers', hctx'⟩ := (d.freeHead (.cell pc) k).creditCheck_cell pc k
  rw [Dev.advance_eq hpad]
  exact ⟨hothers.trans hothers', fun c => (hctx' c).trans (hctx c)⟩

/-- When the last record is freed and all that was freed before has been returned, its units go back to the sender (R220). -/
theorem Dev.advance_returns {d : Dev} {o : Owner} {k w : Nat} (hsource : d.chanSource o k = some w) (hlast : (d.chan o k).visible = d.headUnits o k)
    (hreturned : (d.chan o k).returned = (d.chan o k).freed) (hfreed : (d.chan o k).freed < 2 ^ 32) (hunits : 0 < d.headUnits o k) (hunits' : d.headUnits o k < 2 ^ 32) :
    Launches d (d.advance o k) 0x07 (bitsOf w 29 20) (sourceUnit w) := by
  rw [Dev.advance_eq (Dev.eatPad_freeHead_last (Nat.le_of_eq hlast))]
  refine Launches.within (Dev.creditCheck_sends (d.freeHead o k) o k (Dev.freeHead_source.trans hsource) ?_ ?_) Dev.freeHead_net rfl
  · rw [Dev.freeHead_chan]
    exact Nat.sub_eq_zero_of_le (Nat.le_of_eq hlast)
  · rw [Dev.freeHead_chan]
    simp only [hreturned]
    omega

end Sys2Proof.Machine
end

section
namespace Sys2Proof.Machine

/-! ## CADV (R225, R226) -/

section
variable {pc : Slot} {c : Ctx} {f : FmtS} {d : Dev} (hready : d.ready pc c = true) (hpending : d.anyPending pc c = false)
  (hxb : f.xb = 0) (hfl : f.fl = 0) (himm : f.imm.toNat < 64)
include hready hpending hxb hfl himm

/-- CADV that frees nothing commits with a status, and leaves the channel as it is. -/
theorem Does.cadv_answers {code : Nat} (hcode : d.nmReads pc f.imm.toNat = true ∧ code = 7 ∨ d.nmReads pc f.imm.toNat = false ∧
    (d.chanOpen (.cell pc) f.imm.toNat = false ∧ code = 1 ∨ d.chanOpen (.cell pc) f.imm.toNat = true ∧ d.hasHead (.cell pc) f.imm.toNat = false ∧ code = 5 ∨
      d.hasHead (.cell pc) f.imm.toNat = true ∧ code = 6 ∧
        ((d.ctx pc c).xr f.xa.toNat).toNat ≠ d.get F.CELL_CHAN_RING_BASE pc (f.imm.toNat + 1) + d.chanRd (.cell pc) f.imm.toNat + 16)) :
    Does (.cadv pc c f) d (fun d' => CounterCommits d d' pc c f.xd.toNat code false ∧ (d'.cell pc).chans = (d.cell pc).chans) := by
  refine .ordered d f.xd.toNat code hready hpending (FmtS.ok_item (.inl rfl) hxb (by rw [hfl]; rfl) (within_mask (n := 6) himm)) (fun _ => rfl) ?_ ?_
  · rcases hcode with ⟨hnm, rfl⟩ | ⟨hnm, ⟨hclosed, rfl⟩ | ⟨hopen, hempty, rfl⟩ | ⟨hhead, rfl, hxa⟩⟩
    · simp only [Nat.mod_eq_of_lt himm, hnm, if_true]
    · simp only [Nat.mod_eq_of_lt himm, hnm, hclosed, Bool.not_false, Bool.false_eq_true, if_false, if_true]
    · simp only [Nat.mod_eq_of_lt himm, hnm, hopen, hempty, Bool.not_true, Bool.not_false, Bool.false_eq_true, if_false, if_true]
    · have hopen : d.chanOpen (.cell pc) f.imm.toNat = true := (Bool.and_eq_true_iff.1 hhead).1
      simp only [Nat.mod_eq_of_lt himm, hnm, hopen, hhead, Bool.not_true, Bool.false_eq_true, if_false, if_pos hxa]
  · obtain ⟨hcommits, hchans, -⟩ := CounterCommits.answers d pc c f.xd.toNat code
    exact ⟨hcommits, hchans⟩

section
variable (hnm : d.nmReads pc f.imm.toNat = false) (hhead : d.hasHead (.cell pc) f.imm.toNat = true)
  (hxa : ((d.ctx pc c).xr f.xa.toNat).toNat = d.get F.CELL_CHAN_RING_BASE pc (f.imm.toNat + 1) + d.chanRd (.cell pc) f.imm.toNat + 16)
include hnm hhead hxa

/-- CADV that names the head advances over it and returns 0. -/
theorem Does.cadv {post : Dev → Prop} (hp : post ((d.advance (.cell pc) f.imm.toNat).syncDone pc c f.xd.toNat 0)) : Does (.cadv pc c f) d post := by
  refine .ordered (d.advance (.cell pc) f.imm.toNat) f.xd.toNat 0 hready hpending (FmtS.ok_item (.inl rfl) hxb (by rw [hfl]; rfl) (within_mask (n := 6) himm))
    (fun _ => rfl) ?_ hp
  have hopen : d.chanOpen (.cell pc) f.imm.toNat = true := (Bool.and_eq_true_iff.1 hhead).1
  simp only [Nat.mod_eq_of_lt himm, hnm, hopen, hhead, hxa, Bool.not_true, Bool.false_eq_true, if_false, ne_eq, not_true_eq_false]

/-- The head message is freed, and its units go back to the sender. -/
theorem Does.cadv_frees (hsize : d.get F.CELL_CHAN_RING_SIZE pc (f.imm.toNat + 1) ≤ 8) (hkind : d.headKind (.cell pc) f.imm.toNat = 0)
    (hnext : (d.chan (.cell pc) f.imm.toNat).visible ≤ d.headUnits (.cell pc) f.imm.toNat ∨
      d.loadNat (d.ringBase (.cell pc) f.imm.toNat + d.nextRd (.cell pc) f.imm.toNat + 10) 1 ≠ 1) :
    Does (.cadv pc c f) d (fun d' => CounterCommits d d' pc c f.xd.toNat 0 false ∧
      (d'.chan (.cell pc) f.imm.toNat).visible = (d.chan (.cell pc) f.imm.toNat).visible - d.headUnits (.cell pc) f.imm.toNat ∧
      (d'.chan (.cell pc) f.imm.toNat).freed = ((d.chan (.cell pc) f.imm.toNat).freed + d.headUnits (.cell pc) f.imm.toNat) % 2 ^ 32 ∧
      d'.chanRd (.cell pc) f.imm.toNat = d.nextRd (.cell pc) f.imm.toNat ∧
      ∀ w, (d.chan (.cell pc) f.imm.toNat).visible = d.headUnits (.cell pc) f.imm.toNat →
        (d.chan (.cell pc) f.imm.toNat).returned = (d.chan (.cell pc) f.imm.toNat).freed → (d.chan (.cell pc) f.imm.toNat).freed < 2 ^ 32 →
        d.chanSource (.cell pc) f.imm.toNat = some w → Launches d d' 0x07 (bitsOf w 29 20) (sourceUnit w)) := by
  have hpad : (d.freeHead (.cell pc) f.imm.toNat).eatPad (.cell pc) f.imm.toNat = d.freeHead (.cell pc) f.imm.toNat := by
    rcases hnext with hlast | hkind'
    · exact Dev.eatPad_freeHead_last hlast
    · refine Dev.eatPad_none ?_
      have hrd : (d.freeHead (.cell pc) f.imm.toNat).chanRd (.cell pc) f.imm.toNat = d.nextRd (.cell pc) f.imm.toNat := Dev.freeHead_rd (o := .cell pc) hsize
      have hk : (d.freeHead (.cell pc) f.imm.toNat).headKind (.cell pc) f.imm.toNat ≠ 1 := by
        rw [Dev.headKind, Dev.freeHead_ringBase, hrd, Dev.loadNat, Dev.load_of_mem (Dev.freeHead_mem (d := d) (o := .cell pc) (k := f.imm.toNat))]
        exact hkind'
      rw [decide_eq_false hk, Bool.and_false]
  have hdone := Beside.syncDone pc (d.advance (.cell pc) f.imm.toNat) c f.xd.toNat 0
  have hunits := Dev.headUnits_message hkind
  have hlen := d.headLen_lt (.cell pc) f.imm.toNat
  obtain ⟨hvisible, hfreed⟩ := Dev.advance_chan hpad
  obtain ⟨hothers, hctx⟩ := Dev.advance_cell hpad
  refine .cadv hready hpending hxb hfl himm hnm hhead hxa
    ⟨CounterCommits.of_ctx (hctx c) (Dev.advance_mem hpad) hothers _ _, ?_, ?_, (hdone.chanRd _).trans (Dev.advance_rd (o := .cell pc) hpad hsize), fun w hlast hret hlt hsrc => ?_⟩
  · rw [hdone.chan, hvisible]
  · rw [hdone.chan, hfreed]
  · exact Launches.within (Dev.advance_returns hsrc hlast hret hlt (by omega) (by omega)) rfl hdone.net

end

end

/-- Settles O20: each instruction by how its body ends; a send by the record that it places, an advance by the head that it frees. -/
theorem channelInstructionsSendPeekAndAdvance : Obligations.ChannelInstructionsSendPeekAndAdvance := by
  intro pc c f d hready hpending hxb hfl himm
  refine ⟨fun src len hdesc => ⟨fun hcheck hsize => ?_, fun hunbound => ?_, fun hclosed => ?_⟩, fun hxa hnm => ⟨fun hhead => ?_, fun hclosed => ?_⟩, fun hxa hnm => ?_,
    fun hfl hsize => ⟨fun hnm => ?_, fun hnm hclosed => ?_, fun hnm hopen hempty => ?_, fun hnm hhead => ⟨fun hxa => ?_, fun hxa hkind hnext => ?_⟩⟩⟩
  · exact fun hfits => .csend_sends hready hpending hxb hfl himm hdesc hcheck hsize hfits
  · refine .csend_answers hready hpending hxb hfl himm hdesc ?_
    rcases hunbound with h | h
    · simp only [Dev.sendCheck, h]
    · simp only [Dev.sendCheck, h]
  · exact .csend_answers hready hpending hxb hfl himm hdesc (by simp only [Dev.sendCheck, hclosed])
  · exact .cpeek_answers hready hpending hxb hfl himm hxa (.inr ⟨hnm, .inr ⟨hhead, rfl⟩⟩)
  · exact (Does.cpeek_answers hready hpending hxb hfl himm hxa (.inr ⟨hnm, .inl ⟨hclosed, rfl⟩⟩)).imp fun _ h => h.1
  · exact .cpeek_answers hready hpending hxb hfl himm hxa (.inl ⟨hnm, rfl⟩)
  · exact .cadv_answers hready hpending hxb hfl himm (.inl ⟨hnm, rfl⟩)
  · exact .cadv_answers hready hpending hxb hfl himm (.inr ⟨hnm, .inl ⟨hclosed, rfl⟩⟩)
  · exact .cadv_answers hready hpending hxb hfl himm (.inr ⟨hnm, .inr (.inl ⟨hopen, hempty, rfl⟩)⟩)
  · exact .cadv_answers hready hpending hxb hfl himm (.inr ⟨hnm, .inr (.inr ⟨hhead, rfl, hxa⟩)⟩)
  · have hunits := Dev.headUnits_message hkind
    have hrd : d.nextRd (.cell pc) f.imm.toNat =
        (d.chanRd (.cell pc) f.imm.toNat + 64 * ((16 + d.headLen (.cell pc) f.imm.toNat + 63) / 64)) % d.chanBytes (.cell pc) f.imm.toNat := by rw [Dev.nextRd, hunits]
    have hfrees := Does.cadv_frees hready hpending hxb hfl himm hnm hhead hxa hsize hkind (by rw [hunits, hrd]; exact hnext)
    rw [hunits, hrd] at hfrees
    exact hfrees

end Sys2Proof.Machine
end

section
namespace Sys2Proof.Machine

/-! ## Whole registers of channels and endpoints (Tables 07-13 to 07-19) -/

/-- A field of a register that is written whole. -/
theorem Dev.get_set_whole {f g : Fld} (hf : f.hi = 63 ∧ f.lo = 0) (hg : g.base = f.base ∧ g.hi ≤ 63) (d : Dev) (v inst item : Nat) :
    (d.set f v inst item).get g inst item = bitsOf v g.hi g.lo := by
  obtain ⟨hbase, hhi⟩ := hg
  have hset : setBitsOf (d.reg f.base inst item) 63 0 v % 2 ^ 64 = v % 2 ^ 64 := by
    rw [setBitsOf_parts]
    omega
  rw [Dev.get, Dev.set, hf.1, hf.2, hbase, Dev.reg_setReg_same, hset, bitsOf_mod _ _ (by omega)]

/-- A register of an owner and the two fields that name a part of it. -/
def Fld.wholeOf (c s c' s' : Fld) : Bool :=
  decide (c.hi = 63 ∧ c.lo = 0 ∧ s.hi = 63 ∧ s.lo = 0 ∧ c'.base = c.base ∧ s'.base = s.base ∧ c'.hi = s'.hi ∧ c'.lo = s'.lo ∧ c'.hi ≤ 63)

/-- The word of CELL_CHAN_SRC and DEV_OSCH_SRC that records a source (Table 07-15). -/
def recordWord (w : Nat) : Nat :=
  2 ^ 63 + bitsOf w 31 31 * 2 ^ 62 + bitsOf w 29 20 * 2 ^ 52 + bitsOf w 19 11 * 2 ^ 43 + bitsOf w 30 30 * 2 ^ 42 + bitsOf w 7 0

/-- A SOURCE word without bits that mean nothing is its parts. -/
theorem recordWord_back {w : Nat} (hw : w < 2 ^ 32) (hres : bitsOf w 10 8 = 0) :
    bitsOf w 31 31 * 2 ^ 31 + bitsOf w 30 30 * 2 ^ 30 + bitsOf w 29 20 * 2 ^ 20 + bitsOf w 19 11 * 2 ^ 11 + bitsOf w 7 0 = w := by
  simp only [bitsOf] at hres ⊢
  omega

/-- Fields laid side by side read back. -/
theorem parts_read {v o dv l a s : Nat} (ho : o < 2) (hd : dv < 2 ^ 10) (hl : l < 2 ^ 9) (ha : a < 2) (hs : s < 2 ^ 8)
    (hv : v = 2 ^ 63 + o * 2 ^ 62 + dv * 2 ^ 52 + l * 2 ^ 43 + a * 2 ^ 42 + s) :
    bitsOf v 63 63 = 1 ∧ bitsOf v 62 62 = o ∧ bitsOf v 42 42 = a ∧ bitsOf v 61 52 = dv ∧ bitsOf v 51 43 = l ∧ bitsOf v 7 0 = s := by
  subst hv
  simp only [bitsOf]
  refine ⟨?_, ?_, ?_, ?_, ?_, ?_⟩ <;> omega

theorem bitsOf_bound (w hi lo : Nat) : bitsOf w hi lo < 2 ^ (hi + 1 - lo) := Nat.mod_lt _ (Nat.two_pow_pos _)

theorem recordWord_parts (w : Nat) :
    bitsOf (recordWord w) 63 63 = 1 ∧ bitsOf (recordWord w) 62 62 = bitsOf w 31 31 ∧ bitsOf (recordWord w) 42 42 = bitsOf w 30 30 ∧
      bitsOf (recordWord w) 61 52 = bitsOf w 29 20 ∧ bitsOf (recordWord w) 51 43 = bitsOf w 19 11 ∧ bitsOf (recordWord w) 7 0 = bitsOf w 7 0 :=
  parts_read (bitsOf_bound w 31 31) (bitsOf_bound w 29 20) (bitsOf_bound w 19 11) (bitsOf_bound w 30 30) (bitsOf_bound w 7 0) rfl

section
variable (d : Dev) (o : Owner) (k : Nat)

theorem Dev.og_os_whole {c s c' s' : Fld} (h : Fld.wholeOf c s c' s' = true) (v : Nat) : (d.os o k c s v).og o k c' s' = bitsOf v c'.hi c'.lo := by
  obtain ⟨hc, hc', hs, hs', hcb, hsb, hhi, hlo, hmax⟩ := of_decide_eq_true h
  cases o with
  | cell pc => exact Dev.get_set_whole ⟨hc, hc'⟩ ⟨hcb, hmax⟩ d v pc (k + 1)
  | os =>
    rw [hhi, hlo]
    exact Dev.get_set_whole ⟨hs, hs'⟩ ⟨hsb, hhi ▸ hmax⟩ d v 0 (k + 1)

/-- Writes elsewhere leave the recorded source. -/
theorem Dev.chanSource_os {c s : Fld} (hc : F.CELL_CHAN_SRC.base % 2 ^ 12 ≠ c.base % 2 ^ 12) (hs : F.DEV_OSCH_SRC.base % 2 ^ 12 ≠ s.base % 2 ^ 12) (v : Nat) :
    (d.os o k c s v).chanSource o k = d.chanSource o k := Dev.chanSource_of fun c' s' hc' hs' => by
  refine d.og_os_leaves o k ?_ ?_ v
  · rw [Fld.leaves, hc', decide_eq_true hc, Bool.true_or]
  · rw [Fld.leaves, hs', decide_eq_true hs, Bool.true_or]

@[simp] theorem Dev.chanSource_modChan (f : ChanState → ChanState) : (d.modChan o k f).chanSource o k = d.chanSource o k :=
  Dev.chanSource_of fun _ _ _ _ => d.og_modChan o k _ _ f

@[simp] theorem Dev.setSource_mem (w : Option Nat) : (d.setSource o k w).mem = d.mem := d.os_mem ..
@[simp] theorem Dev.setSource_net (w : Option Nat) : (d.setSource o k w).net = d.net := d.os_net ..
@[simp] theorem Dev.setSource_cells (w : Option Nat) : (d.setSource o k w).cells = d.cells := d.os_cells ..

theorem Dev.setSource_og {c s : Fld} (hc : F.CELL_CHAN_SRC.leaves c = true) (hs : F.DEV_OSCH_SRC.leaves s = true) (w : Option Nat) :
    (d.setSource o k w).og o k c s = d.og o k c s := d.og_os_leaves o k hc hs _

theorem Dev.chanSource_cleared : (d.setSource o k none).chanSource o k = none := by
  have hvalid : (d.setSource o k none).og o k F.CELL_CHAN_SRC_VALID F.DEV_OSCH_SRC_VALID = 0 := d.og_os_whole o k (by decide) 0
  simp only [Dev.chanSource, hvalid, if_true]

/-- A recorded SOURCE word without bits that mean nothing reads back. -/
theorem Dev.chanSource_set {w : Nat} (hw : w < 2 ^ 32) (hres : bitsOf w 10 8 = 0) : (d.setSource o k (some w)).chanSource o k = some w := by
  have hpart := fun {c s : Fld} (h : Fld.wholeOf F.CELL_CHAN_SRC F.DEV_OSCH_SRC c s = true) => d.og_os_whole o k h (recordWord w)
  obtain ⟨hv, ho, ha, hd, hl, hs⟩ := recordWord_parts w
  have hvalid := (hpart (c := F.CELL_CHAN_SRC_VALID) (s := F.DEV_OSCH_SRC_VALID) (by decide)).trans hv
  have hos := (hpart (c := F.CELL_CHAN_SRC_OS) (s := F.DEV_OSCH_SRC_OS) (by decide)).trans ho
  have haon := (hpart (c := F.CELL_CHAN_SRC_AON) (s := F.DEV_OSCH_SRC_AON) (by decide)).trans ha
  have hdevice := (hpart (c := F.CELL_CHAN_SRC_DEVICE) (s := F.DEV_OSCH_SRC_DEVICE) (by decide)).trans hd
  have hlc := (hpart (c := F.CELL_CHAN_SRC_LC) (s := F.DEV_OSCH_SRC_LC) (by decide)).trans hl
  have hsep := (hpart (c := F.CELL_CHAN_SRC_SEP) (s := F.DEV_OSCH_SRC_SEP) (by decide)).trans hs
  have hset : d.setSource o k (some w) = d.os o k F.CELL_CHAN_SRC F.DEV_OSCH_SRC (recordWord w) := rfl
  simp only [Dev.chanSource, hset, hvalid, hos, haon, hdevice, hlc, hsep, recordWord_back hw hres, one_ne_zero, if_false]

end

end Sys2Proof.Machine
end

section
namespace Sys2Proof.Machine

/-! ## Opening and closing a channel (R210, R227, R244) -/

/-- RESULT of a command to an owner's channels (Table 07-11). -/
def Dev.cmdResult (d : Dev) (o : Owner) (r : Nat) : Dev := d.set (ownerFld o F.CELL_CHAN_SEL_RESULT F.DEV_OSCH_SEL_RESULT) r (ownerInst o)

section
variable (d : Dev) (o : Owner) (r : Nat)

@[simp] theorem Dev.cmdResult_mem : (d.cmdResult o r).mem = d.mem := d.set_mem ..
@[simp] theorem Dev.cmdResult_net : (d.cmdResult o r).net = d.net := d.set_net ..
@[simp] theorem Dev.cmdResult_cells : (d.cmdResult o r).cells = d.cells := d.set_cells ..
@[simp] theorem Dev.cmdResult_osChans : (d.cmdResult o r).osChans = d.osChans := d.set_osChans ..
@[simp] theorem Dev.chan_cmdResult (k : Nat) : (d.cmdResult o r).chan o k = d.chan o k := Dev.chan_of_cells o k (by simp) (by simp)

theorem Dev.cmdResult_shows (h : r < 16) : (d.cmdResult o r).get (ownerFld o F.CELL_CHAN_SEL_RESULT F.DEV_OSCH_SEL_RESULT) (ownerInst o) = r := by
  cases o with
  | cell pc => exact (Dev.get_set_same d F.CELL_CHAN_SEL_RESULT r pc 0 (by decide) (by decide)).trans (Nat.mod_eq_of_lt h)
  | os => exact (Dev.get_set_same d F.DEV_OSCH_SEL_RESULT r 0 0 (by decide) (by decide)).trans (Nat.mod_eq_of_lt h)

theorem Dev.og_cmdResult {c s : Fld} (hc : c.base % 2 ^ 12 ≠ 0x700) (hs : s.base % 2 ^ 12 ≠ 0x800) (k : Nat) : (d.cmdResult o r).og o k c s = d.og o k c s := by
  cases o with
  | cell pc => exact Dev.get_set_apart (f := F.CELL_CHAN_SEL_RESULT) hc d r _ _ _ _
  | os => exact Dev.get_set_apart (f := F.DEV_OSCH_SEL_RESULT) hs d r _ _ _ _

theorem Dev.chanSource_cmdResult (k : Nat) : (d.cmdResult o r).chanSource o k = d.chanSource o k :=
  Dev.chanSource_of fun _ _ hc hs => d.og_cmdResult o r (by rw [hc]; decide) (by rw [hs]; decide) k

end

/-- The channel as OPEN leaves it. -/
def Dev.opened (d : Dev) (o : Owner) (k : Nat) : Dev :=
  (((d.os o k F.CELL_CHAN_PTR F.DEV_OSCH_PTR 0).setSource o k none).modChan o k (fun _ => ChanState.reset)).os o k F.CELL_CHAN_RING_OPEN F.DEV_OSCH_RING_OPEN 1

/-- The recorded source is told that the channel closes (R227). -/
def Dev.tellSource (d : Dev) (o : Owner) (k : Nat) : Dev :=
  match d.chanSource o k with
  | some w => d.closeNotice o k w (d.chanGen o k)
  | none => d

/-- The channel as CLOSE leaves it before its receivers wake. -/
def Dev.closed (d : Dev) (o : Owner) (k : Nat) : Dev :=
  let d1 := ((d.tellSource o k).os o k F.CELL_CHAN_RING_OPEN F.DEV_OSCH_RING_OPEN 0).setSource o k none
  ((d1.os o k F.CELL_CHAN_PTR F.DEV_OSCH_PTR 0).modChan o k (fun _ => ChanState.reset)).os o k F.CELL_CHAN_GEN_GEN F.DEV_OSCH_GEN_GEN ((d.chanGen o k + 1) % 2 ^ 32)

section
variable {d : Dev} {k : Nat}

theorem Dev.openChan_cell {pc : Nat} (hclosed : d.chanOpen (.cell pc) k = false) (hsize : d.get F.CELL_CHAN_RING_SIZE pc (k + 1) ≤ 8)
    (hbatch : d.get F.CELL_CHAN_RING_BATCH pc (k + 1) ≤ 6) (halign : d.get F.CELL_CHAN_RING_BASE pc (k + 1) % 4096 = 0)
    (hfits : d.get F.CELL_CHAN_RING_BASE pc (k + 1) + 4096 * 2 ^ d.get F.CELL_CHAN_RING_SIZE pc (k + 1) ≤ 0xB00000)
    (hpost : d.get F.CELL_CHAN_RING_POST_EN pc (k + 1) = 1 → d.get F.CELL_CHAN_RING_POST_CTR pc (k + 1) ≤ 191) :
    d.openChan (.cell pc) k = (0, d.opened (.cell pc) k) := by
  have hok : ¬ (d.get F.CELL_CHAN_RING_POST_EN pc (k + 1) = 1 ∧ 191 < d.get F.CELL_CHAN_RING_POST_CTR pc (k + 1)) := fun h => by
    have := hpost h.1
    omega
  rw [Dev.openChan, if_neg (by rw [hclosed]; exact Bool.false_ne_true)]
  refine (if_neg ?_).trans rfl
  simp only [Bool.or_eq_true, Bool.and_eq_true, decide_eq_true_eq, bne_iff_ne, ne_eq, ringBytes, spadSize]
  rintro ((h | h) | ((h | h) | h))
  · exact absurd hsize (Nat.not_le_of_lt h)
  · exact absurd hbatch (Nat.not_le_of_lt h)
  · exact h halign
  · exact absurd hfits (Nat.not_le_of_lt (of_decide_eq_true h))
  · exact hok h

theorem Dev.openChan_os (hclosed : d.chanOpen .os k = false) (hsize : d.get F.DEV_OSCH_RING_SIZE 0 (k + 1) ≤ 8) (hbatch : d.get F.DEV_OSCH_RING_BATCH 0 (k + 1) ≤ 6)
    (hcarve : d.inCarve (d.get F.DEV_OSCH_RING_BASE 0 (k + 1) * 4096) (4096 * 2 ^ d.get F.DEV_OSCH_RING_SIZE 0 (k + 1)) = true) :
    d.openChan .os k = (0, d.opened .os k) := by
  rw [Dev.openChan, if_neg (by rw [hclosed]; exact Bool.false_ne_true)]
  refine (if_neg ?_).trans rfl
  simp only [Bool.or_eq_true, decide_eq_true_eq, Bool.not_eq_true']
  rintro ((h | h) | h)
  · exact absurd hsize (Nat.not_le_of_lt h)
  · exact absurd hbatch (Nat.not_le_of_lt h)
  · exact Bool.false_ne_true (h.symm.trans hcarve)

end

section
variable (d : Dev) (o : Owner) (k : Nat)

theorem Dev.opened_chan : (d.opened o k).chan o k = ChanState.reset := by rw [Dev.opened, Dev.chan_os, Dev.chan_modChan]

theorem Dev.opened_source : (d.opened o k).chanSource o k = none := by
  rw [Dev.opened, Dev.chanSource_os _ _ _ (by decide) (by decide), Dev.chanSource_modChan, Dev.chanSource_cleared]

theorem Dev.opened_open : (d.opened o k).og o k F.CELL_CHAN_RING_OPEN F.DEV_OSCH_RING_OPEN = 1 := Dev.og_os_same _ _ _ (by decide) 1

theorem Dev.opened_ptr {c s : Fld} (h : Fld.wholeOf F.CELL_CHAN_PTR F.DEV_OSCH_PTR c s = true) (hc : F.CELL_CHAN_RING_OPEN.leaves c = true)
    (hs : F.DEV_OSCH_RING_OPEN.leaves s = true) (hc' : F.CELL_CHAN_SRC.leaves c = true) (hs' : F.DEV_OSCH_SRC.leaves s = true) : (d.opened o k).og o k c s = 0 := by
  rw [Dev.opened, Dev.og_os_leaves _ _ _ hc hs, Dev.og_modChan, Dev.setSource_og _ _ _ hc' hs', Dev.og_os_whole _ _ _ h]
  simp [bitsOf]

theorem Dev.opened_mem : (d.opened o k).mem = d.mem := by simp [Dev.opened]

theorem Dev.opened_os_cells : (d.opened .os k).cells = d.cells := by
  rw [Dev.opened, Dev.os_cells, Dev.modChan_os_cells, Dev.setSource_cells, Dev.os_cells]

theorem Dev.tellSource_onlyNet : (d.tellSource o k).mem = d.mem ∧ (d.tellSource o k).cells = d.cells := by
  unfold Dev.tellSource
  split <;> exact ⟨rfl, rfl⟩

theorem Dev.tellSource_sends {w : Nat} (h : d.chanSource o k = some w) : Launches d (d.tellSource o k) 0x0A (bitsOf w 29 20) (sourceUnit w) := by
  rw [Dev.tellSource, h]
  exact Launches.send d (s := uPkt 0x0A (bitsOf w 29 20) (sourceUnit w) (d.ownerUnit o) [] _) (by show 0x0A < 2 ^ 8; decide)

theorem Dev.closeChan_closes (h : d.chanOpen o k = true) : d.closeChan o k = (0, (d.closed o k).wakeReceivers o k) := by
  rw [Dev.closeChan, if_neg (by rw [h]; exact Bool.false_ne_true)]
  rfl

theorem Dev.closeChan_refused (h : d.chanOpen o k = false) : d.closeChan o k = (3, d) := by
  rw [Dev.closeChan, if_pos (by rw [h]; rfl)]

theorem Dev.closed_open : (d.closed o k).og o k F.CELL_CHAN_RING_OPEN F.DEV_OSCH_RING_OPEN = 0 := by
  rw [Dev.closed, Dev.og_os_leaves _ _ _ (by decide) (by decide), Dev.og_modChan, Dev.og_os_leaves _ _ _ (by decide) (by decide),
    Dev.setSource_og _ _ _ (by decide) (by decide), Dev.og_os_same _ _ _ (by decide)]
  rfl

theorem Dev.closed_source : (d.closed o k).chanSource o k = none := by
  rw [Dev.closed, Dev.chanSource_os _ _ _ (by decide) (by decide), Dev.chanSource_modChan, Dev.chanSource_os _ _ _ (by decide) (by decide), Dev.chanSource_cleared]

theorem Dev.closed_gen : (d.closed o k).chanGen o k = (d.chanGen o k + 1) % 2 ^ 32 :=
  (Dev.og_os_same _ _ _ (by decide) _).trans (Nat.mod_eq_of_lt (Nat.mod_lt _ (Nat.two_pow_pos 32)))

theorem Dev.closed_mem : (d.closed o k).mem = d.mem := by simp [Dev.closed, (d.tellSource_onlyNet o k).1]

theorem Dev.closed_net : (d.closed o k).net = (d.tellSource o k).net := by simp [Dev.closed]

theorem Dev.closed_os_cells : (d.closed .os k).cells = d.cells := by
  rw [Dev.closed, Dev.os_cells, Dev.modChan_os_cells, Dev.os_cells, Dev.setSource_cells, Dev.os_cells, (d.tellSource_onlyNet .os k).2]

end

end Sys2Proof.Machine
end

section
namespace Sys2Proof.Machine

/-! ## Endpoints (R211, R212) -/

/-- A field of a target is read from the register. -/
theorem bitsOf_whole {hi : Nat} (v lo : Nat) (h : hi ≤ 63) : bitsOf (bitsOf v 63 0) hi lo = bitsOf v hi lo := by
  have hwhole : bitsOf v 63 0 = v % 2 ^ 64 := rfl
  rw [hwhole, bitsOf_mod _ _ (by omega)]

section
variable (d : Dev) (o : Owner) (k st reason : Nat)

theorem Dev.target_cell {hi : Nat} (pc lo : Nat) (h : hi ≤ 63) : d.target (.cell pc) k hi lo = d.get ⟨F.CELL_SEP_TARGET.base, hi, lo⟩ pc (k + 1) := bitsOf_whole _ lo h

theorem Dev.target_os {hi : Nat} (lo : Nat) (h : hi ≤ 63) : d.target .os k hi lo = d.get ⟨F.DEV_OSEP_TARGET.base, hi, lo⟩ 0 (k + 1) := bitsOf_whole _ lo h

@[simp] theorem Dev.setSepState_mem : (d.setSepState o k st reason).mem = d.mem := by rw [Dev.setSepState, Dev.os_mem, Dev.os_mem]
@[simp] theorem Dev.setSepState_net : (d.setSepState o k st reason).net = d.net := by rw [Dev.setSepState, Dev.os_net, Dev.os_net]
@[simp] theorem Dev.setSepState_cells : (d.setSepState o k st reason).cells = d.cells := by rw [Dev.setSepState, Dev.os_cells, Dev.os_cells]

theorem Dev.setSepState_state {st : Nat} (h : st < 8) : (d.setSepState o k st reason).sepState o k = st := by
  rw [Dev.sepState, Dev.setSepState, Dev.og_os_leaves _ _ _ (by decide) (by decide), Dev.og_os_same _ _ _ (by decide)]
  exact Nat.mod_eq_of_lt h

theorem Dev.setSepState_reason {reason : Nat} (h : reason < 32) :
    (d.setSepState o k st reason).og o k F.CELL_SEP_STATE_REASON F.DEV_OSEP_STATE_REASON = reason :=
  (Dev.og_os_same _ _ _ (by decide) _).trans (Nat.mod_eq_of_lt h)

/-- An endpoint that is being bound to one channel. -/
def Dev.joining (d : Dev) (o : Owner) (k : Nat) : Dev :=
  (d.setSepState o k 1 0).modSep o k (fun e => { e with members := [SepMember.mk (d.target o k 55 46) (d.target o k 45 37) none 0] })

theorem Dev.joining_state : (d.joining o k).sepState o k = 1 := (Dev.og_modSep ..).trans (d.setSepState_state o k 0 (by decide))

theorem Dev.joining_mem : (d.joining o k).mem = d.mem := by rw [Dev.joining, Dev.modSep_mem, Dev.setSepState_mem]

theorem Dev.joining_net : (d.joining o k).net = d.net := by rw [Dev.joining, Dev.modSep_net, Dev.setSepState_net]

variable {d o k} in
/-- BIND of an endpoint with one target in a cell sends it a JOIN. -/
theorem Dev.bindSep_joins (hbinding : d.sepState o k ≠ 1) (hbound : d.sepState o k ≠ 2) (hmcast : d.sepMcast o k = false) (hos : d.sepToOs o k = false)
    (hchan : d.target o k 36 29 ≤ 63) : ∃ src body, d.bindSep o k =
      (0, (d.joining o k).send (uPkt 0x08 (d.target o k 55 46) (unitCell (d.target o k 45 37)) src [] body)) := by
  have hmembers : d.bindMembers o k = [(d.target o k 55 46, d.target o k 45 37)] := by rw [Dev.bindMembers, hmcast, hos]; rfl
  have hlow : decide (63 < d.target o k 36 29) = false := decide_eq_false (by omega)
  simp only [Dev.bindSep, hbinding, hbound, hmcast, hos, hlow, hmembers, if_false, Bool.not_false, Bool.and_false, Bool.false_and, Bool.false_eq_true]
  exact ⟨_, _, rfl⟩

end

end Sys2Proof.Machine
end

section
namespace Sys2Proof.Machine

/-! ## What a command returns, of a cell and of the OS complex (R210, R211, R227, R244) -/

section
variable (d : Dev) (o : Owner) (k : Nat)

theorem Dev.opened_result : ((d.opened o k).cmdResult o 0).chanOpen o k = true ∧ ((d.opened o k).cmdResult o 0).chanRd o k = 0 ∧
    ((d.opened o k).cmdResult o 0).chanSource o k = none ∧ ((d.opened o k).cmdResult o 0).chan o k = ChanState.reset ∧ ((d.opened o k).cmdResult o 0).mem = d.mem := by
  refine ⟨decide_eq_true ?_, ?_, ?_, ?_, ?_⟩
  · rw [Dev.og_cmdResult _ _ _ (by decide) (by decide), Dev.opened_open]
  · rw [Dev.chanRd, Dev.og_cmdResult _ _ _ (by decide) (by decide), Dev.opened_ptr _ _ _ (by decide) (by decide) (by decide) (by decide) (by decide)]
  · rw [Dev.chanSource_cmdResult, Dev.opened_source]
  · rw [Dev.chan_cmdResult, Dev.opened_chan]
  · rw [Dev.cmdResult_mem, Dev.opened_mem]

/-- What a command returns does not concern the channel. -/
theorem Dev.cmdResult_channel (r : Nat) : (d.cmdResult o r).chanOpen o k = d.chanOpen o k ∧ (d.cmdResult o r).chanSource o k = d.chanSource o k ∧
    (d.cmdResult o r).chanGen o k = d.chanGen o k ∧ (d.cmdResult o r).chanRd o k = d.chanRd o k ∧ (d.cmdResult o r).sepState o k = d.sepState o k :=
  ⟨congrArg (fun v => decide (v = 1)) (Dev.og_cmdResult d o r (by decide) (by decide) k), Dev.chanSource_cmdResult d o r k,
    Dev.og_cmdResult d o r (by decide) (by decide) k, Dev.og_cmdResult d o r (by decide) (by decide) k, Dev.og_cmdResult d o r (by decide) (by decide) k⟩

variable {d o k} in
/-- BIND of an endpoint with one target in a cell makes it BINDING and sends a JOIN. -/
theorem Dev.bindSep_result (hbinding : d.sepState o k ≠ 1) (hbound : d.sepState o k ≠ 2) (hmcast : d.sepMcast o k = false) (hos : d.sepToOs o k = false)
    (hchan : d.target o k 36 29 ≤ 63) : ∃ d1, d.bindSep o k = (0, d1) ∧ (d1.cmdResult o 0).sepState o k = 1 ∧ (d1.cmdResult o 0).mem = d.mem ∧
      Launches d (d1.cmdResult o 0) 0x08 (d.target o k 55 46) (unitCell (d.target o k 45 37)) := by
  obtain ⟨src, body, hbind⟩ := Dev.bindSep_joins hbinding hbound hmcast hos hchan
  refine ⟨_, hbind, ?_, ?_, ?_⟩
  · obtain ⟨-, -, -, -, hstate⟩ := Dev.cmdResult_channel ((d.joining o k).send (uPkt 0x08 (d.target o k 55 46) (unitCell (d.target o k 45 37)) src [] body)) o k 0
    exact hstate.trans (d.joining_state o k)
  · rw [Dev.cmdResult_mem, Dev.send_mem, Dev.joining_mem]
  · exact Launches.within (Launches.send (d.joining o k) (by show 0x08 < 2 ^ 8; decide)) (d.joining_net o k) (Dev.cmdResult_net ..)

end

end Sys2Proof.Machine
end

section
namespace Sys2Proof.Machine

/-! ## The commands of a cell (R209 to R212, R227, R509) -/

/-- A command to the selected channel, endpoint or queue of a hosted cell that is not MIGRATING runs, and RESULT is what it returns. -/
theorem Does.chanCmd {x : Instr} {d : Dev} {pc : Slot} {lc k : Nat} (sel : Fld) (g : Dev → Nat → Nat × Dev) {post : Dev → Prop} (hon : d.domOn pc = true)
    (hhost : d.hosted pc = some lc) (hstay : d.migrating lc = false) (hexec : ∀ s, exec x s = s.run (fun d => d.chanCmd pc (fun d => g d (d.get sel pc))))
    (hk : d.get sel pc = k) {r : Nat} {d1 : Dev} (hg : g d k = (r, d1)) (hp : post (d1.cmdResult (.cell pc) r)) : Does x d post := by
  refine .of_run hexec ?_
  simp only [Dev.chanCmd, hon, hhost, hstay, hk, hg, Bool.not_true, Bool.false_eq_true, if_false]
  exact hp

section
variable {pc : Slot} {m : Master} {d : Dev} {lc : Nat} (hon : d.domOn pc = true) (hhost : d.hosted pc = some lc) (hstay : d.migrating lc = false)
include hon hhost hstay

theorem Does.chanOpen {k : Nat} (hk : d.get F.CELL_CHAN_SEL_CHAN pc = k) (h : d.openChan (.cell pc) k = (0, d.opened (.cell pc) k)) :
    Does (.chanOpen m pc) d (fun d' => d'.get F.CELL_CHAN_SEL_RESULT pc = 0 ∧ d'.chanOpen (.cell pc) k = true ∧ d'.chanRd (.cell pc) k = 0 ∧
      d'.get F.CELL_CHAN_PTR_ARRIVED pc (k + 1) = 0 ∧ d'.chanSource (.cell pc) k = none ∧ d'.chan (.cell pc) k = ChanState.reset ∧ d'.mem = d.mem) := by
  obtain ⟨hopen, hrd, hsource, hchan, hmem⟩ := d.opened_result (.cell pc) k
  have harrived : ((d.opened (.cell pc) k).cmdResult (.cell pc) 0).og (.cell pc) k F.CELL_CHAN_PTR_ARRIVED F.DEV_OSCH_PTR_ARRIVED = 0 :=
    (Dev.og_cmdResult _ _ _ (by decide) (by decide) k).trans (d.opened_ptr _ _ (by decide) (by decide) (by decide) (by decide) (by decide))
  exact .chanCmd F.CELL_CHAN_SEL_CHAN (fun d k => d.openChan (.cell pc) k) hon hhost hstay (fun _ => rfl) hk h ⟨Dev.cmdResult_shows _ _ 0 (by decide), hopen, hrd, harrived, hsource, hchan, hmem⟩

theorem Does.chanClose {k : Nat} (hk : d.get F.CELL_CHAN_SEL_CHAN pc = k) (h : d.chanOpen (.cell pc) k = true) :
    Does (.chanClose m pc) d (fun d' => d'.get F.CELL_CHAN_SEL_RESULT pc = 0 ∧ d'.chanOpen (.cell pc) k = false ∧ d'.chanSource (.cell pc) k = none ∧
      d'.chanGen (.cell pc) k = (d.chanGen (.cell pc) k + 1) % 2 ^ 32 ∧ d'.mem = d.mem ∧
      ∀ w, d.chanSource (.cell pc) k = some w → Launches d d' 0x0A (bitsOf w 29 20) (sourceUnit w)) := by
  have hwake := Wakes.wakeReceivers pc (d.closed (.cell pc) k) k
  obtain ⟨hopen, hsource, hgen, -, -⟩ := Dev.cmdResult_channel ((d.closed (.cell pc) k).wakeReceivers (.cell pc) k) (.cell pc) k 0
  refine .chanCmd F.CELL_CHAN_SEL_CHAN (fun d k => d.closeChan (.cell pc) k) hon hhost hstay (fun _ => rfl) hk (d.closeChan_closes (.cell pc) k h) ⟨Dev.cmdResult_shows _ _ 0 (by decide), ?_, ?_, ?_, ?_, fun w hw => ?_⟩
  · rw [hopen, hwake.chanOpen]
    exact decide_eq_false (by rw [Dev.closed_open]; decide)
  · rw [hsource, hwake.chanSource, Dev.closed_source]
  · rw [hgen, hwake.chanGen, Dev.closed_gen]
  · rw [Dev.cmdResult_mem, hwake.mem, Dev.closed_mem]
  · exact Launches.within (d.tellSource_sends (.cell pc) k hw) rfl (by rw [Dev.cmdResult_net, hwake.net, Dev.closed_net])

theorem Does.chanClose_refused {k : Nat} (hk : d.get F.CELL_CHAN_SEL_CHAN pc = k) (h : d.chanOpen (.cell pc) k = false) :
    Does (.chanClose m pc) d (fun d' => d'.get F.CELL_CHAN_SEL_RESULT pc = 3 ∧ d'.cells = d.cells ∧ d'.mem = d.mem) :=
  .chanCmd F.CELL_CHAN_SEL_CHAN (fun d k => d.closeChan (.cell pc) k) hon hhost hstay (fun _ => rfl) hk (d.closeChan_refused (.cell pc) k h)
    ⟨Dev.cmdResult_shows _ _ 3 (by decide), Dev.cmdResult_cells .., Dev.cmdResult_mem ..⟩

theorem Does.sepBind {e : Nat} (he : d.get F.CELL_CHAN_SEL_SEP pc = e) (hbinding : d.sepState (.cell pc) e ≠ 1) (hbound : d.sepState (.cell pc) e ≠ 2)
    (hmcast : d.get F.CELL_SEP_TARGET_MCAST pc (e + 1) = 0) (hos : d.get F.CELL_SEP_TARGET_OS pc (e + 1) = 0) (hchan : d.get F.CELL_SEP_TARGET_CHAN pc (e + 1) ≤ 63) :
    Does (.sepBind m pc) d (fun d' => d'.get F.CELL_CHAN_SEL_RESULT pc = 0 ∧ d'.sepState (.cell pc) e = 1 ∧ d'.mem = d.mem ∧
      Launches d d' 0x08 (d.get F.CELL_SEP_TARGET_DEVICE pc (e + 1)) (d.get F.CELL_SEP_TARGET_LC pc (e + 1))) := by
  have hdevice : d.target (.cell pc) e 55 46 = d.get F.CELL_SEP_TARGET_DEVICE pc (e + 1) := d.target_cell e pc 46 (by decide)
  have hlc : unitCell (d.target (.cell pc) e 45 37) = d.get F.CELL_SEP_TARGET_LC pc (e + 1) := by
    rw [d.target_cell e pc 37 (by decide)]
    exact Nat.mod_eq_of_lt (bitsOf_bound _ 45 37)
  obtain ⟨d1, hbind, hstate, hmem, hjoin⟩ := Dev.bindSep_result hbinding hbound
    (decide_eq_false (by rw [d.target_cell e pc 62 (by decide)]; exact (hmcast.trans_ne Nat.zero_ne_one)))
    (decide_eq_false (by rw [d.target_cell e pc 63 (by decide)]; exact (hos.trans_ne Nat.zero_ne_one)))
    (by rw [d.target_cell e pc 29 (by decide)]; exact hchan)
  rw [hdevice, hlc] at hjoin
  exact .chanCmd F.CELL_CHAN_SEL_SEP (fun d k => d.bindSep (.cell pc) k) hon hhost hstay (fun _ => rfl) he hbind ⟨Dev.cmdResult_shows _ _ 0 (by decide), hstate, hmem, hjoin⟩

theorem Does.sepUnbind {e : Nat} (he : d.get F.CELL_CHAN_SEL_SEP pc = e) :
    Does (.sepUnbind m pc) d (fun d' => d'.get F.CELL_CHAN_SEL_RESULT pc = 0 ∧ d'.sepState (.cell pc) e = 0 ∧ d'.mem = d.mem) := by
  have hwake := Wakes.wakeSenders pc (d.unbindSep (.cell pc) e)
  obtain ⟨-, -, -, -, hstate⟩ := Dev.cmdResult_channel ((d.unbindSep (.cell pc) e).wakeSenders pc) (.cell pc) e 0
  refine .chanCmd F.CELL_CHAN_SEL_SEP (fun d k => (0, (d.unbindSep (.cell pc) k).wakeSenders pc)) hon hhost hstay (fun _ => rfl) he rfl ⟨Dev.cmdResult_shows _ _ 0 (by decide), ?_, ?_⟩
  · rw [hstate, hwake.sepState]
    exact d.setSepState_state _ _ _ (by decide)
  · rw [Dev.cmdResult_mem, hwake.mem]
    exact d.setSepState_mem ..

end

/-- Slolis's endpoint is none of a cell's. -/
theorem Dev.mboxJoinFailed_cell (d : Dev) (pc k : Nat) : d.mboxJoinFailed (.cell pc) k = d := if_neg (by simp)

theorem Dev.sendItem_stands (d : Dev) (src : Nat) (i : OutItem) (a b cls route : Nat) : (d.sendItem src i a b cls route).mem = d.mem ∧
    (d.sendItem src i a b cls route).cells = d.cells ∧ (d.sendItem src i a b cls route).regs = d.regs :=
  have honly := d.sendItem_onlyNet src i a b cls route
  have hmem : ({ d.sendItem src i a b cls route with net := d.net } : Dev).mem = d.mem := congrArg Dev.mem honly
  have hcells : ({ d.sendItem src i a b cls route with net := d.net } : Dev).cells = d.cells := congrArg Dev.cells honly
  have hregs : ({ d.sendItem src i a b cls route with net := d.net } : Dev).regs = d.regs := congrArg Dev.regs honly
  ⟨hmem, hcells, hregs⟩

/-- A JOIN that nobody answers fails its endpoint with UNREACHABLE. -/
theorem Does.joinTimeout {pc : Slot} {s : Fin 64} {d : Dev} (h : d.sepState (.cell pc) s = 1) : Does (.joinTimeout (.cell pc s)) d (fun d' =>
    d'.sepState (.cell pc) s = 4 ∧ d'.get F.CELL_SEP_STATE_REASON pc (s + 1) = 4 ∧ d'.mem = d.mem) := by
  have hwake := Wakes.wakeSenders pc (d.setSepState (.cell pc) s 4 4)
  refine .of_run (f := fun d => if d.sepState (.cell pc) s = 1 then ((d.setSepState (.cell pc) s 4 4).wakeOwner (.cell pc)).mboxJoinFailed (.cell pc) s else d)
    (fun _ => rfl) ?_
  rw [if_pos h, Dev.mboxJoinFailed_cell]
  refine ⟨(hwake.sepState s).trans (d.setSepState_state _ _ _ (by decide)), (hwake.get F.CELL_SEP_STATE_REASON).trans ?_, hwake.mem.trans (d.setSepState_mem ..)⟩
  exact d.setSepState_reason (.cell pc) _ _ (by decide)

/-- What OUTBOX_RELEASE does to a cell's outbox. -/
def Dev.release (pc i : Nat) (d : Dev) : Dev :=
  match (d.cell pc).outbox[i]? with
  | none => d
  | some it =>
    let first := !((d.cell pc).outbox.take i).any (fun j => !j.contrib && j.sep = it.sep)
    if if it.contrib then d.waitsWindow pc it else it.sched || !first then d
    else
      let e := d.modCell pc (fun s => { s with outbox := s.outbox.eraseIdx i })
      (e.sendItem (e.ownerUnit (.cell pc)) it it.sent (itemBytes it) 1 0).wakeSenders pc

/-- A record of a CLASS U endpoint with none of its endpoint before it leaves the outbox. -/
theorem Does.outboxRelease {pc : Slot} {d : Dev} {i : Nat} {it : OutItem} (hitem : (d.cell pc).outbox[i]? = some it) (hcontrib : it.contrib = false)
    (hsched : it.sched = false) (hmcast : it.mcast = false) (hleft : it.sent < 16 + it.body.length)
    (hfirst : ∀ j ∈ (d.cell pc).outbox.take i, j.contrib = true ∨ j.sep ≠ it.sep) : Does (.outboxRelease pc i) d (fun d' =>
      (d'.cell pc).outbox = (d.cell pc).outbox.eraseIdx i ∧ d'.mem = d.mem ∧ Launches d d' 0x06 it.dstDev it.unit) := by
  have holdest : ((d.cell pc).outbox.take i).any (fun j => !j.contrib && j.sep = it.sep) = false := by
    refine List.any_eq_false.2 fun j hj => ?_
    rcases hfirst j hj with h | h <;> simp [h]
  have hbytes : itemBytes it = 16 + it.body.length := by rw [itemBytes, hcontrib, if_neg Bool.false_ne_true]
  refine .of_run (f := Dev.release pc i) (fun _ => rfl) ?_
  simp only [Dev.release, hitem, hcontrib, hsched, holdest, Bool.false_eq_true, if_false, Bool.not_false, Bool.not_true, Bool.or_self]
  generalize he : d.modCell pc (fun s => { s with outbox := s.outbox.eraseIdx i }) = e
  have hwake := Wakes.wakeSenders pc (e.sendItem (e.ownerUnit (.cell pc)) it it.sent (itemBytes it) 1 0)
  obtain ⟨hmem, hcells, -⟩ := e.sendItem_stands (e.ownerUnit (.cell pc)) it it.sent (itemBytes it) 1 0
  refine ⟨hwake.outbox.trans ?_, hwake.mem.trans ?_, Launches.within (Launches.sendItem e hcontrib hmcast _ (hbytes ▸ hleft) 1 0) ?_ hwake.net⟩
  · rw [Dev.cell, hcells, ← Dev.cell, ← he, Dev.cell_modCell_same]
  · rw [hmem, ← he, Dev.modCell_mem]
  · rw [← he, Dev.modCell_net]

end Sys2Proof.Machine
end

section
namespace Sys2Proof.Machine

/-! ## The commands of the OS complex (R244, R245) -/

section
variable {m : Master} {d : Dev} (hup : d.power.mainUp = true)
include hup

/-- A command to the selected channel or endpoint of the OS complex runs, and RESULT is what it returns. -/
theorem Does.osCmd {x : Instr} {k : Nat} (sel : Fld) (g : Dev → Nat → Nat × Dev) {post : Dev → Prop} (hexec : ∀ s, exec x s = s.runMain (fun d => osResult (g d (d.get sel))))
    (hk : d.get sel = k) {r : Nat} {d1 : Dev} (hg : g d k = (r, d1)) (hp : post (d1.cmdResult .os r)) : Does x d post := by
  refine .of_runMain hup hexec ?_
  rw [hk, hg]
  exact hp

section
variable {k : Nat} (hk : d.get F.DEV_OSCH_SEL_CHAN = k)
include hk

theorem Does.oschOpen (h : d.openChan .os k = (0, d.opened .os k)) : Does (.oschOpen m) d (fun d' => d'.get F.DEV_OSCH_SEL_RESULT = 0 ∧ d'.chanOpen .os k = true ∧
    d'.chanRd .os k = 0 ∧ d'.chanSource .os k = none ∧ d'.chan .os k = ChanState.reset ∧ d'.mem = d.mem ∧ d'.cells = d.cells) := by
  obtain ⟨hopen, hrd, hsource, hchan, hmem⟩ := d.opened_result .os k
  exact .osCmd hup F.DEV_OSCH_SEL_CHAN (fun d k => d.openChan .os k) (fun _ => rfl) hk h
    ⟨Dev.cmdResult_shows _ .os 0 (by decide), hopen, hrd, hsource, hchan, hmem, (Dev.cmdResult_cells ..).trans (d.opened_os_cells k)⟩

theorem Does.oschClose (h : d.chanOpen .os k = true) : Does (.oschClose m) d (fun d' => d'.get F.DEV_OSCH_SEL_RESULT = 0 ∧ d'.chanOpen .os k = false ∧
    d'.chanSource .os k = none ∧ d'.chanGen .os k = (d.chanGen .os k + 1) % 2 ^ 32 ∧ d'.mem = d.mem ∧ d'.cells = d.cells) := by
  obtain ⟨hopen, hsource, hgen, -, -⟩ := Dev.cmdResult_channel (d.closed .os k) .os k 0
  refine .osCmd hup F.DEV_OSCH_SEL_CHAN (fun d k => d.closeChan .os k) (fun _ => rfl) hk (d.closeChan_closes .os k h)
    ⟨Dev.cmdResult_shows _ .os 0 (by decide), hopen.trans (decide_eq_false (by rw [Dev.closed_open]; decide)), hsource.trans (d.closed_source .os k),
      hgen.trans (d.closed_gen .os k), (Dev.cmdResult_mem ..).trans (d.closed_mem .os k), (Dev.cmdResult_cells ..).trans (d.closed_os_cells k)⟩

/-- The head that ADV frees is the last visible record. -/
theorem Does.oschAdv_frees (hhead : d.hasHead .os k = true) (hsize : d.get F.DEV_OSCH_RING_SIZE 0 (k + 1) ≤ 8) (hlast : (d.chan .os k).visible = d.headUnits .os k) :
    Does (.oschAdv m) d (fun d' => d'.get F.DEV_OSCH_SEL_RESULT = 0 ∧ (d'.chan .os k).visible = 0 ∧ d'.chanRd .os k = d.nextRd .os k ∧ d'.mem = d.mem) := by
  have hpad : (d.freeHead .os k).eatPad .os k = d.freeHead .os k := Dev.eatPad_freeHead_last (Nat.le_of_eq hlast)
  obtain ⟨hvisible, -⟩ := Dev.advance_chan hpad
  obtain ⟨-, -, -, hrd, -⟩ := Dev.cmdResult_channel (d.advance .os k) .os k 0
  refine .osCmd hup F.DEV_OSCH_SEL_CHAN (fun d k => if d.hasHead .os k then (0, d.advance .os k) else if d.chanOpen .os k then (9, d) else (3, d)) (fun _ => rfl) hk
    (if_pos hhead) ⟨Dev.cmdResult_shows _ .os 0 (by decide), ?_, hrd.trans (Dev.advance_rd (o := .os) hpad hsize), (Dev.cmdResult_mem ..).trans (Dev.advance_mem hpad)⟩
  rw [Dev.chan_cmdResult, hvisible, hlast, Nat.sub_self]

theorem Does.oschAdv_refused (h : d.chanOpen .os k = false) :
    Does (.oschAdv m) d (fun d' => d'.get F.DEV_OSCH_SEL_RESULT = 3 ∧ d'.osChans = d.osChans) := by
  have hempty : d.hasHead .os k = false := by rw [Dev.hasHead, h, Bool.false_and]
  refine .osCmd hup F.DEV_OSCH_SEL_CHAN (fun d k => if d.hasHead .os k then (0, d.advance .os k) else if d.chanOpen .os k then (9, d) else (3, d)) (fun _ => rfl) hk
    (r := 3) (d1 := d) ?_ ⟨Dev.cmdResult_shows _ .os 3 (by decide), Dev.cmdResult_osChans ..⟩
  simp only [hempty, h, Bool.false_eq_true, if_false]

end

section
variable {e : Nat} (he : d.get F.DEV_OSCH_SEL_SEP = e)
include he

theorem Does.osepBind (hbinding : d.sepState .os e ≠ 1) (hbound : d.sepState .os e ≠ 2) (hchan : d.get F.DEV_OSEP_TARGET_CHAN 0 (e + 1) ≤ 63) :
    Does (.osepBind m) d (fun d' => d'.get F.DEV_OSCH_SEL_RESULT = 0 ∧ d'.sepState .os e = 1 ∧ d'.mem = d.mem ∧
      Launches d d' 0x08 (d.get F.DEV_OSEP_TARGET_DEVICE 0 (e + 1)) (d.get F.DEV_OSEP_TARGET_LC 0 (e + 1))) := by
  have hdevice : d.target .os e 55 46 = d.get F.DEV_OSEP_TARGET_DEVICE 0 (e + 1) := d.target_os e 46 (by decide)
  have hlc : unitCell (d.target .os e 45 37) = d.get F.DEV_OSEP_TARGET_LC 0 (e + 1) := by
    rw [d.target_os e 37 (by decide)]
    exact Nat.mod_eq_of_lt (bitsOf_bound _ 45 37)
  have hlow : e < 256 := he ▸ bitsOf_bound _ 23 16
  obtain ⟨d1, hbind, hstate, hmem, hjoin⟩ := Dev.bindSep_result hbinding hbound rfl (decide_eq_false (Nat.ne_of_lt hlow))
    (by rw [d.target_os e 29 (by decide)]; exact hchan)
  rw [hdevice, hlc] at hjoin
  exact .osCmd hup F.DEV_OSCH_SEL_SEP (fun d k => d.bindSep .os k) (fun _ => rfl) he hbind ⟨Dev.cmdResult_shows _ .os 0 (by decide), hstate, hmem, hjoin⟩

theorem Does.osepUnbind : Does (.osepUnbind m) d (fun d' => d'.get F.DEV_OSCH_SEL_RESULT = 0 ∧ d'.sepState .os e = 0 ∧ d'.mem = d.mem ∧ d'.cells = d.cells) := by
  obtain ⟨-, -, -, -, hstate⟩ := Dev.cmdResult_channel (d.unbindSep .os e) .os e 0
  exact .osCmd hup F.DEV_OSCH_SEL_SEP (fun d k => (0, d.unbindSep .os k)) (fun _ => rfl) he rfl
    ⟨Dev.cmdResult_shows _ .os 0 (by decide), hstate.trans (d.setSepState_state _ _ _ (by decide)), (Dev.cmdResult_mem ..).trans (d.setSepState_mem ..),
      (Dev.cmdResult_cells ..).trans (d.setSepState_cells ..)⟩

end

end

/-- OSCH_SEND on an endpoint whose message fits before the end of the ring. -/
theorem Dev.osSend_fits {d : Dev} {k : Nat} {msg : List Byte} (hcheck : d.sendCheck .os k msg.length outboxSize = .go)
    (hfits : d.padUnits .os k (recUnits 0 msg.length) = 0) : d.osSend k msg =
      (0, (d.placed .os k msg).sendItem ((d.placed .os k msg).sepUnit .os k) (d.messageRecord .os k msg).1 0 (itemBytes (d.messageRecord .os k msg).1) 1 0) := by
  simp only [Dev.osSend, hcheck, Dev.placeMessage_fits hfits]
  rfl

/-- A sent message's record goes to the endpoint's target at once, and takes its units. -/
theorem Dev.osSend_launches {d : Dev} {s : Nat} (hs : s < 256) (msg : List Byte) (src : Nat) :
    Launches d ((d.placed .os s msg).sendItem src (d.messageRecord .os s msg).1 0 (itemBytes (d.messageRecord .os s msg).1) 1 0) 0x06
      (d.get F.DEV_OSEP_TARGET_DEVICE 0 (s + 1)) (d.get F.DEV_OSEP_TARGET_LC 0 (s + 1)) := by
  have hdevice : (d.messageRecord .os s msg).1.dstDev = d.get F.DEV_OSEP_TARGET_DEVICE 0 (s + 1) := d.target_os s 46 (by decide)
  have hos : d.sepToOs .os s = false := decide_eq_false (Nat.ne_of_lt hs)
  have hunit : (d.messageRecord .os s msg).1.unit = d.get F.DEV_OSEP_TARGET_LC 0 (s + 1) := by
    simp only [Dev.messageRecord, Dev.placeRecord, Dev.sepMcast, hos, Bool.false_eq_true, if_false]
    rw [d.target_os s 37 (by decide)]
    exact Nat.mod_eq_of_lt (bitsOf_bound _ 45 37)
  have hpos : 0 < itemBytes (d.messageRecord .os s msg).1 := Nat.lt_of_lt_of_le (by decide : 0 < 16) (Nat.le_add_right 16 _)
  rw [← hdevice, ← hunit]
  exact Launches.within (Launches.sendItem (d.placed .os s msg) rfl rfl src hpos 1 0) Dev.placed_net rfl

/-- OSCH_SEND of a good descriptor. -/
theorem Does.oschSend {m : Master} {d d1 : Dev} (hup : d.power.mainUp = true) {v : Word} {r : Nat} {post : Dev → Prop} (hdesc : d.inCarve (bitsOf v.toNat 47 4 * 16) 16 = true)
    (hmsg : d.inCarve (d.loadNat (bitsOf v.toNat 47 4 * 16) 8) (d.loadNat (bitsOf v.toNat 47 4 * 16 + 8) 4) = true) (hlen : 0 < d.loadNat (bitsOf v.toNat 47 4 * 16 + 8) 4)
    (hsend : d.osSend (bitsOf v.toNat 63 56) (d.load (d.loadNat (bitsOf v.toNat 47 4 * 16) 8) (d.loadNat (bitsOf v.toNat 47 4 * 16 + 8) 4)) = (r, d1))
    (hp : post (d1.set F.DEV_OSCH_SEL_SEND_RESULT r)) : Does (.oschSend m v) d post := fun q => by
  refine ⟨_, ?_, hp⟩
  have hpos : decide (d.loadNat (bitsOf v.toNat 47 4 * 16 + 8) 4 = 0) = false := decide_eq_false (Nat.ne_of_gt hlen)
  have hexec : exec (.oschSend m v) ⟨d, q⟩ = execOschSend m v ⟨d, q⟩ := rfl
  have hrun : ∀ f, State.runMain ⟨d, q⟩ f = .next ⟨f d, q⟩ := fun f => State.runMain_up _ f hup
  rw [hexec, execOschSend, hrun]
  extract_lets k a src len
  have hgood : (!d.inCarve a 16 || decide (len = 0) || !d.inCarve src len) = false := by rw [hdesc, hmsg, hpos]; rfl
  rw [hgood, if_neg Bool.false_ne_true, hsend]

/-- OSCH_SEND of a good descriptor, with units enough and no pad needed, sends at once and returns 0. -/
theorem Does.oschSend_sends {m : Master} {d : Dev} (hup : d.power.mainUp = true) {v : Word} (hdesc : d.inCarve (bitsOf v.toNat 47 4 * 16) 16 = true)
    (hmsg : d.inCarve (d.loadNat (bitsOf v.toNat 47 4 * 16) 8) (d.loadNat (bitsOf v.toNat 47 4 * 16 + 8) 4) = true)
    (hlen : 0 < d.loadNat (bitsOf v.toNat 47 4 * 16 + 8) 4) (hcheck : d.sendCheck .os (bitsOf v.toNat 63 56) (d.loadNat (bitsOf v.toNat 47 4 * 16 + 8) 4) 32768 = .go)
    (hfits : d.padUnits .os (bitsOf v.toNat 63 56) ((16 + d.loadNat (bitsOf v.toNat 47 4 * 16 + 8) 4 + 63) / 64) = 0) :
    Does (.oschSend m v) d (fun d' => d'.get F.DEV_OSCH_SEL_SEND_RESULT = 0 ∧ d'.mem = d.mem ∧
      d'.sent .os (bitsOf v.toNat 63 56) = (d.sent .os (bitsOf v.toNat 63 56) + (16 + d.loadNat (bitsOf v.toNat 47 4 * 16 + 8) 4 + 63) / 64) % 2 ^ 32 ∧
      Launches d d' 0x06 (d.get F.DEV_OSEP_TARGET_DEVICE 0 (bitsOf v.toNat 63 56 + 1)) (d.get F.DEV_OSEP_TARGET_LC 0 (bitsOf v.toNat 63 56 + 1))) := by
  have hlow : bitsOf v.toNat 63 56 < 256 := bitsOf_bound _ 63 56
  generalize hn : d.loadNat (bitsOf v.toNat 47 4 * 16 + 8) 4 = n at hmsg hlen hcheck hfits ⊢
  generalize hb : d.load (d.loadNat (bitsOf v.toNat 47 4 * 16) 8) n = msg
  have hmsglen : msg.length = n := by rw [← hb]; exact Memory.read_length ..
  have hunits : recUnits 0 msg.length = (16 + n + 63) / 64 := by rw [hmsglen]; rfl
  have hsend := Dev.osSend_fits (d := d) (k := bitsOf v.toNat 63 56) (msg := msg) (by rw [hmsglen]; exact hcheck) (by rw [hunits]; exact hfits)
  have hlaunch := Dev.osSend_launches (d := d) hlow msg ((d.placed .os (bitsOf v.toNat 63 56) msg).sepUnit .os (bitsOf v.toNat 63 56))
  obtain ⟨hmem, -, hregs⟩ := (d.placed .os (bitsOf v.toNat 63 56) msg).sendItem_stands ((d.placed .os (bitsOf v.toNat 63 56) msg).sepUnit .os (bitsOf v.toNat 63 56))
    (d.messageRecord .os (bitsOf v.toNat 63 56) msg).1 0 (itemBytes (d.messageRecord .os (bitsOf v.toNat 63 56) msg).1) 1 0
  subst hn
  refine .oschSend hup hdesc hmsg hlen ((congrArg (d.osSend _) hb).trans hsend) ?_
  refine ⟨(Dev.get_set_same _ F.DEV_OSCH_SEL_SEND_RESULT 0 0 0 (by decide) (by decide)).trans rfl, ?_, ?_, ?_⟩
  · rw [Dev.set_mem, hmem, Dev.placed_mem]
  · rw [Dev.sent, Dev.og, ownerFld, Dev.get_set_apart (by decide), Dev.get, Dev.reg_of_regs hregs, ← hunits]
    exact Dev.placed_sent (o := .os)
  · exact Launches.within hlaunch rfl (Dev.set_net ..)

theorem cellChannelCommands : CellChannelCommands := fun _ _ _ _ hon hhost hstay =>
  ⟨fun hclosed hsize hbatch halign hfits hpost => .chanOpen hon hhost hstay rfl (Dev.openChan_cell hclosed hsize hbatch halign hfits hpost),
    fun h => .chanClose hon hhost hstay rfl h, fun h => .chanClose_refused hon hhost hstay rfl h,
    fun hbinding hbound hmcast hos hchan => .sepBind hon hhost hstay rfl hbinding hbound hmcast hos hchan, .sepUnbind hon hhost hstay rfl,
    fun _ h => .joinTimeout h, fun _ _ hitem hcontrib hsched hmcast hleft hfirst => .outboxRelease hitem hcontrib hsched hmcast hleft hfirst⟩

theorem osChannelCommands : OsChannelCommands := fun m _ hup =>
  ⟨fun hclosed hsize hbatch hcarve => .oschOpen hup rfl (Dev.openChan_os hclosed hsize hbatch hcarve), fun h => .oschClose hup rfl h,
    fun hbinding hbound hchan => .osepBind hup rfl hbinding hbound hchan, .osepUnbind hup rfl,
    fun hhead hkind hsize hlast => by
      have hunits := Dev.headUnits_message (o := .os) hkind
      have hfrees := Does.oschAdv_frees (m := m) hup rfl hhead hsize (hlast.trans hunits.symm)
      rwa [Dev.nextRd, hunits] at hfrees,
    fun h => .oschAdv_refused hup rfl h, fun _ hdesc hmsg hlen hcheck hfits => .oschSend_sends hup hdesc hmsg hlen hcheck hfits⟩

/-- Settles O22: each command by what it leaves of the channel or the endpoint, for a cell and for the OS complex. -/
theorem channelCommandsOpenCloseBindAndSend : Obligations.ChannelCommandsOpenCloseBindAndSend := ⟨cellChannelCommands, osChannelCommands⟩

end Sys2Proof.Machine
end

section
namespace Sys2Proof.Machine

/-! ## Updates of a combining queue (Tables 07-22 to 07-24) -/

section
variable (d : Dev) (pc q : Nat) (f : CqState → CqState)

@[simp] theorem Dev.modCq_mem : (d.modCq pc q f).mem = d.mem := rfl
@[simp] theorem Dev.modCq_regs : (d.modCq pc q f).regs = d.regs := rfl
@[simp] theorem Dev.get_modCq (g : Fld) (inst item : Nat) : (d.modCq pc q f).get g inst item = d.get g inst item := rfl
@[simp] theorem Dev.cqState_modCq (k : Nat) : (d.modCq pc q f).cqState pc k = d.cqState pc k := rfl

@[simp] theorem Dev.cq_modCq : (d.modCq pc q f).cq pc q = f (d.cq pc q) := by
  rw [Dev.modCq, Dev.cq, Dev.cell_modCell_same, SMap.read_write_same]
  rfl

/-- Of the cell the queue alone changes. -/
theorem Dev.cell_modCq : (d.modCq pc q f).cell pc = { d.cell pc with cqs := ((d.modCq pc q f).cell pc).cqs } := by rw [Dev.modCq, Dev.cell_modCell_same]

@[simp] theorem Dev.ctx_modCq (c : Nat) : (d.modCq pc q f).ctx pc c = d.ctx pc c := by
  rw [Dev.ctx, Dev.cell_modCq]
  rfl

@[simp] theorem Dev.cqWait_modCq : ((d.modCq pc q f).cell pc).cqWait = (d.cell pc).cqWait := by rw [Dev.cell_modCq]

@[simp] theorem Dev.counter_modCq (n : Nat) : (d.modCq pc q f).counter pc n = d.counter pc n := by
  rw [Dev.counter, Dev.cell_modCq]
  rfl

theorem CellsStand.modCq : CellsStand d (d.modCq pc q f) pc := .modCell d pc _

theorem Dev.cq_of_cells {d d' : Dev} (h : d'.cells = d.cells) : d'.cq pc q = d.cq pc q := by rw [Dev.cq, Dev.cell, h, ← Dev.cell, ← Dev.cq]

@[simp] theorem Dev.cq_set (g : Fld) (v inst item : Nat) : (d.set g v inst item).cq pc q = d.cq pc q := Dev.cq_of_cells pc q (d.set_cells ..)
@[simp] theorem Dev.cq_setReg (base v inst item : Nat) : (d.setReg base inst item v).cq pc q = d.cq pc q := Dev.cq_of_cells pc q (d.setReg_cells ..)
@[simp] theorem Dev.cq_count (g : Fld) (inst item n : Nat) : (d.count g inst item n).cq pc q = d.cq pc q := Dev.cq_of_cells pc q (d.count_cells ..)

theorem Dev.setCqState_shows {st : Nat} (h : st < 8) : (d.setCqState pc q st).cqState pc q = st :=
  (Dev.get_set_same d F.CELL_CQ_STATE_STATE st pc (q + 1) (by decide) (by decide)).trans (Nat.mod_eq_of_lt h)

end

end Sys2Proof.Machine
end

section
namespace Sys2Proof.Machine

/-! ## Opening and closing a queue (R235, R236) -/

/-- The contents that a descriptor gives a queue. -/
def cqContents (bs : List Byte) : CqState :=
  { CqState.reset with
    outFmt := cqField bs 1 1, toSep := cqField bs 2 1 = 1, destSep := cqField bs 3 1, postCtr := cqField bs 4 1, window := cqField bs 5 1, ncontrib := cqField bs 6 2,
    count := cqField bs 8 4, storeOff := cqField bs 0x14 4, outOff := cqField bs 0x18 4, outScaleOff := cqField bs 0x1C 4, rearm := bitOf (cqField bs 0x20 2) 0 }

/-- The registers of a queue as an accepted open leaves them. -/
def Dev.cqOpened (d : Dev) (pc q : Nat) (bs : List Byte) : Dev :=
  let d := (((d.modCq pc q (fun _ => cqContents bs)).setReg F.CELL_CQ_STATE.base pc (q + 1) 0).setCqState pc q 1).set F.CELL_CQ_STATE_MODE
    (b2n (cqField bs 0 1 = 1)) pc (q + 1)
  ((d.set F.CELL_CQ_STATE_SEQ (cqField bs 0x10 4) pc (q + 1)).set F.CELL_CQ_EPOCH_USED 1 pc (q + 1)).set F.CELL_CQ_EPOCH_EPOCH (cqField bs 0x0C 4) pc (q + 1)

/-- The registers and contents of a queue as a close leaves them. -/
def Dev.cqClosed (d : Dev) (pc q : Nat) : Dev := (d.setReg F.CELL_CQ_STATE.base pc (q + 1) 0).modCq pc q (fun _ => CqState.reset)

section
variable (d : Dev) (pc q : Nat) (bs : List Byte)

theorem Dev.openCq_accepts (h : (d.openCq pc q bs).1 = 0) : d.openCq pc q bs = (0, d.cqOpened pc q bs) := by
  unfold Dev.openCq at h ⊢
  dsimp only at h ⊢
  split at h
  · exact absurd h Nat.one_ne_zero
  next hfree =>
    split at h
    · exact absurd h (Nat.succ_ne_zero 1)
    next hnew =>
      rw [if_neg hfree, if_neg hnew]
      rfl

theorem Dev.closeCq_closes (h : d.cqState pc q ≠ 0) : d.closeCq pc q = (0, d.cqClosed pc q) := if_neg h

/-- Field of 32 bits of a descriptor. -/
theorem cqField_lt (i : Nat) : cqField bs i 4 < 2 ^ 32 := by
  have hlt := leNat_lt ((bs.drop i).take 4)
  have hpow : 256 ^ ((bs.drop i).take 4).length ≤ 256 ^ 4 := Nat.pow_le_pow_right (by decide) (by rw [List.length_take]; exact Nat.min_le_left ..)
  exact Nat.lt_of_lt_of_le hlt hpow

theorem Dev.cqOpened_mem : (d.cqOpened pc q bs).mem = d.mem := by simp [Dev.cqOpened, Dev.setCqState]

theorem Dev.cqOpened_others : CellsStand d (d.cqOpened pc q bs) pc :=
  (CellsStand.modCq d pc q (fun _ => cqContents bs)).trans (.of_cells (by simp only [Dev.cqOpened, Dev.setCqState, Dev.set_cells, Dev.setReg_cells]) pc)

theorem Dev.cqOpened_ctx (c : Nat) : (d.cqOpened pc q bs).ctx pc c = d.ctx pc c := by
  have hcells : (d.cqOpened pc q bs).cells = (d.modCq pc q (fun _ => cqContents bs)).cells := by simp only [Dev.cqOpened, Dev.setCqState, Dev.set_cells, Dev.setReg_cells]
  rw [Dev.ctx_of_cells hcells, Dev.ctx_modCq]

theorem Dev.queueOpened : QueueOpened (d.cqOpened pc q bs) pc q bs := by
  have hcq : (d.cqOpened pc q bs).cq pc q = cqContents bs := by simp [Dev.cqOpened, Dev.setCqState]
  refine ⟨?_, ?_, ?_, ?_, ?_, ?_⟩
  · rw [Dev.cqState, Dev.cqOpened, Dev.get_set_apart (by decide), Dev.get_set_apart (by decide), Dev.get_set_leaves (by decide), Dev.get_set_leaves (by decide)]
    exact Dev.setCqState_shows _ _ _ (by decide)
  · exact (Dev.get_set_same _ F.CELL_CQ_EPOCH_EPOCH _ _ _ (by decide) (by decide)).trans (Nat.mod_eq_of_lt (cqField_lt bs 0x0C))
  · rw [Dev.cqOpened, Dev.get_set_apart (by decide), Dev.get_set_apart (by decide)]
    exact (Dev.get_set_same _ F.CELL_CQ_STATE_SEQ _ _ _ (by decide) (by decide)).trans (Nat.mod_eq_of_lt (cqField_lt bs 0x10))
  · rw [hcq]; rfl
  · rw [hcq]; rfl
  · rw [hcq]; rfl

theorem Dev.cqClosed_mem : (d.cqClosed pc q).mem = d.mem := by rw [Dev.cqClosed, Dev.modCq_mem, Dev.setReg_mem]

theorem Dev.cqClosed_others : CellsStand d (d.cqClosed pc q) pc := (CellsStand.of_cells (d.setReg_cells ..) pc).trans (.modCq _ pc q _)

theorem Dev.cqClosed_ctx (c : Nat) : (d.cqClosed pc q).ctx pc c = d.ctx pc c := (Dev.ctx_modCq ..).trans (Dev.ctx_of_cells (d.setReg_cells ..) ..)

theorem Dev.cqClosed_state : (d.cqClosed pc q).cqState pc q = 0 := by
  rw [Dev.cqClosed, Dev.cqState_modCq, Dev.cqState, Dev.get, Dev.reg_setReg_same]
  rfl

theorem Dev.cqClosed_epoch : (d.cqClosed pc q).reg F.CELL_CQ_EPOCH.base pc (q + 1) = d.reg F.CELL_CQ_EPOCH.base pc (q + 1) := by
  rw [Dev.cqClosed, Dev.reg_of_regs (Dev.modCq_regs ..)]
  exact Dev.reg_setReg_other d _ (regKey_ne (by decide) _ _ _ _)

end

/-- What an open leaves of a queue does not rest on what else happens. -/
theorem QueueOpened.of_alike {d d' : Dev} {pc q : Nat} {bs : List Byte} (h : QueueOpened d pc q bs) (hget : ∀ f : Fld, f.base % 2 ^ 12 = 0x800 ∨ f.base % 2 ^ 12 = 0x808 →
    d'.get f pc (q + 1) = d.get f pc (q + 1)) (hcq : d'.cq pc q = d.cq pc q) : QueueOpened d' pc q bs := by
  obtain ⟨hstate, hepoch, hseq, hea, hacc, hranks⟩ := h
  exact ⟨(hget F.CELL_CQ_STATE_STATE (.inl rfl)).trans hstate, (hget F.CELL_CQ_EPOCH_EPOCH (.inr rfl)).trans hepoch, (hget F.CELL_CQ_STATE_SEQ (.inl rfl)).trans hseq,
    hcq ▸ hea, hcq ▸ hacc, hcq ▸ hranks⟩

theorem QueueOpened.beside {d d' : Dev} {pc q : Nat} {bs : List Byte} (h : QueueOpened d pc q bs) (hb : Beside pc d d') : QueueOpened d' pc q bs :=
  QueueOpened.of_alike h (fun f hf => hb.get f (by omega)) (hb.cq q)

theorem QueueOpened.cmdResult {d : Dev} {pc q : Nat} {bs : List Byte} (h : QueueOpened d pc q bs) (r : Nat) : QueueOpened (d.cmdResult (.cell pc) r) pc q bs :=
  QueueOpened.of_alike h (fun f hf => Dev.get_set_apart (f := F.CELL_CHAN_SEL_RESULT) (by show _ ≠ 0x700; omega) d _ _ _ _ _) (Dev.cq_of_cells pc q (Dev.cmdResult_cells ..))

end Sys2Proof.Machine
end

section
namespace Sys2Proof.Machine

/-! ## CQADD (R235 to R237) -/

/-- Bytes in the middle of bytes that are read. -/
theorem Memory.read_drop_take (m : List (Nat × Byte)) (a i : Nat) {n len : Nat} (h : i + n ≤ len) : ((Memory.read m a len).drop i).take n = Memory.read m (a + i) n := by
  obtain ⟨r, rfl⟩ : ∃ r, len = i + (n + r) := ⟨len - (i + n), by omega⟩
  have hi := Memory.read_length m a i
  have hn := Memory.read_length m (a + i) n
  rw [Memory.read_add, List.drop_left' hi, Memory.read_add, List.take_left' hn]

/-- A field of a descriptor in the scratchpad. -/
theorem Dev.cqField_spad (d : Dev) (pc off : Nat) {i n len : Nat} (h : i + n ≤ len) : cqField (d.spad pc off len) i n = leNat (d.spad pc (off + i) n) := by
  rw [cqField, Dev.spad, Dev.load, Memory.read_drop_take _ _ _ h, Nat.add_assoc]
  rfl

/-- A contribution as its descriptor commits it. -/
def contribJob (q : Nat) (bs : List Byte) : ContribJob :=
  { dstDev := cqField bs 0 2, dstLc := cqField bs 2 2, queue := q, ranked := cqField bs 4 1 = 1, srcFmt := cqField bs 5 1, rank := cqField bs 6 2,
    epoch := cqField bs 8 4, seq := cqField bs 0x0C 4, src := cqField bs 0x10 4, count := cqField bs 0x14 4, inexact := bitOf (cqField bs 0x19 1) 1,
    doneCtr := cqField bs 0x18 1, doneEn := bitOf (cqField bs 0x19 1) 0, pos := 0 }

/-- The device with a contribution committed. -/
def Dev.contributed (d : Dev) (pc : Nat) (j : ContribJob) : Dev := d.modCell pc (fun s => { s with contribs := s.contribs ++ [j] })

section
variable {pc : Slot} {c : Ctx} {f : FmtS} {d : Dev} (hready : d.ready pc c = true) (hpending : d.anyPending pc c = false)
  (hxb : f.xb = 0) (himm : f.imm.toNat < 8)

section
include hxb himm

/-- The fields of a CQADD are legal. -/
theorem FmtS.ok_cqadd {xa : Bool} {n : BitVec 5} (hn : n.toNat ≤ 3) (hfl : f.fl = n) (hxa : xa = true ∨ f.xa = 0) : (f.ok (useCqadd xa) && decide (f.fl = n)) = true := by
  rw [hfl, decide_eq_true rfl, Bool.and_true]
  exact FmtS.ok_item hxa hxb (within_mask (n := 2) (by rw [hfl]; omega)) (within_mask (n := 3) himm)

end

include hready hpending hxb himm

theorem Does.cqaddOpen {off : Nat} (hfl : f.fl = 1) (hown : d.ownSpad pc ((d.ctx pc c).xr f.xa.toNat).toNat 64 = some off)
    (halign : ((d.ctx pc c).xr f.xa.toNat).toNat % 64 = 0) (hdesc : cqDescOk (d.spad pc off 64) = true) (hidle : d.cqState pc f.imm.toNat ≠ 2)
    (hopen : (d.openCq pc f.imm.toNat (d.spad pc off 64)).1 = 0) : Does (.cqaddOpen pc c f) d (fun d' =>
      CounterCommits d d' pc c f.xd.toNat 0 false ∧ QueueOpened d' pc f.imm.toNat (d.spad pc off 64)) := by
  refine .ordered (d.cqOpened pc f.imm.toNat (d.spad pc off 64)) f.xd.toNat 0 hready hpending (FmtS.ok_cqadd hxb himm (n := 1) (by decide) hfl (.inl rfl))
    (fun _ => rfl) ?_ ⟨CounterCommits.of_ctx (d.cqOpened_ctx ..) (d.cqOpened_mem ..) (d.cqOpened_others pc _ _) _ _, QueueOpened.beside (d.queueOpened pc _ _) (.syncDone ..)⟩
  simp only [hown, halign, hdesc, Nat.mod_eq_of_lt himm, hidle, Dev.openCq_accepts _ _ _ _ hopen, ne_eq, not_true_eq_false, decide_false, Bool.not_true, Bool.or_self,
    Bool.false_eq_true, if_false]

theorem Does.cqaddClose (hfl : f.fl = 2) (hxa : f.xa = 0) (hopen : d.cqState pc f.imm.toNat ≠ 0) (hidle : d.cqState pc f.imm.toNat ≠ 2) :
    Does (.cqaddClose pc c f) d (fun d' => CounterCommits d d' pc c f.xd.toNat 0 false ∧ d'.cqState pc f.imm.toNat = 0 ∧
      d'.reg F.CELL_CQ_EPOCH.base pc (f.imm.toNat + 1) = d.reg F.CELL_CQ_EPOCH.base pc (f.imm.toNat + 1)) := by
  have hdone := Beside.syncDone pc (d.cqClosed pc f.imm.toNat) c f.xd.toNat 0
  refine .ordered (d.cqClosed pc f.imm.toNat) f.xd.toNat 0 hready hpending (FmtS.ok_cqadd hxb himm (n := 2) (by decide) hfl (.inr hxa))
    (fun _ => rfl) ?_ ⟨CounterCommits.of_ctx (d.cqClosed_ctx ..) (d.cqClosed_mem ..) (d.cqClosed_others pc _) _ _, (hdone.cqState _).trans (d.cqClosed_state ..),
      (hdone.reg _).trans (d.cqClosed_epoch ..)⟩
  simp only [Nat.mod_eq_of_lt himm, hidle, Dev.closeCq_closes _ _ _ hopen, if_false]

theorem Does.cqaddContribute {off : Nat} (hfl : f.fl = 0) (hown : d.ownSpad pc ((d.ctx pc c).xr f.xa.toNat).toNat 32 = some off)
    (halign : ((d.ctx pc c).xr f.xa.toNat).toNat % 32 = 0) (hdesc : contribDescOk c (d.spad pc off 32) = true)
    (hhost : cqField (d.spad pc off 32) 0 2 = d.deviceId → (d.hostOf (cqField (d.spad pc off 32) 2 2)).isSome) (hroom : 1024 ≤ d.outFree pc) :
    Does (.cqaddContribute pc c f) d (fun d' => CounterCommits d d' pc c f.xd.toNat 0 false ∧
      (d'.cell pc).contribs = (d.cell pc).contribs ++ [contribJob f.imm.toNat (d.spad pc off 32)]) := by
  have hdone := Beside.syncDone pc (d.contributed pc (contribJob f.imm.toNat (d.spad pc off 32))) c f.xd.toNat 0
  have hctx : (d.contributed pc (contribJob f.imm.toNat (d.spad pc off 32))).ctx pc c = d.ctx pc c := by
    rw [Dev.ctx, Dev.contributed, Dev.cell_modCell_same]
    rfl
  refine .ordered (d.contributed pc (contribJob f.imm.toNat (d.spad pc off 32))) f.xd.toNat 0 hready hpending
    (FmtS.ok_cqadd hxb himm (n := 0) (by decide) hfl (.inl rfl)) (fun _ => rfl) ?_
    ⟨CounterCommits.of_ctx hctx (Dev.modCell_mem ..) (.modCell d pc _) _ _, hdone.contribs.trans ?_⟩
  · have hthere : (decide (cqField (d.spad pc off 32) 0 2 = d.deviceId) && (d.hostOf (cqField (d.spad pc off 32) 2 2)).isNone) = false := by
      by_cases hown' : cqField (d.spad pc off 32) 0 2 = d.deviceId
      · rw [Option.isNone_eq_false_iff.2 (hhost hown'), Bool.and_false]
      · rw [decide_eq_false hown', Bool.false_and]
    simp only [hown, halign, hdesc, Nat.mod_eq_of_lt himm, hthere, Nat.not_lt.2 hroom, ne_eq, not_true_eq_false, decide_false, Bool.not_true, Bool.or_self,
      Bool.false_eq_true, if_false]
    rfl
  · rw [Dev.contributed, Dev.cell_modCell_same]

end

/-! ## Queue commands (R235, R236, R509) -/

section
variable {pc : Slot} {m : Master} {d : Dev} {lc q : Nat} (hon : d.domOn pc = true) (hhost : d.hosted pc = some lc) (hstay : d.migrating lc = false)
  (hq : d.get F.CELL_CHAN_SEL_CQ pc = q) (hidle : d.cqState pc q ≠ 2)

section
include hq hidle

/-- A command to a queue that is not POSTING is carried out at once. -/
theorem Dev.cqCmd_now (w : Option Nat) : d.cqCmd pc w = d.chanCmd pc (fun d => d.cqCommand pc q w) := by
  simp only [Dev.cqCmd, hq, decide_eq_false hidle, Bool.and_false, Bool.false_eq_true, if_false]

end

include hon hhost hstay hq hidle

/-- Its RESULT is what it returns. -/
theorem Does.cqCmd {x : Instr} {w : Option Nat} {post : Dev → Prop} (hexec : ∀ s, exec x s = s.run (fun d => d.cqCmd pc w)) {r : Nat} {d1 : Dev}
    (hw : d.cqCommand pc q w = (r, d1)) (hp : post (d1.cmdResult (.cell pc) r)) : Does x d post := by
  refine .of_run hexec ?_
  rw [Dev.cqCmd_now hq hidle]
  simp only [Dev.chanCmd, hon, hhost, hstay, hw, Bool.not_true, Bool.false_eq_true, if_false]
  exact hp

theorem Does.queueOpen {desc : BitVec 24} (halign : desc.toNat % 64 = 0) (hin : desc.toNat + 64 ≤ 0xB00000) (hdesc : cqDescOk (d.spad pc desc.toNat 64) = true)
    (hopen : (d.openCq pc q (d.spad pc desc.toNat 64)).1 = 0) : Does (.queueOpen m pc desc) d (fun d' =>
      d'.get F.CELL_CHAN_SEL_RESULT pc = 0 ∧ QueueOpened d' pc q (d.spad pc desc.toNat 64) ∧ d'.mem = d.mem ∧ CellsStand d d' pc) := by
  have hout : ¬ spadSize < desc.toNat + 64 := Nat.not_lt.2 hin
  have hgood : d.cqCommand pc q (some desc.toNat) = (0, d.cqOpened pc q (d.spad pc desc.toNat 64)) := by
    simp only [Dev.cqCommand, halign, hout, hdesc, Dev.openCq_accepts _ _ _ _ hopen, ne_eq, not_true_eq_false, decide_false, Bool.not_true, Bool.or_self,
      Bool.false_eq_true, if_false]
  exact .cqCmd hon hhost hstay hq hidle (fun _ => rfl) hgood ⟨Dev.cmdResult_shows _ _ 0 (by decide), QueueOpened.cmdResult (d.queueOpened ..) 0,
    (Dev.cmdResult_mem ..).trans (d.cqOpened_mem ..), (d.cqOpened_others pc q _).trans (CellsStand.of_cells (Dev.cmdResult_cells ..) pc)⟩

theorem Does.queueClose (hopen : d.cqState pc q ≠ 0) : Does (.queueClose m pc) d (fun d' =>
    d'.get F.CELL_CHAN_SEL_RESULT pc = 0 ∧ d'.cqState pc q = 0 ∧ d'.mem = d.mem ∧ CellsStand d d' pc) := by
  have hgood : d.cqCommand pc q none = (0, d.cqClosed pc q) := by simp only [Dev.cqCommand, Dev.closeCq_closes _ _ _ hopen]
  have hstate : ((d.cqClosed pc q).cmdResult (.cell pc) 0).cqState pc q = (d.cqClosed pc q).cqState pc q :=
    Dev.get_set_apart (f := F.CELL_CHAN_SEL_RESULT) (g := F.CELL_CQ_STATE_STATE) (by decide) _ _ _ _ _ _
  exact .cqCmd hon hhost hstay hq hidle (fun _ => rfl) hgood ⟨Dev.cmdResult_shows _ _ 0 (by decide), hstate.trans (d.cqClosed_state ..),
    (Dev.cmdResult_mem ..).trans (d.cqClosed_mem ..), (d.cqClosed_others pc q).trans (CellsStand.of_cells (Dev.cmdResult_cells ..) pc)⟩

end

end Sys2Proof.Machine
end

section
namespace Sys2Proof.Machine

/-! ## The packets of a contribution (R237, R506) -/

/-- The outbox item with the next `n` elements of a ranked contribution. -/
def Dev.rankedItem (d : Dev) (pc : Nat) (j : ContribJob) (n : Nat) : OutItem :=
  { contrib := true, sep := j.queue, seq := j.count, off := 4 * j.pos,
    head := leBytes 4 (j.queue + b2n j.ranked * 2 ^ 8 + b2n (bitOf 0 0 || j.inexact) * 2 ^ 16) ++ leBytes 4 j.rank ++ leBytes 4 j.epoch ++ leBytes 4 j.seq,
    body := d.spad pc (j.src + 4 * j.pos) (4 * n), sent := 0, space := (d.spad pc (j.src + 4 * j.pos) (4 * n)).length, dstDev := j.dstDev, unit := unitCell j.dstLc,
    chan := 0, sched := false, mcast := false, hops := 0, own := false }

/-- The device with the next `n` elements of its oldest contribution, a ranked one, in the outbox. -/
def Dev.contribMoved (d : Dev) (pc : Nat) (j : ContribJob) (js : List ContribJob) (n : Nat) : Dev :=
  d.modCell pc (fun s => { s with outbox := s.outbox ++ [d.rankedItem pc j n], contribs := if j.pos + n = j.count then js else { j with pos := j.pos + n } :: js })

/-- The same with DONE_CTR posted when the source is read. -/
def Dev.contribSent (d : Dev) (pc : Nat) (j : ContribJob) (js : List ContribJob) (n : Nat) : Dev :=
  if decide (j.pos + n = j.count) && j.doneEn then (d.contribMoved pc j js n).addCounter pc j.doneCtr 1 else d.contribMoved pc j js n

section
variable {pc : Slot} {d : Dev} {j : ContribJob} {js : List ContribJob} {n : Nat}

theorem Dev.contribMoved_cell : ((d.contribMoved pc j js n).cell pc).outbox = (d.cell pc).outbox ++ [d.rankedItem pc j n] ∧
    ((d.contribMoved pc j js n).cell pc).contribs = (if j.pos + n = j.count then js else { j with pos := j.pos + n } :: js) ∧
    ∀ k, (d.contribMoved pc j js n).counter pc k = d.counter pc k := by
  refine ⟨?_, ?_, fun k => ?_⟩
  · rw [Dev.contribMoved, Dev.cell_modCell_same]
  · rw [Dev.contribMoved, Dev.cell_modCell_same]
  · rw [Dev.counter, Dev.contribMoved, Dev.cell_modCell_same]
    rfl

theorem Beside.contribSent : Beside pc (d.contribMoved pc j js n) (d.contribSent pc j js n) := .ite (.addCounter pc _ _ _) (.refl pc _)

theorem Does.contribSend (hjobs : (d.cell pc).contribs = j :: js) (hranked : j.ranked = true) (hn : min (j.count - j.pos) 62 = n) (hroom : n * 4 ≤ d.outFree pc) :
    Does (.contribSend pc) d (fun d' =>
      (d'.cell pc).outbox = (d.cell pc).outbox ++ [d.rankedItem pc j n] ∧
      (d'.cell pc).contribs = (if j.pos + n = j.count then js else { j with pos := j.pos + n } :: js) ∧ d'.mem = d.mem ∧
      (j.pos + n = j.count → j.doneEn = true → d'.counter pc j.doneCtr = min (d.counter pc j.doneCtr + 1) (2 ^ 64 - 1))) := fun q => by
  have hstep : contribStep j = n := by rw [contribStep, hranked, if_pos rfl, hn]
  have hbytes : d.contribBytes pc j n = (d.spad pc (j.src + 4 * j.pos) (4 * n), 0) := if_pos hranked
  have hexec : exec (.contribSend pc) ⟨d, q⟩ = .next ⟨d.contribSent pc j js n, q⟩ := by
    have hrun : ∀ f, State.run ⟨d, q⟩ f = .next ⟨f d, q⟩ := fun _ => rfl
    have heval : exec (.contribSend pc) ⟨d, q⟩ = execContribSend pc ⟨d, q⟩ := rfl
    rw [heval, execContribSend, hrun]
    have harith : d.arith pc 0 = d := if_pos rfl
    simp only [hjobs, hstep, hranked, hbytes, harith, Nat.not_lt.2 hroom, if_true, if_false, Dev.contribSent, Dev.contribMoved, Dev.rankedItem]
  obtain ⟨houtbox, hcontribs, hcounter⟩ := Dev.contribMoved_cell (pc := pc) (d := d) (j := j) (js := js) (n := n)
  have hpost := Beside.contribSent (pc := pc) (d := d) (j := j) (js := js) (n := n)
  refine ⟨_, hexec, hpost.outbox.trans houtbox, hpost.contribs.trans hcontribs, hpost.mem.trans (Dev.modCell_mem ..), fun hlast hen => ?_⟩
  rw [Dev.contribSent, if_pos (by rw [hen, decide_eq_true hlast]; rfl), (Posted.addCounter _ pc _ 1).counter, if_pos rfl, hcounter]

end

end Sys2Proof.Machine
end

section
namespace Sys2Proof.Machine

/-! ## The end of a post (R241) -/

section
variable (d : Dev) (pc q : Nat)

/-- The device with a post counted, and posted in its counter. -/
def Dev.postCounted (d : Dev) (pc q : Nat) : Dev :=
  ((d.arith pc (d.cq pc q).status).count F.CELL_CQ_POSTS pc (q + 1)).addCounter pc (d.cq pc q).postCtr 1

/-- The queue ready for the next round. -/
def Dev.cqRearmed (d : Dev) (pc q : Nat) : Dev :=
  let e := d.modCq pc q (fun c => { c with ea := [], acc := [], ranks := [], complete := [], held := [], under := false, status := 0 })
  (((e.setCqState pc q 1).set F.CELL_CQ_STATE_SEQ ((d.get F.CELL_CQ_STATE_SEQ pc (q + 1) + 1) % 2 ^ 32) pc (q + 1)).set F.CELL_CQ_STATE_RECEIVED 0 pc (q + 1)).set
    F.CELL_CQ_STATE_NEXT 0 pc (q + 1)

/-- The queue after a post. -/
def Dev.cqNext (d : Dev) (pc q : Nat) (rearm : Bool) : Dev := if rearm then d.cqRearmed pc q else d.setCqState pc q 3

theorem Dev.finishPost_eq : d.finishPost pc q = (((d.postCounted pc q).cqNext pc q (d.cq pc q).rearm).cqWaiting pc q).wakeQueue pc q := rfl

/-- With no command waiting for a queue, the list of those that wait stands, and nothing else happens. -/
theorem Dev.cqWaiting_none (h : ∀ w ∈ (d.cell pc).cqWait, w.1 ≠ q) :
    d.cqWaiting pc q = d.modCell pc (fun s => { s with cqWait := s.cqWait.filter (fun w => w.1 != q) }) := by
  have hnone : (d.cell pc).cqWait.filter (fun w => w.1 = q) = [] := List.filter_eq_nil_iff.2 fun w hw hq => h w hw (of_decide_eq_true hq)
  rw [Dev.cqWaiting, hnone]
  rfl

theorem Dev.cqWaiting_none_stands (h : ∀ w ∈ (d.cell pc).cqWait, w.1 ≠ q) : (d.cqWaiting pc q).regs = d.regs ∧ (d.cqWaiting pc q).mem = d.mem ∧
    (d.cqWaiting pc q).cq pc q = d.cq pc q ∧ ∀ n, (d.cqWaiting pc q).counter pc n = d.counter pc n := by
  rw [Dev.cqWaiting_none d pc q h]
  refine ⟨rfl, rfl, ?_, fun n => ?_⟩
  · rw [Dev.cq, Dev.cell_modCell_same]
    rfl
  · rw [Dev.counter, Dev.cell_modCell_same]
    rfl

theorem Dev.cqNext_stands (rearm : Bool) : (d.cqNext pc q rearm).mem = d.mem ∧ ((d.cqNext pc q rearm).cell pc).cqWait = (d.cell pc).cqWait ∧
    (∀ n, (d.cqNext pc q rearm).counter pc n = d.counter pc n) ∧ (d.cqNext pc q rearm).cqState pc q = if rearm then 1 else 3 := by
  cases rearm with
  | false => exact ⟨d.set_mem .., congrArg CellState.cqWait (d.cell_setReg ..), fun n => Dev.counter_of_cells (d.set_cells ..) pc n, d.setCqState_shows pc q (by decide)⟩
  | true =>
    have hcells : (d.cqRearmed pc q).cells = (d.modCq pc q (fun c => { c with ea := [], acc := [], ranks := [], complete := [], held := [], under := false, status := 0 })).cells := by
      simp only [Dev.cqRearmed, Dev.setCqState, Dev.set_cells]
    refine ⟨?_, ?_, fun n => (Dev.counter_of_cells hcells pc n).trans (Dev.counter_modCq ..), ?_⟩
    · simp [Dev.cqNext, Dev.cqRearmed, Dev.setCqState]
    · show ((d.cqRearmed pc q).cell pc).cqWait = _
      rw [Dev.cell, hcells, ← Dev.cell, Dev.cqWait_modCq]
    · show (d.cqRearmed pc q).cqState pc q = 1
      rw [Dev.cqState, Dev.cqRearmed, Dev.get_set_leaves (by decide), Dev.get_set_leaves (by decide), Dev.get_set_leaves (by decide)]
      exact Dev.setCqState_shows _ _ _ (by decide)

theorem Dev.cqRearmed_round : (d.cqRearmed pc q).get F.CELL_CQ_STATE_SEQ pc (q + 1) = (d.get F.CELL_CQ_STATE_SEQ pc (q + 1) + 1) % 2 ^ 32 ∧
    ((d.cqRearmed pc q).cq pc q).ea = [] ∧ ((d.cqRearmed pc q).cq pc q).ranks = [] := by
  refine ⟨?_, ?_, ?_⟩
  · rw [Dev.cqRearmed, Dev.get_set_leaves (by decide), Dev.get_set_leaves (by decide)]
    exact (Dev.get_set_same _ F.CELL_CQ_STATE_SEQ _ _ _ (by decide) (by decide)).trans (Nat.mod_eq_of_lt (Nat.mod_lt _ (Nat.two_pow_pos 32)))
  · simp [Dev.cqRearmed, Dev.setCqState]
  · simp [Dev.cqRearmed, Dev.setCqState]

theorem Dev.postCounted_stands : (d.postCounted pc q).mem = d.mem ∧ ((d.postCounted pc q).cell pc).cqWait = (d.cell pc).cqWait ∧
    (d.postCounted pc q).get F.CELL_CQ_STATE_SEQ pc (q + 1) = d.get F.CELL_CQ_STATE_SEQ pc (q + 1) ∧
    (d.postCounted pc q).counter pc (d.cq pc q).postCtr = min (d.counter pc (d.cq pc q).postCtr + 1) (2 ^ 64 - 1) := by
  have harith := Beside.arith pc d (d.cq pc q).status
  have hcells : (d.arith pc (d.cq pc q).status).cells = d.cells := by
    rw [Dev.arith]
    split
    · rfl
    · exact d.setReg_cells ..
  have hpost := Beside.addCounter pc ((d.arith pc (d.cq pc q).status).count F.CELL_CQ_POSTS pc (q + 1)) (d.cq pc q).postCtr 1
  refine ⟨?_, ?_, ?_, ?_⟩
  · rw [Dev.postCounted, hpost.mem, Dev.count_mem, harith.mem]
  · rw [Dev.postCounted, hpost.cqWait, Dev.cell_count, harith.cqWait]
  · rw [Dev.postCounted, hpost.get F.CELL_CQ_STATE_SEQ, Dev.get_count_apart (by decide), harith.get F.CELL_CQ_STATE_SEQ]
  · rw [Dev.postCounted, (Posted.addCounter _ pc _ 1).counter, if_pos rfl, Dev.counter_of_cells (Dev.count_cells ..), Dev.counter_of_cells hcells]

end

/-- The end of a post for which no command waits. -/
theorem Does.queuePostDone {pc : Slot} {d : Dev} {q : Fin 8} (hposting : d.cqState pc q = 2) (hsent : (d.cq pc q).sending = []) (hwait : ∀ w ∈ (d.cell pc).cqWait, w.1 ≠ q.val) :
    Does (.queuePostDone pc q) d (fun d' => d'.cqState pc q = (if (d.cq pc q).rearm then 1 else 3) ∧ d'.mem = d.mem ∧
      d'.counter pc (d.cq pc q).postCtr = min (d.counter pc (d.cq pc q).postCtr + 1) (2 ^ 64 - 1) ∧
      ((d.cq pc q).rearm = true → d'.get F.CELL_CQ_STATE_SEQ pc (q + 1) = (d.get F.CELL_CQ_STATE_SEQ pc (q + 1) + 1) % 2 ^ 32 ∧
        (d'.cq pc q).ea = [] ∧ (d'.cq pc q).ranks = [])) := by
  have hnothing : d.trySendCq pc q = d := if_pos (by rw [hsent]; rfl)
  have hempty : (d.cq pc q).sending.isEmpty = true := by rw [hsent]; rfl
  obtain ⟨hmem1, hwait1, hseq1, hcounter1⟩ := d.postCounted_stands pc q
  obtain ⟨hmem2, hwait2, hcounter2, hstate2⟩ := (d.postCounted pc q).cqNext_stands pc q (d.cq pc q).rearm
  obtain ⟨hregs3, hmem3, hcq3, hcounter3⟩ := ((d.postCounted pc q).cqNext pc q (d.cq pc q).rearm).cqWaiting_none_stands pc q (by rw [hwait2, hwait1]; exact hwait)
  have hwake := Wakes.wakeQueue pc (((d.postCounted pc q).cqNext pc q (d.cq pc q).rearm).cqWaiting pc q) q
  refine .of_run (f := fun d => if d.cqState pc q ≠ 2 then d
    else
      let d := d.trySendCq pc q
      if d.cqState pc q = 2 && (d.cq pc q).sending.isEmpty then d.finishPost pc q
      else if d.cqState pc q = 4 then (d.cqWaiting pc q).wakeQueue pc q
      else d) (fun _ => rfl) ?_
  simp only [hposting, hnothing, hempty, ne_eq, not_true_eq_false, if_false, decide_true, Bool.and_self, if_true, Dev.finishPost_eq]
  refine ⟨?_, hwake.mem.trans (hmem3.trans (hmem2.trans hmem1)), (hwake.steady.counter _).trans ((hcounter3 _).trans ((hcounter2 _).trans hcounter1)), fun hrearm => ?_⟩
  · rw [hwake.cqState, Dev.cqState, Dev.get, Dev.reg_of_regs hregs3]
    exact hstate2
  · obtain ⟨hseq, hea, hranks⟩ := (d.postCounted pc q).cqRearmed_round pc q
    have hnext : (d.postCounted pc q).cqNext pc q (d.cq pc q).rearm = (d.postCounted pc q).cqRearmed pc q := if_pos hrearm
    rw [hwake.get F.CELL_CQ_STATE_SEQ, hwake.cq, Dev.get, Dev.reg_of_regs hregs3, ← Dev.get, hcq3, hnext, hseq, hseq1]
    exact ⟨rfl, hea, hranks⟩

/-- Settles O21: each instruction and command by the queue that it leaves, a contribution by the item that it places, and a post by the steps of its end. -/
theorem combiningQueuesOpenCloseContributeAndPost : Obligations.CombiningQueuesOpenCloseContributeAndPost := by
  intro pc d
  refine ⟨fun c f off hready hpending hxb himm => ⟨fun hfl hown halign hdesc hidle hopen => ?_, fun hfl hxa hopen hidle => ?_, fun hfl hown halign hdesc hhost hroom => ?_⟩,
    fun m desc lc hon hhost hstay hidle => ⟨fun halign hin hdesc hopen => ?_, fun hopen => ?_⟩, fun j js hjobs hranked hroom => ?_,
    fun q hposting hsent hwait => .queuePostDone hposting hsent hwait⟩
  · exact .cqaddOpen hready hpending hxb himm hfl hown halign hdesc hidle hopen
  · exact .cqaddClose hready hpending hxb himm hfl hxa hopen hidle
  · have hfield := fun {i n : Nat} (h : i + n ≤ 32) => d.cqField_spad pc off h
    refine (Does.cqaddContribute hready hpending hxb himm hfl hown halign hdesc ?_ hroom).imp fun d' h => ?_
    · rw [hfield (i := 0) (by decide), hfield (i := 2) (by decide)]
      exact hhost
    · obtain ⟨hcommits, hcontribs⟩ := h
      exact ⟨hcommits, _, hcontribs, rfl, hfield (i := 0) (by decide), hfield (i := 2) (by decide), hfield (i := 6) (by decide), hfield (i := 8) (by decide),
        hfield (i := 12) (by decide), hfield (i := 16) (by decide), hfield (i := 20) (by decide), rfl⟩
  · exact .queueOpen hon hhost hstay rfl hidle halign hin hdesc hopen
  · exact .queueClose hon hhost hstay rfl hidle hopen
  · refine (Does.contribSend hjobs hranked rfl hroom).imp fun d' h => ?_
    obtain ⟨houtbox, hcontribs, hmem, hcounter⟩ := h
    exact ⟨⟨_, houtbox, rfl, rfl, rfl, rfl⟩, hcontribs, hmem, hcounter⟩

end Sys2Proof.Machine
end

section
namespace Sys2Proof.Machine

/-! ## Packets that reach a cell (R292, R444) -/

section
variable {d : Dev} {p : Packet} {typ pc : Nat} (h : ArrivesAtCell d p typ pc)
include h

/-- A packet for a hosted cell reaches the channels and endpoints of its slot. -/
theorem Dev.atOwner_cell (k : Dev → Owner → Bool → Dev) : (d.landed p).atOwner p k = k (d.landed p) (.cell pc) false := by
  obtain ⟨-, hkind, hpart, hhost⟩ := h
  have hpart' : (d.landed p).partResetting (p.dstUnit.toNat % 512 / 64) = false := hpart
  have hhost' : (d.landed p).hostOf (p.dstUnit.toNat % 512) = some pc := hhost
  simp only [Dev.atOwner, hkind, Dev.atCell, hpart', hhost', Bool.false_eq_true, if_false]

/-- The rule for what reaches the channels and endpoints of a cell. -/
theorem Does.atOwner {x : Instr} {n : Option Port} {k : Dev → Owner → Bool → Dev} {post : Dev → Prop}
    (hexec : ∀ s, exec x s = s.run (fun d => d.deliver typ p n (fun d => d.atOwner p k))) (hp : post (k (d.landed p) (.cell pc) false)) : Does x d post :=
  .delivers h.1 hexec (by rwa [Dev.atOwner_cell h])

end

theorem leAt_lt (bs : List Byte) (i n : Nat) : leAt bs i n < 256 ^ n := by
  have hlt := leNat_lt ((bs.drop i).take n)
  have hpow : 256 ^ ((bs.drop i).take n).length ≤ 256 ^ n := Nat.pow_le_pow_right (by decide) (by rw [List.length_take]; exact Nat.min_le_left ..)
  exact Nat.lt_of_lt_of_le hlt hpow

/-- What a cell's senders do when they wake, and what a change of its endpoint leaves to the other cells. -/
theorem Wakes.wakeOwner (pc : Nat) (d : Dev) : Wakes pc d (d.wakeOwner (.cell pc)) := .wakeSenders pc d

end Sys2Proof.Machine
end

section
namespace Sys2Proof.Machine

/-! ## Counter additions (R191) -/

theorem Does.saddPacket {d : Dev} {p : Packet} {pc : Nat} (n : Option Port) (h : ArrivesAtCell d p 0x0C pc) (hsrc : pktSrc p = d.deviceId) (hctr : payAt p 0 4 ≤ 191) :
    Does (.saddPacket p n) d (fun d' => d'.mem = d.mem ∧ CellsStand d d' pc ∧
      ∀ c, d'.counter pc c = if c = payAt p 0 4 then min (d.counter pc c + payAt p 8 8) (2 ^ 64 - 1) else d.counter pc c) := by
  obtain ⟨harrives, hkind, hpart, hhost⟩ := h
  have hown : pktSrc p = (d.landed p).deviceId := hsrc
  have hpart' : (d.landed p).partResetting (p.dstUnit.toNat % 512 / 64) = false := hpart
  have hhost' : (d.landed p).hostOf (p.dstUnit.toNat % 512) = some pc := hhost
  have hlow : decide (191 < payAt p 0 4) = false := decide_eq_false (Nat.not_lt.2 hctr)
  have hbeside := Beside.addCounter pc (d.landed p) (payAt p 0 4) (payAt p 8 8)
  refine .delivers harrives (fun _ => rfl) ?_
  simp only [hkind, hown, hlow, Dev.atCell, hpart', hhost', ne_eq, not_true_eq_false, decide_false, Bool.or_self, Bool.false_eq_true, if_false]
  refine ⟨hbeside.mem, hbeside.others, fun c => ?_⟩
  rw [(Posted.addCounter (d.landed p) pc _ _).counter]
  by_cases hc : c = payAt p 0 4
  · rw [if_pos hc, if_pos hc, ← hc]
    rfl
  · rw [if_neg hc, if_neg hc]
    rfl

/-! ## Close notices (R229) -/

/-- The endpoint of a cell after a change of its state. -/
theorem Dev.setSepState_wakes (d : Dev) (pc k reason : Nat) {st : Nat} (hst : st < 8) : ((d.setSepState (.cell pc) k st reason).wakeOwner (.cell pc)).sepState (.cell pc) k = st ∧
    ((d.setSepState (.cell pc) k st reason).wakeOwner (.cell pc)).mem = d.mem ∧ CellsStand d ((d.setSepState (.cell pc) k st reason).wakeOwner (.cell pc)) pc := by
  have hwake := Wakes.wakeOwner pc (d.setSepState (.cell pc) k st reason)
  refine ⟨(hwake.sepState k).trans (d.setSepState_state _ _ _ hst), hwake.mem.trans (d.setSepState_mem ..), ?_⟩
  exact (CellsStand.of_cells (d.setSepState_cells ..) pc).trans hwake.others

theorem Does.closeNoticePkt {d : Dev} {p : Packet} {pc : Nat} (n : Option Port) (h : ArrivesAtCell d p 0x0A pc)
    (hlive : d.sepState (.cell pc) (payAt p 0 2) = 1 ∨ d.sepState (.cell pc) (payAt p 0 2) = 2) (hmcast : d.sepMcast (.cell pc) (payAt p 0 2) = false)
    (hgen : d.get F.CELL_SEP_STATE_GEN pc (payAt p 0 2 + 1) = payAt p 4 4) : Does (.closeNoticePkt p n) d (fun d' =>
      d'.sepState (.cell pc) (payAt p 0 2) = 3 ∧ d'.mem = d.mem ∧ CellsStand d d' pc) := by
  have hlive' : (decide ((d.landed p).sepState (.cell pc) (payAt p 0 2) = 1) || decide ((d.landed p).sepState (.cell pc) (payAt p 0 2) = 2)) = true := by
    rw [Bool.or_eq_true, decide_eq_true_eq, decide_eq_true_eq]
    exact hlive
  have hmcast' : (d.landed p).sepMcast (.cell pc) (payAt p 0 2) = false := hmcast
  have hgen' : (d.landed p).og (.cell pc) (payAt p 0 2) F.CELL_SEP_STATE_GEN F.DEV_OSEP_STATE_GEN = payAt p 4 4 := hgen
  refine .atOwner h (fun _ => rfl) ?_
  simp only [Dev.noticeArrives, hlive', hmcast', hgen', Bool.false_eq_true, if_false, decide_true, Bool.and_self, if_true]
  exact (d.landed p).setSepState_wakes pc (payAt p 0 2) 0 (by decide)

end Sys2Proof.Machine
end

section
namespace Sys2Proof.Machine

/-! ## JOIN and its reply (R211) -/

/-- RESULT of a JOIN. -/
def Dev.joinResult (d : Dev) (o : Owner) (k : Nat) : Nat := if !d.chanOpen o k then 1 else if (d.chanSource o k).isSome then 2 else 0

/-- A JOIN is answered with its result, the ring's size code and the channel's GEN, and records the source where it is accepted. -/
theorem Dev.joinArrives_eq (d : Dev) (o : Owner) (k source : Nat) : d.joinArrives o k source =
    (if d.joinResult o k = 0 then d.setSource o k (some source) else d).send (uPkt 0x09 (bitsOf source 29 20) (sourceUnit source)
      ((if d.joinResult o k = 0 then d.setSource o k (some source) else d).ownerUnit o) []
      (leBytes 2 (bitsOf source 7 0) ++ leBytes 1 (d.joinResult o k) ++ leBytes 1 (d.og o k F.CELL_CHAN_RING_SIZE F.DEV_OSCH_RING_SIZE) ++ leBytes 4 (d.chanGen o k))) := by
  have hsize : (if d.joinResult o k = 0 then d.setSource o k (some source) else d).og o k F.CELL_CHAN_RING_SIZE F.DEV_OSCH_RING_SIZE =
      d.og o k F.CELL_CHAN_RING_SIZE F.DEV_OSCH_RING_SIZE := by
    split
    · exact d.setSource_og o k (by decide) (by decide) _
    · rfl
  have hgen : (if d.joinResult o k = 0 then d.setSource o k (some source) else d).chanGen o k = d.chanGen o k := by
    split
    · exact d.setSource_og o k (by decide) (by decide) _
    · rfl
  rw [← hsize, ← hgen]
  rfl

section
variable {d : Dev} {p : Packet} {pc : Nat} (n : Option Port) (h : ArrivesAtCell d p 0x08 pc)
include h

/-- What a JOIN leaves: its answer, and the recorded source. -/
theorem Does.joinPkt {k r : Nat} (hk : payAt p 0 2 % 64 = k) (hr : d.joinResult (.cell pc) k = r) : Does (.joinPkt p n) d (fun d' =>
    d'.chanSource (.cell pc) k = (if r = 0 then (d.landed p).setSource (.cell pc) k (some (payAt p 4 4)) else d.landed p).chanSource (.cell pc) k ∧
    Answered d d' p 0x09 (bitsOf (payAt p 4 4) 29 20) (sourceUnit (payAt p 4 4))
      (leBytes 2 (bitsOf (payAt p 4 4) 7 0) ++ leBytes 1 r ++ leBytes 1 (d.get F.CELL_CHAN_RING_SIZE pc (k + 1)) ++ leBytes 4 (d.chanGen (.cell pc) k)) ∧
    d'.mem = d.mem ∧ d'.cells = d.cells) := by
  have hr' : (d.landed p).joinResult (.cell pc) k = r := hr
  refine .atOwner h (fun _ => rfl) ?_
  simp only [Bool.false_eq_true, if_false]
  rw [hk, Dev.joinArrives_eq, hr']
  refine ⟨Dev.chanSource_of fun _ _ _ _ => Dev.og_send .., answered_send ?_ (by decide) _ _ _ _, ?_, ?_⟩
  · split
    · exact Dev.setSource_net ..
    · rfl
  · rw [Dev.send_mem]
    split
    · exact Dev.setSource_mem ..
    · rfl
  · rw [Dev.send_cells]
    split
    · exact Dev.setSource_cells ..
    · rfl

end

/-- An endpoint that is bound, before its senders wake. -/
def Dev.boundSep (d : Dev) (o : Owner) (k size gen : Nat) : Dev :=
  let d := ((d.setSepState o k 2 0).os o k F.CELL_SEP_STATE_SIZE F.DEV_OSEP_STATE_SIZE size).os o k F.CELL_SEP_STATE_WR F.DEV_OSEP_STATE_WR 0
  ((d.os o k F.CELL_SEP_STATE_GEN F.DEV_OSEP_STATE_GEN gen).os o k F.CELL_SEP_CREDITS F.DEV_OSEP_CREDITS 0).modSep o k
    (fun e => { e with seq := 0, members := e.members.map (fun m => { m with freed := 0 }) })

section
variable (d : Dev) (o : Owner) (k gen : Nat)

theorem Dev.boundSep_state (size : Nat) : (d.boundSep o k size gen).sepState o k = 2 := by
  rw [Dev.sepState, Dev.boundSep, Dev.og_modSep, Dev.og_os_leaves _ _ _ (by decide) (by decide), Dev.og_os_leaves _ _ _ (by decide) (by decide),
    Dev.og_os_leaves _ _ _ (by decide) (by decide), Dev.og_os_leaves _ _ _ (by decide) (by decide)]
  exact d.setSepState_state o k 0 (by decide)

theorem Dev.boundSep_gen (size : Nat) (h : gen < 2 ^ 32) : (d.boundSep o k size gen).og o k F.CELL_SEP_STATE_GEN F.DEV_OSEP_STATE_GEN = gen := by
  rw [Dev.boundSep, Dev.og_modSep, Dev.og_os_leaves _ _ _ (by decide) (by decide), Dev.og_os_same _ _ _ (by decide)]
  exact Nat.mod_eq_of_lt h

theorem Dev.boundSep_wr (size : Nat) : (d.boundSep o k size gen).og o k F.CELL_SEP_STATE_WR F.DEV_OSEP_STATE_WR = 0 := by
  rw [Dev.boundSep, Dev.og_modSep, Dev.og_os_leaves _ _ _ (by decide) (by decide), Dev.og_os_leaves _ _ _ (by decide) (by decide), Dev.og_os_same _ _ _ (by decide)]
  rfl

theorem Dev.boundSep_counts (size : Nat) : (d.boundSep o k size gen).sent o k = 0 ∧ (d.boundSep o k size gen).freed o k = 0 := by
  rw [Dev.sent, Dev.freed, Dev.boundSep, Dev.og_modSep, Dev.og_modSep, Dev.og_os_whole _ _ _ (by decide), Dev.og_os_whole _ _ _ (by decide)]
  exact ⟨by simp [bitsOf], by simp [bitsOf]⟩

theorem Dev.boundSep_ring {size : Nat} (h : size ≤ 8) : (d.boundSep o k size gen).sepRing o k = ringBytes size := by
  rw [Dev.sepRing, Dev.boundSep, Dev.og_modSep, Dev.og_os_leaves _ _ _ (by decide) (by decide), Dev.og_os_leaves _ _ _ (by decide) (by decide),
    Dev.og_os_leaves _ _ _ (by decide) (by decide), Dev.og_os_same _ _ _ (by decide)]
  exact congrArg ringBytes (Nat.mod_eq_of_lt (Nat.lt_of_le_of_lt h (by decide)))

/-- With nothing sent the whole ring is available. -/
theorem Dev.boundSep_avail {size : Nat} (h : size ≤ 8) : (d.boundSep o k size gen).avail o k = ringBytes size / 64 := by
  obtain ⟨hsent, hfreed⟩ := d.boundSep_counts o k gen size
  rw [Dev.avail, if_pos (d.boundSep_state o k gen size), hsent, hfreed, d.boundSep_ring o k gen h]
  rfl

theorem Dev.boundSep_mem (size : Nat) : (d.boundSep o k size gen).mem = d.mem := by simp [Dev.boundSep]

theorem Dev.sepBound_eq (size : Nat) : d.sepBound o k size gen = (d.boundSep o k size gen).wakeOwner o := rfl

end

theorem Dev.boundSep_others (d : Dev) (pc k size gen : Nat) : CellsStand d (d.boundSep (.cell pc) k size gen) pc :=
  .trans (.of_cells (by simp only [Dev.os_cells, Dev.setSepState_cells]) pc) (.modSep _ pc k _)

/-- What a wake leaves of an endpoint. -/
theorem Wakes.avail {pc : Nat} {d d' : Dev} (h : Wakes pc d d') (k : Nat) : d'.avail (.cell pc) k = d.avail (.cell pc) k := by
  have hring : d'.sepRing (.cell pc) k = d.sepRing (.cell pc) k := congrArg ringBytes (h.get F.CELL_SEP_STATE_SIZE)
  rw [Dev.avail, Dev.avail, h.sepState, h.sent, h.freed, hring]

/-- The members of an endpoint after the only one has accepted, with the ring's size taken. -/
def Dev.replied (d : Dev) (o : Owner) (k : Nat) (m : SepMember) (size gen : Nat) : Dev :=
  (d.modSep o k (fun e => { e with members := [{ m with gen := some gen }] })).os o k F.CELL_SEP_STATE_SIZE F.DEV_OSEP_STATE_SIZE size

/-- An accepting reply of the only member binds the endpoint. -/
theorem Dev.joinReply_binds {d : Dev} {o : Owner} {k : Nat} {m : SepMember} (size gen : Nat) (hbinding : d.sepState o k = 1) (hmcast : d.sepMcast o k = false)
    (hmembers : (d.sep o k).members = [m]) (hgen : m.gen = none) : d.joinReply o k m.dev m.lc 0 size gen = (d.replied o k m size gen).sepBound o k size gen := by
  have hset : d.modSep o k (fun e => { e with members := e.members.map (fun x => if x.dev = m.dev && x.lc = m.lc then { x with gen := some gen } else x) }) =
      d.modSep o k (fun e => { e with members := [{ m with gen := some gen }] }) := by
    have hone : (fun e : SepState => { e with members := e.members.map (fun x => if x.dev = m.dev && x.lc = m.lc then { x with gen := some gen } else x) }) (d.sep o k) =
        (fun e : SepState => { e with members := [{ m with gen := some gen }] }) (d.sep o k) := by simp [hmembers]
    cases o with
    | cell pc => simp only [Dev.modSep, hone]
    | os => simp only [Dev.modSep, hone]
  have hnow : ((d.replied o k m size gen).sep o k).members = [{ m with gen := some gen }] := by rw [Dev.replied, Dev.sep_os, Dev.sep_modSep]
  have hmcast' : (d.replied o k m size gen).sepMcast o k = false := by
    cases o with
    | os => rfl
    | cell pc =>
      rw [← hmcast]
      have htarget : (d.replied (.cell pc) k m size gen).og (.cell pc) k F.CELL_SEP_TARGET F.DEV_OSEP_TARGET = d.og (.cell pc) k F.CELL_SEP_TARGET F.DEV_OSEP_TARGET := by
        rw [Dev.replied, Dev.og_os_leaves _ _ _ (by decide) (by decide), Dev.og_modSep]
      exact congrArg (fun v => decide (bitsOf v 62 62 = 1)) htarget
  have hreplied : (d.modSep o k (fun e => { e with members := [{ m with gen := some gen }] })).os o k F.CELL_SEP_STATE_SIZE F.DEV_OSEP_STATE_SIZE size =
      d.replied o k m size gen := rfl
  simp only [Dev.joinReply, hbinding, hmembers, hset, hgen, hreplied, hnow, hmcast', ne_eq, not_true_eq_false, if_false, List.all_cons, List.all_nil, Option.isNone_none,
    Option.isSome_some, Bool.and_self, if_true, Bool.false_eq_true]

section
variable {d : Dev} {p : Packet} {pc : Nat} (n : Option Port) (h : ArrivesAtCell d p 0x09 pc) (hbinding : d.sepState (.cell pc) (payAt p 0 2) = 1)
include h hbinding

/-- A refusal fails the endpoint with its reason. -/
theorem Does.joinReplyPkt_refused (hbad : 1 ≤ payAt p 2 1) (hreason : payAt p 2 1 ≤ 4) : Does (.joinReplyPkt p n) d (fun d' => d'.sepState (.cell pc) (payAt p 0 2) = 4 ∧
    d'.get F.CELL_SEP_STATE_REASON pc (payAt p 0 2 + 1) = payAt p 2 1 ∧ d'.mem = d.mem ∧ CellsStand d d' pc) := by
  have hbinding' : (d.landed p).sepState (.cell pc) (payAt p 0 2) = 1 := hbinding
  have hnone : payAt p 2 1 ≠ 0 := by omega
  refine .atOwner h (fun _ => rfl) ?_
  simp only [Bool.false_eq_true, if_false, Dev.mboxJoinFailed_cell, Dev.joinReply, hbinding', ne_eq, not_true_eq_false, hnone, not_false_eq_true, if_true]
  obtain ⟨hstate, hmem, hothers⟩ := (d.landed p).setSepState_wakes pc (payAt p 0 2) (payAt p 2 1) (st := 4) (by decide)
  have hwake := Wakes.wakeOwner pc ((d.landed p).setSepState (.cell pc) (payAt p 0 2) 4 (payAt p 2 1))
  exact ⟨hstate, (hwake.get F.CELL_SEP_STATE_REASON).trans ((d.landed p).setSepState_reason (.cell pc) _ _ (by omega)), hmem, hothers⟩

/-- The acceptance of the only member binds the endpoint. -/
theorem Does.joinReplyPkt_accepted {m : SepMember} (hgood : payAt p 2 1 = 0) (hsize : payAt p 3 1 ≤ 8) (hmcast : d.sepMcast (.cell pc) (payAt p 0 2) = false)
    (hmembers : (d.sep (.cell pc) (payAt p 0 2)).members = [m]) (hdev : m.dev = pktSrc p) (hlc : m.lc = pktSrcLc p) (hgen : m.gen = none) :
    Does (.joinReplyPkt p n) d (fun d' => d'.sepState (.cell pc) (payAt p 0 2) = 2 ∧ d'.avail (.cell pc) (payAt p 0 2) = ringBytes (payAt p 3 1) / 64 ∧
      d'.get F.CELL_SEP_STATE_GEN pc (payAt p 0 2 + 1) = payAt p 4 4 ∧ d'.get F.CELL_SEP_STATE_WR pc (payAt p 0 2 + 1) = 0 ∧ d'.mem = d.mem ∧ CellsStand d d' pc) := by
  have hbinds := Dev.joinReply_binds (d := d.landed p) (o := .cell pc) (payAt p 3 1) (payAt p 4 4) hbinding hmcast hmembers hgen
  refine .atOwner h (fun _ => rfl) ?_
  simp only [Bool.false_eq_true, if_false, Dev.mboxJoinFailed_cell]
  rw [← hdev, ← hlc, hgood, hbinds, Dev.sepBound_eq]
  generalize he : (d.landed p).replied (.cell pc) (payAt p 0 2) m (payAt p 3 1) (payAt p 4 4) = e
  have hmem : e.mem = d.mem := by
    rw [← he, Dev.replied, Dev.os_mem, Dev.modSep_mem]
    rfl
  have hothers : CellsStand d e pc := by
    rw [← he]
    exact (CellsStand.modSep (d.landed p) pc _ _).trans (.of_cells (Dev.os_cells ..) pc)
  have hwake := Wakes.wakeOwner pc (e.boundSep (.cell pc) (payAt p 0 2) (payAt p 3 1) (payAt p 4 4))
  exact ⟨(hwake.sepState _).trans (e.boundSep_state ..), (hwake.avail _).trans (e.boundSep_avail _ _ _ hsize),
    (hwake.get F.CELL_SEP_STATE_GEN).trans (e.boundSep_gen (.cell pc) _ _ _ (leAt_lt _ 4 4)), (hwake.get F.CELL_SEP_STATE_WR).trans (e.boundSep_wr (.cell pc) _ _ _),
    hwake.mem.trans ((e.boundSep_mem ..).trans hmem), hothers.trans ((e.boundSep_others pc _ _ _).trans hwake.others)⟩

end

end Sys2Proof.Machine
end

section
namespace Sys2Proof.Machine

/-! ## Credits (R220, R221) -/

/-- The device with the only member's count and FREED moved. -/
def Dev.credited (d : Dev) (o : Owner) (k : Nat) (m : SepMember) (count : Nat) : Dev :=
  (d.modSep o k (fun e => { e with members := [{ m with freed := count }] })).os o k F.CELL_SEP_CREDITS_FREED F.DEV_OSEP_CREDITS_FREED count

section
variable {d : Dev} {o : Owner} {k count gen : Nat} {m : SepMember} (hbound : d.sepState o k = 2) (hmembers : (d.sep o k).members = [m]) (hgen : m.gen = some gen)
  (hnew : newer32 count m.freed = true)
include hbound hmembers hgen hnew

/-- A newer count that is not beyond what was sent is taken. -/
theorem Dev.creditArrives_moves (hsent : newer32 count (d.sent o k) = false) : d.creditArrives o k m.dev m.lc gen count = (d.credited o k m count).wakeOwner o := by
  have hfind : (d.sep o k).members.find? (fun x => x.dev = m.dev && x.lc = m.lc && x.gen = some gen) = some m := by simp [hmembers, hgen]
  have hset : d.modSep o k (fun e => { e with members := e.members.map (fun x => if x.dev = m.dev && x.lc = m.lc then { x with freed := count } else x) }) =
      d.modSep o k (fun e => { e with members := [{ m with freed := count }] }) := by
    have hone : (fun e : SepState => { e with members := e.members.map (fun x => if x.dev = m.dev && x.lc = m.lc then { x with freed := count } else x) }) (d.sep o k) =
        (fun e : SepState => { e with members := [{ m with freed := count }] }) (d.sep o k) := by simp [hmembers]
    cases o with
    | cell pc => simp only [Dev.modSep, hone]
    | os => simp only [Dev.modSep, hone]
  have hold : ∀ s, oldestFreed s ((d.modSep o k (fun e => { e with members := [{ m with freed := count }] })).sep o k).members = count := fun s => by
    rw [Dev.sep_modSep]
    rfl
  simp only [Dev.creditArrives, hbound, hfind, hnew, hsent, hset, hold, ne_eq, not_true_eq_false, Bool.not_true, Bool.false_eq_true, if_false]
  rfl

end

/-- A count beyond what was sent is a fault. -/
theorem Dev.creditArrives_fault {d : Dev} {pc k count gen : Nat} {m : SepMember} (hbound : d.sepState (.cell pc) k = 2) (hmembers : (d.sep (.cell pc) k).members = [m])
    (hgen : m.gen = some gen) (hnew : newer32 count m.freed = true) (hsent : newer32 count (d.sent (.cell pc) k) = true) :
    d.creditArrives (.cell pc) k m.dev m.lc gen count =
      (d.oc (.cell pc) k F.CELL_SEP_CREDIT_FAULTS F.DEV_OSEP_CREDIT_FAULTS).record 0x0150 k 2 pc 2 count (d.sent (.cell pc) k) := by
  have hfind : (d.sep (.cell pc) k).members.find? (fun x => x.dev = m.dev && x.lc = m.lc && x.gen = some gen) = some m := by simp [hmembers, hgen]
  rw [Dev.creditArrives, if_neg (by rw [hbound]; decide), hfind]
  refine (if_neg (by rw [hnew]; exact Bool.false_ne_true)).trans (if_pos hsent)

section
variable {d : Dev} {p : Packet} {pc : Nat} (n : Option Port) (h : ArrivesAtCell d p 0x07 pc) (hbound : d.sepState (.cell pc) (payAt p 0 2) = 2) {m : SepMember}
  (hmembers : (d.sep (.cell pc) (payAt p 0 2)).members = [m]) (hdev : m.dev = pktSrc p) (hlc : m.lc = pktSrcLc p) (hgen : m.gen = some (payAt p 4 4))
  (hnew : newer32 (payAt p 8 4) m.freed = true)
include h hbound hmembers hdev hlc hgen hnew

theorem Does.creditPkt_moves (hsent : newer32 (payAt p 8 4) (d.sent (.cell pc) (payAt p 0 2)) = false) : Does (.creditPkt p n) d (fun d' =>
    d'.freed (.cell pc) (payAt p 0 2) = payAt p 8 4 ∧ d'.sent (.cell pc) (payAt p 0 2) = d.sent (.cell pc) (payAt p 0 2) ∧ d'.mem = d.mem ∧ CellsStand d d' pc) := by
  have hmoves := Dev.creditArrives_moves (d := d.landed p) (o := .cell pc) (count := payAt p 8 4) hbound hmembers hgen hnew hsent
  refine .atOwner h (fun _ => rfl) ?_
  simp only [Bool.false_eq_true, if_false]
  rw [← hdev, ← hlc, hmoves]
  have hwake := Wakes.wakeOwner pc ((d.landed p).credited (.cell pc) (payAt p 0 2) m (payAt p 8 4))
  refine ⟨(hwake.freed _).trans ?_, (hwake.sent _).trans ?_, hwake.mem.trans ?_, ?_⟩
  · exact (Dev.og_os_same _ _ _ (by decide) _).trans (Nat.mod_eq_of_lt (leAt_lt _ 8 4))
  · rw [Dev.sent, Dev.credited, Dev.og_os_leaves _ _ _ (by decide) (by decide), Dev.og_modSep]
    rfl
  · rw [Dev.credited, Dev.os_mem, Dev.modSep_mem]
    rfl
  · exact ((CellsStand.modSep (d.landed p) pc _ _).trans (.of_cells (Dev.os_cells ..) pc)).trans hwake.others

theorem Does.creditPkt_fault (hsent : newer32 (payAt p 8 4) (d.sent (.cell pc) (payAt p 0 2)) = true) : Does (.creditPkt p n) d (fun d' =>
    d'.freed (.cell pc) (payAt p 0 2) = d.freed (.cell pc) (payAt p 0 2) ∧ d'.mem = d.mem ∧ d'.cells = d.cells ∧
    d'.reg F.CELL_SEP_CREDIT_FAULTS.base pc (payAt p 0 2 + 1) = countUp (d.reg F.CELL_SEP_CREDIT_FAULTS.base pc (payAt p 0 2 + 1)) 1 % 2 ^ 64) := by
  have hfault := Dev.creditArrives_fault (d := d.landed p) (pc := pc) (count := payAt p 8 4) hbound hmembers hgen hnew hsent
  refine .atOwner h (fun _ => rfl) ?_
  simp only [Bool.false_eq_true, if_false]
  rw [← hdev, ← hlc, hfault]
  generalize he : (d.landed p).oc (.cell pc) (payAt p 0 2) F.CELL_SEP_CREDIT_FAULTS F.DEV_OSEP_CREDIT_FAULTS = e
  have hrecord := fun (event key cls inst d0 d1 : Nat) => Beside.record pc e (event := event) (key := key) (cls := cls) (inst := inst) (sev := 2) (d0 := d0) (d1 := d1) (d2 := 0) (by decide)
  have hreport := fun (event key cls inst d0 d1 : Nat) => Reported.record e (event := event) (key := key) (cls := cls) (inst := inst) (sev := 2) (d0 := d0) (d1 := d1) (d2 := 0) (by decide)
  refine ⟨((hrecord _ _ _ _ _ _).freed _).trans ?_, (hrecord _ _ _ _ _ _).mem.trans ?_, (hreport _ _ _ _ _ _).sameItems.cells.trans ?_,
    ((hrecord _ _ _ _ _ _).reg _).trans ?_⟩
  · rw [← he, Dev.freed, Dev.og_oc _ _ _ (by decide) (by decide)]
    rfl
  · rw [← he, Dev.oc_mem]
    rfl
  · rw [← he, Dev.oc_cells]
    rfl
  · rw [← he]
    exact (d.landed p).reg_count_same F.CELL_SEP_CREDIT_FAULTS pc _ 1

end

end Sys2Proof.Machine
end

section
namespace Sys2Proof.Machine

/-! ## A whole record arrives (R217, R218, R245) -/

/-- A field of a header is a field of the bytes that it begins. -/
theorem leAt_take {bs : List Byte} {i n k : Nat} (h : i + n ≤ k) : leNat (((bs.take k).drop i).take n) = leAt bs i n := by
  rw [leAt, List.drop_take, List.take_take, Nat.min_eq_left (by omega)]

/-- A record whose pieces have all arrived, with ring offset, header and body. -/
def wholeRecord (seq off : Nat) (hdr body : List Byte) : RecPart := ⟨seq, off, hdr, body.length, body.length⟩

section
variable (d : Dev) (o : Owner) (k off u len : Nat) (hdr body : List Byte) (r : RecPart)

/-- The channel with a record's body stored and the record among its parts. -/
def Dev.bodyStored (d : Dev) (o : Owner) (k : Nat) (body : List Byte) (r : RecPart) : Dev :=
  (d.store (d.ringBase o k + r.off + 16) body).modChan o k (fun c => { c with parts := [r] })

/-- The channel with a record of `u` units shown to its reader. -/
def Dev.shown (d : Dev) (o : Owner) (k u : Nat) (r : RecPart) : Dev :=
  ((d.store (d.ringBase o k + r.off) r.hdr).os o k F.CELL_CHAN_PTR_ARRIVED F.DEV_OSCH_PTR_ARRIVED ((r.off + 64 * u) % d.chanBytes o k)).modChan o k
    (fun c => { c with visible := c.visible + u, nextSeq := (c.nextSeq + 1) % 2 ^ 32, parts := c.parts.filter (fun p => p.seq != r.seq) })

/-- A message of `len` bytes counted. -/
def Dev.msgCounted (d : Dev) (o : Owner) (k len : Nat) : Dev :=
  (d.oc o k F.CELL_CHAN_MSGS_RECV F.DEV_OSCH_MSGS_RECV).oc o k F.CELL_CHAN_BYTES_RECV F.DEV_OSCH_BYTES_RECV len

/-- A message posted in the channel's counter, where the ring says so. -/
def Dev.msgPosted (d : Dev) (pc k : Nat) : Dev :=
  if d.get F.CELL_CHAN_RING_POST_EN pc (k + 1) = 1 then d.addCounter pc (d.get F.CELL_CHAN_RING_POST_CTR pc (k + 1)) 1 else d

theorem Dev.makeVisible_message (pc : Nat) (hkind : leNat ((r.hdr.drop 10).take 1) = 0) (hlen : leNat ((r.hdr.drop 8).take 2) = len) :
    d.makeVisible (.cell pc) k r = (((d.shown (.cell pc) k (recUnits 0 len) r).msgCounted (.cell pc) k len).msgPosted pc k).wakeReceivers (.cell pc) k := by
  subst hlen
  rw [Dev.makeVisible, hkind, if_neg Nat.zero_ne_one]
  rfl

theorem Dev.shown_chan : ((d.shown o k u r).chan o k).visible = (d.chan o k).visible + u ∧ ((d.shown o k u r).chan o k).nextSeq = ((d.chan o k).nextSeq + 1) % 2 ^ 32 := by
  rw [Dev.shown, Dev.chan_modChan, Dev.chan_os, Dev.chan_store]
  exact ⟨rfl, rfl⟩

theorem Dev.shown_arrived (hsize : d.og o k F.CELL_CHAN_RING_SIZE F.DEV_OSCH_RING_SIZE ≤ 8) :
    (d.shown o k u r).og o k F.CELL_CHAN_PTR_ARRIVED F.DEV_OSCH_PTR_ARRIVED = (r.off + 64 * u) % d.chanBytes o k := by
  rw [Dev.shown, Dev.og_modChan, Dev.og_os_same _ _ _ (by decide)]
  exact Nat.mod_eq_of_lt (mod_ringBytes_lt hsize _)

theorem Dev.shown_mem : (d.shown o k u r).mem = Memory.write d.mem (d.ringBase o k + r.off) r.hdr := by
  rw [Dev.shown, Dev.modChan_mem, Dev.os_mem]
  rfl

end

/-- A channel's update is what it makes of the channel. -/
theorem Dev.modChan_congr {d : Dev} {o : Owner} {k : Nat} {f g : ChanState → ChanState} (h : f (d.chan o k) = g (d.chan o k)) : d.modChan o k f = d.modChan o k g := by
  cases o with
  | cell pc => simp only [Dev.modChan, h]
  | os => simp only [Dev.modChan, h]

theorem Dev.showRecords_one {d : Dev} {o : Owner} {k : Nat} {r : RecPart} (hparts : (d.chan o k).parts = [r]) (hseq : r.seq = (d.chan o k).nextSeq) (hwhole : r.got = r.need) :
    d.showRecords o k 1 = d.makeVisible o k r := by
  have hfind : (d.chan o k).parts.find? (fun p => p.seq == (d.chan o k).nextSeq && p.got == p.need) = some r := by
    rw [hparts]
    simp [hseq, hwhole]
  simp only [Dev.showRecords, hfind]

/-- A piece that is a whole message of the recorded source, next in order, is shown at once. -/
theorem Dev.recvPiece_whole {d : Dev} {o : Owner} {k off len : Nat} {hdr body : List Byte} (hopen : d.chanOpen o k = true) (hgen : leNat (hdr.take 4) = d.chanGen o k)
    (hsource : d.chanSource o k = some (leNat ((hdr.drop 12).take 4))) (hseq : leNat ((hdr.drop 4).take 4) = (d.chan o k).nextSeq) (hparts : (d.chan o k).parts = [])
    (hkind : leNat ((hdr.drop 10).take 1) = 0) (hlen : leNat ((hdr.drop 8).take 2) = len) (hbody : body.length = 64 * recUnits 0 len - 16) :
    d.recvPiece o k false hdr off 0 body =
      (d.bodyStored o k body (wholeRecord (d.chan o k).nextSeq off hdr body)).makeVisible o k (wholeRecord (d.chan o k).nextSeq off hdr body) := by
  have hmine : (!d.chanOpen o k || (!false && leNat (hdr.take 4) != d.chanGen o k) || d.chanSource o k != some (leNat ((hdr.drop 12).take 4))) = false := by
    simp [hopen, hgen, hsource]
  have hstored : (d.store (d.ringBase o k + off + 16 + 0) body).modChan o k (fun c => { c with parts := [wholeRecord (d.chan o k).nextSeq off hdr body] }) =
      d.bodyStored o k body (wholeRecord (d.chan o k).nextSeq off hdr body) := rfl
  have hnow : ((d.bodyStored o k body (wholeRecord (d.chan o k).nextSeq off hdr body)).chan o k) =
      { d.chan o k with parts := [wholeRecord (d.chan o k).nextSeq off hdr body] } := by rw [Dev.bodyStored, Dev.chan_modChan, Dev.chan_store]
  have hshow := Dev.showRecords_one (d := d.bodyStored o k body (wholeRecord (d.chan o k).nextSeq off hdr body)) (o := o) (k := k)
    (r := wholeRecord (d.chan o k).nextSeq off hdr body) (by rw [hnow]) (by rw [hnow]; rfl) rfl
  rw [Dev.recvPiece, if_neg (by rw [hmine]; exact Bool.false_ne_true)]
  simp only [hkind, hlen, hseq, zero_ne_one, if_false, ← hbody]
  rw [Dev.modChan_congr (g := fun c => { c with parts := [wholeRecord (d.chan o k).nextSeq off hdr body] })]
  · rw [hstored, hnow]
    exact hshow
  · simp only [Dev.chan_store, hparts, List.find?_nil, List.nil_append]
    rfl

/-- A piece that is not of the recorded source, or not of the channel's generation, is an orphan. -/
theorem Dev.recvPiece_orphan {d : Dev} {o : Owner} {k off rel gen src : Nat} {hdr body : List Byte} (hgen : leNat (hdr.take 4) = gen) (hsrc : leNat ((hdr.drop 12).take 4) = src)
    (h : d.chanOpen o k = false ∨ gen ≠ d.chanGen o k ∨ d.chanSource o k ≠ some src) :
    d.recvPiece o k false hdr off rel body = (d.oc o k F.CELL_CHAN_ORPHANS F.DEV_OSCH_ORPHANS).closeNotice o k src gen := by
  subst hgen hsrc
  rw [Dev.recvPiece, if_pos]
  rcases h with h | h | h <;> simp [h]

/-! ## What a shown message leaves (R191, R217, R218) -/

section
variable (d : Dev) (pc k : Nat)

theorem Dev.counter_modChan (f : ChanState → ChanState) (n : Nat) : (d.modChan (.cell pc) k f).counter pc n = d.counter pc n := by
  rw [Dev.counter, Dev.modChan, Dev.cell_modCell_same]
  rfl

theorem Beside.msgPosted : Beside pc d (d.msgPosted pc k) := .ite (.addCounter pc d _ _) (.refl pc d)

theorem Dev.msgPosted_counter (c : Nat) : (d.msgPosted pc k).counter pc c =
    if d.get F.CELL_CHAN_RING_POST_EN pc (k + 1) = 1 ∧ c = d.get F.CELL_CHAN_RING_POST_CTR pc (k + 1) then min (d.counter pc c + 1) (2 ^ 64 - 1) else d.counter pc c := by
  by_cases hen : d.get F.CELL_CHAN_RING_POST_EN pc (k + 1) = 1
  · rw [Dev.msgPosted, if_pos hen, (Posted.addCounter d pc _ 1).counter]
    by_cases hc : c = d.get F.CELL_CHAN_RING_POST_CTR pc (k + 1)
    · rw [if_pos hc, if_pos ⟨hen, hc⟩, hc]
    · rw [if_neg hc, if_neg fun h => hc h.2]
  · rw [Dev.msgPosted, if_neg hen, if_neg fun h => hen h.1]

end

section
variable (d : Dev) (pc k u len : Nat) (body : List Byte) (r : RecPart)

/-- The ring's registers stand through all of it. -/
theorem Dev.msgCounted_ring (f : Fld) (hf : f.base = F.CELL_CHAN_RING.base) :
    (((d.bodyStored (.cell pc) k body r).shown (.cell pc) k u r).msgCounted (.cell pc) k len).get f pc (k + 1) = d.get f pc (k + 1) := by
  have hbody : (d.bodyStored (.cell pc) k body r).get f pc (k + 1) = d.get f pc (k + 1) := Dev.og_modChan (d.store _ body) (.cell pc) k f f _
  have hshown : ((d.bodyStored (.cell pc) k body r).shown (.cell pc) k u r).get f pc (k + 1) = (d.bodyStored (.cell pc) k body r).get f pc (k + 1) :=
    (Dev.og_modChan _ (.cell pc) k f f _).trans (Dev.get_set_apart (f := F.CELL_CHAN_PTR_ARRIVED) (g := f) (by rw [hf]; decide) _ _ _ _ _ _)
  rw [← hbody, ← hshown]
  exact (Dev.get_count_apart (f := F.CELL_CHAN_BYTES_RECV) (g := f) (by rw [hf]; decide) _ _ _ _ _ _).trans
    (Dev.get_count_apart (f := F.CELL_CHAN_MSGS_RECV) (g := f) (by rw [hf]; decide) _ _ _ _ _ _)

theorem Dev.msgCounted_msgs : (((d.bodyStored (.cell pc) k body r).shown (.cell pc) k u r).msgCounted (.cell pc) k len).reg F.CELL_CHAN_MSGS_RECV.base pc (k + 1) =
    countUp (d.reg F.CELL_CHAN_MSGS_RECV.base pc (k + 1)) 1 % 2 ^ 64 := by
  have hshown : ((d.bodyStored (.cell pc) k body r).shown (.cell pc) k u r).reg F.CELL_CHAN_MSGS_RECV.base pc (k + 1) = d.reg F.CELL_CHAN_MSGS_RECV.base pc (k + 1) := by
    rw [Dev.shown, Dev.reg_of_regs (Dev.modChan_regs ..)]
    refine (Dev.reg_set_apart (f := F.CELL_CHAN_PTR_ARRIVED) (by decide) _ _ _ _ _ _).trans ?_
    exact Dev.reg_of_regs (Dev.modChan_regs ..) ..
  have hbytes : ∀ e : Dev, (e.count F.CELL_CHAN_BYTES_RECV pc (k + 1) len).reg F.CELL_CHAN_MSGS_RECV.base pc (k + 1) = e.reg F.CELL_CHAN_MSGS_RECV.base pc (k + 1) :=
    fun e => Dev.reg_setReg_other e _ (regKey_ne (by decide) _ _ _ _)
  rw [← hshown]
  exact (hbytes _).trans (Dev.reg_count_same _ F.CELL_CHAN_MSGS_RECV pc (k + 1) 1)

theorem Dev.msgCounted_counter (c : Nat) :
    (((d.bodyStored (.cell pc) k body r).shown (.cell pc) k u r).msgCounted (.cell pc) k len).counter pc c = d.counter pc c := by
  have hcells : (((d.bodyStored (.cell pc) k body r).shown (.cell pc) k u r).msgCounted (.cell pc) k len).cells = ((d.bodyStored (.cell pc) k body r).shown (.cell pc) k u r).cells := by
    rw [Dev.msgCounted, Dev.oc_cells, Dev.oc_cells]
  rw [Dev.counter_of_cells hcells, Dev.shown, Dev.counter_modChan, Dev.counter_of_cells (Dev.os_cells ..), Dev.counter_of_cells (Dev.store_cells ..), Dev.bodyStored,
    Dev.counter_modChan, Dev.counter_of_cells (Dev.store_cells ..)]

theorem Dev.msgCounted_mem (o : Owner) : (((d.bodyStored o k body r).shown o k u r).msgCounted o k len).mem =
    ((d.store (d.ringBase o k + r.off + 16) body).store (d.ringBase o k + r.off) r.hdr).mem := by
  have hbase : (d.bodyStored o k body r).ringBase o k = d.ringBase o k := by
    cases o with
    | cell pc => rfl
    | os => rfl
  rw [Dev.msgCounted, Dev.oc_mem, Dev.oc_mem, Dev.shown_mem, hbase, Dev.bodyStored, Dev.modChan_mem]
  rfl

end

end Sys2Proof.Machine
end

section
namespace Sys2Proof.Machine

/-! ## RECORD (R217, R228) -/

section
variable {d : Dev} {p : Packet} {pc : Nat} (n : Option Port) (h : ArrivesAtCell d p 0x06 pc)
include h

/-- A record of one target reaches its channel. -/
theorem Does.recordPkt {post : Dev → Prop} (hp : post ((d.landed p).recordAt' (.cell pc) (extAt p 0 4 / 2 ^ 24) false p)) : Does (.recordPkt p n) d post := by
  have howner := Dev.atOwner_cell h (fun d o _ => d.recordAt' o (extAt p 0 4 / 2 ^ 24) false p)
  obtain ⟨harrives, hkind, hpart, -⟩ := h
  obtain ⟨-, -, -, hmcast, -⟩ := id harrives
  have hpart' : (d.landed p).partResetting (p.dstUnit.toNat % 512 / 64) = false := hpart
  refine .delivers harrives (fun _ => rfl) ?_
  simp only [hmcast, hpart', Bool.and_false, Bool.false_eq_true, if_false]
  rwa [howner]

/-- An orphan is counted, and answered with a close notice. -/
theorem Does.recordPkt_orphan {k : Nat} (hk : extAt p 0 4 / 2 ^ 24 = k) (horphan : d.chanOpen (.cell pc) k = false ∨ payAt p 0 4 ≠ d.chanGen (.cell pc) k ∨
      d.chanSource (.cell pc) k ≠ some (payAt p 12 4)) : Does (.recordPkt p n) d (fun d' =>
    Answered d d' p 0x0A (bitsOf (payAt p 12 4) 29 20) (sourceUnit (payAt p 12 4)) (leBytes 2 (bitsOf (payAt p 12 4) 7 0) ++ leBytes 2 k ++ leBytes 4 (payAt p 0 4)) ∧
    d'.reg F.CELL_CHAN_ORPHANS.base pc (k + 1) = countUp (d.reg F.CELL_CHAN_ORPHANS.base pc (k + 1)) 1 % 2 ^ 64 ∧ d'.mem = d.mem ∧ d'.cells = d.cells) := by
  have hdropped := Dev.recvPiece_orphan (d := d.landed p) (o := .cell pc) (k := k) (off := extAt p 0 4 % 2 ^ 24) (rel := payAt p 16 4) (hdr := p.payload.take 16)
    (body := p.payload.drop 20) (leAt_take (i := 0) (by decide)) (leAt_take (i := 12) (by decide)) horphan
  refine .recordPkt n h ?_
  rw [hk, Dev.recordAt', hdropped]
  refine ⟨answered_send (Dev.oc_net ..) (by decide) _ _ _ _, ?_, ?_, ?_⟩
  · exact (d.landed p).reg_count_same F.CELL_CHAN_ORPHANS pc (k + 1) 1
  · rw [Dev.closeNotice, Dev.send_mem, Dev.oc_mem]
    rfl
  · rw [Dev.closeNotice, Dev.send_cells, Dev.oc_cells]
    rfl

/-- A whole message that is next in order is shown, counted and posted. -/
theorem Does.recordPkt_whole {k u : Nat} (hk : extAt p 0 4 / 2 ^ 24 = k) (hu : recUnits 0 (payAt p 8 2) = u) (hopen : d.chanOpen (.cell pc) k = true)
    (hgen : payAt p 0 4 = d.chanGen (.cell pc) k) (hsource : d.chanSource (.cell pc) k = some (payAt p 12 4)) (hseq : payAt p 4 4 = (d.chan (.cell pc) k).nextSeq)
    (hparts : (d.chan (.cell pc) k).parts = []) (hkind : payAt p 10 1 = 0) (hrel : payAt p 16 4 = 0) (hlen : p.payload.length = 4 + 64 * u)
    (hsize : d.get F.CELL_CHAN_RING_SIZE pc (k + 1) ≤ 8) : Does (.recordPkt p n) d (fun d' =>
      d'.mem = ((d.store (d.ringBase (.cell pc) k + extAt p 0 4 % 2 ^ 24 + 16) (p.payload.drop 20)).store (d.ringBase (.cell pc) k + extAt p 0 4 % 2 ^ 24) (p.payload.take 16)).mem ∧
      (d'.chan (.cell pc) k).visible = (d.chan (.cell pc) k).visible + u ∧ (d'.chan (.cell pc) k).nextSeq = ((d.chan (.cell pc) k).nextSeq + 1) % 2 ^ 32 ∧
      d'.get F.CELL_CHAN_PTR_ARRIVED pc (k + 1) = (extAt p 0 4 % 2 ^ 24 + 64 * u) % d.chanBytes (.cell pc) k ∧
      d'.reg F.CELL_CHAN_MSGS_RECV.base pc (k + 1) = countUp (d.reg F.CELL_CHAN_MSGS_RECV.base pc (k + 1)) 1 % 2 ^ 64 ∧
      ∀ c, d'.counter pc c = if d.get F.CELL_CHAN_RING_POST_EN pc (k + 1) = 1 ∧ c = d.get F.CELL_CHAN_RING_POST_CTR pc (k + 1)
        then min (d.counter pc c + 1) (2 ^ 64 - 1) else d.counter pc c) := by
  have hbody : (p.payload.drop 20).length = 64 * recUnits 0 (payAt p 8 2) - 16 := by
    rw [List.length_drop, hlen, hu]
    omega
  have hwhole := Dev.recvPiece_whole (d := d.landed p) (o := .cell pc) (k := k) (off := extAt p 0 4 % 2 ^ 24) (len := payAt p 8 2) (hdr := p.payload.take 16)
    (body := p.payload.drop 20) hopen ((leAt_take (i := 0) (by decide)).trans hgen) (hsource.trans (congrArg some (leAt_take (i := 12) (by decide)).symm))
    ((leAt_take (i := 4) (by decide)).trans hseq) hparts ((leAt_take (i := 10) (by decide)).trans hkind) (leAt_take (i := 8) (by decide)) hbody
  generalize hr : wholeRecord ((d.landed p).chan (.cell pc) k).nextSeq (extAt p 0 4 % 2 ^ 24) (p.payload.take 16) (p.payload.drop 20) = r at hwhole
  have hhdr : r.hdr = p.payload.take 16 := by rw [← hr]; rfl
  have hoff : r.off = extAt p 0 4 % 2 ^ 24 := by rw [← hr]; rfl
  have hshow := ((d.landed p).bodyStored (.cell pc) k (p.payload.drop 20) r).makeVisible_message k (payAt p 8 2) r pc
    (by rw [hhdr]; exact (leAt_take (i := 10) (by decide)).trans hkind) (by rw [hhdr]; exact leAt_take (i := 8) (by decide))
  rw [hu] at hshow
  refine .recordPkt n h ?_
  rw [hk, Dev.recordAt', hrel, hwhole, hshow]
  generalize he1 : (d.landed p).bodyStored (.cell pc) k (p.payload.drop 20) r = e1
  have hchan1 : e1.chan (.cell pc) k = { d.chan (.cell pc) k with parts := [r] } := by
    rw [← he1, Dev.bodyStored, Dev.chan_modChan, Dev.chan_store]
    rfl
  generalize he3 : (e1.shown (.cell pc) k u r).msgCounted (.cell pc) k (payAt p 8 2) = e3
  have hwake := Wakes.wakeReceivers pc (e3.msgPosted pc k) k
  have hbeside := (Beside.msgPosted e3 pc k).trans hwake.toBeside
  have hchan3 : e3.chan (.cell pc) k = (e1.shown (.cell pc) k u r).chan (.cell pc) k := by rw [← he3, Dev.msgCounted, Dev.chan_oc, Dev.chan_oc]
  obtain ⟨hvisible, hnext⟩ := e1.shown_chan (.cell pc) k u r
  refine ⟨hbeside.mem.trans ?_, ?_, ?_, (hbeside.get F.CELL_CHAN_PTR_ARRIVED).trans ?_, (hbeside.reg _).trans ?_, fun c => ?_⟩
  · rw [← he3, ← he1, Dev.msgCounted_mem, hhdr, hoff]
    rfl
  · rw [hbeside.chan, hchan3, hvisible, hchan1]
  · rw [hbeside.chan, hchan3, hnext, hchan1]
  · have hsize1 : e1.chanBytes (.cell pc) k = d.chanBytes (.cell pc) k ∧ e1.og (.cell pc) k F.CELL_CHAN_RING_SIZE F.DEV_OSCH_RING_SIZE = d.get F.CELL_CHAN_RING_SIZE pc (k + 1) := by
      rw [← he1, Dev.chanBytes, Dev.bodyStored, Dev.og_modChan, Dev.og_store]
      exact ⟨rfl, rfl⟩
    obtain ⟨hbytes, hcode⟩ := hsize1
    have harrived := e1.shown_arrived (.cell pc) k u r (by rw [hcode]; exact hsize)
    rw [hbytes, hoff] at harrived
    rw [← harrived, ← he3]
    exact (Dev.og_oc _ (.cell pc) k (by decide) (by decide) _).trans (Dev.og_oc _ (.cell pc) k (by decide) (by decide) _)
  · rw [← he3, ← he1]
    exact (d.landed p).msgCounted_msgs pc k u (payAt p 8 2) (p.payload.drop 20) r
  · rw [hwake.steady.counter, Dev.msgPosted_counter, ← he3, ← he1, Dev.msgCounted_ring _ _ _ _ _ _ _ F.CELL_CHAN_RING_POST_EN rfl,
      Dev.msgCounted_ring _ _ _ _ _ _ _ F.CELL_CHAN_RING_POST_CTR rfl, Dev.msgCounted_counter]
    rfl

end

/-- A header and a body that follow each other in a ring stand there, and nothing else changes. -/
theorem record_stands {d d' : Dev} {a n : Nat} {hdr body : List Byte} (hmem : d'.mem = ((d.store (a + 16) body).store a hdr).mem) (hhdr : hdr.length = 16)
    (hbody : body.length = n - 16) (hn : 16 ≤ n) : Memory.read d'.mem a 16 = hdr ∧ Memory.read d'.mem (a + 16) (n - 16) = body ∧ BytesStand d d' a n := by
  have hhead := BytesStand.store (d.store (a + 16) body) a hdr
  rw [hhdr] at hhead
  refine ⟨?_, ?_, fun x hx => ?_⟩
  · rw [hmem]
    exact (d.store (a + 16) body).load_store_same a hdr hhdr
  · rw [hmem]
    exact (hhead.load (b := a + 16) (.inr (Nat.le_refl _))).trans (d.load_store_same (a + 16) body hbody)
  · rw [hmem]
    exact (((BytesStand.store d (a + 16) body).widen (by omega) (by omega)).trans (hhead.widen (Nat.le_refl _) (by omega))) x hx

/-- Settles O41: each packet by what its delivery does with the channel, the endpoint or the counter that it is for. -/
theorem recordsCreditsJoinsAndNoticesTakeEffect : Obligations.RecordsCreditsJoinsAndNoticesTakeEffect := by
  intro p n pc d
  refine ⟨fun k h hk => ⟨fun hopen hgen hsource hseq hparts hkind hrel hlen hsize => ?_, fun horphan _ => .recordPkt_orphan n h hk horphan⟩,
    fun k m h hk hbound hmembers hdev hlc hgen hnew => ⟨fun hsent => ?_, fun hsent => ?_⟩,
    fun k src h hk hsrc hres => ⟨fun hopen hnone => ?_, fun hopen hsome => ?_, fun hclosed => ?_⟩,
    fun k h hk hbinding => ⟨fun m hgood hsize hmcast hmembers hdev hlc hgen => ?_, fun hbad hreason => ?_⟩,
    fun k h hk hlive hmcast hgen => ?_, fun h hsrc hctr => .saddPacket n h hsrc hctr⟩
  · refine (Does.recordPkt_whole n h hk rfl hopen hgen hsource hseq hparts hkind hrel hlen hsize).imp fun d' hd' => ?_
    obtain ⟨hmem, hvisible, hnext, harrived, hmsgs, hcounter⟩ := hd'
    have hunits : 1 ≤ recUnits 0 (payAt p 8 2) := by
      have hceil : recUnits 0 (payAt p 8 2) = (16 + payAt p 8 2 + 63) / 64 := rfl
      omega
    obtain ⟨hread, hbody, hstand⟩ := record_stands hmem (by rw [List.length_take]; omega) (n := 64 * recUnits 0 (payAt p 8 2)) (by rw [List.length_drop]; omega) (by omega)
    exact ⟨hread, hbody, hstand, hvisible, hnext, harrived, hmsgs, hcounter⟩
  · subst hk
    exact .creditPkt_moves n h hbound hmembers hdev hlc hgen hnew hsent
  · subst hk
    exact .creditPkt_fault n h hbound hmembers hdev hlc hgen hnew hsent
  · subst hsrc
    refine (Does.joinPkt n h hk (r := 0) (by simp [Dev.joinResult, hopen, hnone])).imp fun d' hd' => ?_
    obtain ⟨hsource, hreply⟩ := hd'
    exact ⟨hsource.trans (Dev.chanSource_set _ _ _ (leAt_lt _ 4 4) hres), hreply⟩
  · subst hsrc
    exact Does.joinPkt n h hk (r := 2) (by simp [Dev.joinResult, hopen, Option.isSome_iff_ne_none.2 hsome])
  · subst hsrc
    exact Does.joinPkt n h hk (r := 1) (by simp [Dev.joinResult, hclosed])
  · subst hk
    exact .joinReplyPkt_accepted n h hbinding hgood hsize hmcast hmembers hdev hlc hgen
  · subst hk
    exact .joinReplyPkt_refused n h hbinding hbad hreason
  · subst hk
    exact .closeNoticePkt n h hlive hmcast hgen

end Sys2Proof.Machine
end

section
namespace Sys2Proof.Machine

/-! ## Accumulators and pieces of a contribution (R239) -/

theorem SMap.read_insert_same {α : Type} (dflt v : α) (m : SMap α) (k : Nat) : SMap.read dflt (SMap.insert k v m) k = v := by
  rw [SMap.read, SMap.find_insert_same, Option.getD_some]

theorem SMap.read_insert_other {α : Type} {k j : Nat} (h : j ≠ k) (dflt v : α) (m : SMap α) : SMap.read dflt (SMap.insert k v m) j = SMap.read dflt m j := by
  rw [SMap.read, SMap.find_insert_other h, SMap.read]

/-- Accumulators 0 to `n` - 1 with a value added to each, one after the other. -/
def addAll (g : Nat → Ea) (n : Nat) (m : SMap Ea) : SMap Ea := (List.range n).foldl (fun m i => SMap.insert i ((SMap.read Ea.zero m i).addEa (g i)) m) m

theorem addAll_succ (g : Nat → Ea) (n : Nat) (m : SMap Ea) : addAll g (n + 1) m = SMap.insert n ((SMap.read Ea.zero (addAll g n m) n).addEa (g n)) (addAll g n m) := by
  rw [addAll, List.range_succ, List.foldl_append]
  rfl

/-- Each accumulator has its own value added, and no other. -/
theorem read_addAll (g : Nat → Ea) (n : Nat) (m : SMap Ea) (j : Nat) :
    SMap.read Ea.zero (addAll g n m) j = if j < n then (SMap.read Ea.zero m j).addEa (g j) else SMap.read Ea.zero m j := by
  induction n with
  | zero => rfl
  | succ n ih =>
    rw [addAll_succ]
    by_cases hj : j = n
    · subst hj
      rw [SMap.read_insert_same, ih, if_neg (Nat.lt_irrefl j), if_pos (Nat.lt_succ_self j)]
    · rw [SMap.read_insert_other hj, ih]
      by_cases hlt : j < n
      · rw [if_pos hlt, if_pos (by omega)]
      · rw [if_neg hlt, if_neg (by omega)]

/-- A pairing of numbers with what a function makes of them. -/
theorem addAll_zip (g : Nat → Ea) (n : Nat) (m : SMap Ea) :
    ((List.range n).zip ((List.range n).map g)).foldl (fun m e => SMap.insert e.1 ((SMap.read Ea.zero m e.1).addEa e.2) m) m = addAll g n m := by
  have hzip : (List.range n).zip ((List.range n).map g) = (List.range n).map (fun i => (i, g i)) := by
    rw [← List.map_prod_left_eq_zip]
  rw [hzip, List.foldl_map]
  rfl

/-- One piece from offset 0 is the whole. -/
theorem joinPieces_one {n : Nat} {bs : List Byte} (h : bs.length = n) : joinPieces n [(0, bs)] = bs := by
  subst h
  exact Memory.read_write_same [] 0 bs

theorem newer32_self (a : Nat) : newer32 a a = false := by
  have hzero : (a + 2 ^ 32 - a % 2 ^ 32) % 2 ^ 32 = 0 := by omega
  simp only [newer32, hzero]
  decide

end Sys2Proof.Machine
end

section
namespace Sys2Proof.Machine

/-! ## A contribution that is accepted, and one that is discarded (R238, R239) -/

/-- The queue with the underflow that a contribution reports. -/
def Dev.flagUnder (d : Dev) (pc q : Nat) (b : Bool) : Dev := if b then d.modCq pc q (fun c => { c with under := true }) else d

/-- The queue with a contribution of one packet taken and counted. -/
def Dev.contribTaken (d : Dev) (pc q : Nat) (b : Bool) (rank : Nat) (bs : List Byte) : Dev :=
  let e := (d.flagUnder pc q b).modCq pc q (fun c => { c with ranks := SMap.insert rank [(0, bs)] c.ranks })
  (e.set F.CELL_CQ_STATE_RECEIVED (e.cq pc q).ranks.length pc (q + 1)).count F.CELL_CQ_CONTRIB pc (q + 1)

section
variable (d : Dev) (pc q : Nat) (b : Bool) (rank : Nat) (bs : List Byte)

theorem Dev.flagUnder_stands : (d.flagUnder pc q b).regs = d.regs ∧ (d.flagUnder pc q b).mem = d.mem ∧ CellsStand d (d.flagUnder pc q b) pc ∧
    (d.flagUnder pc q b).cq pc q = { d.cq pc q with under := (d.cq pc q).under || b } := by
  cases b with
  | false => exact ⟨rfl, rfl, .refl d pc, by rw [Bool.or_false]; rfl⟩
  | true =>
    refine ⟨rfl, rfl, CellsStand.modCq d pc q (fun c => { c with under := true }), ?_⟩
    rw [Dev.flagUnder, if_pos rfl, Dev.cq_modCq, Bool.or_true]

theorem Dev.contribTaken_cq : (d.contribTaken pc q b rank bs).cq pc q =
    { d.cq pc q with under := (d.cq pc q).under || b, ranks := SMap.insert rank [(0, bs)] (d.cq pc q).ranks } := by
  obtain ⟨-, -, -, hcq⟩ := d.flagUnder_stands pc q b
  rw [Dev.contribTaken, Dev.cq_count, Dev.cq_set, Dev.cq_modCq, hcq]

theorem Dev.contribTaken_mem : (d.contribTaken pc q b rank bs).mem = d.mem := by
  obtain ⟨-, hmem, -, -⟩ := d.flagUnder_stands pc q b
  rw [Dev.contribTaken, Dev.count_mem, Dev.set_mem, Dev.modCq_mem, hmem]

theorem Dev.contribTaken_others : CellsStand d (d.contribTaken pc q b rank bs) pc := by
  obtain ⟨-, -, hothers, -⟩ := d.flagUnder_stands pc q b
  have hranks := CellsStand.modCq (d.flagUnder pc q b) pc q (fun c => { c with ranks := SMap.insert rank [(0, bs)] c.ranks })
  refine (hothers.trans hranks).trans (.of_cells ?_ pc)
  rw [Dev.contribTaken, Dev.count_cells, Dev.set_cells]

/-- The fields of the queue's state but for RECEIVED stand. -/
theorem Dev.contribTaken_get {f : Fld} (hf : F.CELL_CQ_STATE_RECEIVED.leaves f = true) (hbase : f.base % 2 ^ 12 ≠ F.CELL_CQ_CONTRIB.base % 2 ^ 12) :
    (d.contribTaken pc q b rank bs).get f pc (q + 1) = d.get f pc (q + 1) := by
  obtain ⟨hregs, -, -, -⟩ := d.flagUnder_stands pc q b
  rw [Dev.contribTaken, Dev.get_count_apart hbase, Dev.get_set_leaves hf, Dev.get_modCq, Dev.get, Dev.reg_of_regs hregs, ← Dev.get]

theorem Dev.contribTaken_counts : (d.contribTaken pc q b rank bs).reg F.CELL_CQ_CONTRIB.base pc (q + 1) = countUp (d.reg F.CELL_CQ_CONTRIB.base pc (q + 1)) 1 % 2 ^ 64 := by
  obtain ⟨hregs, -, -, -⟩ := d.flagUnder_stands pc q b
  rw [Dev.contribTaken, Dev.reg_count_same, Dev.reg_set_apart (by decide), Dev.reg_of_regs (Dev.modCq_regs ..), Dev.reg_of_regs hregs]

/-- What a contribution's bytes add to accumulator `i`. -/
def contribElem (bs : List Byte) (i : Nat) : Ea := Ea.ofValue (leNat ((bs.drop (26 * i)).take 26))

theorem Dev.addExact_eq : d.addExact pc q rank bs =
    d.modCq pc q (fun c => { c with ea := addAll (contribElem bs) c.count c.ea, complete := c.complete ++ [rank] }) := by
  simp only [Dev.addExact]
  refine congrArg (d.modCq pc q) (funext fun c => ?_)
  rw [← addAll_zip]
  rfl

end

section
variable {d : Dev} {pc q : Nat} {h : ContribHead} {bs : List Byte}

/-- Every check of Table 07-8 passes. -/
theorem Dev.checkContrib_accepts (hopen : d.cqState pc q = 1) (hepoch : h.epoch = d.get F.CELL_CQ_EPOCH_EPOCH pc (q + 1)) (hseq : h.seq = d.get F.CELL_CQ_STATE_SEQ pc (q + 1))
    (hmode : h.ranked = d.cqRanked pc q) (hcount : h.count = (d.cq pc q).count) (hrank : h.rank < (d.cq pc q).ncontrib) (hnew : SMap.find h.rank (d.cq pc q).ranks = none) :
    d.checkContrib pc q h = (d, true) := by
  simp [Dev.checkContrib, hopen, hepoch, hmode, hcount, Nat.not_le.2 hrank, hseq, hnew, newer32_self]

/-- With ranks still to come, a whole contribution to an exact queue is added. -/
theorem Dev.contribDone_adds {rank size : Nat} (hexact : d.cqRanked pc q = false) (hpieces : SMap.find rank (d.cq pc q).ranks = some [(0, bs)]) (hsize : bs.length = size)
    (hmore : (d.cq pc q).complete.length + 1 < (d.cq pc q).ncontrib) : d.contribDone pc q rank size = d.addExact pc q rank bs := by
  have hlast : ((d.addExact pc q rank bs).cq pc q).complete.length ≠ (d.cq pc q).ncontrib := by
    rw [Dev.addExact_eq, Dev.cq_modCq, List.length_append, List.length_singleton]
    omega
  simp only [Dev.contribDone, hpieces, Option.getD_some, joinPieces_one hsize, hexact, Bool.false_eq_true, if_false, if_neg hlast]

/-- A whole contribution of one packet to an open exact queue is taken and added. -/
theorem Dev.contribArrives_adds (hopen : d.cqState pc q = 1) (hepoch : h.epoch = d.get F.CELL_CQ_EPOCH_EPOCH pc (q + 1)) (hseq : h.seq = d.get F.CELL_CQ_STATE_SEQ pc (q + 1))
    (hranked : h.ranked = false) (hexact : d.cqRanked pc q = false) (hcount : h.count = (d.cq pc q).count) (hrank : h.rank < (d.cq pc q).ncontrib)
    (hnew : SMap.find h.rank (d.cq pc q).ranks = none) (hsize : bs.length = h.count * 26) (hmore : (d.cq pc q).complete.length + 1 < (d.cq pc q).ncontrib) :
    d.contribArrives pc q h 0 bs = (d.contribTaken pc q h.under h.rank bs).addExact pc q h.rank bs := by
  have hcheck := Dev.checkContrib_accepts hopen hepoch hseq (hranked.trans hexact.symm) hcount hrank hnew
  have hcq := d.contribTaken_cq pc q h.under h.rank bs
  have hmode : (d.contribTaken pc q h.under h.rank bs).cqRanked pc q = false := by
    rw [← hexact, Dev.cqRanked, Dev.cqRanked, Dev.contribTaken_get _ _ _ _ _ _ (by decide) (by decide)]
  have hdone := Dev.contribDone_adds (rank := h.rank) (bs := bs) hmode (by rw [hcq]; exact SMap.find_insert_same ..) hsize (by rw [hcq]; exact hmore)
  rw [← hdone]
  simp only [Dev.contribArrives, hnew, hcheck, hranked, Bool.false_eq_true, if_false, Bool.not_true, Bool.false_and, hsize, if_true]
  rfl

/-- A contribution to a queue that takes none is counted as stale. -/
theorem Dev.contribArrives_stale (hclosed : d.cqState pc q ≠ 1) (hidle : d.cqState pc q ≠ 2) : d.contribArrives pc q h 0 bs = d.count F.CELL_CQ_STALE pc (q + 1) := by
  have hcheck : d.checkContrib pc q h = (d.count F.CELL_CQ_STALE pc (q + 1), false) := by simp [Dev.checkContrib, hclosed, hidle]
  have hstate : decide (d.cqState pc q = 1) = false := decide_eq_false hclosed
  cases hfind : SMap.find h.rank (d.cq pc q).ranks with
  | none => simp only [Dev.contribArrives, hfind, hcheck, Bool.false_eq_true, if_false, Bool.not_false, if_true]
  | some ps => simp only [Dev.contribArrives, hfind, hcheck, hstate, Bool.and_false, Bool.false_and, Bool.false_eq_true, if_false, Bool.not_false, if_true]

end

/-! ## CONTRIB (R237 to R239, R383) -/

section
variable {d : Dev} {p : Packet} {pc : Nat} (n : Option Port) (h : ArrivesAtCell d p 0x0B pc)
include h

/-- What a contribution's packet says of it. -/
def contribHead (p : Packet) : ContribHead :=
  { ranked := bitOf (extAt p 0 4) 8, under := bitOf (extAt p 0 4) 16, rank := extAt p 4 4, epoch := extAt p 8 4, seq := extAt p 12 4, count := payAt p 0 4 }

/-- A packet of a contribution reaches its queue. -/
theorem Does.contribPkt {post : Dev → Prop} (hp : post ((d.landed p).contribArrives pc (extAt p 0 4 % 8) (contribHead p) (payAt p 4 4) (p.payload.drop 8))) :
    Does (.contribPkt p n false) d post := by
  obtain ⟨harrives, hkind, hpart, hhost⟩ := h
  have hpart' : (d.landed p).partResetting (p.dstUnit.toNat % 512 / 64) = false := hpart
  have hhost' : (d.landed p).hostOf (p.dstUnit.toNat % 512) = some pc := hhost
  refine .delivers harrives (fun _ => rfl) ?_
  simp only [hkind, hpart', hhost', ne_eq, not_true_eq_false, Bool.false_eq_true, if_false]
  exact hp

/-- A residue mismatch reaches the queue instead. -/
theorem Does.contribPkt_residue {post : Dev → Prop} (hp : post ((d.landed p).cqResidue pc (extAt p 0 4 % 8))) : Does (.contribPkt p n true) d post := by
  obtain ⟨harrives, hkind, hpart, hhost⟩ := h
  have hpart' : (d.landed p).partResetting (p.dstUnit.toNat % 512 / 64) = false := hpart
  have hhost' : (d.landed p).hostOf (p.dstUnit.toNat % 512) = some pc := hhost
  refine .delivers harrives (fun _ => rfl) ?_
  simp only [hkind, hpart', hhost', ne_eq, not_true_eq_false, if_false, if_true, Bool.false_eq_true]
  exact hp

theorem Does.contribPkt_adds {q rank : Nat} (hq : extAt p 0 4 % 8 = q) (hr : extAt p 4 4 = rank) (hopen : d.cqState pc q = 1)
    (hepoch : extAt p 8 4 = d.get F.CELL_CQ_EPOCH_EPOCH pc (q + 1)) (hseq : extAt p 12 4 = d.get F.CELL_CQ_STATE_SEQ pc (q + 1)) (hranked : bitOf (extAt p 0 4) 8 = false)
    (hexact : d.cqRanked pc q = false) (hcount : payAt p 0 4 = (d.cq pc q).count) (hrank : rank < (d.cq pc q).ncontrib) (hnew : SMap.find rank (d.cq pc q).ranks = none)
    (hoff : payAt p 4 4 = 0) (hlen : p.payload.length = 8 + 26 * (d.cq pc q).count) (hmore : (d.cq pc q).complete.length + 1 < (d.cq pc q).ncontrib) :
    Does (.contribPkt p n false) d (fun d' =>
      (d'.cq pc q).ea = addAll (contribElem (p.payload.drop 8)) (d.cq pc q).count (d.cq pc q).ea ∧ (d'.cq pc q).complete = (d.cq pc q).complete ++ [rank] ∧
      d'.cqState pc q = 1 ∧ d'.mem = d.mem ∧ CellsStand d d' pc ∧
      d'.reg F.CELL_CQ_CONTRIB.base pc (q + 1) = countUp (d.reg F.CELL_CQ_CONTRIB.base pc (q + 1)) 1 % 2 ^ 64) := by
  subst hr
  have hsize : (p.payload.drop 8).length = (contribHead p).count * 26 := by
    have hhead : (contribHead p).count = (d.cq pc q).count := hcount
    rw [List.length_drop, hlen, hhead]
    omega
  have hadds := Dev.contribArrives_adds (d := d.landed p) (pc := pc) (h := contribHead p) hopen hepoch hseq hranked hexact hcount hrank hnew hsize hmore
  refine .contribPkt n h ?_
  rw [hq, hoff, hadds, Dev.addExact_eq]
  have hcq := (d.landed p).contribTaken_cq pc q (contribHead p).under (contribHead p).rank (p.payload.drop 8)
  refine ⟨?_, ?_, ?_, ?_, ?_, ?_⟩
  · rw [Dev.cq_modCq, hcq]
    rfl
  · rw [Dev.cq_modCq, hcq]
    rfl
  · rw [Dev.cqState_modCq, Dev.cqState, Dev.contribTaken_get _ _ _ _ _ _ (by decide) (by decide)]
    exact hopen
  · rw [Dev.modCq_mem, Dev.contribTaken_mem]
    rfl
  · exact ((d.landed p).contribTaken_others pc q (contribHead p).under (contribHead p).rank (p.payload.drop 8)).trans (CellsStand.modCq _ pc q _)
  · rw [Dev.reg_of_regs (Dev.modCq_regs ..), Dev.contribTaken_counts]
    rfl

theorem Does.contribPkt_stale {q : Nat} (hq : extAt p 0 4 % 8 = q) (hclosed : d.cqState pc q ≠ 1) (hidle : d.cqState pc q ≠ 2) (hoff : payAt p 4 4 = 0) :
    Does (.contribPkt p n false) d (fun d' =>
      d'.reg F.CELL_CQ_STALE.base pc (q + 1) = countUp (d.reg F.CELL_CQ_STALE.base pc (q + 1)) 1 % 2 ^ 64 ∧ d'.mem = d.mem ∧ d'.cells = d.cells) := by
  refine .contribPkt n h ?_
  rw [hq, hoff, Dev.contribArrives_stale (d := d.landed p) hclosed hidle]
  exact ⟨(d.landed p).reg_count_same F.CELL_CQ_STALE pc (q + 1) 1, Dev.count_mem .., Dev.count_cells ..⟩

end

/-- The queue with its sums discarded, before the cell becomes a suspect. -/
def Dev.residueFailed (d : Dev) (pc q : Nat) : Dev :=
  let e := (d.setCqState pc q 4).modCq pc q (fun c => { c with ea := [], acc := [], ranks := [], complete := [], held := [], sending := [] })
  ((e.record 0x0113 q 2 pc 3 (e.get F.CELL_CQ_EPOCH_EPOCH pc (q + 1)) (e.get F.CELL_CQ_STATE_SEQ pc (q + 1))).cqWaiting pc q).wakeQueue pc q

theorem Dev.cqResidue_fails {d : Dev} {pc q : Nat} (hopen : d.cqState pc q = 1) : d.cqResidue pc q = (d.residueFailed pc q).suspectSlot pc := by
  rw [Dev.cqResidue, if_neg (by simp [hopen])]
  rfl

theorem Dev.residueFailed_stands {d : Dev} {pc q : Nat} (hwait : (d.cell pc).cqWait = []) : (d.residueFailed pc q).cqState pc q = 4 ∧
    ((d.residueFailed pc q).cq pc q).ea = [] ∧ ((d.residueFailed pc q).cq pc q).acc = [] ∧ (d.residueFailed pc q).mem = d.mem := by
  rw [Dev.residueFailed]
  generalize he : (d.setCqState pc q 4).modCq pc q (fun c => { c with ea := [], acc := [], ranks := [], complete := [], held := [], sending := [] }) = e
  have hwait' : (e.cell pc).cqWait = [] := by
    rw [← he, Dev.cqWait_modCq]
    exact (congrArg CellState.cqWait (d.cell_setReg ..)).trans hwait
  have hstate : e.cqState pc q = 4 := by
    rw [← he, Dev.cqState_modCq]
    exact d.setCqState_shows pc q (by decide)
  have hmem : e.mem = d.mem := by
    rw [← he, Dev.modCq_mem]
    exact d.set_mem ..
  have hcq : (e.cq pc q).ea = [] ∧ (e.cq pc q).acc = [] := by
    rw [← he, Dev.cq_modCq]
    exact ⟨rfl, rfl⟩
  have hrecord := Beside.record pc e (event := 0x0113) (key := q) (cls := 2) (inst := pc) (sev := 3) (d0 := e.get F.CELL_CQ_EPOCH_EPOCH pc (q + 1))
    (d1 := e.get F.CELL_CQ_STATE_SEQ pc (q + 1)) (d2 := 0) (by decide)
  generalize e.record 0x0113 q 2 pc 3 (e.get F.CELL_CQ_EPOCH_EPOCH pc (q + 1)) (e.get F.CELL_CQ_STATE_SEQ pc (q + 1)) = e1 at hrecord ⊢
  obtain ⟨hregs, hmem2, hcq2, -⟩ := e1.cqWaiting_none_stands pc q (by rw [hrecord.cqWait, hwait']; exact nofun)
  have hwake := Wakes.wakeQueue pc (e1.cqWaiting pc q) q
  refine ⟨?_, ?_, ?_, hwake.mem.trans (hmem2.trans (hrecord.mem.trans hmem))⟩
  · rw [hwake.cqState, Dev.cqState, Dev.get, Dev.reg_of_regs hregs]
    exact (hrecord.cqState q).trans hstate
  · rw [hwake.cq, hcq2, hrecord.cq, hcq.1]
  · rw [hwake.cq, hcq2, hrecord.cq, hcq.2]

/-- Settles O42: a contribution by the checks that it passes or fails, and a residue mismatch by the queue that it fails. -/
theorem contributionsAreAddedDiscardedOrFailed : Obligations.ContributionsAreAddedDiscardedOrFailed := by
  intro p n pc d h
  refine ⟨fun hopen hepoch hseq hranked hexact hcount hrank hnew hoff hlen hmore => ?_, fun hclosed hidle hoff => .contribPkt_stale n h rfl hclosed hidle hoff,
    fun hopen hwait => ?_⟩
  · refine (Does.contribPkt_adds n h rfl rfl hopen hepoch hseq hranked hexact hcount hrank hnew hoff hlen hmore).imp fun d' hd' => ?_
    obtain ⟨hea, hrest⟩ := hd'
    refine ⟨fun i => ?_, hrest⟩
    rw [hea, read_addAll, contribElem, List.drop_drop]
  · obtain ⟨hstate, hea, hacc, hmem⟩ := Dev.residueFailed_stands (d := d.landed p) (pc := pc) (q := extAt p 0 4 % 8) hwait
    exact .contribPkt_residue n h ⟨_, Dev.cqResidue_fails hopen, hstate, hea, hacc, hmem⟩

end Sys2Proof.Machine
end
